-- ==== Sys2Proof/Word.lean ====
section
/-! DEFINITION. The word types of the node and the plain arithmetic every chapter uses. -/

namespace Sys2Proof

/-- One byte of a packet, an image or a memory (R5, R6). -/
abbrev Byte := BitVec 8

/-- One 16-byte word group: a latched cell record (R123, R169, R195, R203) or the first 16 bytes of
a channel result (R155, R172, R196, R200, R206). -/
abbrev Rec := BitVec 128

/-- The content of one configuration instance (R540), least significant byte first. Instances
shorter than 256 bytes leave the high bits at 0. -/
abbrev Inst := BitVec 2048

/-- A sparse table: ascending keys, each with a value that differs from the table's default. -/
abbrev Tab (α : Type) := List (Nat × α)

/-- A configuration image (R540): instance contents keyed by class and instance (`objKey`); an
unlisted instance holds its empty-image content. -/
abbrev Image := Tab Inst

/-- Bits [lo + len − 1 : lo] of `x` as a number (R6). -/
def fld {w : Nat} (x : BitVec w) (lo len : Nat) : Nat := (x.toNat >>> lo) % 2 ^ len

/-- Bit `lo` of `x`. -/
def bit {w : Nat} (x : BitVec w) (lo : Nat) : Bool := x.toNat.testBit lo

/-- A `len`-bit pattern read as a two's complement number. -/
def toSigned (len v : Nat) : Int :=
  if v % 2 ^ len < 2 ^ (len - 1) then (v % 2 ^ len : Nat) else ((v % 2 ^ len : Nat) : Int) - (2 ^ len : Nat)

/-- A signed number as a `len`-bit two's complement pattern. -/
def ofSigned (len : Nat) (v : Int) : Nat := (v % ((2 ^ len : Nat) : Int)).toNat

/-- Bits [lo + len − 1 : lo] of `x` as a signed number. -/
def fldI {w : Nat} (x : BitVec w) (lo len : Nat) : Int := toSigned len (fld x lo len)

/-- `x` with bits [lo + len − 1 : lo] replaced by the low `len` bits of `v`. -/
def setFld {w : Nat} (x : BitVec w) (lo len v : Nat) : BitVec w :=
  let m : BitVec w := BitVec.ofNat w ((2 ^ len - 1) <<< lo)
  (x &&& ~~~ m) ||| (BitVec.ofNat w ((v % 2 ^ len) <<< lo))

/-- 1 for true, 0 for false. -/
def b2n (b : Bool) : Nat := if b then 1 else 0

/-- A field map written as (width, value) pairs from bit 0 upward, as one number. -/
def pack : List (Nat × Nat) → Nat
  | [] => 0
  | (w, v) :: r => v % 2 ^ w + 2 ^ w * pack r

/-- The `n` low bytes of `v`, least significant first (R5). -/
def toBytes : Nat → Nat → List Byte
  | 0, _ => []
  | n + 1, v => BitVec.ofNat 8 v :: toBytes n (v / 256)

/-- The number whose bytes, least significant first, are `bs` (R5). -/
def ofBytes : List Byte → Nat
  | [] => 0
  | b :: r => b.toNat + 256 * ofBytes r

/-- `n` bytes holding the field map `fs`. -/
def packBytes (n : Nat) (fs : List (Nat × Nat)) : List Byte := toBytes n (pack fs)

/-- A field map as a 128-bit record. -/
def packRec (fs : List (Nat × Nat)) : Rec := BitVec.ofNat 128 (pack fs)

/-- The whole number not below a / b. -/
def ceilDiv (a b : Nat) : Nat := (a + b - 1) / b

/-- a / b rounded to the nearest unit, halves away from zero (R128). -/
def rdiv (a b : Int) : Int :=
  let m : Int := (((2 * a.natAbs + b.natAbs) / (2 * b.natAbs) : Nat) : Int)
  if a * b < 0 then -m else m

/-- `v` held between `lo` and `hi`. -/
def clampI (lo hi v : Int) : Int := if v < lo then lo else if hi < v then hi else v

/-- `v`, saturating at the largest `w`-bit number. -/
def satN (w v : Nat) : Nat := min v (2 ^ w - 1)

/-- The low `w` bits of a count that wraps. -/
def wrapN (w v : Nat) : Nat := v % 2 ^ w

end Sys2Proof
end

