-- ==== Sys2Proof/Machine/Table.lean ====
section
/-! DEFINITION. Sparse tables in one canonical form: keys strictly ascending, and no entry equal to
the value that an unlisted key reads as. Equal tables are therefore equal lists. -/

namespace Sys2Proof.Machine

/-- The value at key `k`; an unlisted key reads as `d k`. -/
def tabGetD {α : Type} (d : Nat → α) : Tab α → Nat → α
  | [], k => d k
  | (a, v) :: r, k => if a = k then v else tabGetD d r k

/-- The list with key `k` removed, wherever it stands. -/
def tabErase {α : Type} : Tab α → Nat → Tab α
  | [], _ => []
  | (a, v) :: r, k => if a = k then tabErase r k else (a, v) :: tabErase r k

/-- The list with key `k` holding `v`, in ascending key order. -/
def tabInsert {α : Type} : Tab α → Nat → α → Tab α
  | [], k, v => [(k, v)]
  | (a, w) :: r, k, v =>
    if k < a then (k, v) :: (a, w) :: r
    else if k = a then (k, v) :: r
    else (a, w) :: tabInsert r k v

/-- Write `v` at key `k`, keeping the canonical form: a value equal to the default is not listed. -/
def tabSetD {α : Type} [DecidableEq α] (d : Nat → α) (t : Tab α) (k : Nat) (v : α) : Tab α :=
  if v = d k then tabErase t k else tabInsert t k v

/-- `tabGetD` with one default for every key. -/
def tabGet {α : Type} (d : α) (t : Tab α) (k : Nat) : α := tabGetD (fun _ => d) t k

/-- `tabSetD` with one default for every key. -/
def tabSet {α : Type} [DecidableEq α] (d : α) (t : Tab α) (k : Nat) (v : α) : Tab α :=
  tabSetD (fun _ => d) t k v

/-- Change the value at key `k` by `f`. -/
def tabMod {α : Type} [DecidableEq α] (d : α) (t : Tab α) (k : Nat) (f : α → α) : Tab α :=
  tabSet d t k (f (tabGet d t k))

/-- Every key lies above `b`, and each later key above the one before. -/
def tabSorted {α : Type} : Option Nat → Tab α → Bool
  | _, [] => true
  | none, (a, _) :: r => tabSorted (some a) r
  | some b, (a, _) :: r => decide (b < a) && tabSorted (some a) r

/-- The canonical form: ascending keys, no entry equal to the default. -/
def tabWf {α : Type} [DecidableEq α] (d : Nat → α) (t : Tab α) : Bool :=
  tabSorted none t && t.all (fun e => decide (e.2 ≠ d e.1))

end Sys2Proof.Machine
end

