-- ==== Sys2Proof/Machine/Image.lean ====
section
/-! DEFINITION. The configuration image: its layout (R540), its empty content (R541 and the Reset
columns of the field maps), and one accessor for each field that the node's behaviour reads. -/

namespace Sys2Proof.Machine

/-- Class codes of R327. -/
abbrev clsHDR : Nat := 0x0
abbrev clsCHCFG : Nat := 0x1
abbrev clsAOCFG : Nat := 0x2
abbrev clsDICFG : Nat := 0x3
abbrev clsSAFEFN : Nat := 0x4
abbrev clsALMPT : Nat := 0x5
abbrev clsGRP : Nat := 0x6
abbrev clsCALL : Nat := 0x7
abbrev clsCALLSYS : Nat := 0x8
abbrev clsDSC : Nat := 0x9
abbrev clsCANOBJ : Nat := 0xA
abbrev clsCANFLT : Nat := 0xB
abbrev clsRTC : Nat := 0xC
abbrev clsPAIR : Nat := 0xD
abbrev clsPORT : Nat := 0xE

/-- Number of instances of a class (R327, R540); 0 for a code that R327 does not list. -/
def clsCount : Nat → Nat
  | 0x0 => 1 | 0x1 => 512 | 0x2 => 512 | 0x3 => 512 | 0x4 => 32 | 0x5 => 2048 | 0x6 => 64 | 0x7 => 16
  | 0x8 => 1 | 0x9 => 32 | 0xA => 512 | 0xB => 256 | 0xC => 1 | 0xD => 1 | 0xE => 6 | _ => 0

/-- Bytes of one instance of a class (R540). -/
def clsBytes : Nat → Nat
  | 0x0 => 256 | 0x1 => 256 | 0x2 => 32 | 0x3 => 32 | 0x4 => 64 | 0x5 => 64 | 0x6 => 32 | 0x7 => 32
  | 0x8 => 32 | 0x9 => 64 | 0xA => 32 | 0xB => 16 | 0xC => 32 | 0xD => 32 | 0xE => 48 | _ => 0

/-- Offset of a class in the image (R540). -/
def clsOffset : Nat → Nat
  | 0x0 => 0x00000 | 0x1 => 0x00100 | 0x2 => 0x20100 | 0x3 => 0x24100 | 0x4 => 0x28100 | 0x5 => 0x28900
  | 0x6 => 0x48900 | 0x7 => 0x49100 | 0x8 => 0x49300 | 0x9 => 0x49320 | 0xA => 0x49B20 | 0xB => 0x4DB20
  | 0xC => 0x4EB20 | 0xD => 0x4EB40 | 0xE => 0x4EB60 | _ => 0

/-- Image length in bytes (R540). -/
def imageLength : Nat := 0x4EC80

/-- Key of instance `i` of class `k` in an image table. -/
def objKey (k i : Nat) : Nat := k * 4096 + i

/-- The content of an instance in the empty image: the Reset columns of R541, R163, R282 (CALLSYS),
R342 and R376. The computed fields of HDR (CONFIG_CRC, SAFETY_CRC, CONFIRMED) are formed by the node
and are left at 0 here. -/
def emptyInst (key : Nat) : Inst :=
  match key / 4096 with
  | 0x0 => BitVec.ofNat 2048 (0x5A43 + 0x01 * 2 ^ 16 + 0x0004EC80 * 2 ^ 64)
  | 0x2 => BitVec.ofNat 2048 (2 ^ 11)
  | 0x8 => emptyCallsys
  | 0xE => if key % 4096 = 0 then emptyPort0 else BitVec.ofNat 2048 1
  | _ => 0#2048
where
  emptyCallsys : Inst := BitVec.ofNat 2048 (0x2 + 0x00B4 * 2 ^ 16 + 0x0654 * 2 ^ 32 + 0x00B4 * 2 ^ 48)
  emptyPort0 : Inst :=
    BitVec.ofNat 2048 (1 + 0xC0A8FE01 * 2 ^ 64 + 0xC0A8FE02 * 2 ^ 96 + 0xFFFFFF00 * 2 ^ 160)

/-- Instance `i` of class `k`. -/
def inst (im : Image) (k i : Nat) : Inst := tabGetD emptyInst im (objKey k i)

/-- The image with instance `i` of class `k` replaced. -/
def setInst (im : Image) (k i : Nat) (v : Inst) : Image := tabSetD emptyInst im (objKey k i) v

/-- Field [lo + len − 1 : lo] of an instance. -/
def imF (im : Image) (k i lo len : Nat) : Nat := fld (inst im k i) lo len

/-- The same field, signed. -/
def imI (im : Image) (k i lo len : Nat) : Int := fldI (inst im k i) lo len

/-- One bit of an instance. -/
def imB (im : Image) (k i lo : Nat) : Bool := bit (inst im k i) lo

/-! ## FRAMESET (R39) -/

/-- PERIOD encoding. -/
def imPeriodCode (im : Image) : Nat := imF im clsHDR 0 512 2
/-- TRACE_EN. -/
def imTraceEn (im : Image) : Bool := imB im clsHDR 0 514
/-- Frame period P in Zenith cycles (R39). The encoding 11b never runs (BAD_VALUE). -/
def periodCycles : Nat → Nat
  | 0 => 400000 | 1 => 200000 | _ => 800000
/-- P of an image. -/
def imPeriod (im : Image) : Nat := periodCycles (imPeriodCode im)
/-- Whole frames of `cyc` Zenith cycles, ceil(duration / P). -/
def framesOf (P cyc : Nat) : Nat := ceilDiv cyc P
/-- Zenith cycles of `ms` milliseconds. -/
def msC (ms : Nat) : Nat := ms * 400000
/-- Zenith cycles of `us` microseconds. -/
def usC (us : Nat) : Nat := us * 400

/-! ## CHCFG bytes 0 to 15 (R78) -/

def chMode (im : Image) (c : Nat) : Nat := imF im clsCHCFG c 0 4
def chSub (im : Image) (c : Nat) : Nat := imF im clsCHCFG c 4 4
def chPairFn (im : Image) (c : Nat) : Nat := imF im clsCHCFG c 8 2
def chSlots (im : Image) (c : Nat) : Nat := imF im clsCHCFG c 12 2
def chExcTerm (im : Image) (c : Nat) : Nat := imF im clsCHCFG c 16 4
def chExcExt (im : Image) (c : Nat) : Bool := imB im clsCHCFG c 20
def chExcCont (im : Image) (c : Nat) : Bool := imB im clsCHCFG c 21
def chExcI (im : Image) (c : Nat) : Nat := imF im clsCHCFG c 24 8
def chModem (im : Image) (c : Nat) : Nat := imF im clsCHCFG c 32 4
def chTpKind (im : Image) (c : Nat) : Nat := imF im clsCHCFG c 36 2
def chTpWidth (im : Image) (c : Nat) : Nat := imF im clsCHCFG c 38 7
def chTpInterval (im : Image) (c : Nat) : Nat := imF im clsCHCFG c 45 6
def chEntryFirst (im : Image) (c : Nat) : Nat := imF im clsCHCFG c 64 4
def chEntryCount (im : Image) (c : Nat) : Nat := imF im clsCHCFG c 68 3
def chSafeOwned (im : Image) (c : Nat) : Bool := imB im clsCHCFG c 71
def chTpSlot (im : Image) (c : Nat) : Nat := imF im clsCHCFG c 72 4
def chTpRun (im : Image) (c : Nat) : Nat := imF im clsCHCFG c 76 2
def chModemCell (im : Image) (c : Nat) : Nat := imF im clsCHCFG c 80 4
def chExc0Cont (im : Image) (c : Nat) : Bool := imB im clsCHCFG c 84
def chExc1Cont (im : Image) (c : Nat) : Bool := imB im clsCHCFG c 85

/-! ## CHCFG bytes 16 to 95 (R121) -/

def chSettle (im : Image) (c : Nat) : Nat := imF im clsCHCFG c 128 8
def chNotch (im : Image) (c : Nat) : Nat := imF im clsCHCFG c 136 2
def chBlankBlk (im : Image) (c : Nat) : Bool := imB im clsCHCFG c 138
def chBlankMod (im : Image) (c : Nat) : Bool := imB im clsCHCFG c 139
def chBlankSrc (im : Image) (c : Nat) : Bool := imB im clsCHCFG c 140
def chBlankMax (im : Image) (c : Nat) : Nat := imF im clsCHCFG c 144 8
def chDamp (im : Image) (c : Nat) : Nat := imF im clsCHCFG c 152 10
def chTCyc (im : Image) (c : Nat) : Nat := imF im clsCHCFG c 176 16
def chNotchN (im : Image) (c : Nat) : Nat := imF im clsCHCFG c 192 16
def chTFilt (im : Image) (c : Nat) : Nat := imF im clsCHCFG c 208 16

/-! ## CHCFG bytes 96 to 191 (R153) -/

def chCurve (im : Image) (c : Nat) : Nat := imF im clsCHCFG c 768 6
def chDec (im : Image) (c : Nat) : Nat := imF im clsCHCFG c 774 3
def chCjcSrc (im : Image) (c : Nat) : Nat := imF im clsCHCFG c 777 2
def chRedSel (im : Image) (c : Nat) : Nat := imF im clsCHCFG c 779 2
def chTsEn (im : Image) (c : Nat) : Nat := imF im clsCHCFG c 781 4
def chCjcCh (im : Image) (c : Nat) : Nat := imF im clsCHCFG c 785 9
def chCparam (im : Image) (c : Nat) : Int := imI im clsCHCFG c 800 16
def chDevTime (im : Image) (c : Nat) : Nat := imF im clsCHCFG c 816 16
def chInLo (im : Image) (c : Nat) : Int := imI im clsCHCFG c 832 32
def chInHi (im : Image) (c : Nat) : Int := imI im clsCHCFG c 864 32
def chEngLo (im : Image) (c : Nat) : Int := imI im clsCHCFG c 896 32
def chEngHi (im : Image) (c : Nat) : Int := imI im clsCHCFG c 928 32
def chTrimZero (im : Image) (c : Nat) : Int := imI im clsCHCFG c 960 16
def chTrimGain (im : Image) (c : Nat) : Int := imI im clsCHCFG c 976 16
/-- Setpoint of switch k: 0 LL, 1 L, 2 H, 3 HH. -/
def chSp (im : Image) (c k : Nat) : Int := imI im clsCHCFG c (992 + 32 * k) 32
def chHyst (im : Image) (c : Nat) : Nat := imF im clsCHCFG c 1120 16
def chDevLim (im : Image) (c : Nat) : Nat := imF im clsCHCFG c 1136 16
def chUtab (im : Image) (c k : Nat) : Nat := imF im clsCHCFG c (1152 + 12 * k) 12

/-- Analog input modes 1h to 5h (R75). -/
def isAnalogIn (m : Nat) : Bool := decide (1 ≤ m) && decide (m ≤ 5)
/-- Paired-conversion modes (R98): 3-wire and 4-wire RTD, potentiometer. -/
def isPairedConv (m sub : Nat) : Bool := (m == 3 && (sub == 1 || sub == 2)) || (m == 5 && sub == 1)
/-- Channel 2n + 1 of a 4-wire pair (R77). -/
def isPairedPart (im : Image) (c : Nat) : Bool := c % 2 == 1 && chPairFn im c == 1
/-- Channel 2n + 1 of a 4-wire pair, whose fields outside bytes 0 to 15 are ignored (R77). -/
def ignoresRest (im : Image) (c : Nat) : Bool :=
  decide (chMode im c = 3) && decide (chSub im c = 2) && isPairedPart im c

/-! ## AOCFG (R163) -/

def aoSrc (im : Image) (c : Nat) : Nat := imF im clsAOCFG c 0 2
def aoSrcCh (im : Image) (c : Nat) : Nat := imF im clsAOCFG c 2 9
def aoNe43 (im : Image) (c : Nat) : Bool := imB im clsAOCFG c 11
def aoFail (im : Image) (c : Nat) : Nat := imF im clsAOCFG c 12 2
def aoSafe (im : Image) (c : Nat) : Nat := imF im clsAOCFG c 14 2
def aoDec (im : Image) (c : Nat) : Nat := imF im clsAOCFG c 16 3
def aoEngLo (im : Image) (c : Nat) : Int := imI im clsAOCFG c 32 32
def aoEngHi (im : Image) (c : Nat) : Int := imI im clsAOCFG c 64 32
def aoOutLo (im : Image) (c : Nat) : Int := imF im clsAOCFG c 96 16
def aoOutHi (im : Image) (c : Nat) : Int := imF im clsAOCFG c 112 16
def aoInitI (im : Image) (c : Nat) : Int := imF im clsAOCFG c 128 16

/-! ## DICFG (R184) -/

def diPreset (im : Image) (c : Nat) : Nat := imF im clsDICFG c 0 2
def diCsup (im : Image) (c : Nat) : Nat := imF im clsDICFG c 2 2
def diCos (im : Image) (c : Nat) : Nat := imF im clsDICFG c 4 2
def diCosEvt (im : Image) (c : Nat) : Bool := imB im clsDICFG c 6
def diInvert (im : Image) (c : Nat) : Bool := imB im clsDICFG c 7
def diThrOn (im : Image) (c : Nat) : Nat := imF im clsDICFG c 8 9
def diThrOff (im : Image) (c : Nat) : Nat := imF im clsDICFG c 17 9
def diDeb (im : Image) (c : Nat) : Nat := imF im clsDICFG c 32 16
def diSafe (im : Image) (c : Nat) : Nat := imF im clsDICFG c 48 2
def diSilence (im : Image) (c : Nat) : Nat := imF im clsDICFG c 50 10
def diOpenLim (im : Image) (c : Nat) : Nat := imF im clsDICFG c 64 8
def diKNum (im : Image) (c : Nat) : Nat := imF im clsDICFG c 80 16
def diKDen (im : Image) (c : Nat) : Nat := imF im clsDICFG c 96 16
def diDec (im : Image) (c : Nat) : Nat := imF im clsDICFG c 112 3
def diGate (im : Image) (c : Nat) : Nat := imF im clsDICFG c 115 10

/-! ## SAFEFN (R234) -/

def sfEn (im : Image) (f : Nat) : Bool := imB im clsSAFEFN f 0
def sfType (im : Image) (f : Nat) : Nat := imF im clsSAFEFN f 1 3
def sfRestart (im : Image) (f : Nat) : Bool := imB im clsSAFEFN f 4
def sfTimeReact (im : Image) (f : Nat) : Bool := imB im clsSAFEFN f 5
def sfResetEn (im : Image) (f : Nat) : Bool := imB im clsSAFEFN f 6
def sfAllow (im : Image) (f : Nat) : Nat := imF im clsSAFEFN f 8 2
def sfIn (im : Image) (f : Nat) : Nat := imF im clsSAFEFN f 16 9
def sfOut (im : Image) (f : Nat) : Nat := imF im clsSAFEFN f 32 9
def sfResetCh (im : Image) (f : Nat) : Nat := imF im clsSAFEFN f 48 9
def sfLink (im : Image) (f : Nat) : Nat := imF im clsSAFEFN f 64 8
def sfTpWidth (im : Image) (f : Nat) : Nat := imF im clsSAFEFN f 72 7
def sfTpInterval (im : Image) (f : Nat) : Nat := imF im clsSAFEFN f 80 6
def sfDiscTime (im : Image) (f : Nat) : Nat := imF im clsSAFEFN f 96 13
def sfLimitHi (im : Image) (f : Nat) : Int := imI im clsSAFEFN f 128 32
def sfLimitLo (im : Image) (f : Nat) : Int := imI im clsSAFEFN f 160 32
def sfDiscTol (im : Image) (f : Nat) : Nat := imF im clsSAFEFN f 192 32

/-! ## DSC (R254) -/

def dscEn (im : Image) (i : Nat) : Bool := imB im clsDSC i 0
/-- true: slave. -/
def dscSlave (im : Image) (i : Nat) : Bool := imB im clsDSC i 1
def dscAckReq (im : Image) (i : Nat) : Bool := imB im clsDSC i 2
def dscTransport (im : Image) (i : Nat) : Nat := imF im clsDSC i 4 2
def dscTxFn (im : Image) (i : Nat) : Nat := imF im clsDSC i 8 8
def dscRxLen (im : Image) (i : Nat) : Nat := imF im clsDSC i 16 6
def dscCycle (im : Image) (i : Nat) : Nat := imF im clsDSC i 24 8
def dscConnId (im : Image) (i : Nat) : Nat := imF im clsDSC i 32 16
def dscW (im : Image) (i : Nat) : Nat := imF im clsDSC i 48 16
def dscOwnAddr (im : Image) (i : Nat) : Nat := imF im clsDSC i 64 16
def dscPeerId (im : Image) (i : Nat) : Nat := imF im clsDSC i 96 32
def dscTxObj (im : Image) (i : Nat) : Nat := imF im clsDSC i 128 9
def dscRxObj (im : Image) (i : Nat) : Nat := imF im clsDSC i 144 9
def dscEth (im : Image) (i : Nat) : Nat := imF im clsDSC i 160 2
def dscPeerIp (im : Image) (i : Nat) : Nat := imF im clsDSC i 192 32
def dscOwnId (im : Image) (i : Nat) : Nat := imF im clsDSC i 256 32
def dscSeed (im : Image) (i : Nat) : Nat := imF im clsDSC i 288 32
/-- Bits set in an 8-bit mask, ascending. -/
def maskBits (m : Nat) : List Nat := (List.range 8).filter fun j => m.testBit j
/-- TX_LEN. -/
def dscTxLen (im : Image) (i : Nat) : Nat := (maskBits (dscTxFn im i)).length

/-! ## CANOBJ (R385) -/

def coEn (im : Image) (o : Nat) : Bool := imB im clsCANOBJ o 0
/-- true: transmit. -/
def coTx (im : Image) (o : Nat) : Bool := imB im clsCANOBJ o 1
def coFmt (im : Image) (o : Nat) : Nat := imF im clsCANOBJ o 2 2
def coXtd (im : Image) (o : Nat) : Bool := imB im clsCANOBJ o 4
def coBrs (im : Image) (o : Nat) : Bool := imB im clsCANOBJ o 5
def coTt (im : Image) (o : Nat) : Bool := imB im clsCANOBJ o 6
def coId (im : Image) (o : Nat) : Nat := imF im clsCANOBJ o 8 29
def coSdt (im : Image) (o : Nat) : Nat := imF im clsCANOBJ o 40 8
def coVcid (im : Image) (o : Nat) : Nat := imF im clsCANOBJ o 48 8
def coSec (im : Image) (o : Nat) : Bool := imB im clsCANOBJ o 56
def coAf (im : Image) (o : Nat) : Nat := imF im clsCANOBJ o 64 32
def coSize (im : Image) (o : Nat) : Nat := imF im clsCANOBJ o 96 12
def coRetry (im : Image) (o : Nat) : Nat := imF im clsCANOBJ o 112 8
def coTtMark (im : Image) (o : Nat) : Nat := imF im clsCANOBJ o 128 16
def coTtBase (im : Image) (o : Nat) : Nat := imF im clsCANOBJ o 144 6
def coTtRep (im : Image) (o : Nat) : Nat := imF im clsCANOBJ o 150 3

/-- The connection uses the full PDU form (R244). -/
def dscFull (im : Image) (i : Nat) : Bool :=
  decide (dscTransport im i = 1) || decide (coFmt im (dscTxObj im i) ≠ 0)

/-! ## ALMPT (R258) -/

def alEn (im : Image) (p : Nat) : Bool := imB im clsALMPT p 0
def alLogic (im : Image) (p : Nat) : Bool := imB im clsALMPT p 1
def alPrio (im : Image) (p : Nat) : Nat := imF im clsALMPT p 2 2
def alKind (im : Image) (p : Nat) : Nat := imF im clsALMPT p 4 4
def alInv (im : Image) (p : Nat) : Bool := imB im clsALMPT p 8
def alFo (im : Image) (p : Nat) : Bool := imB im clsALMPT p 9
def alShelveOk (im : Image) (p : Nat) : Bool := imB im clsALMPT p 10
def alSuppEn (im : Image) (p : Nat) : Bool := imB im clsALMPT p 11
def alGroup (im : Image) (p : Nat) : Nat := imF im clsALMPT p 16 6
def alSel (im : Image) (p : Nat) : Nat := imF im clsALMPT p 24 8
def alCh (im : Image) (p : Nat) : Nat := imF im clsALMPT p 32 9
def alSuppPt (im : Image) (p : Nat) : Nat := imF im clsALMPT p 48 11
def alSetpoint (im : Image) (p : Nat) : Int := imI im clsALMPT p 64 32
def alHyst (im : Image) (p : Nat) : Nat := imF im clsALMPT p 96 16
def alOnDelay (im : Image) (p : Nat) : Nat := imF im clsALMPT p 128 16
def alOffDelay (im : Image) (p : Nat) : Nat := imF im clsALMPT p 144 16
def alSuppHold (im : Image) (p : Nat) : Nat := imF im clsALMPT p 160 16
def alShelveMax (im : Image) (p : Nat) : Nat := imF im clsALMPT p 176 11
def alAckLoc (im : Image) (p : Nat) : Nat := imF im clsALMPT p 192 17
/-- Operand point k: 0 OP_A to 3 OP_D. -/
def alOp (im : Image) (p k : Nat) : Nat := imF im clsALMPT p (224 + 16 * k) 11
def alLogFn (im : Image) (p : Nat) : Nat := imF im clsALMPT p 288 2
def alLogN (im : Image) (p : Nat) : Nat := imF im clsALMPT p 290 3
def alLogInv (im : Image) (p k : Nat) : Bool := imB im clsALMPT p (296 + k)

/-! ## GRP (R273) -/

def grOutEn (im : Image) (g : Nat) : Bool := imB im clsGRP g 0
def grOutMode (im : Image) (g : Nat) : Nat := imF im clsGRP g 1 2
def grMinPrio (im : Image) (g : Nat) : Nat := imF im clsGRP g 3 2
def grObjEn (im : Image) (g : Nat) : Bool := imB im clsGRP g 5
def grFlash (im : Image) (g : Nat) : Nat := imF im clsGRP g 8 8
def grOutCh (im : Image) (g : Nat) : Nat := imF im clsGRP g 16 9
def grOutObj (im : Image) (g : Nat) : Nat := imF im clsGRP g 32 9
def grObjCycle (im : Image) (g : Nat) : Nat := imF im clsGRP g 48 8

/-! ## CALLSYS and CALL (R279, R280) -/

def csEn (im : Image) : Bool := imB im clsCALLSYS 0 0
def csPrio (im : Image) : Nat := imF im clsCALLSYS 0 1 2
def csDmEn (im : Image) : Bool := imB im clsCALLSYS 0 3
def csLostEsc (im : Image) : Bool := imB im clsCALLSYS 0 4
def csDutyInit (im : Image) : Nat := imF im clsCALLSYS 0 8 4
def csDutyInitEn (im : Image) : Bool := imB im clsCALLSYS 0 12
def csTEsc (im : Image) : Nat := imF im clsCALLSYS 0 16 16
def csTDm (im : Image) : Nat := imF im clsCALLSYS 0 32 16
def csTPre (im : Image) : Nat := imF im clsCALLSYS 0 48 16
def caEn (im : Image) (k : Nat) : Bool := imB im clsCALL k 0
def caKind (im : Image) (k : Nat) : Nat := imF im clsCALL k 1 2
def caMach (im : Image) (k : Nat) : Bool := imB im clsCALL k 3
def caSelOk (im : Image) (k : Nat) : Bool := imB im clsCALL k 4
def caCanEn (im : Image) (k : Nat) : Bool := imB im clsCALL k 5
def caDoEn (im : Image) (k : Nat) : Bool := imB im clsCALL k 6
def caBtnEn (im : Image) (k : Nat) : Bool := imB im clsCALL k 7
def caOutCh (im : Image) (k : Nat) : Nat := imF im clsCALL k 8 9
def caTxObj (im : Image) (k : Nat) : Nat := imF im clsCALL k 24 9
def caRxObj (im : Image) (k : Nat) : Nat := imF im clsCALL k 40 9
def caBtnCh (im : Image) (k : Nat) : Nat := imF im clsCALL k 56 9
def caBtnFn (im : Image) (k : Nat) : Nat := imF im clsCALL k 65 2
def caObjCycle (im : Image) (k : Nat) : Nat := imF im clsCALL k 72 8

/-- Instances of a class that differ from their empty content, ascending. Every enabled instance is one of
them. -/
def listedInst (im : Image) (k : Nat) : List Nat :=
  (im.filter fun e => decide (e.1 / 4096 = k)).map fun e => e.1 % 4096

/-! ## CANFLT (R387) and the CANCTL blocks of HDR (R381, R541) -/

def cfEn (im : Image) (i : Nat) : Bool := imB im clsCANFLT i 0
def cfType (im : Image) (i : Nat) : Nat := imF im clsCANFLT i 1 2
def cfSpace (im : Image) (i : Nat) : Nat := imF im clsCANFLT i 3 2
def cfReject (im : Image) (i : Nat) : Bool := imB im clsCANFLT i 5
def cfObj (im : Image) (i : Nat) : Nat := imF im clsCANFLT i 8 7
def cfId1 (im : Image) (i : Nat) : Nat := imF im clsCANFLT i 32 29
def cfId2 (im : Image) (i : Nat) : Nat := imF im clsCANFLT i 64 29
/-- First bit of CANCTLk in HDR. -/
def ctlBase (k : Nat) : Nat := 768 + 256 * k
/-- Field of CANCTLk. -/
def ctlF (im : Image) (k lo len : Nat) : Nat := imF im clsHDR 0 (ctlBase k + lo) len
def ctlEn (im : Image) (k : Nat) : Bool := imB im clsHDR 0 (ctlBase k)
def ctlProto (im : Image) (k : Nat) : Nat := ctlF im k 1 2
def ctlRestrict (im : Image) (k : Nat) : Bool := imB im clsHDR 0 (ctlBase k + 3)
def ctlTmEn (im : Image) (k : Nat) : Bool := imB im clsHDR 0 (ctlBase k + 4)
def ctlRefId (im : Image) (k : Nat) : Nat := ctlF im k 128 11
def ctlCycleLen (im : Image) (k : Nat) : Nat := ctlF im k 144 16
def ctlMatrix (im : Image) (k : Nat) : Nat := ctlF im k 160 3

/-! ## PORT (R342, R376) -/

def poClaimEn (im : Image) (i : Nat) : Bool := imB im clsPORT i 0
def poClaimPrio (im : Image) (i : Nat) : Nat := imF im clsPORT i 4 4
def poLink (im : Image) (i : Nat) : Nat := imF im clsPORT i 32 2
def poPlcaEn (im : Image) (i : Nat) : Bool := imB im clsPORT i 34
def poPlcaId (im : Image) (i : Nat) : Nat := imF im clsPORT i 40 8
def poPlcaCnt (im : Image) (i : Nat) : Nat := imF im clsPORT i 48 8
def poPlcaTo (im : Image) (i : Nat) : Nat := imF im clsPORT i 56 8
def poIpA (im : Image) (i : Nat) : Nat := imF im clsPORT i 64 32
def poIpB (im : Image) (i : Nat) : Nat := imF im clsPORT i 96 32
def poSvcIp (im : Image) (i : Nat) : Nat := imF im clsPORT i 128 32
def poNetmask (im : Image) (i : Nat) : Nat := imF im clsPORT i 160 32
def poGateway (im : Image) (i : Nat) : Nat := imF im clsPORT i 192 32
def poHostIp (im : Image) (i : Nat) : Nat := imF im clsPORT i 224 32
def poModbus (im : Image) (i : Nat) : Bool := imB im clsPORT i 258
def poMbAddr (im : Image) (i : Nat) : Nat := imF im clsPORT i 264 8
def poReqId (im : Image) (i : Nat) : Nat := imF im clsPORT i 288 29
def poXtd (im : Image) (i : Nat) : Bool := imB im clsPORT i 317
def poFd (im : Image) (i : Nat) : Bool := imB im clsPORT i 318
def poPktEn (im : Image) (i : Nat) : Bool := imB im clsPORT i 319
def poRespId (im : Image) (i : Nat) : Nat := imF im clsPORT i 320 29
def poTxDl (im : Image) (i : Nat) : Nat := imF im clsPORT i 349 3

/-! ## RTC (R457) and PAIR (R415) -/

/-- Bits [255:0] of the RTC class. -/
def rtcBits (im : Image) : BitVec 256 := (inst im clsRTC 0).setWidth 256
def paEn (im : Image) : Bool := imB im clsPAIR 0 0
def paAuto (im : Image) : Bool := imB im clsPAIR 0 1
def paHold (im : Image) : Nat := imF im clsPAIR 0 8 8
def paSerialBcd (im : Image) : Nat := imF im clsPAIR 0 16 40

end Sys2Proof.Machine
end

