-- ==== Sys2Proof/Payload.lean ====
section
/-! DEFINITION. Operand structures of the commands: what a cell measures, packet headers, and the
messages that arrive from outside. -/

namespace Sys2Proof

/-- What one cell measures at its latch (R123, R169, R188, R195, R203). Each mode uses its own fields. -/
structure CellMeas where
  /-- AO-I: loop current in nA after the readback filter. -/
  readback  : Int := 0
  /-- AO-I: terminal voltage in mV. DO: in 10 mV, signed. -/
  termV     : Int := 0
  /-- AO-I: adaptive supply in mV. -/
  supplyV   : Nat := 0
  /-- AO-I: the headroom has fallen to the stage's saturation voltage (R166). -/
  saturated : Bool := false
  /-- AO-I: the modem transmitted or received since the previous latch. -/
  tone      : Bool := false
  /-- DO: the switch conducts. -/
  swOn      : Bool := false
  /-- DO: switch current in mA. -/
  current   : Nat := 0
  /-- DO: the demagnetisation clamp is active. -/
  demag     : Bool := false
  /-- DI, PI: terminal A in mV, or with a NAMUR supply the returning current in µA. -/
  level     : Nat := 0
  /-- DI, PI: the levels since the cell was observed last, each with the block clock cycles for which it stood. -/
  levels    : List (Nat × Nat) := []
  /-- Analog inputs: the latest result completed in the block clock cycle of the latch (R101). -/
  sameCycle : Bool := false
  /-- DO, AO-I: the stream on the cell's own downstream coupler is valid (R210). -/
  stream    : Bool := true
  /-- DI, PI: the contact supply is in current limit. -/
  csupLimit : Bool := false
  deriving DecidableEq, Repr

/-- Address of a HART frame (R177): a polling address, or the unique address as expanded device type and identifier. -/
inductive HartAddr where
  | poll (a : Nat)
  | unique (type id : Nat)
  deriving DecidableEq, Repr

/-- A frame from a field device (R177), from its delimiter on: a burst frame or a reply, to the primary master, its address,
command number, response code, device status, and the data behind them. -/
structure HartFrame where
  burst   : Bool := false
  primary : Bool := true
  addr    : HartAddr := .poll 0
  cmd     : Nat := 0
  resp    : Nat := 0
  stat    : Nat := 0
  data    : List Byte := []
  deriving DecidableEq, Repr

/-- A CAN frame on the wire (R383, R390). -/
structure CanMsg where
  id     : Nat := 0
  xtd    : Bool := false
  /-- 0 Classical, 1 FD, 2 XL. -/
  fmt    : Nat := 0
  brs    : Bool := false
  esi    : Bool := false
  sec    : Bool := false
  sdt    : Nat := 0
  vcid   : Nat := 0
  af     : Nat := 0
  remote : Bool := false
  data   : List Byte := []
  deriving DecidableEq, Repr, Inhabited

/-- What an attempt of a CAN controller carries (R395, R404). `stale` tells that the object was loaded again
after the attempt began (R397). -/
inductive CanWho where
  | object (i : Nat) (stale : Bool)
  | transport
  | reference
  deriving DecidableEq, Repr

/-- Content of an Ethernet frame (R365). -/
inductive EthMsg where
  /-- A frame that is none of ARP, IPv4, ICMP echo and UDP, is tagged, or fails its frame check. -/
  | bad
  | arpRequest (senderIp senderMac targetIp : Nat)
  | arpReply (senderIp senderMac targetIp : Nat)
  | echoRequest (srcIp dstIp : Nat) (data : List Byte)
  | udp (srcIp srcPort dstIp dstPort : Nat) (data : List Byte)
  /-- A fragment: identification, offset in bytes, more fragments follow, IP payload. -/
  | fragment (srcIp dstIp ident off : Nat) (more : Bool) (data : List Byte)
  deriving DecidableEq, Repr

/-- What a posting entry carries (R60): a channel result, a DO state or AO-I current in nA, a safety result, an
event request, the words of a reserved kind, or END. -/
inductive PostBody where
  | result (r : Rec)
  | doState (on : Bool)
  | current (i : Int)
  | safety (r : Rec)
  | event (code src p1 p2 p3 : Nat)
  | words (ws : List (BitVec 32))
  | fin
  deriving DecidableEq, Repr

/-- A posting entry of a region engine: its 64-bit header (R60) and its payload. -/
structure Posting where
  header : BitVec 64 := 0#64
  body   : PostBody := .fin
  deriving DecidableEq, Repr

/-- REGION of the posting engine. -/
def Posting.region (p : Posting) : Nat := fld p.header 0 2
/-- ENGINE: 0 Cumulus-0, 1 Cumulus-1, 2 Nimbus-A, 3 Nimbus-B. -/
def Posting.engine (p : Posting) : Nat := fld p.header 2 2
/-- ITEM: a channel, a safety function or an event slot. -/
def Posting.item (p : Posting) : Nat := fld p.header 4 9
/-- KIND. -/
def Posting.kind (p : Posting) : Nat := fld p.header 13 3
/-- LENGTH of the payload in 32-bit words. -/
def Posting.length (p : Posting) : Nat := fld p.header 16 16
/-- FRAME_LO. -/
def Posting.frameLo (p : Posting) : Nat := fld p.header 32 16
/-- POISON. -/
def Posting.poison (p : Posting) : Bool := bit p.header 48

/-- KIND of the entry, and LENGTH where a rule gives the payload's layout, are those of its payload (R60, R155, R236). -/
def Posting.fits (p : Posting) : Bool :=
  match p.body with
  | .result _ => decide (p.kind = 0 ∧ 4 ≤ p.length)
  | .doState _ => decide (p.kind = 1)
  | .current _ => decide (p.kind = 1)
  | .safety _ => decide (p.kind = 2 ∧ p.length = 4 ∧ p.item < 32)
  | .event _ _ _ _ _ => decide (p.kind = 3)
  | .words ws => decide (4 ≤ p.kind ∧ p.kind ≤ 6 ∧ p.length = ws.length)
  | .fin => decide (p.kind = 7 ∧ p.length = 0)

/-- An entry with the header fields of R60 written out. -/
def posting (region engine item kind length frameLo : Nat) (poison : Bool) (body : PostBody) : Posting :=
  { header := BitVec.ofNat 64 (pack [(2, region), (2, engine), (9, item), (3, kind), (16, length), (16, frameLo), (1, b2n poison)])
    body := body }

/-- What the built-in self-test finds (R497): lockstep failures in a row (0 to 2), failing engines as a mask over
engine codes, couplers that fail as channels, the Halo receivers, failing Contrail lanes and MRAM, with the MRAM
offset; and whether the identity data and the flash slots hold. -/
structure Bist where
  lockstep : Nat := 0
  engines  : Nat := 0
  couplers : List Nat := []
  halo     : Bool := false
  lanes    : List Nat := []
  mram     : Option Nat := none
  /-- Codewords that fail the start-up clear: memory code, bank, codeword, failing byte lanes (R478). -/
  clear    : List (Nat × Nat × Nat × Nat) := []
  /-- Blocks whose region field supply is at 16.5 V or above (R499), as a mask. -/
  blocks   : Nat := 2 ^ 64 - 1
  deriving DecidableEq, Repr

namespace Machine

/-- What an entry carries. -/
inductive EntryBody where
  /-- A command packet: owner code of its port, source address and port, and its bytes. -/
  | packet (code ip udp : Nat) (bytes : List Byte)
  | can (obj : Nat) (msg : CanMsg)
  /-- An FSK reply: modem cell, and the frame from its delimiter to its checksum. -/
  | hart (cell : Nat) (bytes : List Byte)
  /-- A DSC PDU received on Ethernet, for connection `i`. -/
  | dsc (i : Nat) (bytes : List Byte)
  /-- An RTC alarm with its cause (R462). -/
  | rtc (alarm cause : Nat)
  deriving DecidableEq, Repr

/-- An asynchronous input entry (R52, R56). -/
structure Entry where
  stamp : Nat := 0
  order : Nat := 0
  index : Nat := 0
  deferred : Bool := false
  /-- T_OFFSET: stamp minus S(k−1) of the frame k that R53 gives the input, in cycles of the stamping domain. -/
  off   : Nat := 0
  /-- SOURCE_SEQ: stamped inputs from this source since start-up. -/
  seq   : Nat := 0
  /-- The entry came from a loaded trace (R70). -/
  traced : Bool := false
  body  : EntryBody := .packet 0 0 0 []
  deriving DecidableEq, Repr

/-- A change-of-state entry in a region input image (R54, R193): channel, new STATE, T_OFFSET in block clock
cycles and place. -/
structure CosEntry where
  ch    : Nat := 0
  state : Bool := false
  off   : Nat := 0
  place : Nat := 0
  /-- SOURCE_SEQ of R56. -/
  seq   : Nat := 0
  deriving DecidableEq, Repr

end Machine

/-- An access to one codeword (R467): a read, or a write of `bytes` from byte `off` of its 32 data bytes on. -/
inductive MemAccess where
  | read
  | write (off : Nat) (bytes : List Byte)
  deriving DecidableEq, Repr

/-- A memory access as one cycle shows it (R470, R474): the bits `flip` that have flipped in its codeword since it was written, the access
itself, in the mirror mailbox an access through port 1, and the cells through whose records a cell record's error shows. -/
structure MemCycle where
  flip  : Nat := 0
  acc   : MemAccess := .read
  port1 : Option MemAccess := none
  cells : List Nat := []
  deriving DecidableEq, Repr

/-- The end of a frame: its instant, and whether an open trace stream has not kept pace with the frames (R69). -/
structure FrameEnd where
  t    : Nat
  late : Bool
  deriving DecidableEq, Repr

/-- Overload of the low and of the high path during a conversion window (R97). -/
structure PathOver where
  lo : Bool := false
  hi : Bool := false
  deriving DecidableEq, Repr

/-- A debounced cell as it is observed: the time bits of the instant, and the levels since it was observed last, each with the block
clock cycles for which it stood (R190). -/
structure EdgeSeen where
  bt     : Nat
  levels : List (Nat × Nat) := []
  deriving DecidableEq, Repr

/-- A modem cell to which no reply begins, and whether a carrier stands on its loop (R178). -/
structure HartSilence where
  cell    : Nat
  carrier : Bool := false
  deriving DecidableEq, Repr

/-- The characters of a frame on a loop: the preamble bytes before its delimiter, whether every character has odd parity, and the bytes
from the delimiter to the checksum (R177). -/
structure HartChars where
  preambles : Nat := 5
  parity    : Bool := true
  bytes     : List Byte := []
  deriving DecidableEq, Repr

/-- The PLCA status of ETH2, with the node count that a BEACON carries (R363). -/
structure PlcaSeen where
  up     : Bool
  beacon : Nat := 0
  deriving DecidableEq, Repr

/-- A Modbus RTU request with the longest gap between two of its characters, in µs (R374). -/
structure RtuRequest where
  gapUs : Nat := 0
  bytes : List Byte
  deriving DecidableEq, Repr

/-- What a Contrail block carries (R425). -/
inductive ContrailBlock where
  /-- Strobe marker with the active's frame record (R50): frame number, PREV_LEN, the lag it forms, DEFER_COUNT, POISONED as the
  latest close has left it, and OVERRUN. -/
  | marker (frame prevLen lag deferred : Nat) (poisoned overrun : Bool)
  /-- Cell records of frame `frame` with their STALE marks. -/
  | cells (frame : Nat) (recs : List (Nat × Rec × Bool))
  /-- CJC records of a frame: connector, TEMP, NEW, CJC_FAULT. -/
  | cjc (frame : Nat) (recs : List (Nat × Int × Bool × Bool))
  /-- Asynchronous entries in entry order (R56), as the active has stamped and assigned them; from a standby, an input that it
  forwards (R57). -/
  | entry (frame : Nat) (e : Machine.Entry)
  | cosEntry (frame : Nat) (e : Machine.CosEntry)
  /-- All inputs of the frame have been sent. -/
  | inputsDone (frame : Nat)
  /-- A result digest with its frame (R427). -/
  | digest (frame value : Nat)
  /-- The standby's acknowledgement of a frame's inputs, and its completion notice with its digest. -/
  | ack (frame : Nat)
  | notice (frame value : Nat)
  /-- A staging-image change: instance key and its content. -/
  | staging (cls ix : Nat) (v : Inst)
  /-- A committed calendar time as the staging set (R454). -/
  | time (set : Nat)
  | backup (off : Nat) (data : List Byte)
  /-- A forwarded packet that the active hands back to the standby (R324): its port and source, whether a clock read within it ends
  torn, and its bytes. -/
  | handBack (code : Nat) (torn : Bool) (ip udp : Nat) (bytes : List Byte)
  /-- The reply to a packet that this standby forwarded (R324). -/
  | reply (code ip udp session seq opcode status : Nat) (body : List Byte)
  /-- The partner's configuration CRC, firmware CRC and SERIAL_A. -/
  | status (cfg fw serial : Nat)
  /-- The configuration image of a resynchronisation (R439), with CONFIRMED. -/
  | image (im : List (Nat × Inst)) (confirmed : Nat)
  /-- A block missing from both lanes (R424). -/
  | missing
  deriving DecidableEq, Repr

/-- A Contrail block as it arrives: its place in the receive half of the mailbox, its bytes (R469) and what it carries. -/
structure LinkReceipt where
  at0   : Nat := 0
  raw   : List Byte := []
  block : ContrailBlock
  deriving DecidableEq, Repr

/-- Header of a command packet whose length and CRC hold (R316), with the port it arrived on, and on an
Ethernet port the source address and source port of its datagram. -/
structure PktHead where
  port    : Nat := 0
  ip      : Nat := 0
  udp     : Nat := 0
  version : Nat := 1
  /-- Bits [31:25]: UNSOLICITED and the reserved bits. -/
  flags   : Nat := 0
  session : Nat := 0
  seq     : Nat := 0
  status  : Nat := 0
  deriving DecidableEq, Repr

/-- An opcode with its parameters (R334 to R340). -/
inductive Op where
  | ping | openSession | closeSession | readSummary | readFrameStatus | clearFrameStatus | warmRestart
  | traceOpen | traceClose | replayStart
  | replayData (segment : Nat) (bytes : List Byte)
  | claim | renew | handover (target : Nat) | accept | release | readOwner
  | readObject (staging : Bool) (cls inst off len : Nat)
  | writeObject (cls inst off len : Nat) (data mask : List Byte)
  | commit | discard | readCrc
  | readImage (slot off len : Nat)
  | loadImage (off : Nat) (data : List Byte)
  | readResults (first count : Nat) | readRecords (first count : Nat) | readCjc
  | writeDo (ch : Nat) (st : Bool)
  | writeAo (ch : Nat) (v : Int)
  | trimZero (ch : Nat) (ref : Int) | trimSpan (ch : Nat) (ref : Int)
  | clearTotal (ch : Nat)
  | readPoints (first count : Nat) | readGroups (first count : Nat)
  | ack (scope target : Nat) | shelve (p d : Nat) | unshelve (p : Nat) | remove (p : Nat) | return_ (p : Nat)
  | readCall | selectDuty (station : Nat)
  /-- `rsv` holds the reserved bits of R310. -/
  | readEvents (sealLog : Bool) (rsv maxN fromSeq : Nat)
  | readRecorder
  | readTime | stageTime (set : List Byte) | commitTime | setWeekday (w : Nat)
  | readBackup (off len : Nat) | writeBackup (off len : Nat) (data : List Byte)
  | readSafety (first count : Nat) | safetyReset (f : Nat) | confirm (crc : Nat)
  | readDsc (first count : Nat) | dscReset (i : Nat)
  | readPair | resync | switchover
  | readDiag (level index : Nat) | readMemory | clearCounters
  | readCan (ctl : Nat) | readCanobj (obj : Nat) | writeCanobj (obj : Nat) (data : List Byte)
  | readHart (ch addr count : Nat)
  | readIdentity | readFirmware
  deriving DecidableEq, Repr

end Sys2Proof
end

