-- ==== Sys2Proof/Machine/Parts.lean ====
section
/-! DEFINITION. The parts of the state: one plain structure for each piece of hardware or table the
manual names. `State` (Machine/State.lean) holds them. Field defaults are the values that an
unlisted entry of the table holding the part reads as. -/

namespace Sys2Proof.Machine

/-! ## Events (R63, R294) -/

/-- An event request: code, source and the three parameters. -/
structure EvReq where
  code : Nat := 0
  src  : Nat := 0
  p1   : Nat := 0
  p2   : Nat := 0
  p3   : Nat := 0
  deriving DecidableEq, Repr

/-! ## Block-level acquisition (chapter 04) -/

/-- A cycle result or conversion with the flags that travel with it into VALUE (R95, R96, R123). -/
structure Conv where
  v      : Int := 0
  edge   : Bool := false
  ovr    : Bool := false
  lowRef : Bool := false
  deriving DecidableEq, Repr

/-- Acquisition state of one analog channel inside its block (R97 to R123). -/
structure AcqCh where
  /-- Arrangement of the next conversion (R98). -/
  arr        : Nat := 0
  /-- The last valid conversion waiting for its partner: its arrangement and voltage (R98, R99). -/
  prev       : Option (Nat × Conv) := none
  /-- Conversions or pairs gathered in the run of this cycle (R99). -/
  acc        : List Conv := []
  /-- Valid cycle results in the notch window, latest first (R114, R115). -/
  window     : List Conv := []
  value      : Int := 0
  edge       : Bool := false
  ovr        : Bool := false
  lowRef     : Bool := false
  pathHigh   : Bool := false
  other      : Int := 0
  compliance : Bool := false
  lastArr    : Nat := 0
  /-- RESULT_SEQ (R123). -/
  seq        : Nat := 0
  /-- A result has been delivered under the running configuration. -/
  live       : Bool := false
  /-- A result has completed since the previous latch (NEW). -/
  fresh      : Bool := false
  /-- Close of the last window contributing to VALUE, in Zenith cycles; and of the last one in the run so far (R101). -/
  doneAt     : Nat := 0
  lastAt     : Nat := 0
  /-- Instant at which the latest result completed. -/
  formedAt   : Nat := 0
  /-- An excitation event awaits the next valid result (R106). -/
  settling   : Bool := false
  /-- A blank awaits the next valid result (BLANKED of R123). -/
  blankHeld  : Bool := false
  /-- Start of the blank now in force (R112). -/
  blankFrom  : Option Nat := none
  blankLong  : Bool := false
  /-- Cycles in a row without a valid result, up to 4 (R107). -/
  dry        : Nat := 0
  /-- A valid result was formed in this cycle. -/
  got        : Bool := false
  /-- RANGE_EDGE conversions (diagnostic, R124). -/
  nEdge      : Nat := 0
  deriving DecidableEq, Repr

/-- Consecutive fail and pass counts of one self-test judgement, and its standing fault (R124). -/
structure TestRun where
  fails  : Nat := 0
  passes : Nat := 0
  fault  : Bool := false
  deriving DecidableEq, Repr

/-- Sequencer state of one block (R97 to R108). -/
structure BlkAcq where
  /-- Entry now running: 0 to 15, or 16 for the self-test slot ST. -/
  pos     : Nat := 16
  /-- Channel of the entry in progress, none in ST and once the channel has been re-initialised within the entry; and whether the
  entry is the last of its channel's run. -/
  owner   : Option Nat := none
  runEnd  : Bool := false
  /-- A new cycle begins at the lowest held entry once the entry or ST in progress is finished (R120). -/
  recycle : Bool := false
  /-- EXC_I in nA with which the entry in progress connected its per-entry sources (R103, R104). -/
  setI    : Nat := 0
  /-- Restarts of the entry in progress (R107). -/
  starts  : Nat := 0
  /-- An excitation event has already restarted the entry before its window opened (R108). -/
  early   : Bool := false
  /-- The entry in progress has overlapped a blank of its channel (R110). -/
  tainted : Bool := false
  /-- Step of the ST rotation (R100). -/
  step    : Nat := 0
  /-- Step 0 offsets of the low and high path, in 10⁻⁹ of the path's full scale. -/
  offLow  : Int := 0
  offHigh : Int := 0
  /-- Latest ST measurements of sources 0 and 1 at 1.00 mA, in nA, once made, and whether each was made under the running
  configuration of the block (R99, R100). -/
  i0      : Option Nat := none
  i1      : Option Nat := none
  run0    : Bool := false
  run1    : Bool := false
  t0      : TestRun := {}
  t1      : TestRun := {}
  t2      : TestRun := {}
  t3      : TestRun := {}
  exc0    : TestRun := {}
  exc1    : TestRun := {}
  mism    : TestRun := {}
  deriving DecidableEq, Repr

/-! ## Serving engine, analog input channels (chapter 05 and R158 to R160) -/

/-- One engine flag that sets at once and clears at the third clean record (R144, R159, R170). -/
structure RunFlag where
  on  : Bool := false
  run : Nat := 0
  deriving DecidableEq, Repr

/-- Frame state of one analog input channel in its serving engine. -/
structure AnaCh where
  /-- Frames since the re-initialising strobe, saturating where it no longer matters. -/
  k        : Nat := 0
  /-- A valid value of the mode has been delivered (R93). -/
  got      : Bool := false
  y        : Int := 0
  /-- The damping runs on from y (R117, R152). -/
  yRun     : Bool := false
  /-- y has been set since INIT (R146). -/
  ySet     : Bool := false
  openW    : RunFlag := {}
  short    : RunFlag := {}
  failLow  : RunFlag := {}
  failHigh : RunFlag := {}
  margin   : RunFlag := {}
  isOver     : Bool := false
  isUnder    : Bool := false
  /-- Switch states LL, L, H, HH (R151). -/
  sw       : Nat := 0
  /-- The switches have taken their first state after INIT or a restart. -/
  swRun    : Bool := false
  /-- Last valid T_cj in 10⁻⁶ °C (R137). -/
  tcj      : Int := 0
  cjcFault : Bool := false
  /-- The frame before ran under CJC_SRC = 10b (R137). -/
  cjcByCh  : Bool := false
  /-- Frames for which CJC_FAULT has stood (R147). -/
  cjcRun   : Nat := 0
  /-- Record flags whose changes record an event (R124). -/
  evConv   : Bool := false
  evExc    : Bool := false
  evMism   : Bool := false
  evUnst   : Bool := false
  evBlank  : Bool := false
  /-- Base verdict of the redundant pair: true for DEVIATE (R149). -/
  base     : Bool := false
  cnt      : Nat := 0
  verdict  : Nat := 0
  chosen   : Int := 0
  deriving DecidableEq, Repr

/-- Latest quality and damped value of a channel with its decimal places, kept as frame n − 1 state (R137, R165, R283). -/
structure PrevVal where
  eng     : Int := 0
  dec     : Nat := 0
  quality : Nat := 2
  /-- STATE and HELD of a DI channel; a channel that shows none is held (R283). -/
  state   : Bool := false
  held    : Bool := true
  deriving DecidableEq, Repr

/-- A connector sensor and its latched CJC record (R135, R136). -/
structure CjcSensor where
  /-- Last valid reading in 0.01 °C. -/
  temp    : Int := 0
  fresh   : Bool := false
  fault   : Bool := true
  /-- Previous valid reading, and the previous reading that replied within range. -/
  valid   : Option Int := none
  ranged  : Option Int := none
  bad     : Nat := 0
  good    : Nat := 0
  /-- Latched record: TEMP, NEW, CJC_FAULT (reset: TEMP 0000h; a connector without a valid reading has CJC_FAULT set). -/
  recTemp : Int := 0
  recNew  : Bool := false
  recFault : Bool := true
  deriving DecidableEq, Repr

/-- A trim in progress (R140). -/
structure Trim where
  ch     : Nat := 0
  span   : Bool := false
  ref    : Int := 0
  /-- Frame of the command. -/
  frame  : Nat := 0
  sum    : Int := 0
  count  : Nat := 0
  unstable : Bool := false
  /-- Owner code of the commanding port. -/
  port   : Nat := 0
  deriving DecidableEq, Repr

/-! ## Current loops (chapter 06) -/

/-- Cell protection state of one AO-I channel (R166, R167). -/
structure LoopCell where
  /-- Commanded current applied at the last strobe, in nA. -/
  cmd      : Int := 0
  /-- FOLDBACK: the current in nA to which it has lowered the target (R167). -/
  limit    : Option Int := none
  /-- The 1 s hold has ended and the target is being raised (R167). -/
  ramp     : Bool := false
  /-- Instant of the latest fold or step. -/
  foldAt   : Nat := 0
  tone     : Bool := false
  /-- Adaptive supply in mV at the latest latch, and its instant (R166). -/
  supply   : Nat := 8000
  supplyAt : Nat := 0
  deriving DecidableEq, Repr

/-- Engine state of one AO-I channel (R165, R170, R172). -/
structure AoCh where
  k        : Nat := 0
  host     : Option Int := none
  /-- Last commanded current not taken from FAIL since re-initialisation (R165). -/
  lastCmd  : Option Int := none
  /-- Command now in the output image, and the strobe number that applies its latest change. -/
  cmd      : Int := 0
  changeAt : Nat := 0
  /-- Strobe that applied the first command after re-initialisation. -/
  firstAt  : Option Nat := none
  init     : Bool := true
  loopOpen : RunFlag := {}
  compl    : RunFlag := {}
  dev      : RunFlag := {}
  foldEv   : Bool := false
  deriving DecidableEq, Repr

/-- Flags from the HART device table of a channel (R180, R182) and its service start. -/
structure HartCh where
  multidrop : Bool := false
  comm      : Bool := false
  dev       : Bool := false
  mismatch  : Bool := false
  /-- Frames since modem service started; none before (R179). -/
  service   : Option Nat := none
  deriving DecidableEq, Repr

/-- One entry of a HART device table, the 64 bytes of R181. -/
structure HartDev where
  listed  : Bool := false
  unsup   : Bool := false
  burst   : Bool := false
  lost    : Bool := false
  univRev : Nat := 0
  devType : Nat := 0
  devId   : Nat := 0
  status  : Nat := 0
  resp    : Nat := 0
  loopMa  : Nat := 0
  pvUnit  : Nat := 0xFA
  pv      : Nat := 0x7FA00000
  svUnit  : Nat := 0xFA
  sv      : Nat := 0x7FA00000
  tvUnit  : Nat := 0xFA
  tv      : Nat := 0x7FA00000
  qvUnit  : Nat := 0xFA
  qv      : Nat := 0x7FA00000
  ext     : Nat := 0
  age     : Nat := 0xFFFFFFFF
  nReply  : Nat := 0
  nFail   : Nat := 0
  deriving DecidableEq, Repr

/-- A request of the modem schedule: command number and polling address (R179). -/
structure HartReq where
  cmd  : Nat := 0
  addr : Nat := 0
  deriving DecidableEq, Repr

/-- Schedule marks of one polling address (R179): the latest command 0 and command 3 to it, and the
commands 3 since its latest command 48. -/
structure HartTimes where
  last0  : Option Nat := none
  last3  : Option Nat := none
  count3 : Nat := 0
  deriving DecidableEq, Repr

/-- One modem cell and its schedule (R177 to R179). -/
structure Modem where
  /-- Request in progress, its attempts so far, and the end of its latest sending. -/
  req      : Option HartReq := none
  attempt  : Nat := 0
  sentAt   : Nat := 0
  /-- The request in progress waits for the loop to be quiet. -/
  waiting  : Bool := false
  /-- A carrier stands on the loop, or ended less than 75 ms ago (R178). -/
  carrier  : Bool := false
  /-- Modem service has begun (R179). -/
  service  : Bool := false
  /-- Next address of the first multidrop scan; 16 once it is complete; none before address 0 fails. -/
  scan     : Option Nat := none
  /-- Latest command 0 to an unlisted address. -/
  lastDisc : Option Nat := none
  times    : Tab HartTimes := []
  /-- Address of the latest command 3, from which the multidrop order goes on. -/
  prev3    : Option Nat := none
  /-- Burst frames discarded (R177). -/
  nBurst   : Nat := 0
  deriving DecidableEq, Repr

/-! ## Digital inputs, outputs and pulse counting (chapter 07) -/

/-- Block side of a DI or PI cell (R187 to R195). -/
structure DigCell where
  /-- Debounced STATE after INVERT. -/
  state   : Bool := false
  /-- Comparator level before INVERT. -/
  raw     : Bool := false
  /-- Consecutive block clock cycles in which the sample has differed from STATE (R190). -/
  deb     : Nat := 0
  /-- The contact or sensor supply is on (R93, R184). -/
  supply  : Bool := false
  /-- A line test is in progress and debounce is frozen (R191). -/
  frozen  : Bool := false
  /-- The freeze lasts until this instant after the end of the test (R191). -/
  thawAt  : Nat := 0
  line    : Bool := false
  tpDone  : Bool := false
  edges   : Nat := 0
  /-- Places of the edge queue used since the latch (R192). -/
  queued  : Nat := 0
  cosLost : Bool := false
  count   : Nat := 0
  firstT  : Nat := 0
  lastT   : Nat := 0
  deriving DecidableEq, Repr

/-- Block side of an output cell, DO or AO-I (R201 to R210). -/
structure OutCell where
  /-- Commanded DO state applied at the last strobe. -/
  applied : Bool := false
  /-- The cell is in its safe state on logic silence (R209). -/
  silent  : Bool := false
  /-- A strobe has come since, and a whole shadow after it (R210). -/
  resumed : Bool := false
  shadowed : Bool := false
  ilim    : Bool := false
  therm   : Bool := false
  rail    : Bool := false
  fsOff   : Bool := false
  safe    : Bool := false
  tpDone  : Bool := false
  tpFail  : Bool := false
  /-- OFF_VOLT of the latest record (R202). -/
  offVolt : Bool := false
  deriving DecidableEq, Repr

/-- Engine state of one DI channel (R196). -/
structure DiCh where
  k     : Nat := 0
  state : Bool := false
  openW : RunFlag := {}
  short : RunFlag := {}
  csup  : RunFlag := {}
  line  : RunFlag := {}
  deriving DecidableEq, Repr

/-- Engine state of one PI channel (R197 to R200). -/
structure PiCh where
  k     : Nat := 0
  openW : RunFlag := {}
  short : RunFlag := {}
  csup  : RunFlag := {}
  /-- (COUNT, PREV_LEN) of the latest records without STALE, latest first, at most the largest GATE of them. -/
  gate  : List (Nat × Nat) := []
  freq  : Nat := 0
  eng   : Int := 0
  isOver  : Bool := false
  total : Nat := 0
  deriving DecidableEq, Repr

/-- Engine state of one DO channel (R186, R204). -/
structure DoCh where
  k     : Nat := 0
  host  : Bool := false
  /-- APPLIED of the latest records without STALE, latest first, at most 10 of them. -/
  hist  : List Bool := []
  overload : RunFlag := {}
  thermal  : RunFlag := {}
  openLoad : RunFlag := {}
  backfeed : RunFlag := {}
  shortSup : RunFlag := {}
  testFail : RunFlag := {}
  deriving DecidableEq, Repr

/-- A test pulse in progress in a block (R87, R88): its channel, kind and start, and its width in 10 µs steps. -/
structure Pulse where
  ch    : Nat := 0
  kind  : Nat := 0
  since : Nat := 0
  width : Nat := 0
  deriving DecidableEq, Repr

/-- One block apart from its converter: supply, enable flag, power, test pulse, strobe and clock. -/
structure Blk where
  fsLow     : Bool := false
  fsOff     : Bool := false
  /-- The recovery of R207 has been accepted; outputs return at the next strobe. -/
  fsBack    : Bool := false
  /-- Outputs withheld by the enable flag (R419). -/
  withheld  : Bool := false
  /-- The island converter runs (POWERED of R518), and the block waits for the strobe that re-initialises it (R494). -/
  powered   : Bool := false
  joining   : Bool := false
  /-- Output pairs whose switches are linked in series, as a mask over the four pairs of the block (R222). -/
  link      : Nat := 0
  pulse     : Option Pulse := none
  /-- Frame of the latest test pulse slot used (R87). -/
  pulseIn   : Option Nat := none
  /-- Instant of the latest block latch, and its frame. -/
  latchAt   : Nat := 0
  latched   : Option Nat := none
  /-- Block clock cycles between the two latest strobes (R36). -/
  clkCount  : Nat := 0
  clkRun    : Nat := 0
  clkFault  : Bool := false
  islandPwr : Bool := false
  /-- ISLAND_PWR of the latest latch, as the region has reported it (R514). -/
  pwrSeen   : Bool := false
  deriving DecidableEq, Repr

/-! ## Safety functions (chapter 08) -/

/-- State of one safety function in one Nimbus engine (R215 to R229). -/
structure SafeFn where
  /-- The function has been evaluated since start-up (R228). -/
  started : Bool := false
  state   : Nat := 0
  sw      : Bool := false
  cnt     : Nat := 0
  cause   : Nat := 0
  /-- Causes since FAULT was entered, bit k for cause k (R229). -/
  causes  : Nat := 0
  dir     : Nat := 0
  openA   : Bool := false
  openB   : Bool := false
  demand  : Bool := false
  disc    : Bool := false
  timing  : Bool := false
  /-- SAFE_TEST_FAIL and SAFE_SWITCH_STUCK of the engine's own switch (R225). -/
  tf      : RunFlag := {}
  st      : RunFlag := {}
  /-- The flags of both engines in the frame before. -/
  tfA     : Bool := false
  tfB     : Bool := false
  stA     : Bool := false
  stB     : Bool := false
  dA      : Bool := false
  dB      : Bool := false
  vA      : Int := 0
  vB      : Int := 0
  deriving DecidableEq, Repr

/-- Exchange record of one engine for one function (R215). -/
structure Exch where
  v     : Int := 0
  bad   : Bool := true
  d     : Bool := false
  dir   : Nat := 0
  state : Nat := 0
  sw    : Bool := false
  cnt   : Nat := 0
  tf    : Bool := false
  st    : Bool := false
  /-- TERM_V of the own output record, for the events of R237. -/
  termV : Nat := 0
  deriving DecidableEq, Repr

/-- STATE and HELD of a reset channel in the frame before, and its run of STATE = 1 (R219). -/
structure Button where
  state : Bool := false
  held  : Bool := true
  run   : Nat := 0
  deriving DecidableEq, Repr

/-! ## Denif Safe Channel (chapter 09) -/

/-- State of one connection in one Nimbus engine (R239 to R256). -/
structure Dsc where
  started   : Bool := false
  state     : Nat := 0
  cause     : Nat := 0
  errCnt    : Nat := 0
  /-- Frame length since ERR_CNT last changed, in Zenith cycles (R247). -/
  errAge    : Nat := 0
  txSeq     : Nat := 0
  rxSeq     : Nat := 0
  /-- A request s is outstanding (master). -/
  waiting   : Bool := false
  /-- E(n) since the first transmission of s, or since the last accepted request (R248). -/
  elapsed   : Nat := 0
  /-- Frames since the last transmission (R240, R249). -/
  sinceTx   : Nat := 0
  /-- Payload of the last request, and the last PDU sent or the stored answer. -/
  payload   : List Byte := []
  stored    : List Byte := []
  /-- DATA has been accepted since the CONNECT. -/
  data      : Bool := false
  nRepeat   : Nat := 0
  nStale    : Nat := 0
  nCrc      : Nat := 0
  age       : Nat := 0xFFFFFFFF
  rxData    : List Byte := []
  rxFs      : Bool := true
  /-- E(n) since entry to FAILSAFE. -/
  fsAge     : Nat := 0
  /-- A DSC reset has taken effect since entry to FAILSAFE. -/
  resetDone : Bool := false
  /-- PDU of this frame in the scratchpad (R253). -/
  pdu       : Option (List Byte) := none
  deriving DecidableEq, Repr

/-! ## Alarm engine (chapter 10) -/

/-- State of one alarm point (R264 to R271, R277). -/
structure AlmPt where
  s       : Bool := false
  /-- The source value before INV, kept for the hysteresis of a compare (R260). -/
  raw     : Bool := false
  c       : Bool := false
  cnt     : Nat := 0
  /-- Hold counter of R270. -/
  h       : Nat := 0
  /-- Shelf timer in frames (R271). -/
  shelf   : Nat := 0
  /-- The shelf timer was loaded in this frame. -/
  loaded  : Bool := false
  state   : Nat := 0
  /-- State of frame n − 1. -/
  prev    : Nat := 0
  supp    : Bool := false
  ackLast : Nat := 0xFF
  /-- Trigger bits of this frame (R278) and the location of this frame's acknowledgement. -/
  trig    : Nat := 0
  ackLoc  : Nat := 0xFF
  /-- Row 7, and row 7 or 10, of R269 acted in this frame. -/
  raised  : Bool := false
  entered : Bool := false
  deriving DecidableEq, Repr

/-- State of one group (R272, R275). -/
structure Grp where
  fo    : Option Nat := none
  /-- Bits [55:0] last transmitted. -/
  sent  : Option Nat := none
  /-- Frames since the last transmission. -/
  since : Nat := 0
  tx    : Nat := 0
  /-- Group output and status block of the latest evaluated frame; reset: TOP_PRIO 111b, FO_POINT FFFFh. -/
  out   : Bool := false
  block : Nat := 0x00FFFF0000000070
  deriving DecidableEq, Repr

/-! ## Engineer call (chapter 11) -/

/-- State of one station (R282 to R291). -/
structure Station where
  called : Bool := false
  acc    : Bool := false
  /-- ACC set in this frame by an accept (event 0B03h). -/
  accSet : Bool := false
  lost   : Bool := false
  /-- Frames since a message on RX_OBJ. -/
  quiet  : Nat := 0
  /-- A message on RX_OBJ is assigned to the open frame. -/
  heard  : Bool := false
  /-- The next message on RX_OBJ only sets the reference (R282). -/
  fresh  : Bool := true
  sent   : Option Nat := none
  since  : Nat := 0
  tx     : Nat := 0
  out    : Bool := false
  deriving DecidableEq, Repr

/-- A request for step 5a (R284): location (0 the owner, k + 1 station k), request code of R282 and ARG. -/
structure CallReq where
  loc : Nat := 0
  req : Nat := 0
  arg : Nat := 0
  deriving DecidableEq, Repr

/-- Module-wide state of the engineer call (R285 to R292). -/
structure CallSys where
  cs     : Nat := 0
  esc    : Nat := 0
  duty   : Option Nat := none
  dmState : Nat := 0
  dm     : Nat := 0
  /-- dm was loaded in this frame (R288). -/
  dmLoaded : Bool := false
  /-- Requests of the open frame, in entry order. -/
  reqs   : List CallReq := []
  /-- U(n) of the latest evaluated frame. -/
  u      : Nat := 0
  /-- State at the end of frame n − 1, for the events of R293, and the locations behind changes. -/
  csWas   : Nat := 0
  dutyWas : Option Nat := none
  dmWas   : Nat := 0
  csWhy   : Nat := 0
  dutyLoc : Nat := 0
  dmLoc   : Nat := 0
  dmReset : Bool := false
  deriving DecidableEq, Repr

/-! ## Event recorder (chapter 12) -/

/-- A record waiting in the pending queue (R294). Its SEQ follows from its place (R296, R306). -/
structure EvRec where
  code     : Nat := 0
  src      : Nat := 0
  opS      : Nat := 0
  opMs     : Nat := 0
  unit     : Bool := false
  standby  : Bool := false
  replay   : Bool := false
  poisoned : Bool := false
  prestart : Bool := false
  pwr      : Nat := 0
  frameLo  : Nat := 0
  p1       : Nat := 0
  p2       : Nat := 0
  p3       : Nat := 0
  deriving DecidableEq, Repr

/-- A written slot of a log: the 32 record bytes, the slot check, and in the sealed log the chain value. -/
structure LogSlot where
  data  : BitVec 256 := 0#256
  check : Nat := 0
  chain : Nat := 0
  deriving DecidableEq, Repr

/-- The recorder: pending queue, losses, logs in MRAM and the MRAM counter block (R302 to R313). -/
structure Recorder where
  queue    : List EvRec := []
  queueMax : Nat := 0
  /-- Records counted under R305 that no LOST record in the queue carries, with CODE and FRAME_LO of the first and the last. -/
  lost      : Nat := 0
  lostCode  : Nat := 0
  lostFrame : Nat := 0
  lostLast  : Nat := 0
  lostLastFrame : Nat := 0
  /-- Slots by SEQ mod 65,536 and by sealed index mod 4,096; a slot never written is none. -/
  mainLog  : Tab (Option LogSlot) := []
  sealLog  : Tab (Option LogSlot) := []
  opS       : Nat := 0
  pwr       : Nat := 0
  nextSeq   : Nat := 0
  sealCount : Nat := 0
  sealChain : Nat := 0xFFFFFFFF
  lostTotal : Nat := 0
  sealBroken : Bool := false
  deriving DecidableEq, Repr

/-! ## CAN controllers (chapter 16) -/

/-- One message object: header and payload in message RAM, the message of the latest applied entry or load, and
the transmit entry (R390, R393, R409). -/
structure CanObj where
  msg     : CanMsg := {}
  new     : Bool := false
  lostMsg : Bool := false
  locked  : Bool := false
  txPend  : Bool := false
  /-- Instant from which the pending request has taken part in arbitration (R395). -/
  pendAt  : Nat := 0
  upd     : Nat := 0
  /-- Applied or loaded last in a closed or open frame: message, frame and count. -/
  app     : CanMsg := {}
  frame   : Nat := 0
  count   : Nat := 0
  /-- REQ_SEQ of the latest message that a frame took from the object (R282). -/
  reqSeq  : Option Nat := none
  errors  : Nat := 0
  result  : Nat := 0
  /-- The time window of the object has started its frame, and the start of the cycle whose window has come (R405). -/
  inWindow : Bool := false
  ttDone   : Option Nat := none
  /-- The payload in message RAM is beyond correction: no attempt is made until the next load (R475). -/
  blocked  : Bool := false
  /-- The message of the request before the latest load (R397). -/
  was      : CanMsg := {}
  deriving DecidableEq, Repr

/-- One controller (R381, R409). -/
structure CanCtl where
  tec      : Nat := 0
  recCnt   : Nat := 0
  state    : Nat := 3
  recovering : Bool := false
  noAck    : Bool := false
  tmRun    : Bool := false
  lec      : Nat := 0
  busOff   : Nat := 0
  ackRun   : Nat := 0
  rxNoMatch : Nat := 0
  rxReject  : Nat := 0
  rxFormat  : Nat := 0
  rxLocked  : Nat := 0
  msgLost   : Nat := 0
  rxRemote  : Nat := 0
  protoExc  : Nat := 0
  txOk      : Nat := 0
  txRetry   : Nat := 0
  ttMiss    : Nat := 0
  cycle     : Nat := 0
  /-- Start of the current basic cycle, whether a reference message is pending, and since when (R404). -/
  cycleAt   : Option Nat := none
  refPend   : Bool := false
  refAt    : Nat := 0
  /-- End of the latest frame or attempt on the bus: the next attempt starts after it (R395). -/
  endAt    : Nat := 0
  deriving DecidableEq, Repr

/-- The ISO 15765-2 transport of a host port (R318). -/
structure IsoTp where
  /-- Reception: length announced, bytes so far, next sequence number, instant of the latest frame. -/
  rxLen   : Nat := 0
  rxBuf   : List Byte := []
  rxNext  : Nat := 0
  rxAt    : Nat := 0
  /-- A flow control frame is to be sent. -/
  fcDue   : Bool := false
  /-- Transmission: messages waiting, bytes of the one in progress not yet sent, next sequence number, and its
  stage: 0 idle, 1 first or single frame due, 2 waiting for flow control, 3 consecutive frames. -/
  queue   : List (List Byte) := []
  txBuf   : List Byte := []
  txSn    : Nat := 0
  txStage : Nat := 0
  /-- Consecutive frames left in the block; none for no limit. -/
  txBlock : Option Nat := none
  txGap   : Nat := 0
  txWaits : Nat := 0
  txAt    : Nat := 0
  deriving DecidableEq, Repr

/-! ## Ports, sessions and ownership (chapters 13 to 15) -/

/-- A packet the node sends: the owner code of its port, the partner's address and port, and the fields of R316. -/
structure Reply where
  code    : Nat := 0
  ip      : Nat := 0
  udp     : Nat := 0
  /-- 1 for a reply, 2 for an unsolicited packet. -/
  kind    : Nat := 1
  session : Nat := 0
  seq     : Nat := 0
  opcode  : Nat := 0
  status  : Nat := 0
  body    : List Byte := []
  deriving DecidableEq, Repr

/-- A command whose reply is not yet sent (R323). -/
structure Pending where
  code    : Nat := 0
  ip      : Nat := 0
  udp     : Nat := 0
  /-- SESSION of the command, and the session that stores the reply. -/
  session : Nat := 0
  sid     : Nat := 0
  seq     : Nat := 0
  opcode  : Nat := 0
  /-- Frame whose completion sends the reply; none when another rule resolves it (CLAIM, trims, SWITCHOVER). -/
  due     : Option Nat := none
  op      : Op := .ping
  /-- Status and body already decided; none when they are formed at completion. -/
  done    : Option (Nat × List Byte) := none
  deriving DecidableEq, Repr

/-- The session of a port (R321, R322). -/
structure Session where
  /-- SESSION; 0 while none is open. -/
  id      : Nat := 0
  lastSeq : Nat := 0
  lastOp  : Nat := 0
  /-- The reply to the last sequence number is pending; the reply once sent. -/
  busy    : Bool := false
  reply   : Option Reply := none
  /-- Frames in a row without a packet, and whether one came in the open frame. -/
  quiet   : Nat := 0
  heard   : Bool := false
  /-- Partner address of the latest command. -/
  ip      : Nat := 0
  udp     : Nat := 0
  deriving DecidableEq, Repr

/-- A claim collected in an open window (R347). -/
structure Claim where
  code : Nat := 0
  deriving DecidableEq, Repr

/-- Ownership (R343 to R354). Times are sums of PREV_LEN since start-up (R345). -/
structure Owner where
  owner   : Option Nat := none
  lease   : Nat := 0
  /-- Handover target and the frame record sum at the offer. -/
  offer   : Option (Nat × Nat) := none
  /-- Reference of an open claim window and the claims collected. -/
  window  : Option Nat := none
  claims  : List Claim := []
  /-- Events of the open frame, in the order raised (R63). -/
  ev      : List EvReq := []
  deriving DecidableEq, Repr

/-- An ARP entry (R366). -/
structure ArpEntry where
  ip  : Nat := 0
  mac : Nat := 0
  since : Nat := 0
  deriving DecidableEq, Repr

/-- A datagram in reassembly (R368): source, identification, arrival of its first fragment, and the fragments as
(offset, more, data). -/
structure Reasm where
  src    : Nat := 0
  ident  : Nat := 0
  since  : Nat := 0
  parts  : List (Nat × Bool × List Byte) := []
  deriving DecidableEq, Repr

/-- What an IPv4 datagram of the node carries: an ICMP echo reply, or UDP with its ports (R365). -/
inductive IpBody where
  | echo (data : List Byte)
  | udp (sport dport : Nat) (data : List Byte)
  deriving DecidableEq, Repr

/-- Content of an Ethernet frame that the node sends (R365, R366, R368). -/
inductive EthOut where
  | arpRequest (senderIp targetIp : Nat)
  | arpReply (senderIp targetIp targetMac : Nat)
  | ip (srcIp dstIp : Nat) (body : IpBody)
  /-- A fragment of a datagram: offset in bytes, more fragments follow, IP payload. -/
  | fragment (srcIp dstIp off : Nat) (more : Bool) (data : List Byte)
  deriving DecidableEq, Repr

/-- What a port puts on its wire. An Ethernet frame names its destination and source MAC, and on ETH2 the transmit opportunity
it takes; none for a switched port or CSMA/CD (R363). -/
inductive PortOut where
  | eth (port dst src : Nat) (slot : Option Nat) (frame : EthOut)
  | can (ctl : Nat) (msg : CanMsg)
  | serial (data : List Byte)
  /-- A block on both lanes of the Contrail link (R425). -/
  | link (block : ContrailBlock)
  deriving DecidableEq, Repr

/-- A datagram that waits for an ARP reply (R366): next hop, instant, and the datagram. -/
structure ArpWait where
  hop   : Nat := 0
  since : Nat := 0
  src   : Nat := 0
  dst   : Nat := 0
  body  : IpBody := .echo []
  deriving DecidableEq, Repr

/-- What waits in the receive queue of a port behind a full command buffer (R55): an Ethernet frame, or a whole message of
another transport. -/
inductive RxItem where
  | frame (m : EthMsg)
  | message (bytes : List Byte)
  deriving DecidableEq, Repr

/-- Port state and the counters of R379. -/
structure PortSt where
  /-- Receive queue, first in first out. -/
  rxWait     : List RxItem := []
  rxQueueFull : Nat := 0
  rxFrameErr : Nat := 0
  noMatch    : Nat := 0
  hostReject : Nat := 0
  fragDrop   : Nat := 0
  pktDiscard : Nat := 0
  serAbort   : Nat := 0
  mbExcept   : Nat := 0
  tpDrop     : Nat := 0
  linkUp     : Bool := false
  /-- The next reply lies beyond correction in its buffer: nothing is sent from it (R475). -/
  txBad      : Bool := false
  /-- PLCA status, the node count of the segment, and the transmit opportunity timer in bit times (R363). -/
  plca       : Bool := false
  plcaNodes  : Nat := 0
  plcaTimer  : Nat := 0
  speed      : Nat := 0
  arp        : List ArpEntry := []
  waits      : List ArpWait := []
  reasm      : List Reasm := []
  /-- Gratuitous announcements still to be sent, and the instant the role was taken (R370). -/
  announce   : Nat := 0
  announceAt : Nat := 0
  deriving DecidableEq, Repr

/-! ## Twilight domain (chapter 18) -/

/-- State bits of one RTC alarm (R449). -/
structure RtcAlarm where
  fired   : Bool := false
  skipped : Bool := false
  armed   : Bool := false
  /-- The alarm fired in the open frame: a write of 1 of that frame does not clear FIRED (R9). -/
  fresh   : Bool := false
  deriving DecidableEq, Repr

/-- The Twilight domain (R444 to R463). The fields start as the domain does when it powers on (R446). -/
structure Twi where
  /-- Calendar: year minus 2000, month, day, hour, minute, second. -/
  year  : Nat := 0
  month : Nat := 1
  day   : Nat := 1
  hour  : Nat := 0
  min   : Nat := 0
  sec   : Nat := 0
  /-- SUBSEC at an instant of the Zenith time axis; it counts on from there. -/
  subsec   : Nat := 0
  subsecAt : Nat := 0
  wday  : Nat := 0
  roll  : Nat := 0
  valid : Bool := false
  torn  : Bool := false
  bakLow  : Bool := false
  bakLost : Bool := true
  wrapped : Bool := false
  a0 : RtcAlarm := {}
  a1 : RtcAlarm := {}
  /-- Frozen shadow of the time block and the instant of the freeze (R450). -/
  shadow   : Nat := 0
  frozenAt : Option Nat := none
  /-- Staging set (R454), 96 bits. -/
  stage : Nat := 0
  /-- Alarm settings registers 20h to 3Ch, and the settings in force with BAK_CHG (R457). -/
  alReg : BitVec 256 := 0#256
  alSet : BitVec 256 := 0#256
  /-- Backup RAM bytes 0 to 127, and the write buffer (R463). -/
  bram  : Tab Byte := []
  wbuf  : Tab (Option Byte) := []
  /-- The interface is locked; the domain runs from VBAK; the contents were lost (R444, R446). -/
  locked   : Bool := false
  onBackup : Bool := false
  /-- Instants of the latest time commit and of the latest SET_WDAY, for an increment in the same Twilight cycle (R456). -/
  setAt  : Option Nat := none
  wdayAt : Option Nat := none
  deriving DecidableEq, Repr

end Sys2Proof.Machine
end

