-- ==== Sys2Proof/Machine/Units.lean ====
section
/-! DEFINITION. The parts of the state that belong to the whole unit: frame timing, stored images, firmware,
identity, supplies, memories, diagnostics, and the redundant pair. -/

namespace Sys2Proof.Machine

/-! ## Run state (R493 to R505) -/

/-- What the unit as a whole does. -/
inductive RunMode where
  /-- Frames run (or strobe 0 is about to open frame 0 at the end of step 5). -/
  | running
  /-- Stopped by the orderly stop of R493. -/
  | stopped
  /-- OFF standby state (R504). -/
  | off
  /-- Start-up holds after step 1 because RST_BTN is closed (R503). -/
  | held
  /-- No firmware slot can be taken (R496), or the self-test failed twice in lockstep (R497). -/
  | dead
  /-- A pair unit waits for its role decision (R423). -/
  | deciding
  deriving DecidableEq, Repr

/-- Work of a frame: how far it has come (R37). -/
inductive Phase where
  /-- Cell records are arriving. -/
  | gather
  /-- The engines evaluate; the Nimbus pairs and END entries are still outstanding. -/
  | evaluate
  /-- The frame is complete; the next strobe has not come. -/
  | complete
  deriving DecidableEq, Repr

/-! ## Frame timing (R45 to R50, R72) -/

/-- The Zenith frame scheduler, the open frame record and the frame status counters. -/
structure FrameClk where
  frameNo  : Nat := 0
  strobeAt : Nat := 0
  lag      : Nat := 0
  prevLen  : Nat := 0
  /-- Sum of PREV_LEN over the frame records since start-up (R345). -/
  total    : Nat := 0
  /-- L(n − 2), for the sum of R233. -/
  prevLen2 : Nat := 0
  asyncCount : Nat := 0
  deferCount : Nat := 0
  stretched : Bool := false
  shortened : Bool := false
  /-- LONG of the open frame's record: FRAME_LONG was raised for frame n − 1. -/
  longRec   : Bool := false
  /-- FRAME_LONG has been raised for the open frame, and the live summary bit. -/
  longNow   : Bool := false
  longLive  : Bool := false
  overrun   : Bool := false
  ovrFrames : Nat := 0
  maxLag    : Nat := 0
  maxLen    : Nat := 0
  nStretched : Nat := 0
  nShortened : Nat := 0
  nLong     : Nat := 0
  nOverrun  : Nat := 0
  nDeferred : Nat := 0
  lastLen   : Nat := 0
  clr       : Bool := false
  /-- Instant at which the open frame's results and outputs were complete. -/
  doneAt    : Nat := 0
  deriving DecidableEq, Repr

/-- The RO header fields of a running or stored image that the node itself writes (R541). -/
structure Header where
  storeCrc   : Nat := 0
  generation : Nat := 0
  cfgCrc     : Nat := 0
  safeCrc    : Nat := 0
  confirmed  : Nat := 0
  firstFrame : Nat := 0
  pwr        : Nat := 0
  deriving DecidableEq, Repr

/-- A stored configuration slot (R548, R549): its body and header, whether a store was cut off or failed, and whether the latest
start-up refused its image under a commit rule (R551). -/
structure Slot where
  image    : Image := []
  hdr      : Header := {}
  torn     : Bool := false
  refused  : Bool := false
  deriving DecidableEq, Repr

/-- A store in progress (R549): slot 0 A or 1 B, whether a readback has failed once, and its content. -/
structure Store where
  slot    : Nat := 0
  retried : Bool := false
  content : Slot := {}
  deriving DecidableEq, Repr

/-- A configuration accepted for the next strobe (R331), with the frame of effect's event source. -/
structure NextCfg where
  image  : Image := []
  cfgCrc  : Nat := 0
  safeCrc : Nat := 0
  /-- Source of 0301h: owner code, or FFh for a trim. -/
  source : Nat := 0
  deriving DecidableEq, Repr

/-- One firmware slot in flash (R496). -/
structure Firmware where
  valid : Bool := false
  gen   : Nat := 0
  ver   : Nat := 0
  crc   : Nat := 0
  fails : Nat := 0
  deriving DecidableEq, Repr

/-- Identity data as stored at manufacture (R521). -/
structure Ident where
  order   : Nat := 0
  witness : Bool := false
  /-- SERIAL, 10 BCD digits. -/
  serial  : Nat := 0
  lot     : Nat := 0
  wafer   : Nat := 1
  dieX    : Nat := 0
  dieY    : Nat := 0
  issue   : Nat := 0
  week    : Nat := 1
  year    : Nat := 0
  /-- MAC_BASE, first octet in the low byte. -/
  mac     : Nat := 0
  uid     : Nat := 0
  crc     : Nat := 0
  deriving DecidableEq, Repr

/-! ## Supplies (R491) -/

/-- A supervised feed: state 0 good, 1 LOW, 2 HIGH, 3 ABSENT, and its voltage in mV. -/
structure Feed where
  state : Nat := 0
  mv    : Nat := 0
  deriving DecidableEq, Repr

/-- Power, reset and start-up state of the unit (R490 to R508). -/
structure Power where
  feedA  : Feed := {}
  feedB  : Feed := {}
  /-- Cause of the latest start-up and end reason of the run before it (R507). -/
  cause  : Nat := 1
  ended  : Nat := 0
  /-- End reason that the next start-up will report (MRAM counter block). -/
  endNext : Nat := 0
  /-- Configuration slot that start-up took: 0 A, 1 B, FFh empty. -/
  cfgSlot : Nat := 0xFF
  cfgEmpty : Bool := true
  fwFallback : Bool := false
  identBad : Bool := false
  haloFault : Bool := false
  rstStuck : Bool := false
  /-- RST_BTN is disregarded until it has been seen open for 50 ms (R503). -/
  rstIgnored : Bool := false
  /-- Start-up that holds after step 1: its reference, and the codewords that failed its clear (R478, R503). -/
  heldAt   : Nat := 0
  heldClear : List (Nat × Nat × Nat × Nat) := []
  /-- A warm restart follows once its reply has left: end reason 3 (R501). -/
  restartDue : Bool := false
  /-- ENABLE is closed, and has been closed since the wake (R504, R505). -/
  enable : Bool := true
  enableSeen : Bool := true
  /-- Alarms found fired when frame 0 opened, as a mask: they are stamped with LATE (R462). -/
  late   : Nat := 0
  deriving DecidableEq, Repr

/-! ## Memories (R466 to R486) -/

/-- Health of one memory (R486), with its recent corrections as (bank, operating ms) and its Haze passes. -/
structure MemSt where
  corr      : Nat := 0
  uncorr    : Nat := 0
  marchFail : Nat := 0
  lastBank  : Nat := 0
  lastKind  : Nat := 0
  lastCw    : Nat := 0
  lastReq   : Nat := 0xFF
  scrubs    : Nat := 0
  marches   : Nat := 0
  wear      : Bool := false
  slow      : Bool := false
  recent    : List (Nat × Nat) := []
  /-- Instants at which the scrub pass and the march pass in progress began, in Zenith cycles. -/
  scrubFrom : Nat := 0
  marchFrom : Nat := 0
  /-- The next march pass goes in descending codeword order (R482). -/
  marchDown : Bool := false
  /-- The raw codewords, keyed by 65,536 × bank + codeword: 40 bytes with byte 0 lowest, and for MRAM the 72 bits of a word. An
  unlisted one is 0, a codeword as the start-up clear leaves it (R472, R478). A content that other fields of the state hold is not
  repeated here: its codeword is held as the difference to the codeword of that content, which decodes alike because the code is
  linear (log 65). -/
  words     : Tab Nat := []
  /-- A yielded step waits to be repeated: bank, first codeword, march. -/
  again     : Option (Nat × Nat × Bool) := none
  deriving DecidableEq, Repr

/-! ## Diagnostics (R512 to R519) -/

/-- Diagnostics of one cell (R518). -/
structure CellDiag where
  statAcc  : Nat := 0
  couplers : Nat := 0
  restarts : Nat := 0
  /-- Temperature in °C, signed. -/
  temp     : Int := 0
  therm    : Bool := false
  /-- CELL_THERM of the latest latch, as the region has reported it (R514). -/
  thermSeen : Bool := false
  /-- A downstream coupler error since the previous latch. -/
  downErr  : Bool := false
  /-- A coupler error stands, its latest cause (R519), and frames since it. -/
  standing : Bool := false
  cause    : Nat := 0
  clean    : Nat := 0
  deriving DecidableEq, Repr

/-- Diagnostics of one block (R518). -/
structure BlkDiag where
  islandMv : Nat := 0
  fsMv     : Nat := 0
  tCyc     : Nat := 0
  cycFrom  : Nat := 0
  stFail   : Nat := 0
  /-- Common fault bit of the latest evaluated frame (R512). -/
  fault    : Bool := false
  deriving DecidableEq, Repr

/-- Diagnostics of one region (R517, R518). -/
structure RegDiag where
  feedA   : Feed := {}
  feedB   : Feed := {}
  /-- Clock deviation in 0.1 ppm, and seconds in a row within 100 ppm. -/
  clkDev  : Int := 0
  clkGood : Nat := 0
  clkFault : Bool := false
  upErrs  : Nat := 0
  hartFail : Nat := 0
  bist    : Nat := 0
  hznSeq  : Nat := 0
  silent  : Nat := 0
  deriving DecidableEq, Repr

/-- A clock compared with the Zenith clock (R514). -/
structure ClkChk where
  dev   : Int := 0
  good  : Nat := 0
  fault : Bool := false
  deriving DecidableEq, Repr

/-- Diagnostics of the module (R516, R518). -/
structure ModDiag where
  eth : ClkChk := {}
  can : ClkChk := {}
  zen : ClkChk := {}
  boardTemp : Int := 0
  /-- Held bits of the summary. -/
  lockstep  : Bool := false
  memUncorr : Bool := false
  memCollide : Bool := false
  memMarch  : Bool := false
  collide   : Nat := 0
  nPoisoned : Nat := 0
  lastPoisoned : Nat := 0
  deriving DecidableEq, Repr

/-! ## Redundant pair (R412 to R443) -/

/-- One Contrail lane (R424): up, its error count, and the instants of its latest errors. -/
structure Lane where
  up     : Bool := false
  errs   : Nat := 0
  recent : List Nat := []
  /-- Instant from which the lane has been free of errors: its latest error, its fall, or the start of the unit (R424). -/
  cleanAt : Nat := 0
  /-- The lane failed its self-test and stays down for the run (R497). -/
  broken : Bool := false
  deriving DecidableEq, Repr

/-- The pair as this unit sees it (R441), with its progress. -/
structure Pair where
  /-- Role code of R418. -/
  role   : Nat := 0
  unitB  : Bool := false
  sync   : Nat := 0
  lane0  : Lane := {}
  lane1  : Lane := {}
  holdA  : Nat := 0
  holdB  : Nat := 0
  token  : Nat := 0
  /-- Instant of the latest change of the token (R423). -/
  tokenAt : Nat := 0
  cause  : Nat := 0
  tries  : Nat := 0
  syncFrame : Nat := 0
  takeovers : Nat := 0
  digestFail : Nat := 0
  /-- Channels with SHADOW set (bit c), and run lengths of mismatch and agreement (R429). -/
  shadow : Nat := 0
  shadowRun : Tab Nat := []
  partnerCfg : Nat := 0
  partnerFw  : Nat := 0
  partnerSerial : Nat := 0
  /-- Latest marker of the active, its frame number and instant (R426). -/
  marker   : Nat := 0
  markerAt : Nat := 0
  /-- PREV_LEN and lag of the frame record that came with the marker. -/
  markerLen : Nat := 0
  markerLag : Nat := 0
  /-- DEFER_COUNT of that record. -/
  markerDefer : Nat := 0
  /-- The active's frame record, entries, cell and CJC records of frame `marker` are complete. -/
  inputs   : Bool := false
  /-- This unit's digest of its latest complete frame, with its frame number. -/
  digest   : Option (Nat × Nat) := none
  /-- The partner's digest of a frame that this unit has not completed yet. -/
  heard    : Option (Nat × Nat) := none
  /-- The standby's notice for the open frame has come, or its wait has ended (R426). -/
  noticed  : Bool := false
  /-- The standby has acknowledged the inputs of this frame number. -/
  acked    : Option Nat := none
  /-- Digests that have agreed in the compare phase (R440). -/
  agreed   : Nat := 0
  /-- Since when the conditions of R438 have held without a break. -/
  readyFrom : Option Nat := none
  attempt  : Nat := 0
  /-- A SWITCHOVER assigned to this frame is under way (R436); the hold is lowered. -/
  switchAt : Option Nat := none
  lowered  : Bool := false
  /-- The unit is in a cold takeover: the strobe that sets its enable flag (R435). -/
  cold     : Option Nat := none
  /-- After a hot takeover: the strobe whose input records are written with STALE (R433). -/
  hot      : Option Nat := none
  deriving DecidableEq, Repr

/-- The witness's Halo logic (R421). -/
structure Witness where
  holder  : Option Nat := none
  /-- Instant at which the holder was named; its grace ends 100 µs later. -/
  namedAt : Nat := 0
  grace   : Bool := false
  startAt : Nat := 0
  deriving DecidableEq, Repr

/-! ## Images of a frame -/

/-- The output image (R38, R66): DO states as a mask over channels, and AO-I currents in nA. -/
structure OutImg where
  dos : Nat := 0
  aos : Tab Int := []
  deriving DecidableEq, Repr

/-- What a reader sees of the latest complete frame (R323, R374). -/
structure FrameImg where
  frame  : Nat := 0
  res    : Tab Rec := []
  points : Tab AlmPt := []
  groups : Tab Grp := []
  call   : Nat := 0
  safe   : Tab Rec := []
  /-- Image that evaluated it. -/
  image  : Image := []
  deriving DecidableEq, Repr

/-- An open trace stream (R69): its first frame, the last frame sent, the next segment, and the bytes not yet sent, each run with the
frame that is sent whole once it has left. -/
structure Trace where
  first   : Nat := 0
  last    : Nat := 0
  segment : Nat := 0
  out     : List (Nat × List Byte) := []
  deriving DecidableEq, Repr

/-- The host side of the ports: sessions, replies that are pending, ownership and the trace stream. -/
structure Hosts where
  sess   : Tab Session := []
  pend   : List Pending := []
  owner  : Owner := {}
  trace  : Option Trace := none
  deriving DecidableEq, Repr

/-- The owner and the ports whose claims are collected have sessions (R343, R348). -/
def Hosts.sessioned (h : Hosts) : Bool :=
  let held (c : Nat) : Bool := decide ((tabGet {} h.sess c).id ≠ 0)
  (match h.owner.owner with
    | some c => held c
    | none => true) && h.owner.claims.all fun x => held x.code

/-- Replay (R70): the next segment, the bytes not yet replayed, and whether the snapshot has been taken at a strobe, from
which on the bytes are frames. -/
structure Replay where
  next  : Nat := 0
  bytes : List Byte := []
  begun : Bool := false
  /-- The host side of the recorded run; while an input of the trace is processed, the live one. -/
  hosts : Hosts := {}
  /-- An input of the trace is being processed. -/
  within : Bool := false
  deriving DecidableEq, Repr

/-- Bit `i` of a mask set or cleared. -/
def setBit (m i : Nat) (v : Bool) : Nat := if v = m.testBit i then m else m ^^^ 2 ^ i

end Sys2Proof.Machine
end

