-- ==== Sys2Proof/Machine/Sections.lean ====
section
/-! DEFINITION. The sections of the state: configuration, frame inputs, blocks, engines, Nimbus, Zenith controller, CAN and ports,
and the state of a frame that a snapshot or a resynchronisation copies. -/

namespace Sys2Proof.Machine

/-- The configuration images (R330, R541, R548). -/
structure CfgPart where
  /-- Running image and the header fields the node keeps for it. -/
  image   : Image := []
  hdr     : Header := {}
  staging : Image := []
  /-- Accepted commit or trim that takes effect at the next strobe. -/
  next    : Option NextCfg := none
  /-- The staging image becomes a copy of the running one at the next strobe (R330, R356). -/
  restage : Bool := false
  slotA   : Option Slot := none
  slotB   : Option Slot := none
  store   : Option Store := none
  trims   : List Trim := []
  deriving DecidableEq, Repr

/-- The frame input image and the inputs that gather for the next frame (R52 to R59). -/
structure InPart where
  /-- Cell records of the open frame, the channels whose record is STALE, and those whose record is there. -/
  recs    : Tab Rec := []
  stale   : Nat := 0
  arrived : Nat := 0
  /-- Channels whose record of the open frame a synchronised standby has from the active (R428). -/
  mirrored : Nat := 0
  /-- Records latched by the unit's own blocks, which a synchronised standby uses for the shadow check only. -/
  own     : Tab Rec := []
  cjc     : Tab CjcSensor := []
  /-- Entries stamped since the last strobe, entries deferred, and the entries of the open frame. -/
  gather  : List Entry := []
  held    : List Entry := []
  entries : List Entry := []
  cosNext : List CosEntry := []
  cosNow  : List CosEntry := []
  srcSeq  : Tab Nat := []
  deriving DecidableEq, Repr

/-- The 64 blocks with their cells. -/
structure BlkPart where
  acq   : Tab AcqCh := []
  seqr  : Tab BlkAcq := []
  blk   : Tab Blk := []
  dig   : Tab DigCell := []
  out   : Tab OutCell := []
  loop  : Tab LoopCell := []
  cell  : Tab CellDiag := []
  diag  : Tab BlkDiag := []
  modem : Tab Modem := []
  /-- Accepted state of the module BLANK line (R111). -/
  blank : Bool := false
  /-- Acquisition state of each channel before its latest conversion, for a latch in the same block clock cycle (R101). -/
  acqWas : Tab AcqCh := []
  /-- The image before the latest commit, and the blocks that still run under it: a block takes a new configuration at its latch,
  behind the records of the old mode (R93, R120). -/
  was    : Image := []
  behind : Nat := 0
  deriving DecidableEq, Repr

/-- Serving engines, result image and output image. -/
structure EngPart where
  ana  : Tab AnaCh := []
  pv   : Tab PrevVal := []
  ao   : Tab AoCh := []
  hart : Tab HartCh := []
  hdev : Tab (Tab HartDev) := []
  di   : Tab DiCh := []
  pi   : Tab PiCh := []
  dout : Tab DoCh := []
  /-- CLEAR_TOTAL of the open frame, as a mask over channels (R199). -/
  clear : Nat := 0
  /-- A command 3 reply from address 0 is assigned to the open frame, per channel (R182). -/
  got3 : Nat := 0
  /-- Result image of the open frame. -/
  res  : Tab Rec := []
  /-- Output image being formed, of the frame before, and the shadow that the blocks hold. -/
  out    : OutImg := {}
  outWas : OutImg := {}
  shadow : OutImg := {}
  /-- Cells to which the distribution of the open frame sends a no-update symbol, as a mask (R475). -/
  noUpd  : Nat := 0
  /-- FS_LOW and FS_OFF of the regions and SAFE_SEEN of the blocks in the frame before (R208, R210). -/
  fsLow  : Nat := 0
  fsOff  : Nat := 0
  seen   : Nat := 0
  /-- Engines whose END has arrived, and engines that withhold it (R62). -/
  ends   : Nat := 0
  silentHold : Nat := 0
  /-- Poisoned sources of the open frame and the first cause (R477). -/
  poison : Nat := 0
  pcause : Nat := 0
  /-- Event requests of the engines by slot, `evSlot` of engine and ITEM (R61, R63). -/
  ev     : Tab (Option EvReq) := []
  /-- Slots of postings that no rule reads: of an engine that does not serve the item, and of reserved kinds; keyed by engine,
  KIND and ITEM (R61). -/
  stray  : Tab PostBody := []
  deriving DecidableEq, Repr

/-- Nimbus engines: safety functions and Denif Safe Channel. -/
structure SafePart where
  fnA : Tab SafeFn := []
  fnB : Tab SafeFn := []
  exA : Tab Exch := []
  exB : Tab Exch := []
  buttons : Tab Button := []
  /-- Resets of the open frame: bit 0 by opcode, bit 1 by RESET_CH (R219), and DSC resets as a mask. -/
  resets : Tab Nat := []
  dscResets : Nat := 0
  dscA : Tab Dsc := []
  dscB : Tab Dsc := []
  /-- Functions and connections already evaluated in this frame, and regions that passed the barrier. -/
  doneFn  : Nat := 0
  doneDsc : Nat := 0
  passed  : Nat := 0
  /-- Safety results of the open frame, Nimbus-A then Nimbus-B. -/
  resA : Tab Rec := []
  resB : Tab Rec := []
  deriving DecidableEq, Repr

/-- Alarm engine and engineer call, with the work done in the open frame. -/
structure AlmPart where
  pts  : Tab AlmPt := []
  grps : Tab Grp := []
  call : CallSys := {}
  stations : Tab Station := []
  /-- Points below this number, and groups below `grpNext`, have been evaluated in this frame. -/
  next    : Nat := 0
  grpNext : Nat := 0
  firstOuts : List EvReq := []
  /-- Step 5 of R267 has been done; its events. -/
  callDone : Bool := false
  callEv   : List EvReq := []
  /-- Alarm requests that came after the points of their frame had been evaluated: they act in the next frame (R267). -/
  waiting  : List (PktHead × Op) := []
  deriving DecidableEq, Repr

/-- CAN controllers, message objects and the transports of CAN0 and CAN1. -/
structure CanPart where
  objs : Tab CanObj := []
  ctls : Tab CanCtl := []
  iso  : Tab IsoTp := []
  /-- Loads of WRITE_CANOBJ in the open frame, which enter message RAM when it is closed (R394). -/
  loads : List (Nat × List Byte) := []
  deriving DecidableEq, Repr

/-- Host ports, sessions, ownership and replies. -/
structure PortPart where
  sess   : Tab Session := []
  pend   : List Pending := []
  /-- Packets sent, latest last. -/
  outbox : List Reply := []
  owner  : Owner := {}
  st     : Tab PortSt := []
  /-- What the ports have put on their wires, latest last. -/
  wire   : List PortOut := []
  trace  : Option Trace := none
  replay : Bool := false
  replayIn : Replay := {}
  /-- Events of the configuration (R554) and of RTC alarms in the open frame. -/
  cfgEv  : List EvReq := []
  rtcEv  : List EvReq := []
  deriving DecidableEq, Repr

/-! ## State of a frame -/

/-- The state from which frames are computed, at an instant between two frames or at a strobe (R65, R69, R439): frame record,
staging image and what waits for the next strobe, held records, engines, functions, alarms, CAN objects, sessions, ownership and
the frame that readers see. -/
structure Snap where
  fr      : FrameClk := {}
  staging : Image := []
  next    : Option NextCfg := none
  restage : Bool := false
  trims   : List Trim := []
  confirmed : Nat := 0
  recs    : Tab Rec := []
  stale   : Nat := 0
  cjc     : Tab CjcSensor := []
  eng     : EngPart := {}
  safe    : SafePart := {}
  alm     : AlmPart := {}
  objs    : Tab CanObj := []
  hosts   : Hosts := {}
  shown   : FrameImg := {}
  deriving DecidableEq, Repr

/-- The end of a resynchronisation copy: its instant, and the active's state after the frame of the last slice (R439). -/
structure ResyncEnd where
  t    : Nat
  copy : Snap
  deriving DecidableEq, Repr

end Sys2Proof.Machine
end

