-- ==== Sys2Proof/Syntax.lean ====
section
/-! DEFINITION. The commands of the block: one constructor for each row of the command table. `t` is the instant of a
happening in Zenith cycles. An opcode row carries the header of its packet. -/

namespace Sys2Proof

/-- A command of the node or a happening that acts on it. -/
inductive Instr where
  /-- R45. The Zenith frame scheduler issues strobe n+1 once frame n is complete and its target has passed, opening the next numbered frame. -/
  | frameStrobe (t : Nat)
  /-- R35. A block latches its cells' values on the first strobe symbol to arrive and applies its output shadow. -/
  | blockLatch (t blk : Nat) (meas : List CellMeas) (clk : Nat)
  /-- R34. A strobe symbol that arrives on another coupler of the block more than 1 µs after the first, or not within 20 µs, is reported as a coupler frame error for that cell. -/
  | strobeCouplerError (t ch : Nat)
  /-- R59. A cell record absent 200 µs after the strobe is written missing with STALE, and event 0205h is recorded. -/
  | cellRecordMissing (t ch : Nat)
  /-- R59. The region engines begin evaluating frame n once every cell record latched at strobe n is in the scratchpad. -/
  | frameEvaluationStart (t held : Nat)
  /-- R215. When the partner's exchange records of frame n are all present, a Nimbus engine passes the barrier and runs passes 2 and 3. -/
  | nimbusExchange (t g : Nat)
  /-- R221. When the discrepancy counter reaches N_d, the safety function goes to FAULT with cause 01h, or 06h for an SDI phase fault. -/
  | discrepancyFault (t f : Nat)
  /-- R61. The Horizon collector writes a posted entry into its fixed slot of the frame result image. -/
  | horizonPosting (t : Nat) (p : Posting)
  /-- R62. The collector closes frame n when the END entries of all 16 engines have arrived. -/
  | frameClose (e : FrameEnd)
  /-- R264. When an alarm point's delay counter passes N_on or N_off, its condition C takes the source value. -/
  | alarmDelayExpiry (t p : Nat)
  /-- R270. When the hold counter h reaches 0, the suppression of an alarm point ends. -/
  | suppressionHoldEnd (t p : Nat)
  /-- R271. When the shelf timer of a shelved point reaches 0, the point leaves SHELVED. -/
  | shelfExpiry (t p : Nat)
  /-- R275. When OBJ_CYCLE frames have passed since the last transmission, a group loads its CAN object again. -/
  | groupObjectCycle (t g : Nat)
  /-- R285. When the escalation counter reaches 0 during a duty call, the call state becomes ALL. -/
  | callEscalation (t : Nat)
  /-- R288. When the dead-man counter falls to N_pre, DM goes from RUN to PRE. -/
  | deadManPre (t : Nat)
  /-- R288. When the dead-man counter reaches 0, DM goes to ALARM and every station is called. -/
  | deadManExpiry (t : Nat)
  /-- R291. A CAN station with no message on RX_OBJ for ceil(3 s / P) frames sets LINK_LOST. -/
  | callLinkLost (t k : Nat)
  /-- R290. When OBJ_CYCLE frames have passed since the last transmission, a CAN station loads TX_OBJ again. -/
  | callObjectCycle (t k : Nat)
  /-- R47. A frame that is not complete 1.5 P after its strobe raises FRAME_LONG and records event 0201h. -/
  | frameLong (t : Nat)
  /-- R515. An engine that has not posted END 8 P after the strobe is marked ENG_SILENT. -/
  | engSilent (t e : Nat)
  /-- R248. When the elapsed frame time since the reference exceeds W, the connection goes to FAILSAFE with cause 01h. -/
  | dscWatchdogExpiry (t i : Nat)
  /-- R250. When W has elapsed since entry to FAILSAFE and the other conditions of row 5 hold, the connection goes to CONNECTING. -/
  | dscFailsafeRecovery (t i : Nat)
  /-- R240. After CYCLE frames without an accepted answer, or without a change of payload, the master sends its PDU again or sends a new request. -/
  | dscRepeat (t i : Nat)
  /-- R247. ERR_CNT falls by 1 each time 3,600 s of frame length passes while it is above 0. -/
  | dscErrDecay (t i : Nat)
  /-- R321. A session with no packet assigned to ceil(30 s / P) consecutive frames closes. -/
  | sessionTimeout (t code : Nat)
  /-- R351. When more than 2 s of elapsed time passes since the last renewal, ownership lapses, and 0D01h is recorded with reason 4. -/
  | leaseLapse (t : Nat)
  /-- R354. A handover offer that has not been accepted within 2 s ends, and 0D02h is recorded. -/
  | offerLapse (t : Nat)
  /-- R348. When 250 ms have passed since the window opened, the claim window closes, and the claimant with the highest priority becomes owner. -/
  | claimWindowClose (t : Nat)
  /-- R52. A whole command packet with its CRC checked is stamped and given to a frame, or is discarded under R319. -/
  | packetReceive (t port ip udp : Nat) (bytes : List Byte)
  /-- R324. The active runs the session and ownership checks on a packet forwarded by the standby, and executes it or hands it back. -/
  | forwardedPacket (t code ip udp : Nat) (bytes : List Byte)
  /-- R334. Returns the open frame number, the role and the replay flag. -/
  | ping (h : PktHead)
  /-- R321. Opens a session on the port, numbered from the frame number, and closes any earlier session. -/
  | openSession (h : PktHead)
  /-- R321. Closes the port's session. -/
  | closeSession (h : PktHead)
  /-- R516. Returns the 32-word status summary as it stands when the frame is complete. -/
  | readSummary (h : PktHead)
  /-- R72. Returns the frame status block. -/
  | readFrameStatus (h : PktHead)
  /-- R72. Requests that the frame status counters be cleared at the next strobe. -/
  | clearFrameStatus (h : PktHead)
  /-- R501. Accepts a warm restart, which begins once its reply has left the port. -/
  | warmRestart (h : PktHead)
  /-- R501. Once the reply has left, or on release of RST_BTN, the unit stops in order and runs the start-up sequence. -/
  | warmRestartBegin (t : Nat) (bist : Bist)
  /-- R69. Opens a trace stream with a state snapshot at strobe n+1. -/
  | traceOpen (h : PktHead)
  /-- R334. Closes the trace stream and returns the last frame sent. -/
  | traceClose (h : PktHead)
  /-- R70. Puts a single node into replay, with its outputs and transmissions off. -/
  | replayStart (h : PktHead)
  /-- R334. Loads a segment of trace bytes for replay. -/
  | replayData (h : PktHead) (segment : Nat) (bytes : List Byte)
  /-- R347. Claims ownership, opening or joining a claim window when ownership is vacant. -/
  | claim (h : PktHead)
  /-- R350. Renews the owner's lease and does nothing else. -/
  | renew (h : PktHead)
  /-- R352. The owner offers ownership to another port. -/
  | handover (h : PktHead) (target : Nat)
  /-- R353. Takes a standing handover offer and makes the port the owner. -/
  | accept (h : PktHead)
  /-- R355. The owner releases ownership, which becomes vacant. -/
  | release (h : PktHead)
  /-- R334. Returns the owner code and the handover target. -/
  | readOwner (h : PktHead)
  /-- R328. Reads bytes of a configuration class from the running or the staging image. -/
  | readObject (h : PktHead) (staging : Bool) (cls ix off len : Nat)
  /-- R329. Writes masked bytes into the staging image. -/
  | writeObject (h : PktHead) (cls ix off len : Nat) (data mask : List Byte)
  /-- R331. Checks the staging image in stages and, when it is valid, makes it the running configuration at strobe n+1. -/
  | commit (h : PktHead)
  /-- R330. Makes the staging image a copy of the running configuration again. -/
  | discard (h : PktHead)
  /-- R542. Returns the configuration, safety, confirmed and staging CRCs. -/
  | readCrc (h : PktHead)
  /-- R335. Reads bytes of a stored configuration slot. -/
  | readImage (h : PktHead) (slot off len : Nat)
  /-- R335. Loads image bytes into the staging image, keeping its RO bits. -/
  | loadImage (h : PktHead) (off : Nat) (data : List Byte)
  /-- R336. Returns the channel results of a run of channels. -/
  | readResults (h : PktHead) (first count : Nat)
  /-- R336. Returns the latched cell records of a run of channels. -/
  | readRecords (h : PktHead) (first count : Nat)
  /-- R336. Returns the 16 CJC records. -/
  | readCjc (h : PktHead)
  /-- R186. Writes the host state of a DO channel, which is applied at strobe n+1. -/
  | writeDo (h : PktHead) (ch : Nat) (st : Bool)
  /-- R165. Writes the host value of an AO-I channel, which is applied at strobe n+1. -/
  | writeAo (h : PktHead) (ch : Nat) (v : Int)
  /-- R140. Starts a zero trim of a channel against a reference over frames n+1 to n+16. -/
  | trimZero (h : PktHead) (ch : Nat) (ref : Int)
  /-- R140. Starts a span trim of a channel against a reference over frames n+1 to n+16. -/
  | trimSpan (h : PktHead) (ch : Nat) (ref : Int)
  /-- R142. After 16 frames of records the trim is computed, checked and made part of the running configuration at frame n+17. -/
  | trimComplete (t ch : Nat)
  /-- R199. Clears TOTAL of a PI channel before that frame's count is added. -/
  | clearTotal (h : PktHead) (ch : Nat)
  /-- R337. Returns the point status blocks of a run of points. -/
  | readPoints (h : PktHead) (first count : Nat)
  /-- R337. Returns the group status blocks of a run of groups. -/
  | readGroups (h : PktHead) (first count : Nat)
  /-- R268. Acknowledges one point, one group or all points from location 0. -/
  | ack (h : PktHead) (scope target : Nat)
  /-- R268. Shelves a point for d minutes. -/
  | shelve (h : PktHead) (p d : Nat)
  /-- R268. Ends the shelving of a point. -/
  | unshelve (h : PktHead) (p : Nat)
  /-- R268. Takes a point out of service. -/
  | remove (h : PktHead) (p : Nat)
  /-- R268. Returns an out-of-service point to service. -/
  | return_ (h : PktHead) (p : Nat)
  /-- R337. Returns the call status block. -/
  | readCall (h : PktHead)
  /-- R284. The owner selects the duty station, or none. -/
  | selectDuty (h : PktHead) (station : Nat)
  /-- R311. Returns records from the main log or the sealed log, starting at a sequence number. -/
  | readEvents (h : PktHead) (sealLog : Bool) (rsv maxN fromSeq : Nat)
  /-- R313. Returns the recorder status block. -/
  | readRecorder (h : PktHead)
  /-- R450. Reads the time block coherently through freeze and release, and records 0C14h when the read is torn. -/
  | readTime (h : PktHead) (torn : Bool)
  /-- R454. Writes the staging set of the clock. -/
  | stageTime (h : PktHead) (set : List Byte)
  /-- R455. Checks the staging set and commits it to the clock, or refuses it with BAD_DATE. -/
  | commitTime (h : PktHead)
  /-- R452. Sets the weekday counter. -/
  | setWeekday (h : PktHead) (w : Nat)
  /-- R338. Reads bytes of the backup RAM. -/
  | readBackup (h : PktHead) (off len : Nat)
  /-- R463. Fills the backup RAM write buffer and commits it whole. -/
  | writeBackup (h : PktHead) (off len : Nat) (data : List Byte)
  /-- R339. Returns the Nimbus-A and Nimbus-B safety results of a run of functions. -/
  | readSafety (h : PktHead) (first count : Nat)
  /-- R219. Gives an acknowledge or safety reset to a safety function in its frame of effect. -/
  | safetyReset (h : PktHead) (f : Nat)
  /-- R545. Confirms the safety CRC, or refuses it with SAFETY_CRC. -/
  | confirm (h : PktHead) (crc : Nat)
  /-- R339. Returns the connection status blocks of a run of connections. -/
  | readDsc (h : PktHead) (first count : Nat)
  /-- R250. Gives a DSC reset that lets a connection leave FAILSAFE when ACK_REQ = 1. -/
  | dscReset (h : PktHead) (i : Nat)
  /-- R441. Returns the pair status block. -/
  | readPair (h : PktHead)
  /-- R438. Starts resynchronisation of the standby when its conditions hold. -/
  | resync (h : PktHead)
  /-- R436. Starts a commanded exchange of roles between the active and a synchronised standby. -/
  | switchover (h : PktHead)
  /-- R436. On the standby's acknowledgement of frame n+1 inputs, the active lowers its hold to standby level so that the token moves. -/
  | switchoverHandoff (t : Nat)
  /-- R518. Returns the detail block of a cell, block, region or the module. -/
  | readDiag (h : PktHead) (level index : Nat)
  /-- R486. Returns the memory health block. -/
  | readMemory (h : PktHead)
  /-- R340. Clears the diagnostic counters and the held status bits. -/
  | clearCounters (h : PktHead)
  /-- R409. Returns the controller status and the object transmit entries. -/
  | readCan (h : PktHead) (ctl : Nat)
  /-- R393. Returns a CAN object's header and payload as they stand at the end of frame n. -/
  | readCanobj (h : PktHead) (obj : Nat)
  /-- R394. The owner loads the payload of a transmit object. -/
  | writeCanobj (h : PktHead) (obj : Nat) (data : List Byte)
  /-- R181. Returns entries of a channel's HART device table. -/
  | readHart (h : PktHead) (ch addr count : Nat)
  /-- R521. Returns the identity block. -/
  | readIdentity (h : PktHead)
  /-- R506. Returns the firmware slot block. -/
  | readFirmware (h : PktHead)
  /-- R97. A converter window closes, and the block selects the path and applies the notch filter to the new result. -/
  | conversionComplete (t blk : Nat) (lo hi tone : Int) (ov : PathOver) (compl : Bool)
  /-- R100. The ST slot runs one step of the converter and source self-test rotation. -/
  | selfTestSlot (t blk : Nat) (lo hi : Int)
  /-- R106. A source change or compliance change during an entry abandons the conversion and restarts settling. -/
  | excitationEvent (t blk : Nat) (opened compl : Bool)
  /-- R111. A BLANK level stable for 50 µs is accepted and blanks or unblanks the channels of every block. -/
  | blankLineChange (t heldUs : Nat) (level : Bool)
  /-- R112. A blank that lasts longer than BLANK_MAX sets BLANK_LONG. -/
  | blankLong (t ch : Nat)
  /-- R136. Every 10 ms the region reads a connector sensor and judges its validity and CJC_FAULT. -/
  | cjcReading (t conn : Nat) (reading : Option Int)
  /-- R190. When the samples have differed for the debounce count, STATE changes. -/
  | debouncedEdge (t ch : Nat) (e : EdgeSeen)
  /-- R87. In a scheduled frame, 100 µs after the latch, the test-pulse generator starts an off-pulse, an on-pulse or a line test. -/
  | testPulseStart (t blk level : Nat)
  /-- R202. At the end of the pulse the terminal is sampled, and TP_FAIL or LINE_FAULT is set. -/
  | testPulseEnd (t blk : Nat) (termV : Int) (current : Nat) (levelOn : Bool)
  /-- R207. A field supply below 19.2 V for 1 ms sets FS_LOW. -/
  | fsLowSet (t blk mv heldUs : Nat)
  /-- R207. A field supply at 19.6 V or above for 10 ms clears FS_LOW. -/
  | fsLowClear (t blk mv heldUs : Nat)
  /-- R207. A field supply below 16.0 V for 200 µs switches DO off and sets AO-I targets to 0 mA. -/
  | fsOffSet (t blk mv heldUs : Nat)
  /-- R207. A field supply at 18.0 V or above for 10 ms is accepted, and the outputs take their shadow at the next strobe. -/
  | fsOffEnd (t blk mv heldUs : Nat)
  /-- R209. A DO or AO-I cell without a valid symbol for SILENCE, or without a strobe, enters its safe state. -/
  | logicSilence (t ch silentUs : Nat) (strobe : Bool)
  /-- R167. A dissipation above 1.2 W for 1 ms lowers the AO-I target to the current that gives 1.0 W. -/
  | foldback (t ch : Nat) (i : Int) (mw heldUs : Nat)
  /-- R167. After 1 s of foldback the cell starts to raise the target again. -/
  | foldbackHoldEnd (t ch : Nat)
  /-- R167. Every 100 ms the target rises by 1 mA until it equals the commanded current, and then FOLDBACK clears. -/
  | foldbackRampStep (t ch : Nat)
  /-- R419. A block of a pair unit withholds its outputs 4 µs after a symbol with the flag at 0, or after 4 µs without any valid symbol. -/
  | enableFlagLoss (t blk : Nat)
  /-- R419. A symbol with the enable flag at 1 releases the block's outputs. -/
  | enableFlagSet (t blk : Nat)
  /-- R207. Below the 14.0 V lockout the block loses island power, and its outputs become unpowered. -/
  | blockPowerLost (t blk mv : Nat)
  /-- R494. Field supply at 16.5 V or above for 10 ms powers the block up, and it is configured and re-initialised. -/
  | blockPowerRestore (t blk mv heldUs : Nat)
  /-- R514. A cell temperature above 150 °C for 1 ms sets CELL_THERM, which clears below 135 °C. -/
  | cellTherm (t ch : Nat) (temp : Int) (heldUs : Nat)
  /-- R514. An island converter output outside ±5 % for 1 ms sets ISLAND_PWR. -/
  | islandPwr (t blk islandMv fsMv nominalMv heldUs : Nat)
  /-- R514. Each second the region and module clocks are compared with the Zenith clock, raising REG_CLOCK or CLK_FAULT. -/
  | clockCheck (t dom : Nat) (dev : Int)
  /-- R25. A mismatch of the Zenith cores poisons the frame and fails the unit's self-check. -/
  | zenLockstep (t : Nat)
  /-- R179. The modem schedule makes a command 0, 3 or 48 request or a recheck due, and sends it when no carrier stands. -/
  | hartRequestDue (t cell cmd addr : Nat) (carrier : Bool)
  /-- R178. When no valid reply begins within 305 ms, the request is retried, and after three attempts it counts as failed. -/
  | hartReplyTimeout (t : Nat) (q : HartSilence)
  /-- R52. A valid FSK reply completes in the modem pool and is stamped as an input. -/
  | hartReply (t cell : Nat) (r : HartChars)
  /-- R388. A valid bus frame is passed to the transport, stored in a receive object, or rejected by the filters. -/
  | canFrameReceived (t ctl : Nat) (m : CanMsg)
  /-- R391. The Zenith controller takes a whole message from a receive object and stamps it as an input. -/
  | canMessageTake (t obj : Nat) (poison : Bool)
  /-- R395. A frame sent without error clears TX_PEND, lowers TEC and resets ACKRUN. -/
  | canTxSuccess (t ctl : Nat) (who : CanWho)
  /-- R396. An attempt ending in error raises the error counts and may end the request with RETRY_LIMIT. -/
  | canTxError (t ctl : Nat) (who : CanWho) (err : Nat) (dominant : Bool)
  /-- R399. After 128 occurrences of 11 recessive bits a bus-off controller returns to error active. -/
  | canBusoffRecovery (t ctl seen : Nat)
  /-- R404. CYCLE_LEN after the previous cycle start, the time master makes its reference message pending. -/
  | canReferenceMessage (t ctl : Nat)
  /-- R405. At TT_MARK of a matching cycle the controller starts the object's frame, or counts TT_MISS. -/
  | canTtWindow (t obj : Nat) (idle : Bool)
  /-- R318. An ISO 15765-2 transfer whose N_Bs or N_Cr of 1,000 ms expires is dropped and counted. -/
  | isotpTimeout (t ctl : Nat)
  /-- R365. An Ethernet frame is handled as ARP, ICMP echo or UDP, or is discarded and counted. -/
  | ethFrameReceived (t port : Nat) (m : EthMsg)
  /-- R368. A datagram whose fragments are not all present 250 ms after the first is discarded. -/
  | fragDrop (t port src : Nat)
  /-- R366. A datagram that has waited 1 s for an ARP reply is dropped. -/
  | arpWaitTimeout (t port hop : Nat)
  /-- R366. An ARP entry ages out 300 s after its last confirmation. -/
  | arpEntryAgeOut (t port ip : Nat)
  /-- R370. A new active announces SVC_IP at 0, 100 and 200 ms after it takes the role. -/
  | gratuitousArp (t port : Nat)
  /-- R380. An Ethernet link comes up or goes down, and 0E01h is recorded. -/
  | portLink (t port : Nat) (up : Bool) (speed : Nat)
  /-- R363. The PLCA status of ETH2 changes, and 0E02h is recorded. -/
  | plcaStatus (t : Nat) (p : PlcaSeen)
  /-- R372. A closing flag ends a SER0 frame, which is stamped as a packet or aborted. -/
  | serFrameReceived (t : Nat) (bytes : List Byte)
  /-- R372. A gap of more than 10 ms within a SER0 frame aborts the frame. -/
  | serGapTimeout (t gapUs : Nat)
  /-- R374. A Modbus RTU request to MB_ADDR is answered from the latest complete frame, or with an exception. -/
  | modbusRequest (t : Nat) (r : RtuRequest)
  /-- R308. The writer writes a queued record, its slot check and NEXT_SEQ into MRAM, and into the sealed log for a sealed record. -/
  | eventRecordWrite (t : Nat)
  /-- R305. When a place becomes free after records were counted, a LOST record takes it first. -/
  | lostRecordAdmit (t : Nat)
  /-- R297. At each whole operating second the operating seconds are written to MRAM. -/
  | operatingSecond (t : Nat)
  /-- R444. A logic rail below 3.00 V locks the Twilight interface and discards an uncommitted write buffer. -/
  | twilightLock (t mv : Nat)
  /-- R444. A logic rail below 2.90 V switches the domain to VBAK. -/
  | twilightToBackup (t mv : Nat)
  /-- R444. A logic rail above 3.00 V switches the domain back to the rail. -/
  | twilightToRail (t mv : Nat)
  /-- R444. A logic rail above 3.10 V for 10 ms unlocks the Twilight interface. -/
  | twilightUnlock (t mv heldUs : Nat)
  /-- R446. VBAK below 1.8 V without the rail loses the domain's contents, which restart at their reset values. -/
  | twilightContentLost (t mv : Nat)
  /-- R459. At each second increment the clock advances the calendar and weekday, wraps, and fires matching alarms. -/
  | rtcSecond (t : Nat)
  /-- R447. Every 60 s the domain measures VBAK, sets or clears BAK_LOW, and corrects its crystal by temperature. -/
  | bakLowCheck (t mv : Nat) (temp : Int)
  /-- R450. A read of offset 00h copies and freezes the time block. -/
  | rtcFreeze (t : Nat)
  /-- R450. A read of offset 0Ch returns the shadow and releases the freeze. -/
  | rtcRelease (t : Nat)
  /-- R450. A freeze not released within 2 ms ends and sets TORN. -/
  | rtcFreezeTimeout (t : Nat)
  /-- R456. The CTRL COMMIT bit sets the clock from the staging set and fires skip firings or re-arms alarms. -/
  | twilightTimeCommit (t : Nat)
  /-- R452. The CTRL SET_WDAY bit sets the weekday counter. -/
  | twilightSetWday (t w : Nat)
  /-- R457. The CTRL LOAD_ALARMS bit loads the alarm settings from the RTC class. -/
  | twilightLoadAlarms (t : Nat)
  /-- R463. The CTRL BRAM_COMMIT bit applies the backup RAM write buffer whole. -/
  | twilightBramCommit (t : Nat)
  /-- R448. A write to a Twilight register without an action of its own, such as the staging set or the write buffer. -/
  | twilightRegisterWrite (t off v : Nat)
  /-- R462. On a firing, the Zenith controller reads TS_STAT, clears FIRED and stamps the alarm entry. -/
  | rtcAlarmStamp (t alarm : Nat)
  /-- R491. A logic feed enters or leaves LOW or HIGH after its filter time, and 0101h is recorded. -/
  | feedState (t feed mv heldUs : Nat)
  /-- R491. A field feed enters or leaves LOW or ABSENT after its filter time, and 0102h is recorded. -/
  | fsFeed (t feed mv heldUs : Nat)
  /-- R493. An ORed logic feed below 16.0 V for 50 µs triggers the orderly stop. -/
  | supplyDecline (t mv heldUs : Nat)
  /-- R493. An ORed feed at 18.5 V or above for 100 ms with ENABLE closed restarts a stopped unit. -/
  | supplyRecovery (t mv heldUs : Nat) (bist : Bist)
  /-- R495. With the logic rail good for 10 ms, the start-up sequence of clear, load, self-test and configuration runs. -/
  | powerOn (t : Nat) (held : Bool) (bist : Bist)
  /-- R423. A pair unit decides its role from the token, or after 2 s of token absence, and strobe 0 follows. -/
  | roleDecision (t : Nat)
  /-- R502. A closure of RST_BTN of at least 50 ms followed by 20 ms open begins a warm restart. -/
  | resetButtonRelease (t closedMs openMs : Nat) (bist : Bist)
  /-- R503. RST_BTN still closed 10 s after power-on lets start-up continue, and sets RST_STUCK. -/
  | resetInputStuck (t : Nat) (bist : Bist)
  /-- R503. The reset contact seen open for 50 ms clears RST_STUCK, or lets a held start-up continue. -/
  | resetInputFreed (t openMs : Nat) (bist : Bist)
  /-- R504. ENABLE open for 100 ms stops the node and enters the OFF standby state. -/
  | offEntry (t openMs : Nat)
  /-- R505. ENABLE closed for 100 ms, or an RTC alarm with WAKE = 1, wakes the node from OFF. -/
  | wake (t closedMs : Nat) (alarm : Option Nat) (bist : Bist)
  /-- R474. A corrected codeword is written back in the next idle cycle of its bank. -/
  | correctionWriteback (t mem bank cw req : Nat) (a : MemCycle)
  /-- R480. Haze borrows a bank idle for 16 cycles and runs a scrub or march step over up to 16 codewords. -/
  | hazeStep (t mem bank cw : Nat) (march : Bool) (words : List Nat)
  /-- R480. A request to a borrowed bank makes Haze restore the codeword, release the bank and mark the step for repeat. -/
  | hazeYield (t mem bank cw : Nat) (march : Bool)
  /-- R479. A completed scrub or march pass sets or clears SLOW. -/
  | hazePassEnd (t mem : Nat) (march : Bool)
  /-- R549. A store of the running image into MRAM completes its readback and records 0310h, or retries and records 0312h. -/
  | configStoreComplete (t : Nat) (differs : Option Nat)
  /-- R420. A hold current changes level band after its filter, and 0F04h is recorded. -/
  | haloHoldChange (t level : Nat) (own : Bool)
  /-- R421. The witness's Halo logic names a holder and sets the token polarity from the hold levels. -/
  | witnessTokenDecision (t : Nat)
  /-- R421. With no holder 2 s after the witness starts, the token names unit A. -/
  | witnessStartTimeout (t : Nat)
  /-- R422. A change of token at a unit changes its role by the role table, and 0F05h is recorded. -/
  | tokenChange (t token : Nat)
  /-- R422. An active unit B, with the token absent and the partner at active level for 10 µs, becomes standby. -/
  | activeYieldB (t heldUs : Nat)
  /-- R417. A failed self-check, such as no strobe for 16 P, puts the unit in FAILED and switches its hold off. -/
  | selfCheckFail (t : Nat)
  /-- R424. A Contrail lane error is counted, and 8 errors in 1 ms take the lane down. -/
  | laneError (t lane : Nat)
  /-- R424. A lane without a valid symbol for 2 µs goes down. -/
  | laneSilence (t lane : Nat)
  /-- R424. A lane aligned and free of errors for 100 ms comes up. -/
  | laneUp (t lane : Nat)
  /-- R424. A Contrail block arrives intact on either lane and its content is taken, or a block missing from both lanes unsynchronises the standby. -/
  | contrailBlockReceive (t : Nat) (r : LinkReceipt)
  /-- R426. The standby issues its strobe n on the active's marker once its frame n−1 is complete. -/
  | standbyStrobe (t : Nat)
  /-- R426. 100 µs after its own completion, the active counts the frame complete without the standby's notice. -/
  | standbyNoticeTimeout (t : Nat)
  /-- R427. On receipt of the partner's digest each unit compares it, and a difference records 0F06h and unsynchronises the standby. -/
  | digestCompare (t lane frame partner : Nat)
  /-- R438. With AUTO_RESYNC = 1, resynchronisation starts after its conditions have held for RESYNC_HOLD seconds. -/
  | resyncAutoStart (t : Nat)
  /-- R439. When the last state slice has been sent, the standby computes from the next frame on. -/
  | resyncCopyDone (e : Machine.ResyncEnd)
  /-- R440. After 16 agreeing digests the standby becomes SYNCHRONISED, or a failed attempt is counted. -/
  | resyncCompareDone (t : Nat) (ok : Bool)
  /-- R398. An error detected by a controller while it receives a frame raises REC and can take the controller to error passive. -/
  | canRxError (t ctl err : Nat) (eight : Bool)
  /-- R383. A controller receives an FD or XL frame its PROTO does not carry, enters the protocol exception state, waits for bus idle and counts PROTO_EXC. -/
  | canProtocolException (t ctl fmt : Nat)
  /-- R421. 100 µs after the witness names a holder, its grace ends and the token table applies again, moving the token when the holder is not at active level. -/
  | witnessHolderGraceEnd (t : Nat)
  /-- R178. 75 ms after a carrier on the loop ends, the modem cell may start a request that waited for the carrier. -/
  | hartCarrierEnd (t cell : Nat)
  /-- R201. The switch current limit or the block output rail limit acts on an overloaded DO output, setting ILIM or RAIL_LIM for the next record. -/
  | switchCurrentLimit (t ch : Nat) (rail : Bool)
  /-- R201. A DO switch's own thermal shutdown acts and later restarts by itself, setting THERM for the next record. -/
  | thermalShutdown (t ch : Nat)
  /-- R372. A SER0 character with a parity or framing error, a bad escape, or one past 8,192 bytes aborts the frame, which is discarded and counted. -/
  | serAbort (t : Nat)
  deriving DecidableEq, Repr

end Sys2Proof
end

