-- ==== Sys2Proof/WellFormed.lean ====
section
/-! DEFINITION. Well-formed commands: every operand lies in the range its unit or field has (R9 to R12, R487 and the opcode
tables of R334 to R340). -/

namespace Sys2Proof

/-- A channel number (R9). -/
def chOk (c : Nat) : Bool := decide (c < 512)

/-- A block number (R9). -/
def blkOk (b : Nat) : Bool := decide (b < 64)

/-- An owner code that names a port of either unit (R343). -/
def codeOk (c : Nat) : Bool := decide (c < 16) && decide (c % 8 < 6)

/-- A signed 32-bit parameter. -/
def i32Ok (v : Int) : Bool := decide (-2147483648 ≤ v) && decide (v < 2147483648)

/-- The header fields of a packet lie in their widths, and it came on a port of this unit (R316). -/
def headOk (h : PktHead) : Bool :=
  decide (h.port < 6) && decide (h.ip < 2 ^ 32) && decide (h.udp < 2 ^ 16) && decide (h.version < 2 ^ 8) && decide (h.flags < 2 ^ 7) &&
    decide (h.session < 2 ^ 16) && decide (h.seq < 2 ^ 32) && decide (h.status < 2 ^ 16)

/-- A posting entry of a region engine with its reserved bits 0 (R60, R8). -/
def postOk (p : Posting) : Bool := p.fits && decide (fld p.header 49 15 = 0)

/-- A CAN frame (R383). -/
def canOk (m : CanMsg) : Bool :=
  decide (m.id < (if m.xtd then 2 ^ 29 else 2 ^ 11)) && decide (m.fmt < 3) && decide (m.data.length ≤ 2048)

/-- What an attempt carries: an object is one of the 128 of its controller (R384). -/
def whoOk : CanWho → Bool
  | .object i _ => decide (i < 128)
  | _ => true

/-- Memory, bank and codeword exist (R466, R486). -/
def memHasB (mem bank cw : Nat) : Bool :=
  if mem < 0x10 then (decide (bank = 0) && decide (cw < 4096)) || (decide (bank = 1) && decide (cw < 1024))
  else if mem < 0x14 then decide (bank < 8) && decide (cw < 1024)
  else if mem = 0x14 then decide (bank < 32) && decide (cw < 2048)
  else if mem = 0x15 then decide (bank < 4) && decide (cw < 4096)
  else decide (mem = 0x16) && decide (bank < 8) && decide (cw < 65536)

/-- An access stays within the 32 data bytes of one codeword (R467). -/
def accOk : MemAccess → Bool
  | .read => true
  | .write off bytes => decide (0 < bytes.length) && decide (off + bytes.length ≤ 32)

/-- Every operand of a command lies in its range. -/
def Instr.wellFormed : Instr → Bool
  | .frameStrobe _ => true
  | .blockLatch _ blk meas clk => blkOk blk && decide (meas.length = 8) && decide (clk < 2 ^ 32)
  | .strobeCouplerError _ ch => chOk ch
  | .cellRecordMissing _ ch => chOk ch
  | .frameEvaluationStart _ held => decide (held < 2 ^ 16)
  | .nimbusExchange _ g => decide (g < 4)
  | .discrepancyFault _ f => decide (f < 32)
  | .horizonPosting _ p => postOk p
  | .frameClose _ => true
  | .alarmDelayExpiry _ p => decide (p < 2048)
  | .suppressionHoldEnd _ p => decide (p < 2048)
  | .shelfExpiry _ p => decide (p < 2048)
  | .groupObjectCycle _ g => decide (g < 64)
  | .callEscalation _ => true
  | .deadManPre _ => true
  | .deadManExpiry _ => true
  | .callLinkLost _ k => decide (k < 16)
  | .callObjectCycle _ k => decide (k < 16)
  | .frameLong _ => true
  | .engSilent _ e => decide (e < 16)
  | .dscWatchdogExpiry _ i => decide (i < 32)
  | .dscFailsafeRecovery _ i => decide (i < 32)
  | .dscRepeat _ i => decide (i < 32)
  | .dscErrDecay _ i => decide (i < 32)
  | .sessionTimeout _ code => codeOk code
  | .leaseLapse _ => true
  | .offerLapse _ => true
  | .claimWindowClose _ => true
  | .packetReceive _ port ip udp _ => decide (port < 6) && decide (ip < 2 ^ 32) && decide (udp < 2 ^ 16)
  | .forwardedPacket _ code ip udp _ => codeOk code && decide (ip < 2 ^ 32) && decide (udp < 2 ^ 16)
  | .ping h => headOk h
  | .openSession h => headOk h
  | .closeSession h => headOk h
  | .readSummary h => headOk h
  | .readFrameStatus h => headOk h
  | .clearFrameStatus h => headOk h
  | .warmRestart h => headOk h
  | .warmRestartBegin _ _ => true
  | .traceOpen h => headOk h
  | .traceClose h => headOk h
  | .replayStart h => headOk h
  | .replayData h segment bytes => headOk h && decide (segment < 2 ^ 32) && decide (bytes.length ≤ 8168)
  | .claim h => headOk h
  | .renew h => headOk h
  | .handover h target => headOk h && decide (target < 2 ^ 8)
  | .accept h => headOk h
  | .release h => headOk h
  | .readOwner h => headOk h
  | .readObject h _ cls ix off len => headOk h && decide (cls < 2 ^ 8) && decide (ix < 2 ^ 16) && decide (off < 2 ^ 16) && decide (len < 2 ^ 16)
  | .writeObject h cls ix off len data mask => headOk h && decide (cls < 2 ^ 8) && decide (ix < 2 ^ 16) && decide (off < 2 ^ 16) && decide (len < 2 ^ 16) && decide (data.length = len) && decide (mask.length = len)
  | .commit h => headOk h
  | .discard h => headOk h
  | .readCrc h => headOk h
  | .readImage h slot off len => headOk h && decide (slot < 2 ^ 8) && decide (off < 2 ^ 32) && decide (len < 2 ^ 16)
  | .loadImage h off data => headOk h && decide (off < 2 ^ 32) && decide (data.length ≤ 8168)
  | .readResults h first count => headOk h && decide (first < 2 ^ 9) && decide (count < 2 ^ 8)
  | .readRecords h first count => headOk h && decide (first < 2 ^ 9) && decide (count < 2 ^ 8)
  | .readCjc h => headOk h
  | .writeDo h ch _ => headOk h && chOk ch
  | .writeAo h ch v => headOk h && chOk ch && i32Ok v
  | .trimZero h ch ref => headOk h && chOk ch && i32Ok ref
  | .trimSpan h ch ref => headOk h && chOk ch && i32Ok ref
  | .trimComplete _ ch => chOk ch
  | .clearTotal h ch => headOk h && chOk ch
  | .readPoints h first count => headOk h && decide (first < 2 ^ 11) && decide (count < 2 ^ 8)
  | .readGroups h first count => headOk h && decide (first < 2 ^ 6) && decide (count < 2 ^ 8)
  | .ack h scope target => headOk h && decide (scope < 2 ^ 2) && decide (target < 2 ^ 11)
  | .shelve h p d => headOk h && decide (p < 2 ^ 11) && decide (d < 2 ^ 11)
  | .unshelve h p => headOk h && decide (p < 2 ^ 11)
  | .remove h p => headOk h && decide (p < 2 ^ 11)
  | .return_ h p => headOk h && decide (p < 2 ^ 11)
  | .readCall h => headOk h
  | .selectDuty h station => headOk h && decide (station < 2 ^ 8)
  | .readEvents h _ rsv maxN fromSeq => headOk h && decide (rsv < 2 ^ 23) && decide (maxN < 2 ^ 8) && decide (fromSeq < 2 ^ 32)
  | .readRecorder h => headOk h
  | .readTime h _ => headOk h
  | .stageTime h set => headOk h && decide (set.length = 12)
  | .commitTime h => headOk h
  | .setWeekday h w => headOk h && decide (w < 2 ^ 3)
  | .readBackup h off len => headOk h && decide (off < 2 ^ 7) && decide (len < 2 ^ 8)
  | .writeBackup h off len data => headOk h && decide (off < 2 ^ 7) && decide (len < 2 ^ 8) && decide (data.length = len)
  | .readSafety h first count => headOk h && decide (first < 2 ^ 5) && decide (count < 2 ^ 6)
  | .safetyReset h f => headOk h && decide (f < 32)
  | .confirm h crc => headOk h && decide (crc < 2 ^ 32)
  | .readDsc h first count => headOk h && decide (first < 2 ^ 5) && decide (count < 2 ^ 6)
  | .dscReset h i => headOk h && decide (i < 32)
  | .readPair h => headOk h
  | .resync h => headOk h
  | .switchover h => headOk h
  | .switchoverHandoff _ => true
  | .readDiag h level index => headOk h && decide (level < 2 ^ 2) && decide (index < 2 ^ 9)
  | .readMemory h => headOk h
  | .clearCounters h => headOk h
  | .readCan h ctl => headOk h && decide (ctl < 4)
  | .readCanobj h obj => headOk h && decide (obj < 512)
  | .writeCanobj h obj data => headOk h && decide (obj < 512) && decide (data.length ≤ 8170)
  | .readHart h ch addr count => headOk h && chOk ch && decide (addr < 2 ^ 4) && decide (count < 2 ^ 5)
  | .readIdentity h => headOk h
  | .readFirmware h => headOk h
  | .conversionComplete _ blk _ _ _ _ _ => blkOk blk
  | .selfTestSlot _ blk _ _ => blkOk blk
  | .excitationEvent _ blk _ _ => blkOk blk
  | .blankLineChange _ _ _ => true
  | .blankLong _ ch => chOk ch
  | .cjcReading _ conn _ => decide (conn < 16)
  | .debouncedEdge _ ch _ => chOk ch
  | .testPulseStart _ blk _ => blkOk blk
  | .testPulseEnd _ blk _ _ _ => blkOk blk
  | .fsLowSet _ blk _ _ => blkOk blk
  | .fsLowClear _ blk _ _ => blkOk blk
  | .fsOffSet _ blk _ _ => blkOk blk
  | .fsOffEnd _ blk _ _ => blkOk blk
  | .logicSilence _ ch _ _ => chOk ch
  | .foldback _ ch _ _ _ => chOk ch
  | .foldbackHoldEnd _ ch => chOk ch
  | .foldbackRampStep _ ch => chOk ch
  | .enableFlagLoss _ blk => blkOk blk
  | .enableFlagSet _ blk => blkOk blk
  | .blockPowerLost _ blk _ => blkOk blk
  | .blockPowerRestore _ blk _ _ => blkOk blk
  | .cellTherm _ ch temp _ => chOk ch && decide (-128 ≤ temp) && decide (temp < 128)
  | .islandPwr _ blk islandMv fsMv _ _ => blkOk blk && decide (islandMv < 2 ^ 16) && decide (fsMv < 2 ^ 16)
  | .clockCheck _ dom dev => decide (dom < 7) && decide (-32768 ≤ dev) && decide (dev < 32768)
  | .zenLockstep _ => true
  | .hartRequestDue _ cell cmd addr _ => decide (cell < 32) && decide (cmd = 0 ∨ cmd = 3 ∨ cmd = 48) && decide (addr < 16)
  | .hartReplyTimeout _ q => decide (q.cell < 32)
  | .hartReply _ cell _ => decide (cell < 32)
  | .canFrameReceived _ ctl m => decide (ctl < 4) && canOk m
  | .canMessageTake _ obj _ => decide (obj < 512)
  | .canTxSuccess _ ctl who => decide (ctl < 4) && whoOk who
  | .canTxError _ ctl who err _ => decide (ctl < 4) && whoOk who && decide (err < 8)
  | .canBusoffRecovery _ ctl _ => decide (ctl < 4)
  | .canReferenceMessage _ ctl => decide (ctl < 4)
  | .canTtWindow _ obj _ => decide (obj < 512)
  | .isotpTimeout _ ctl => decide (ctl < 2)
  | .ethFrameReceived _ port _ => decide (port < 3)
  | .fragDrop _ port src => decide (port < 3) && decide (src < 2 ^ 32)
  | .arpWaitTimeout _ port hop => decide (port < 3) && decide (hop < 2 ^ 32)
  | .arpEntryAgeOut _ port ip => decide (port < 3) && decide (ip < 2 ^ 32)
  | .gratuitousArp _ port => decide (port < 3)
  | .portLink _ port _ speed => decide (port < 3) && decide (speed < 2 ^ 2)
  | .plcaStatus _ p => decide (p.beacon < 2 ^ 8)
  | .serFrameReceived _ _ => true
  | .serGapTimeout _ _ => true
  | .modbusRequest _ _ => true
  | .eventRecordWrite _ => true
  | .lostRecordAdmit _ => true
  | .operatingSecond _ => true
  | .twilightLock _ _ => true
  | .twilightToBackup _ _ => true
  | .twilightToRail _ _ => true
  | .twilightUnlock _ _ _ => true
  | .twilightContentLost _ _ => true
  | .rtcSecond _ => true
  | .bakLowCheck _ _ _ => true
  | .rtcFreeze _ => true
  | .rtcRelease _ => true
  | .rtcFreezeTimeout _ => true
  | .twilightTimeCommit _ => true
  | .twilightSetWday _ w => decide (w < 7)
  | .twilightLoadAlarms _ => true
  | .twilightBramCommit _ => true
  | .twilightRegisterWrite _ off v => decide (off < 2 ^ 8) && decide (v < 2 ^ 32)
  | .rtcAlarmStamp _ alarm => decide (alarm < 2)
  | .feedState _ feed _ _ => decide (feed < 2)
  | .fsFeed _ feed _ _ => decide (feed < 8)
  | .supplyDecline _ _ _ => true
  | .supplyRecovery _ _ _ _ => true
  | .powerOn _ _ _ => true
  | .roleDecision _ => true
  | .resetButtonRelease _ _ _ _ => true
  | .resetInputStuck _ _ => true
  | .resetInputFreed _ _ _ => true
  | .offEntry _ _ => true
  | .wake _ _ alarm _ => alarm.all (· < 2)
  | .correctionWriteback _ mem bank cw req a => memHasB mem bank cw && decide (req < 20) && decide (a.flip < 2 ^ 320) && accOk a.acc &&
      a.port1.all accOk && (a.port1.isNone || (decide (mem = 0x14) && decide (bank = 8)))
  | .hazeStep _ mem bank cw _ words => decide (mem < 22) && memHasB mem bank cw && decide (words.length ≤ 16) && memHasB mem bank (cw + words.length - 1)
  | .hazeYield _ mem bank cw _ => decide (mem < 22) && memHasB mem bank cw
  | .hazePassEnd _ mem _ => decide (mem < 22)
  | .configStoreComplete _ _ => true
  | .haloHoldChange _ level _ => decide (level < 4)
  | .witnessTokenDecision _ => true
  | .witnessStartTimeout _ => true
  | .tokenChange _ token => decide (token < 3)
  | .activeYieldB _ _ => true
  | .selfCheckFail _ => true
  | .laneError _ lane => decide (lane < 2)
  | .laneSilence _ lane => decide (lane < 2)
  | .laneUp _ lane => decide (lane < 2)
  | .contrailBlockReceive _ r => decide (r.at0 + r.raw.length ≤ 0x8000)
  | .standbyStrobe _ => true
  | .standbyNoticeTimeout _ => true
  | .digestCompare _ lane _ partner => decide (lane < 2) && decide (partner < 2 ^ 32)
  | .resyncAutoStart _ => true
  | .resyncCopyDone e => e.copy.hosts.sessioned
  | .resyncCompareDone _ _ => true
  | .canRxError _ ctl err _ => decide (ctl < 4) && decide (err < 8)
  | .canProtocolException _ ctl fmt => decide (ctl < 4) && decide (fmt < 3)
  | .witnessHolderGraceEnd _ => true
  | .hartCarrierEnd _ cell => decide (cell < 32)
  | .switchCurrentLimit _ ch _ => chOk ch
  | .thermalShutdown _ ch => chOk ch
  | .serAbort _ => true

end Sys2Proof
end

