-- ==== Sys2Proof/Machine/Crc.lean ====
section
/-! DEFINITION. The CRC-32 of R317 (IEEE 802.3, reflected). -/

namespace Sys2Proof.Machine

/-- One bit of the reflected CRC-32 (polynomial 04C11DB7h, reflected EDB88320h; R317). -/
def crcBit (c : BitVec 32) : BitVec 32 :=
  if c.getLsbD 0 then (c >>> 1) ^^^ 0xEDB88320#32 else c >>> 1

/-- One byte of the reflected CRC-32 (R317). -/
def crcByte (c : BitVec 32) (b : Byte) : BitVec 32 :=
  let x := c ^^^ b.setWidth 32
  crcBit (crcBit (crcBit (crcBit (crcBit (crcBit (crcBit (crcBit x)))))))

/-- The CRC-32 of R317 over `bs`: initial value and final XOR FFFFFFFFh. -/
def crc32 (bs : List Byte) : BitVec 32 := bs.foldl crcByte 0xFFFFFFFF#32 ^^^ 0xFFFFFFFF#32

/-- One bit of the reflected CRC-32C (polynomial 1EDC6F41h, reflected 82F63B78h; R246). -/
def crcCBit (c : BitVec 32) : BitVec 32 :=
  if c.getLsbD 0 then (c >>> 1) ^^^ 0x82F63B78#32 else c >>> 1

/-- One byte of the reflected CRC-32C. -/
def crcCByte (c : BitVec 32) (b : Byte) : BitVec 32 :=
  let x := c ^^^ b.setWidth 32
  crcCBit (crcCBit (crcCBit (crcCBit (crcCBit (crcCBit (crcCBit (crcCBit x)))))))

/-- CRC-32C over `bs` with initial value `init`, loaded as given (R246). -/
def crc32c (init : Nat) (bs : List Byte) : Nat :=
  (bs.foldl crcCByte (BitVec.ofNat 32 init) ^^^ 0xFFFFFFFF#32).toNat

end Sys2Proof.Machine
end

