-- ==== Sys2Proof/Machine/Flags.lean ====
section
/-! DEFINITION. Flag computations shared by the serving engines: flags that set at once and clear at
the third clean record, quality levels, saturation to 32 bits, and events on a change of a flag. -/

namespace Sys2Proof.Machine

/-- Quality codes of R155. -/
abbrev qGood : Nat := 0
abbrev qUncertain : Nat := 1
abbrev qBad : Nat := 2

/-- A flag that sets in the first record showing its condition and clears at the third record in a row
that does not show it (R144, R159, R170). Call it only for records that count. -/
def runFlag (shown : Bool) (f : RunFlag) : RunFlag :=
  if shown then { on := true, run := 0 }
  else if !f.on then f
  else if f.run + 1 < 3 then { f with run := f.run + 1 }
  else { on := false, run := 0 }

/-- A flag cleared because another took its place (R144, R159). -/
def clearFlag : RunFlag := {}

/-- An event that a flag's change records: parameter 1 is 1 when it sets and 0 when it clears. -/
def flagEvent (code src : Nat) (was is : Bool) (p2 p3 : Nat) : List EvReq :=
  if was = is then [] else [{ code := code, src := src, p1 := b2n is, p2 := p2, p3 := p3 }]

/-- Saturation of an engineering value to 32 bits (R128). -/
def sat32 (v : Int) : Int := clampI (-2147483648) 2147483647 v

/-- A signed number as a 32-bit event parameter or field. -/
def s32 (v : Int) : Nat := ofSigned 32 v

/-- Integer square root by bisection on bits `n − 1` to 0 of the root. -/
def sqrtBits : Nat → Nat → Nat → Nat
  | 0, _, r => r
  | n + 1, x, r => let r' := r + 2 ^ n; sqrtBits n x (if r' * r' ≤ x then r' else r)

/-- Floor of the square root of `x` below 2^160. -/
def isqrt (x : Nat) : Nat := sqrtBits 80 x 0

/-- The worse of two qualities is the higher in the order of R147. -/
def worse (a b : Nat) : Nat := max a b

end Sys2Proof.Machine
end

