-- ==== Sys2Proof/Machine/Packets.lean ====
section
/-! DEFINITION. Command packets (chapter 13): the packet format, the discards of R319, the opcode tables, and the
decoding of bodies into opcodes with parameters. -/

namespace Sys2Proof.Machine

/-! ## Status codes (R341) -/

abbrev stOk : Nat := 0x0000
abbrev stBadVersion : Nat := 0x0001
abbrev stBadLength : Nat := 0x0002
abbrev stBadOpcode : Nat := 0x0003
abbrev stBadSession : Nat := 0x0004
abbrev stSequence : Nat := 0x0005
abbrev stBusy : Nat := 0x0006
abbrev stBadValue : Nat := 0x0007
abbrev stReadOnly : Nat := 0x0008
abbrev stReplayMode : Nat := 0x0009
abbrev stWitnessOnly : Nat := 0x000A
abbrev stTraceOverflow : Nat := 0x0020
abbrev stTraceOff : Nat := 0x0021
abbrev stNotOwner : Nat := 0x0101
abbrev stOwnerHeld : Nat := 0x0102
abbrev stClaimLost : Nat := 0x0103
abbrev stNoHandover : Nat := 0x0104
abbrev stReservedSet : Nat := 0x0201
abbrev stResourceConflict : Nat := 0x0202
abbrev stPairMismatch : Nat := 0x0203
abbrev stFrameBudget : Nat := 0x0204
abbrev stLoopBudget : Nat := 0x0205
abbrev stOutputClaimed : Nat := 0x0206
abbrev stSafeOwned : Nat := 0x0207
abbrev stTrimUnstable : Nat := 0x0301
abbrev stTrimRange : Nat := 0x0302
abbrev stTrimAborted : Nat := 0x0303
abbrev stAlmState : Nat := 0x0401
abbrev stAlmNotAllowed : Nat := 0x0402
abbrev stOverwritten : Nat := 0x0501
abbrev stBadDate : Nat := 0x0601
abbrev stSafetyCrc : Nat := 0x0701
abbrev stNotSingle : Nat := 0x0801
abbrev stNotPair : Nat := 0x0802
abbrev stPartnerUnsync : Nat := 0x0803

/-! ## Opcodes (R334 to R340) -/

/-- The opcode number of an operation. -/
def opCode : Op → Nat
  | .ping => 0x0001 | .openSession => 0x0002 | .closeSession => 0x0003 | .readSummary => 0x0004
  | .readFrameStatus => 0x0005 | .clearFrameStatus => 0x0006 | .warmRestart => 0x0007 | .traceOpen => 0x0008
  | .traceClose => 0x0009 | .replayStart => 0x000B | .replayData _ _ => 0x000C
  | .claim => 0x0101 | .renew => 0x0102 | .handover _ => 0x0103 | .accept => 0x0104 | .release => 0x0105
  | .readOwner => 0x0106
  | .readObject _ _ _ _ _ => 0x0201 | .writeObject _ _ _ _ _ _ => 0x0202 | .commit => 0x0203 | .discard => 0x0204
  | .readCrc => 0x0205 | .readImage _ _ _ => 0x0206 | .loadImage _ _ => 0x0207
  | .readResults _ _ => 0x0301 | .readRecords _ _ => 0x0302 | .readCjc => 0x0303 | .writeDo _ _ => 0x0304
  | .writeAo _ _ => 0x0305 | .trimZero _ _ => 0x0306 | .trimSpan _ _ => 0x0307 | .clearTotal _ => 0x0308
  | .readPoints _ _ => 0x0401 | .readGroups _ _ => 0x0402 | .ack _ _ => 0x0403 | .shelve _ _ => 0x0404
  | .unshelve _ => 0x0405 | .remove _ => 0x0406 | .return_ _ => 0x0407 | .readCall => 0x0408 | .selectDuty _ => 0x0409
  | .readEvents _ _ _ _ => 0x0501 | .readRecorder => 0x0502
  | .readTime => 0x0601 | .stageTime _ => 0x0602 | .commitTime => 0x0603 | .setWeekday _ => 0x0604
  | .readBackup _ _ => 0x0605 | .writeBackup _ _ _ => 0x0606
  | .readSafety _ _ => 0x0701 | .safetyReset _ => 0x0702 | .confirm _ => 0x0703 | .readDsc _ _ => 0x0704
  | .dscReset _ => 0x0705
  | .readPair => 0x0801 | .resync => 0x0802 | .switchover => 0x0803
  | .readDiag _ _ => 0x0901 | .readMemory => 0x0902 | .clearCounters => 0x0903
  | .readCan _ => 0x0A01 | .readCanobj _ => 0x0A02 | .writeCanobj _ _ => 0x0A03
  | .readHart _ _ _ => 0x0B01
  | .readIdentity => 0x0C01 | .readFirmware => 0x0C02

/-- The opcodes that a command may carry (R334 to R340). -/
def opListed (code : Nat) : Bool :=
  match code / 256 with
  | 0x00 => decide (1 ≤ code % 256) && decide (code % 256 ≤ 0x0C) && decide (code ≠ 0x000A)
  | 0x01 => decide (1 ≤ code % 256) && decide (code % 256 ≤ 6)
  | 0x02 => decide (1 ≤ code % 256) && decide (code % 256 ≤ 7)
  | 0x03 => decide (1 ≤ code % 256) && decide (code % 256 ≤ 8)
  | 0x04 => decide (1 ≤ code % 256) && decide (code % 256 ≤ 9)
  | 0x05 => decide (1 ≤ code % 256) && decide (code % 256 ≤ 2)
  | 0x06 => decide (1 ≤ code % 256) && decide (code % 256 ≤ 6)
  | 0x07 => decide (1 ≤ code % 256) && decide (code % 256 ≤ 5)
  | 0x08 => decide (1 ≤ code % 256) && decide (code % 256 ≤ 3)
  | 0x09 => decide (1 ≤ code % 256) && decide (code % 256 ≤ 3)
  | 0x0A => decide (1 ≤ code % 256) && decide (code % 256 ≤ 3)
  | 0x0B => decide (code = 0x0B01)
  | 0x0C => decide (code = 0x0C01) || decide (code = 0x0C02)
  | _ => false

/-- Owner-only opcodes (R334 to R340). -/
def opOwnerOnly (code : Nat) : Bool :=
  [0x0006, 0x0007, 0x0008, 0x0009, 0x000B, 0x000C, 0x0102, 0x0103, 0x0105, 0x0202, 0x0203, 0x0204, 0x0207, 0x0304, 0x0305,
    0x0306, 0x0307, 0x0308, 0x0403, 0x0404, 0x0405, 0x0406, 0x0407, 0x0409, 0x0602, 0x0603, 0x0604, 0x0606, 0x0702, 0x0703,
    0x0705, 0x0802, 0x0803, 0x0903, 0x0A03].contains code

/-- The frame of effect is "—" (R323). -/
def opImmediate (o : Op) : Bool :=
  match o with
  | .ping | .readFrameStatus | .replayData _ _ | .readOwner | .readObject true _ _ _ _ | .writeObject _ _ _ _ _ _
  | .discard | .readImage _ _ _ | .loadImage _ _ | .readEvents _ _ _ _ | .readRecorder | .readTime | .stageTime _
  | .readBackup _ _ | .writeBackup _ _ _ | .readPair | .readDiag _ _ | .readMemory | .clearCounters | .readCan _
  | .readIdentity | .readFirmware => true
  | _ => false

/-- R326: the status that the role and mode give, if any. `pair` tells that the module is a unit of a pair. -/
def opModeStatus (code : Nat) (replay pair witness : Bool) : Nat :=
  if replay && opOwnerOnly code && decide (code ≠ 0x0007) && decide (code ≠ 0x000C) then stReplayMode
  else if pair && (decide (code = 0x0008) || decide (code = 0x000B)) then stNotSingle
  else if !pair && !witness && decide (code / 256 = 8) then stNotPair
  else stOk

/-! ## Bodies -/

/-- Bits [lo + len − 1 : lo] of a body. -/
def bodyF (b : List Byte) (lo len : Nat) : Nat := ofBytes b / 2 ^ lo % 2 ^ len

/-- A body of exactly the bytes that hold the `bits` listed bits gives `o`; any other length is BAD_LENGTH (R320 step 6). -/
def fixed (b : List Byte) (bits : Nat) (o : Op) : Option Op := if b.length = ceilDiv bits 8 then some o else none

/-- The operation of an opcode number and body; `none` is BAD_LENGTH (R334 to R340). -/
def decodeOp (code : Nat) (b : List Byte) : Option Op :=
  let f := bodyF b
  match code with
  | 0x0001 => fixed b 0 .ping
  | 0x0002 => fixed b 0 .openSession
  | 0x0003 => fixed b 0 .closeSession
  | 0x0004 => fixed b 0 .readSummary
  | 0x0005 => fixed b 0 .readFrameStatus
  | 0x0006 => fixed b 0 .clearFrameStatus
  | 0x0007 => fixed b 0 .warmRestart
  | 0x0008 => fixed b 0 .traceOpen
  | 0x0009 => fixed b 0 .traceClose
  | 0x000B => fixed b 0 .replayStart
  | 0x000C => if b.length < 4 then none else some (.replayData (f 0 32) (b.drop 4))
  | 0x0101 => fixed b 0 .claim
  | 0x0102 => fixed b 0 .renew
  | 0x0103 => fixed b 8 (.handover (f 0 8))
  | 0x0104 => fixed b 0 .accept
  | 0x0105 => fixed b 0 .release
  | 0x0106 => fixed b 0 .readOwner
  | 0x0201 => fixed b 64 (.readObject (decide (f 0 1 = 1)) (f 8 8) (f 16 16) (f 32 16) (f 48 16))
  | 0x0202 =>
    let n := f 48 16
    if b.length = 8 + 2 * n then some (.writeObject (f 0 8) (f 16 16) (f 32 16) n ((b.drop 8).take n) (b.drop (8 + n))) else none
  | 0x0203 => fixed b 0 .commit
  | 0x0204 => fixed b 0 .discard
  | 0x0205 => fixed b 0 .readCrc
  | 0x0206 => fixed b 80 (.readImage (f 0 8) (f 32 32) (f 64 16))
  | 0x0207 => if b.length < 4 then none else some (.loadImage (f 0 32) (b.drop 4))
  | 0x0301 => fixed b 24 (.readResults (f 0 9) (f 16 8))
  | 0x0302 => fixed b 24 (.readRecords (f 0 9) (f 16 8))
  | 0x0303 => fixed b 0 .readCjc
  | 0x0304 => fixed b 17 (.writeDo (f 0 9) (decide (f 16 1 = 1)))
  | 0x0305 => fixed b 64 (.writeAo (f 0 9) (toSigned 32 (f 32 32)))
  | 0x0306 => fixed b 64 (.trimZero (f 0 9) (toSigned 32 (f 32 32)))
  | 0x0307 => fixed b 64 (.trimSpan (f 0 9) (toSigned 32 (f 32 32)))
  | 0x0308 => fixed b 9 (.clearTotal (f 0 9))
  | 0x0401 => fixed b 24 (.readPoints (f 0 11) (f 16 8))
  | 0x0402 => fixed b 16 (.readGroups (f 0 6) (f 8 8))
  | 0x0403 => fixed b 27 (.ack (f 0 2) (f 16 11))
  | 0x0404 => fixed b 27 (.shelve (f 0 11) (f 16 11))
  | 0x0405 => fixed b 11 (.unshelve (f 0 11))
  | 0x0406 => fixed b 11 (.remove (f 0 11))
  | 0x0407 => fixed b 11 (.return_ (f 0 11))
  | 0x0408 => fixed b 0 .readCall
  | 0x0409 => fixed b 8 (.selectDuty (f 0 8))
  | 0x0501 => fixed b 64 (.readEvents (decide (f 0 1 = 1)) (f 1 7 + f 48 16) (f 8 8) (f 16 32))
  | 0x0502 => fixed b 0 .readRecorder
  | 0x0601 => fixed b 0 .readTime
  | 0x0602 => fixed b 96 (.stageTime b)
  | 0x0603 => fixed b 0 .commitTime
  | 0x0604 => fixed b 3 (.setWeekday (f 0 3))
  | 0x0605 => fixed b 16 (.readBackup (f 0 7) (f 8 8))
  | 0x0606 => if b.length = 2 + f 8 8 then some (.writeBackup (f 0 7) (f 8 8) (b.drop 2)) else none
  | 0x0701 => fixed b 14 (.readSafety (f 0 5) (f 8 6))
  | 0x0702 => fixed b 5 (.safetyReset (f 0 5))
  | 0x0703 => fixed b 32 (.confirm (f 0 32))
  | 0x0704 => fixed b 14 (.readDsc (f 0 5) (f 8 6))
  | 0x0705 => fixed b 5 (.dscReset (f 0 5))
  | 0x0801 => fixed b 0 .readPair
  | 0x0802 => fixed b 0 .resync
  | 0x0803 => fixed b 0 .switchover
  | 0x0901 => fixed b 25 (.readDiag (f 0 2) (f 16 9))
  | 0x0902 => fixed b 0 .readMemory
  | 0x0903 => fixed b 0 .clearCounters
  | 0x0A01 => fixed b 2 (.readCan (f 0 2))
  | 0x0A02 => fixed b 9 (.readCanobj (f 0 9))
  | 0x0A03 => if b.length < 2 then none else some (.writeCanobj (f 0 9) (b.drop 2))
  | 0x0B01 => fixed b 29 (.readHart (f 0 9) (f 16 4) (f 24 5))
  | 0x0C01 => fixed b 0 .readIdentity
  | 0x0C02 => fixed b 0 .readFirmware
  | _ => none

/-! ## Packets (R316 to R319) -/

/-- A packet that R319 does not discard: its header, opcode number and body. -/
structure Packet where
  head : PktHead
  code : Nat
  body : List Byte
  deriving DecidableEq, Repr

/-- A transport message as a command packet; `none` for the discards of R319. -/
def parsePacket (port ip udp : Nat) (bs : List Byte) : Option Packet :=
  let n := bs.length
  if n < 20 ∨ 8192 < n then none
  else
    let h := ofBytes (bs.take 16)
    let f (lo len : Nat) : Nat := h / 2 ^ lo % 2 ^ len
    if f 32 16 ≠ n - 20 ∨ (crc32 (bs.take (n - 4))).toNat ≠ ofBytes (bs.drop (n - 4)) ∨ f 0 16 ≠ 0x5A53 ∨ f 24 1 = 1 then none
    else some { head := { port := port, ip := ip, udp := udp, version := f 16 8, flags := f 25 7, session := f 48 16
                          seq := f 64 32, status := f 112 16 }
                code := f 96 16, body := (bs.drop 16).take (n - 20) }

/-- The bytes of a packet the node sends (R316, R317). -/
def replyBytes (r : Reply) : List Byte :=
  let hb := packBytes 16 [(16, 0x5A53), (8, 1), (2, r.kind), (6, 0), (16, r.body.length), (16, r.session), (32, r.seq),
    (16, r.opcode), (16, r.status)] ++ r.body
  hb ++ toBytes 4 (crc32 hb).toNat

end Sys2Proof.Machine
end

