-- ==== Sys2Proof/Config.lean ====
section
/-! DEFINITION. What an implementation fixes and the manual does not publish, and the free values.
Each constant has no body: a claim about the model holds whatever its value is. -/

namespace Sys2Proof.Config

/-- Estimated frame work in Zenith cycles of an image under the cost model of a firmware CRC (R44):
`whereCode` 0 to 3 for the regions and 4 for the Zenith controller. Not published (R44). -/
opaque frameWork : Image → Nat → Nat → Nat

/-- Temperature curve of R131 or R132 as the firmware evaluates it (R129): curve number, decimal
places, input in the record unit; gives the value in 10^−DEC °C. Not published (R129). -/
opaque tempCurve : Nat → Nat → Int → Int

/-- Thermocouple emf E(T_cj) of R137 as the firmware evaluates it: curve number and T_cj in 10⁻⁶ °C; in units of 10 nV. Not
published (R129). -/
opaque tcEmf : Nat → Int → Int

/-- The IEC 60584 reference function E(T) of a thermocouple curve and its slope, at T in 10⁻⁶ °C, in 10⁻¹⁴ V and in 10⁻¹⁴ V for
10⁻⁶ K (R132). The manual names the standard and does not print the functions. -/
opaque tcRef : Nat → Int → Int
opaque tcSlope : Nat → Int → Int

/-- What a quotient of R98 or R99 gives for a numerator while its divisor is 0: a top-end voltage or a source current that is
measured as 0. The manual states no result there. -/
opaque overZero : Int → Int

/-- What the 32-bit VALUE or OTHER of a record shows of a result that lies beyond it (R123). Not stated. -/
opaque recField : Int → Nat

/-- What the 32-bit field FREQ shows of a frequency in mHz beyond its range. R198 states no result there. -/
opaque freqField : Nat → Nat

/-- Factory measurement at 1.00 mA of source `2 × block + source`, in nA (R99). -/
opaque factorySource : Nat → Nat

/-- The current in nA that a LOOP_MA pattern which is no finite number gives in R182. The manual
states no result for it. -/
opaque hartNotFinite : Nat → Int

/-- Padding byte of a transport frame that is filled up to a CAN FD length (R318). Not stated. -/
opaque isoPad : Byte

/-- REC after a valid reception from above 127: ISO 11898-1 lets it be any value from 119 to 127 (R398). The
low bits of this value choose one. -/
opaque recBack : Nat → Nat

/-- Byte `k` of the SIZE payload bytes of READ_CANOBJ past the LEN bytes that object `o` holds since frame `n` (R393). Not
stated. -/
opaque canTail : Nat → Nat → Nat → Byte

/-- What byte `off` of stored slot `slot` reads while the slot has never been written whole (R549). Not stated. -/
opaque slotByte : Nat → Nat → Byte

/-- Header of the CAN message of object `o` that an entry of a loaded trace stands for, by its payload bytes (R56, R70). The
payload holds the data of the message; where its identifier and format stand is not stated. -/
opaque canRead : Nat → List Byte → CanMsg

/-- The content of a state snapshot after its length word (R69), the state that such a content stands for, and the firmware CRC
that it carries: internal to the firmware. -/
opaque snapshot : Machine.Snap → List Byte
opaque snapshotRead : List Byte → Option Machine.Snap
opaque snapshotFw : List Byte → Nat

/-- The channels whose records of a trace frame, as bytes, carry STALE, as a mask. The trace copies the mark (R59), and the
manual gives it no place in the 16 bytes of a record. -/
opaque traceStale : List Byte → Nat

/-- SEQ of the TRACE_DATA packet with a segment number (R334). Not stated. -/
opaque traceSeq : Nat → Nat

/-- The bytes of an output image that the result digest runs over (R427): DO states as a mask over channels, and AO-I
currents in nA by channel. The manual gives no layout. -/
opaque outBytes : Nat → List (Nat × Int) → List Byte

/-- The bytes of the frame's event requests that the result digest runs over (R427), each as code, source and three
parameters. The manual gives no layout. -/
opaque reqBytes : List (List Nat) → List Byte

/-- What the 8-bit code of an MRAM word makes of an error of three or more bits (R485): a multiple of 3 a correction, one more a
double error, and two more nothing found; the quotient by 3 is the bit that a correction takes for the wrong one. Not stated. -/
opaque mramMany : Nat → Nat

/-- Test step that 0114h BIST_FAIL reports for a failing item (R507): item code and channel or lane. Not stated. -/
opaque bistStep : Nat → Nat → Nat

end Sys2Proof.Config
end

