-- ==== Sys2Proof/Machine/Acquire.lean ====
section
/-! DEFINITION. Block-level analog acquisition (chapter 04): the conversion cycle, path selection,
paired conversions, the notch filter, the self-test slot, excitation events, blanking, and the cell
record that a block latches. -/

namespace Sys2Proof.Machine

/-! ## The entry table (R85, R97) -/

/-- The channel that holds converter entry `e` of block `b`. -/
def entryChannel (im : Image) (b e : Nat) : Option Nat :=
  ((List.range 8).map (8 * b + ·)).find? fun c =>
    decide (chEntryFirst im c ≤ e) && decide (e < chEntryFirst im c + chEntryCount im c)

/-- The next held entry at or above `e`; 16 (ST) when none is left. -/
def heldFrom (im : Image) (b e : Nat) : Nat :=
  (((List.range 16).filter (e ≤ ·)).find? fun k => (entryChannel im b k).isSome).getD 16

/-- The entry that follows entry `e` in the cycle; ST is 16 and is followed by the lowest entry. -/
def nextEntry (im : Image) (b e : Nat) : Nat :=
  if 16 ≤ e then heldFrom im b 0 else heldFrom im b (e + 1)

/-! ## Path selection (R94 to R96) -/

/-- Low-path full scale of a mode in 10 nV, or in nA for AI-I (R94). The high path has 1/16 of it. -/
def lowFs (mode : Nat) : Nat :=
  match mode with
  | 1 => 1200000000
  | 2 => 27000000
  | 4 => 15000000
  | _ => 240000000

/-- One conversion after path selection: the selected value, the other path, and the marks. -/
structure Selected where
  v     : Int
  other : Int
  high  : Bool
  edge  : Bool
  ovr   : Bool
  deriving DecidableEq, Repr

/-- R95 and R96: `lo` and `hi` are the two path results of one window, `ovLo` and `ovHi` the
modulator overload marks. -/
def selectPath (mode : Nat) (lo hi : Int) (ovLo ovHi : Bool) : Selected :=
  let fs := lowFs mode
  let highOk := !ovHi && decide (hi.natAbs * 160 ≤ 9 * fs)
  let ovr := ovLo || decide (98 * fs < lo.natAbs * 100)
  let clip : Int := (98 * fs / 100 : Nat)
  let differ := decide (5 * fs < (lo - hi).natAbs * 100000)
  let edge := highOk && !ovr && decide (75 * fs ≤ lo.natAbs * 1600) && differ
  if ovr then { v := clampI (-clip) clip lo, other := hi, high := false, edge := false, ovr := true }
  else if highOk && !edge then { v := hi, other := lo, high := true, edge := false, ovr := false }
  else { v := lo, other := hi, high := false, edge := edge, ovr := false }

/-! ## Excitation sources (R84, R99) -/

/-- Source `k` of block `b` is held continuously by some channel (R84). -/
def srcHeld (im : Image) (b k : Nat) : Bool :=
  (List.range 8).any fun j =>
    if k = 0 then chExc0Cont im (8 * b + j) else chExc1Cont im (8 * b + j)

/-- The channel uses excitation (R76). -/
def usesExc (im : Image) (c : Nat) : Bool :=
  (chMode im c == 3 && !ignoresRest im c) || chMode im c == 5 || (chMode im c == 1 && chExcExt im c)

/-- The sources that serve the entries of channel `c` (R76, R84). -/
def chSources (im : Image) (c : Nat) : List Nat :=
  if !usesExc im c then []
  else if chMode im c == 3 && (chSub im c == 1 || chSub im c == 2) then [0, 1]
  else if chExc0Cont im c then [0]
  else if chExc1Cont im c then [1]
  else if srcHeld im (c / 8) 0 then [1] else [0]

/-- EXC_I of a channel in nA; 00h is the default 0.50 mA (R102). -/
def excSetting (im : Image) (c : Nat) : Nat :=
  if chExcI im c = 0 then 500000 else chExcI im c * 10000

/-- The setting of source `k` in an entry of channel `c`: of a continuous source as configured, of a per-entry source as the entry
in progress connected it (R104). -/
def srcSetting (im : Image) (c k : Nat) (q : BlkAcq) : Nat :=
  if srcHeld im (c / 8) k then excSetting im c else q.setI

/-- The measurement of source `k` at 1.00 mA that scales R99, in nA: the latest one in ST under the running configuration, else the
factory measurement. A source held continuously keeps the latest one there has been (R100). -/
def srcMeasured (im : Image) (b k : Nat) (q : BlkAcq) : Nat :=
  let seen := if k = 0 then q.i0 else q.i1
  let mine := if k = 0 then q.run0 else q.run1
  ((if mine || srcHeld im b k then seen else none).getD (Config.factorySource (2 * b + k)))

/-- I of source `k` for channel `c`, in whole nA (R99, log 61). -/
def srcCurrent (im : Image) (c k : Nat) (q : BlkAcq) : Int :=
  rdiv ((srcSetting im c k q * srcMeasured im (c / 8) k q : Nat) : Int) 1000000

/-! ## Results of conversions (R98, R99) -/

/-- A quotient of R98 or R99; where the divisor is 0 the manual states none. -/
def quotient (num den : Int) : Int := if den = 0 then Config.overZero num else rdiv num den

/-- A voltage conversion in the VALUE unit of a mode that pairs no conversions. -/
def singleResult (im : Image) (c : Nat) (q : BlkAcq) (v : Int) : Int :=
  if chMode im c == 3 || chMode im c == 5 then
    quotient (v * 100000) (srcCurrent im c ((chSources im c).headD 0) q)
  else v

/-- R98: the value of arrangement 0 (`v0`) with arrangement 1 (`v1`). -/
def pairValue (im : Image) (c : Nat) (q : BlkAcq) (v0 v1 : Int) : Int :=
  if chMode im c == 5 then quotient (v0 * 1000000000) v1
  else quotient ((v0 + v1) * 100000) (srcCurrent im c 0 q + srcCurrent im c 1 q)

/-- The value of a conversion `v` of arrangement `r` with its partner `p` of the other one. -/
def joinValue (im : Image) (c : Nat) (q : BlkAcq) (r : Nat) (v p : Int) : Int :=
  if r = 0 then pairValue im c q v p else pairValue im c q p v

/-- The result of a conversion `x` of arrangement `r` and its partner `p`, with the marks of both (R98, R123). -/
def pairResult (im : Image) (c : Nat) (q : BlkAcq) (r : Nat) (x p : Conv) : Conv :=
  let top := if r = 0 then p.v else x.v
  { v := joinValue im c q r x.v p.v, edge := x.edge || p.edge, ovr := x.ovr || p.ovr
    lowRef := chMode im c == 5 && decide (top < 1000000) }

/-- Mean of results, rounded under R128, with the marks of every contributor. -/
def meanConv (l : List Conv) : Conv :=
  { v := rdiv (l.foldl (fun s x => s + x.v) 0) l.length
    edge := l.any (·.edge), ovr := l.any (·.ovr), lowRef := l.any (·.lowRef) }

/-- A discarded conversion of the channel: no pair is formed from it and the notch starts again
(R106, R110, R115). -/
def acqDiscard (a : AcqCh) : AcqCh := { a with prev := none, window := [] }

/-- The conversion that the next one of the other arrangement pairs with, if any. -/
def acqPartner (a : AcqCh) : Option Conv :=
  match a.prev with
  | some (r, p) => if r = a.arr then none else some p
  | none => none

/-- A valid conversion whose window closes at `now` joins the run of its channel (R98, R99). -/
def acqGather (im : Image) (c now : Nat) (q : BlkAcq) (x : Conv) (a : AcqCh) : AcqCh :=
  if isPairedConv (chMode im c) (chSub im c) then
    let b := { a with prev := some (a.arr, x), lastArr := a.arr, arr := 1 - a.arr }
    match acqPartner a with
    | some p =>
      { b with acc := pairResult im c q a.arr x p :: a.acc, lastAt := now
               prev := if chSlots im c = 0 then b.prev else none }
    | none => b
  else
    { a with acc := { x with v := singleResult im c q x.v } :: a.acc, lastAt := now }

/-- The close of a channel's run: its cycle result passes the notch filter and becomes VALUE
(R99, R114, R115), or the cycle counts as one without a valid result (R107). -/
def acqRunEnd (im : Image) (c now : Nat) (blanked : Bool) (a : AcqCh) : AcqCh :=
  let a' := match a.acc with
    | [] => { a with dry := min 4 (a.dry + 1) }
    | l =>
      let r := meanConv l
      let n := max 1 (chNotchN im c)
      let w := if chNotch im c = 0 then [r] else (r :: a.window).take n
      let m := if chNotch im c = 0 then r else meanConv w
      { a with window := w, value := m.v, edge := m.edge, ovr := m.ovr, lowRef := m.lowRef
               seq := wrapN 8 (a.seq + 1), live := true, fresh := true, doneAt := a.lastAt, formedAt := now
               settling := false, blankHeld := blanked, dry := 0 }
  { a' with acc := [], prev := if chSlots im c = 0 then a'.prev else none }

/-- The channel's entry `e` is the last of its run. -/
def isRunEnd (im : Image) (c e : Nat) : Bool :=
  e + 1 == chEntryFirst im c + chEntryCount im c

/-! ## Blanking (R109 to R112) -/

/-- Channel `c` is blanked, given its block's blanking input and the module line (R77, R109). -/
def blankedNow (im : Image) (c : Nat) (blkIn modLine : Bool) : Bool :=
  !ignoresRest im c && ((chBlankBlk im c && blkIn) || (chBlankMod im c && modLine))

/-- A blanking state of the channel takes effect at `now` (R110 to R112). -/
def acqBlank (now : Nat) (blanked : Bool) (a : AcqCh) : AcqCh :=
  if blanked then
    match a.blankFrom with
    | some _ => a
    | none => { a with blankFrom := some now, blankHeld := true }
  else { a with blankFrom := none, blankLong := false }

/-- R112: the blank has lasted longer than BLANK_MAX (100 ms steps). -/
def acqBlankLong (im : Image) (c now : Nat) (a : AcqCh) : AcqCh :=
  match a.blankFrom with
  | some t => if t + msC (100 * chBlankMax im c) < now then { a with blankLong := true } else a
  | none => a

/-! ## The sequencer -/

/-- Entry `p` starts: its channel, its place in the run and the setting of its sources; `taint` tells whether the channel is blanked as
the entry starts (R103, R104, R110). -/
def blkStart (im : Image) (b p : Nat) (taint : Nat → Bool) (q : BlkAcq) : BlkAcq :=
  let c := entryChannel im b p
  { q with
    pos := p, starts := 0, early := false, recycle := false, owner := c
    runEnd := (c.map fun k => isRunEnd im k p).getD false
    setI := (c.map (excSetting im)).getD q.setI
    tainted := (c.map taint).getD false }

/-- The block goes on with the next entry of the cycle, or begins a new cycle after a commit (R120). -/
def blkAdvance (im : Image) (b : Nat) (q : BlkAcq) (taint : Nat → Bool) : BlkAcq :=
  blkStart im b (if q.recycle then heldFrom im b 0 else nextEntry im b q.pos) taint q

/-- The entry in progress ends at the close of its channel's run, or in a run that a new cycle cuts off (R120). -/
def acqClose (im : Image) (c now : Nat) (q : BlkAcq) (blanked : Bool) (a : AcqCh) : AcqCh :=
  if q.runEnd then acqRunEnd im c now blanked a
  else if q.recycle then { a with acc := [], prev := if chSlots im c = 0 then a.prev else none }
  else a

/-- R97 step 4: the window of the entry in progress closes with the two path results, whose units are
those of `lowFs`. The step 0 offsets (R100) and the measured tone of a granted modem (R175) are subtracted first. -/
def blkConvert (im : Image) (c now : Nat) (q : BlkAcq) (blanked : Bool) (lo hi tone : Int)
    (ovLo ovHi compl : Bool) (a : AcqCh) : AcqCh :=
  let fs : Int := lowFs (chMode im c)
  let tn := if chMode im c == 2 && decide (chModemCell im c ≠ 0) then tone else 0
  let lo' := lo - tn - rdiv (q.offLow * fs) 1000000000
  let hi' := hi - tn - rdiv (q.offHigh * fs) (16 * 1000000000)
  let s := selectPath (chMode im c) lo' hi' ovLo ovHi
  let other := if isPairedConv (chMode im c) (chSub im c) then
      match acqPartner a with
      | some p => joinValue im c q a.arr s.other p.v
      | none => a.other
    else singleResult im c q s.other
  let a1 := { a with pathHigh := s.high, other := other, compliance := compl
                     nEdge := a.nEdge + b2n s.edge }
  let a2 :=
    if q.tainted || blanked then { acqDiscard a1 with arr := 1 - a1.arr, lastArr := a1.arr }
    else acqGather im c now q { v := s.v, edge := s.edge, ovr := s.ovr } a1
  acqClose im c now q blanked a2

/-! ## The self-test slot (R100, R124) -/

/-- One judgement: a fault stands after `nFail` failures in a row and clears after 3 passes in a row. -/
def judge (nFail : Nat) (pass : Bool) (r : TestRun) : TestRun :=
  if pass then
    let p := min 3 (r.passes + 1)
    { fails := 0, passes := p, fault := r.fault && decide (p < 3) }
  else
    let f := min nFail (r.fails + 1)
    { fails := f, passes := 0, fault := r.fault || decide (f = nFail) }

/-- The step that the next ST slot runs: a source held continuously is not tested, and step 0 runs in
its place (R100). -/
def stStep (im : Image) (b : Nat) (q : BlkAcq) : Nat :=
  if (q.step = 2 && srcHeld im b 0) || (q.step = 3 && srcHeld im b 1) then 0 else q.step

/-- One ST slot with its two measurements: step 0, the zero offsets in 10⁻⁹ of each path's full
scale; step 1, the 100 mV reference on each path in 10 nV; steps 2 and 3, the source current in nA in
`lo` (R100, R124). -/
def blkSelfTest (im : Image) (b : Nat) (q : BlkAcq) (lo hi : Int) : BlkAcq :=
  let q' := match stStep im b q with
    | 0 =>
      let ok := decide (lo.natAbs ≤ 100000) && decide (hi.natAbs ≤ 100000)
      { q with offLow := lo, offHigh := hi, t0 := judge 3 ok q.t0 }
    | 1 =>
      let ok := decide ((lo - 10000000).natAbs ≤ 10000) && decide ((hi - 10000000).natAbs ≤ 10000)
        && decide ((hi - lo).natAbs * 10000 ≤ 5 * lo.natAbs)
      { q with t1 := judge 3 ok q.t1 }
    | 2 =>
      let ok := decide ((lo - 1000000).natAbs ≤ 10000)
      { q with i0 := some lo.toNat, run0 := true, t2 := judge 3 ok q.t2, exc0 := judge 2 ok q.exc0 }
    | _ =>
      let ok := decide ((lo - 1000000).natAbs ≤ 10000)
      let i0 : Int := srcMeasured im b 0 q
      let same := decide ((i0 - lo).natAbs * 20000 ≤ 5 * (i0 + lo).natAbs)
      { q with i1 := some lo.toNat, run1 := true, t3 := judge 3 (ok && same) q.t3, exc1 := judge 2 ok q.exc1
               mism := if srcHeld im b 0 then q.mism else judge 2 same q.mism }
  { q' with step := (q.step + 1) % 4 }

/-- CONV_FAULT of the block (R124). -/
def blkConvFault (q : BlkAcq) : Bool := q.t0.fault || q.t1.fault || q.t2.fault || q.t3.fault

/-! ## Excitation events (R105 to R108) -/

/-- What an excitation event does to the entry in progress. -/
inductive ExcAct where
  | nothing | restart | finish
  deriving DecidableEq, Repr

/-- R107 and R108: an event before the window opens counts once; a third restart ends the entry;
a blanked channel's entry is not restarted. `opened` tells whether the window was open. -/
def excAct (q : BlkAcq) (blanked opened : Bool) : ExcAct :=
  if blanked || q.tainted then .nothing
  else if q.early && !opened then .nothing
  else if q.starts < 2 then .restart
  else .finish

/-! ## The latched record (R101, R123) -/

/-- A result as a 32-bit field of the record (R123). -/
def recInt (v : Int) : Nat := if -2147483648 ≤ v ∧ v ≤ 2147483647 then ofSigned 32 v else Config.recField v

/-- The analog cell record of channel `c` at a latch at `now`; `cellStat` is CELL_STAT (R513). -/
def acqRecord (im : Image) (c now : Nat) (q : BlkAcq) (blanked : Bool) (cellStat : Nat)
    (a : AcqCh) : Rec :=
  let src := chSources im c
  let paired := isPairedConv (chMode im c) (chSub im c)
  let fill := if chNotch im c = 0 then 0 else a.window.length
  packRec [(32, recInt a.value), (1, b2n a.fresh), (1, b2n a.pathHigh), (1, b2n a.edge), (1, b2n a.ovr),
    (1, b2n (blanked || a.blankHeld)), (1, b2n a.settling),
    (1, b2n (decide (chNotch im c ≠ 0) && a.live && decide (fill < chNotchN im c))),
    (1, b2n a.compliance), (1, b2n (blkConvFault q)),
    (1, b2n (q.mism.fault && decide (2 ≤ src.length))),
    (1, b2n ((q.exc0.fault && src.contains 0) || (q.exc1.fault && src.contains 1))),
    (1, b2n (decide (a.dry = 4))), (1, b2n a.blankLong), (1, if paired then a.lastArr else 0),
    (1, b2n a.lowRef), (1, 0), (9, fill), (7, 0), (32, recInt a.other), (8, a.seq),
    (8, if a.live then satN 8 ((now - a.doneAt) / 40000) else 0), (16, cellStat)]

end Sys2Proof.Machine
end

