-- ==== Sys2Proof/Machine/Alarms.lean ====
section
/-! DEFINITION. The alarm engine (chapter 10): sources, delays, states, suppression, shelving, first-out and
groups. -/

namespace Sys2Proof.Machine

abbrev almNormal : Nat := 0
abbrev almUnack : Nat := 1
abbrev almAck : Nat := 2
abbrev almReturn : Nat := 3
abbrev almShelved : Nat := 4
abbrev almSuppressed : Nat := 5
abbrev almOut : Nat := 6

/-- What the alarm engine reads of a frame (R260, R261): channel results, the regions whose records show
FS_LOW and FS_OFF, and the states of safety functions and connections. -/
structure AlmEnv where
  res    : Nat → Option Rec
  fsLow  : Nat → Bool
  fsOff  : Nat → Bool
  safe   : Nat → Nat
  dsc    : Nat → Nat

/-- QUALITY of a channel result by mode (R155, R172, R196, R200, R206). -/
def resQuality (mode : Nat) (r : Rec) : Nat :=
  if mode = 7 ∨ mode = 8 then fld r 2 2 else fld r 64 2

/-- HELD of an analog or PI result. -/
def resHeld (mode : Nat) (r : Rec) : Bool := if mode = 9 then bit r 73 else bit r 71

/-- A node condition of R261. -/
def nodeCondition (im : Image) (e : AlmEnv) (sel : Nat) : Bool :=
  let g := sel % 4
  let anyFn (st : Nat) : Bool := (List.range 8).any fun j => sfEn im (8 * g + j) && decide (e.safe (8 * g + j) = st)
  if sel < 4 then e.fsLow g
  else if sel < 8 then e.fsOff g
  else if sel < 0x0C then anyFn 3
  else if sel < 0x10 then anyFn 6
  else if sel < 0x14 then (List.range 8).any fun j => dscEn im (8 * g + j) && decide (e.dsc (8 * g + j) = 4)
  else if sel < 0x18 then anyFn 1
  else if sel < 0x20 then false
  else if sel < 0x40 then decide (e.safe (sel - 0x20) = 3)
  else if sel < 0x60 then decide (e.safe (sel - 0x40) = 6)
  else if sel < 0x80 then decide (e.dsc (sel - 0x60) = 4)
  else false

/-- The compare of kind 2h before INV, with its hysteresis (R260). -/
def almCompare (im : Image) (p : Nat) (v : Int) (raw : Bool) : Bool :=
  let sp := alSetpoint im p
  let h : Int := alHyst im p
  if (alSel im p).testBit 0 then (if raw then decide (v < sp + h) else decide (v < sp))
  else (if raw then decide (sp - h < v) else decide (sp < v))

/-- The logic point of R263; `cond` reads the condition of a point as it stands. -/
def almLogic (im : Image) (p : Nat) (cond : Nat → Bool) : Bool :=
  let v := (List.range (alLogN im p)).map fun k => cond (alOp im p k) != alLogInv im p k
  match alLogFn im p with
  | 0 => v.any id
  | 1 => v.all id
  | _ => decide (2 ≤ (v.filter id).length)

/-- The source value before INV; `none` when it is held (R260). -/
def almSource (im : Image) (e : AlmEnv) (cond : Nat → Bool) (p : Nat) (raw : Bool) : Option Bool :=
  let ch := alCh im p
  let mode := chMode im ch
  let sel := alSel im p
  match alKind im p with
  | 6 => some (nodeCondition im e sel)
  | 7 => some (almLogic im p cond)
  | k =>
    match e.res ch with
    | none => if k = 4 then some true else if k = 2 then none else some false
    | some r =>
      match k with
      | 1 => some (bit r (88 + sel))
      | 2 =>
        if sel.testBit 1 then
          if fld r 94 2 = qBad then none else some (almCompare im p (fldI r 96 32) raw)
        else if resQuality mode r = qBad || resHeld mode r then none
        else some (almCompare im p (fldI r 0 32) raw)
      | 3 => some (bit r 0)
      | 4 => let q := resQuality mode r
             some (decide (q = qBad) || (decide (sel = 1) && decide (q = qUncertain)))
      | 5 => let v := fld r 92 2
             some (decide (v ≠ 0) && sel.testBit (v - 1))
      | _ => some false

/-- Frames of a delay in 0.1 s (R264, R270). -/
def almFrames (P d : Nat) : Nat := framesOf P (msC (100 * d))

/-- S(n) and C(n) of a point (R260, R264). -/
def almCondition (im : Image) (P p : Nat) (src : Option Bool) (a : AlmPt) : AlmPt :=
  let b := match src with
    | some r => { a with raw := r, s := r != alInv im p }
    | none => a
  if b.s = b.c then { b with cnt := 0 }
  else
    let N := almFrames P (if b.s then alOnDelay im p else alOffDelay im p)
    if N < b.cnt + 1 then { b with c := b.s, cnt := 0 } else { b with cnt := b.cnt + 1 }

/-- Hold counter and suppression (R270). -/
def almSuppress (im : Image) (P p : Nat) (cond : Nat → Bool) (a : AlmPt) : AlmPt :=
  if alSuppEn im p then
    let sp := cond (alSuppPt im p)
    let h := if sp then almFrames P (alSuppHold im p) else a.h - 1
    { a with h := h, supp := sp || decide (0 < h) }
  else { a with supp := false }

/-- Rows 6 to 11 of R269. -/
def almLevel (im : Image) (p : Nat) (a : AlmPt) : AlmPt :=
  let go (st : Nat) : AlmPt := { a with state := st, trig := a.trig ||| 1 }
  if a.state = almNormal ∧ a.c then
    if alPrio im p = 3 then go almAck else { go almUnack with raised := true, entered := true }
  else if a.state = almUnack ∧ !a.c then go almReturn
  else if a.state = almAck ∧ !a.c then go almNormal
  else if a.state = almReturn ∧ a.c then { go almUnack with entered := true }
  else a

/-- The state of a point in step 2 of R267 (R269, R271). -/
def almState (im : Image) (p : Nat) (a : AlmPt) : AlmPt :=
  let sh := if a.state = almShelved ∧ !a.loaded then a.shelf - 1 else a.shelf
  if a.state = almOut then a
  else if a.supp then
    if a.state = almSuppressed then a
    else { a with state := almSuppressed, shelf := 0, trig := a.trig ||| 32 }
  else if a.state = almSuppressed then almLevel im p { a with state := almNormal, trig := a.trig ||| 64 }
  else if a.state = almShelved then
    if sh = 0 then almLevel im p { a with state := almNormal, shelf := 0, trig := a.trig ||| 16 }
    else { a with shelf := sh }
  else almLevel im p a

/-- Step 2 of R267 for one enabled point. -/
def almPoint (im : Image) (P : Nat) (e : AlmEnv) (cond : Nat → Bool) (p : Nat) (a : AlmPt) : AlmPt :=
  let a1 := almCondition im P p (almSource im e cond p a.raw) a
  if alLogic im p then { a1 with state := almNormal, prev := almNormal, trig := 0 }
  else almState im p (almSuppress im P p cond a1)

/-- Table of the alarm points (R28). -/
abbrev AlmTable := Tab AlmPt

/-- Step 2 for point `p` on the table: the conditions of lower points are already those of this frame. -/
def almTableStep (im : Image) (P : Nat) (e : AlmEnv) (t : AlmTable) (p : Nat) : AlmTable :=
  if alEn im p then tabMod {} t p (almPoint im P e (fun q => (tabGet {} t q).c) p) else t

/-! ## Requests (R268) -/

/-- Outcome of an alarm request. -/
inductive AlmReply where
  | ok | badValue | notAllowed | wrongState
  deriving DecidableEq, Repr

/-- The ACK_LOC of an enabled point that is no logic point allows the location. -/
def ackAllowed (im : Image) (loc p : Nat) : Bool :=
  alEn im p && !alLogic im p && (alAckLoc im p).testBit loc

/-- An acknowledgement of one point: the new entry, and whether it changed (R268). -/
def ackPoint (loc : Nat) (a : AlmPt) : AlmPt × Bool :=
  let go (st : Nat) : AlmPt × Bool :=
    ({ a with state := st, ackLast := loc, ackLoc := loc, trig := a.trig ||| 2 }, true)
  if a.state = almUnack then go almAck
  else if a.state = almReturn then go almNormal
  else (a, false)

/-- Acknowledge every point of a list; the count is the number of points changed. -/
def ackAll (loc : Nat) (ps : List Nat) (t : AlmTable) : AlmTable × Nat :=
  ps.foldl (fun x p => let r := ackPoint loc (tabGet {} x.1 p)
                       if r.2 then (tabSet {} x.1 p r.1, x.2 + 1) else x) (t, 0)

/-- Points that a group or all-points scope takes in for a location. -/
def ackScope (im : Image) (loc : Nat) (group : Option Nat) : List Nat :=
  (listedInst im clsALMPT).filter fun p => ackAllowed im loc p &&
    (match group with
      | some g => decide (alGroup im p = g)
      | none => true)

/-- Shelve for `d` minutes (R268, R271). -/
def shelvePoint (im : Image) (P p d : Nat) (a : AlmPt) : AlmReply × AlmPt :=
  if !alEn im p || d = 0 || 1440 < d then (.badValue, a)
  else if !alShelveOk im p || alShelveMax im p < d then (.notAllowed, a)
  else if a.state = almSuppressed ∨ a.state = almOut then (.wrongState, a)
  else (.ok, { a with state := almShelved, shelf := framesOf P (msC (60000 * d)), loaded := true, trig := a.trig ||| 4 })

/-- Unshelve (R268). -/
def unshelvePoint (im : Image) (p : Nat) (a : AlmPt) : AlmReply × AlmPt :=
  if !alEn im p then (.badValue, a)
  else if a.state ≠ almShelved then (.wrongState, a)
  else (.ok, { a with state := almNormal, shelf := 0, trig := a.trig ||| 8 })

/-- Remove from service (R268). -/
def removePoint (im : Image) (p : Nat) (a : AlmPt) : AlmReply × AlmPt :=
  if !alEn im p then (.badValue, a)
  else if alLogic im p then (.notAllowed, a)
  else (.ok, { a with state := almOut, shelf := 0, trig := a.trig ||| 128 })

/-- Return to service (R268). -/
def returnPoint (im : Image) (p : Nat) (a : AlmPt) : AlmReply × AlmPt :=
  if !alEn im p then (.badValue, a)
  else if a.state ≠ almOut then (.wrongState, a)
  else (.ok, { a with state := almNormal, trig := a.trig ||| 256 })

/-! ## First-out and groups (R272 to R275) -/

/-- The point stands in ACTIVE_UNACK, ACTIVE_ACK or RETURN_UNACK. -/
def almStands (st : Nat) : Bool := decide (1 ≤ st) && decide (st ≤ 3)

/-- R272 for one group: the new FO_POINT and the event. -/
def firstOut (im : Image) (t : AlmTable) (g : Nat) (gr : Grp) : Grp × List EvReq :=
  let mem := (listedInst im clsALMPT).filter fun p => alEn im p && alFo im p && decide (alGroup im p = g)
  let e := mem.filter fun p => (tabGet {} t p).raised
  let others := mem.any fun p => !(tabGet {} t p).raised && almStands (tabGet {} t p).state
  let fo := if gr.fo.isSome && !others then none else gr.fo
  match fo, e.head? with
  | none, some p => ({ gr with fo := some p }, [{ code := 0x0A02, src := g, p1 := p }])
  | _, _ => ({ gr with fo := fo }, [])

/-- Counted members of a group (R273). -/
def countedMembers (im : Image) (g : Nat) : List Nat :=
  (listedInst im clsALMPT).filter fun p =>
    alEn im p && !alLogic im p && decide (alGroup im p = g) && decide (alPrio im p ≤ grMinPrio im g)

/-- Group output of frame `n` (R274). -/
def groupOut (im : Image) (P n g : Nat) (states : List Nat) : Bool :=
  let unack := states.any fun s => s = almUnack ∨ s = almReturn
  match grOutMode im g with
  | 0 => states.any almStands
  | 1 => unack
  | _ => if unack then decide (n / max 1 (framesOf P (msC (10 * grFlash im g))) % 2 = 0)
         else states.any (· = almAck)

/-- Bits [55:0] of the group payload (R275). -/
def groupPayload (im : Image) (t : AlmTable) (g : Nat) (out : Bool) (fo : Option Nat) : Nat :=
  let mem := countedMembers im g
  let st (p : Nat) : Nat := (tabGet {} t p).state
  let unack := mem.filter fun p => st p = almUnack ∨ st p = almReturn
  let act := mem.filter fun p => st p = almUnack ∨ st p = almAck
  let top := mem.foldl (fun x p => if almStands (st p) then min x (alPrio im p) else x) 7
  pack [(1, b2n out), (1, b2n (!unack.isEmpty)), (1, b2n (!act.isEmpty)), (1, b2n fo.isSome), (3, top), (1, 0),
    (16, act.length), (16, unack.length), (16, fo.getD 0xFFFF)]

/-- Step 4 of R267 for group `g`: the group and the 8-byte payload to load, if any. -/
def groupStep (im : Image) (P n : Nat) (t : AlmTable) (g : Nat) (gr : Grp) : Grp × Option Nat :=
  let out := groupOut im P n g ((countedMembers im g).map fun p => (tabGet {} t p).state)
  let b := groupPayload im t g out gr.fo
  if grObjEn im g && (decide (gr.sent ≠ some b) || decide (grObjCycle im g ≤ gr.since + 1)) then
    let tx := wrapN 8 (gr.tx + 1)
    ({ gr with out := out, sent := some b, since := 0, tx := tx, block := b + tx * 2 ^ 56 }, some (b + tx * 2 ^ 56))
  else ({ gr with out := out, since := gr.since + 1, block := b + gr.tx * 2 ^ 56 }, none)

/-! ## Status and events (R277, R278) -/

/-- The point status block (R277). -/
def pointBlock (first : Bool) (a : AlmPt) : Rec :=
  packRec [(4, a.state), (1, b2n a.s), (1, b2n a.c), (1, b2n a.supp), (1, b2n first), (8, 0), (32, a.cnt), (32, a.shelf),
    (32, a.h), (8, a.ackLast)]

/-- Event 0A01h of one point (R278). -/
def almEvent (p : Nat) (a : AlmPt) : List EvReq :=
  if a.state ≠ a.prev ∨ a.trig &&& 0x38E ≠ 0 then
    [{ code := 0x0A01, src := p, p1 := a.state, p2 := a.prev, p3 := a.trig + a.ackLoc * 65536 }]
  else []

/-- The entry at the end of the frame. -/
def almClose (a : AlmPt) : AlmPt :=
  { a with prev := a.state, trig := 0, ackLoc := 0xFF, loaded := false, raised := false, entered := false }

/-! ## Changes at commit (R265, R276) -/

/-- The fields whose change restarts a point. -/
def almKey (im : Image) (p : Nat) : List Nat :=
  [b2n (alLogic im p), alKind im p, alCh im p, alSel im p, imF im clsALMPT p 64 32, alHyst im p, b2n (alInv im p),
    alOp im p 0, alOp im p 1, alOp im p 2, alOp im p 3]

/-- A frame count under a new period (R265). -/
def convFrames (pOld pNew x : Nat) : Nat := if pOld = pNew then x else ceilDiv (x * pOld) pNew

/-- A point at the strobe that opens a new configuration (R265, R276). -/
def almCommit (old new : Image) (p : Nat) (a0 : AlmPt) : AlmPt :=
  let pO := imPeriod old
  let pN := imPeriod new
  let a := { a0 with shelf := convFrames pO pN a0.shelf, h := convFrames pO pN a0.h }
  let fresh := { a with s := false, raw := false, c := false, cnt := 0, h := 0, shelf := 0, supp := false }
  if !alEn new p then
    if alEn old p && decide (a.state ≠ almNormal) then
      { fresh with state := almNormal, trig := if alLogic old p then 0 else 512 }
    else { fresh with state := almNormal }
  else if !alEn old p || decide (almKey old p ≠ almKey new p) then
    let st := if a.state = almOut ∧ !alLogic new p then almOut else almNormal
    { fresh with state := st, trig := if st ≠ a.state then a.trig ||| 512 else a.trig }
  else if a.state = almShelved then
    if !alShelveOk new p then { a with state := almNormal, shelf := 0, trig := a.trig ||| 8 }
    else { a with shelf := if alShelveMax new p < alShelveMax old p
                             then min a.shelf (framesOf pN (msC (60000 * alShelveMax new p))) else a.shelf }
  else a

/-- A group at the strobe that opens a new configuration (R275). -/
def grpCommit (old new : Image) (g : Nat) (gr : Grp) : Grp :=
  if (grObjEn new g && !grObjEn old g) || decide (grOutObj new g ≠ grOutObj old g) then
    { gr with sent := none, since := 0, tx := 0 }
  else gr

end Sys2Proof.Machine
end

