-- ==== Sys2Proof/Machine/Call.lean ====
section
/-! DEFINITION. The engineer call and the dead-man function (chapter 11): requests of the stations, the call
state, the dead-man timer, the stations' outputs and payloads, and changes at commit. -/

namespace Sys2Proof.Machine

/-- The state of the engineer call with its stations. -/
abbrev CallPart := CallSys × Tab Station

/-- Frames of `s` seconds. -/
def secFrames (P s : Nat) : Nat := framesOf P (msC (1000 * s))

/-- Enabled stations, ascending. -/
def callStations (im : Image) : List Nat := (List.range 16).filter (caEn im)

/-- Station `k` is an enabled cabin station (R281, R284, R287). -/
def isCabin (im : Image) (k : Nat) : Bool := decide (k < 16) && caEn im k && decide (caKind im k = 0)

/-- The duty station exists and is reachable (R285, R291). -/
def dutyReachable (im : Image) (x : CallPart) : Bool :=
  match x.1.duty with
  | some k => !((tabGet {} x.2 k).lost && !caDoEn im k)
  | none => false

/-- LINK_LOST of one station in step 5 (R291). -/
def linkStep (im : Image) (P k : Nat) (s : Station) : Station :=
  if !caCanEn im k then { s with heard := false }
  else if s.heard then { s with lost := false, quiet := 0, heard := false }
  else
    let q := s.quiet + 1
    if !s.lost && decide (secFrames P 3 ≤ q) then { s with quiet := q, lost := true, fresh := true }
    else { s with quiet := q }

/-- A dead-man reset from location `loc` (R288). -/
def dmResetFrom (P : Nat) (im : Image) (loc : Nat) (c : CallSys) : CallSys :=
  if c.dmState = 0 then c
  else { c with dmState := 1, dm := secFrames P (csTDm im), dmLoaded := true, dmLoc := loc, dmReset := true }

/-- The duty station set by location `loc` (R287). -/
def setDuty (loc : Nat) (d : Option Nat) (c : CallSys) : CallSys :=
  if c.duty = d then c else { c with duty := d, dutyLoc := loc }

/-- One request of step 5a (R284, R286, R287, R288). Requests a station may not make are ignored. -/
def callRequest (im : Image) (P : Nat) (r : CallReq) (x : CallPart) : CallPart :=
  let k := r.loc - 1
  let mach := decide (r.loc ≠ 0) && caEn im k && caMach im k
  match r.req with
  | 1 =>
    let s := tabGet {} x.2 k
    if r.loc ≠ 0 ∧ caEn im k ∧ s.called then
      (if mach then dmResetFrom P im r.loc x.1 else x.1,
        tabSet {} x.2 k { s with acc := true, accSet := s.accSet || !s.acc })
    else x
  | 2 | 3 => if mach then (dmResetFrom P im r.loc x.1, x.2) else x
  | 4 =>
    let ok := decide (r.loc = 0) || (caEn im k && caSelOk im k)
    if !ok then x
    else if r.arg = 0xFF then (setDuty r.loc none x.1, x.2)
    else if isCabin im r.arg then (setDuty r.loc (some r.arg) x.1, x.2)
    else x
  | 5 =>
    if mach && csDmEn im then
      ({ x.1 with dmState := 1, dm := secFrames P (csTDm im), dmLoaded := true, dmLoc := r.loc }, x.2)
    else x
  | 6 => if mach && csDmEn im then ({ x.1 with dmState := 0, dm := 0, dmLoc := r.loc }, x.2) else x
  | 7 => if mach && csDmEn im then (dmResetFrom P im r.loc x.1, x.2) else x
  | _ => x

/-- Points that CALL_PRIO counts (R285). -/
def callCounted (im : Image) : List Nat :=
  (listedInst im clsALMPT).filter fun p => alEn im p && !alLogic im p && decide (alPrio im p ≤ csPrio im)

/-- U(n) (R285). -/
def callU (im : Image) (t : AlmTable) : Nat :=
  ((callCounted im).filter fun p =>
    let s := (tabGet {} t p).state
    decide (s = almUnack) || decide (s = almReturn)).length

/-- Step 5b: the call state and the escalation timer (R285). -/
def callState (im : Image) (P u : Nat) (x : CallPart) : CallSys :=
  let c := { x.1 with u := u }
  if c.cs = 0 ∧ 0 < u then
    if dutyReachable im x then { c with cs := 1, esc := secFrames P (csTEsc im), csWhy := 1 }
    else { c with cs := 2, csWhy := 1 }
  else if c.cs ≠ 0 ∧ u = 0 then { c with cs := 0, csWhy := 3 }
  else if c.cs = 1 then
    if c.duty.isNone then { c with cs := 2, csWhy := if c.dutyLoc = 0xFF then 5 else 4 }
    else if !dutyReachable im x && csLostEsc im then { c with cs := 2, csWhy := 4 }
    else if c.esc ≤ 1 then { c with esc := 0, cs := 2, csWhy := 2 }
    else { c with esc := c.esc - 1 }
  else c

/-- Step 5c: the dead-man timer (R288). -/
def dmStep (im : Image) (P : Nat) (c : CallSys) : CallSys :=
  if (c.dmState = 1 ∨ c.dmState = 2) ∧ !c.dmLoaded then
    let d := c.dm - 1
    if d = 0 then { c with dm := 0, dmState := 3, dmLoc := 0 }
    else if c.dmState = 1 ∧ d ≤ secFrames P (csTPre im) then { c with dm := d, dmState := 2, dmLoc := 0 }
    else { c with dm := d }
  else c

/-- The bridge watch alarm (R289). -/
def bridgeWatch (c : CallSys) : Bool := decide (c.cs = 2) || decide (c.dmState = 3)

/-- CALLED of a station (R289). -/
def stationCalled (im : Image) (k : Nat) (c : CallSys) : Bool :=
  match caKind im k with
  | 0 => (decide (c.cs = 1) && decide (c.duty = some k)) || bridgeWatch c
  | 1 => decide (c.cs ≠ 0) || decide (c.dmState = 3)
  | _ => bridgeWatch c

/-- Bits [59:0] of a station payload (R290). -/
def stationPayload (P : Nat) (called acc here : Bool) (c : CallSys) : Nat :=
  pack [(1, b2n called), (1, b2n acc), (1, b2n (decide (c.cs = 2))), (1, b2n here), (1, b2n (bridgeWatch c)),
    (2, c.dmState), (1, 0), (4, c.duty.getD 0), (1, b2n c.duty.isNone), (3, 0), (16, satN 16 c.u),
    (16, if c.cs = 1 then ceilDiv (c.esc * P) 400000000 else 0),
    (12, if c.dmState = 1 ∨ c.dmState = 2 then ceilDiv (c.dm * P) 400000000 else 0)]

/-- The call status block (R290). -/
def callBlock (P : Nat) (c : CallSys) : Nat := stationPayload P false false false c

/-- Step 5d for station `k` in frame `n`: the station and the payload to load, if any (R289, R290). -/
def stationStep (im : Image) (P n k : Nat) (c : CallSys) (s : Station) : Station × Option Nat :=
  let called := stationCalled im k c
  let acc := s.acc && called
  let flash := caMach im k && decide (c.dmState = 2) && decide (n / max 1 (framesOf P (msC 500)) % 2 = 0)
  let s1 := { s with called := called, acc := acc, out := (called && !acc) || flash }
  let b := stationPayload P called acc (decide (c.duty = some k)) c
  if caCanEn im k && (decide (s.sent ≠ some b) || decide (caObjCycle im k ≤ s.since + 1)) then
    let tx := wrapN 4 (s.tx + 1)
    ({ s1 with sent := some b, since := 0, tx := tx }, some (b + tx * 2 ^ 60))
  else ({ s1 with since := s.since + 1 }, none)

/-- A frame passes for a station that does not run: only the age of its last transmission goes on (R290). -/
def stationAge (s : Station) : Station := if s.sent.isSome then { s with since := s.since + 1 } else s

/-- Every ACC bit clears (R286). -/
def clearAcc (t : Tab Station) : Tab Station :=
  (t.map fun e => (e.1, { e.2 with acc := false })).filter fun e => decide (e.2 ≠ {})

/-- The button request of a station in this frame, from the result of BTN_CH and its result of frame n − 1 (R283). -/
def buttonRequest (im : Image) (k : Nat) (res : Option Rec) (was : PrevVal) : Option CallReq :=
  match res with
  | some r =>
    if caBtnEn im k && bit r 0 && !bit r 10 && !was.state && !was.held then
      some { loc := k + 1, req := match caBtnFn im k with | 0 => 1 | 1 => 2 | _ => 7 }
    else none
  | none => none

/-- A message on RX_OBJ of station `k` (R282): the station and the request it carries. `was` is REQ_SEQ of the previous message
received on the object. -/
def stationMessage (k : Nat) (was : Option Nat) (seq req arg : Nat) (s : Station) : Station × Option CallReq :=
  ({ s with heard := true, fresh := false },
    if s.fresh || was.isNone || decide (was = some seq) || decide (req = 0) || decide (7 < req) then none
    else some { loc := k + 1, req := req, arg := arg })

/-- Events of the stations and of the call (R293). -/
def callEvents (im : Image) (was : Tab Station) (x : CallPart) : List EvReq :=
  let c := x.1
  ((callStations im).flatMap fun k =>
    let s := tabGet {} x.2 k
    (if s.accSet && s.acc then [{ code := 0x0B03, src := k, p1 := 1, p2 := c.cs : EvReq }] else []) ++
      flagEvent 0x0B05 k (tabGet {} was k).lost s.lost 0 0) ++
  (if c.cs = c.csWas then [] else [{ code := 0x0B01, src := 0xFF, p1 := c.cs, p2 := c.csWas, p3 := c.csWhy }]) ++
  (if c.duty = c.dutyWas then []
    else [{ code := 0x0B02, src := 0xFF, p1 := c.duty.getD 0xFF, p2 := c.dutyWas.getD 0xFF, p3 := c.dutyLoc }]) ++
  (if c.dmState = c.dmWas && !c.dmReset then []
    else [{ code := 0x0B04, src := 0xFF, p1 := c.dmState, p2 := c.dmWas, p3 := c.dmLoc }])

/-- The marks of a frame, cleared for the next one. -/
def callClose (x : CallPart) : CallPart :=
  ({ x.1 with dmLoaded := false, dmReset := false, reqs := [], csWas := x.1.cs, dutyWas := x.1.duty, dmWas := x.1.dmState
              csWhy := 0, dutyLoc := 0, dmLoc := 0 },
    (x.2.map fun e => (e.1, { e.2 with accSet := false })).filter fun e => decide (e.2 ≠ {}))

/-- Step 5 of R267 in frame `n` on the point table of the frame: the new state, the payloads to load as
(station, payload), and the events. -/
def callStep (im : Image) (P n : Nat) (t : AlmTable) (x0 : CallPart) : CallPart × List (Nat × Nat) × List EvReq :=
  let ks := callStations im
  let aged := ((List.range 16).filter fun k => !caEn im k).foldl (fun st k => tabMod {} st k stationAge) x0.2
  if !csEn im then (callClose (x0.1, aged), [], callEvents im x0.2 x0)
  else
    let x1 : CallPart := (x0.1, ks.foldl (fun st k => tabMod {} st k (linkStep im P k)) aged)
    let x2 := x0.1.reqs.foldl (fun x r => callRequest im P r x) x1
    let u := callU im t
    let c3 := dmStep im P (callState im P u x2)
    let raised := (callCounted im).any fun p => (tabGet {} t p).entered
    let st3 := if c3.cs ≠ x2.1.cs ∨ raised then clearAcc x2.2 else x2.2
    let r := ks.foldl (fun (y : Tab Station × List (Nat × Nat)) k =>
      let q := stationStep im P n k c3 (tabGet {} y.1 k)
      (tabSet {} y.1 k q.1, match q.2 with | some b => y.2 ++ [(k, b)] | none => y.2)) (st3, [])
    (callClose (c3, r.1), r.2, callEvents im x0.2 (c3, r.1))

/-- The engineer call at the strobe that opens a new configuration (R282, R290, R292). -/
def callCommit (old new : Image) (x : CallPart) : CallPart :=
  let pO := imPeriod old
  let pN := imPeriod new
  let c := x.1
  let c1 := { c with esc := min (convFrames pO pN c.esc) (secFrames pN (csTEsc new))
                     dm := min (convFrames pO pN c.dm) (secFrames pN (csTDm new)) }
  let c2 := match c1.duty with
    | some k => if isCabin new k then c1 else setDuty 0xFF none c1
    | none => c1
  let c3 := if csDmEn new then c2 else { c2 with dmState := 0, dm := 0, dmLoc := 0 }
  let c4 := if csEn new || !csEn old then c3 else { c3 with cs := 0, esc := 0, dmState := 0, dm := 0, csWhy := 5, u := 0, reqs := [] }
  let one (st : Tab Station) (k : Nat) : Tab Station :=
    let s := tabGet {} st k
    tabSet {} st k
      (let s1 : Station := if caEn new k then { s with quiet := convFrames pO pN s.quiet } else { sent := s.sent, since := s.since, tx := s.tx }
      let s2 := if caCanEn old k = caCanEn new k then s1 else { s1 with lost := false, quiet := 0 }
      let s3 := if caEn old k then s2 else { s2 with fresh := true }
      if (caCanEn new k && !caCanEn old k) || decide (caTxObj new k ≠ caTxObj old k) then
        { s3 with sent := none, since := 0, tx := 0 }
      else s3)
  (c4, (List.range 16).foldl one x.2)

/-- The duty station after a start-up (R279, R292). -/
def callStart (im : Image) (c : CallSys) : CallSys :=
  let d := if csDutyInitEn im then some (csDutyInit im) else none
  { c with duty := d, dutyWas := d }

end Sys2Proof.Machine
end

