-- ==== Sys2Proof/Machine/Can.lean ====
section
/-! DEFINITION. The CAN controllers (chapter 16) and the ISO 15765-2 transport of CAN0 and CAN1 (R318). -/

namespace Sys2Proof.Machine

/-! ## Reception (R387 to R392) -/

/-- SPACE matches the identifier kind of a frame (R387). -/
def filterSpace (space : Nat) (m : CanMsg) : Bool :=
  match space with
  | 0 => decide (m.fmt ≠ 2) && !m.xtd
  | 1 => decide (m.fmt ≠ 2) && m.xtd
  | _ => decide (m.fmt = 2)

/-- The test of TYPE (R387). -/
def filterTest (im : Image) (i id : Nat) : Bool :=
  match cfType im i with
  | 0 => decide (cfId1 im i ≤ id) && decide (id ≤ cfId2 im i)
  | 1 => decide (id = cfId1 im i) || decide (id = cfId2 im i)
  | _ => decide (id &&& cfId2 im i = cfId1 im i &&& cfId2 im i)

/-- The first enabled element of controller `k` that takes the frame (R388). -/
def filterFind (im : Image) (k : Nat) (m : CanMsg) : Option Nat :=
  ((List.range 64).map (64 * k + ·)).find? fun i => cfEn im i && filterSpace (cfSpace im i) m && filterTest im i m.id

/-- The decision of R388 below the transport. -/
inductive RxWhere where
  | store (obj : Nat) | reject | format | locked | noMatch
  deriving DecidableEq, Repr

/-- R388: where a valid data frame of controller `k` goes. -/
def canDecide (im : Image) (k : Nat) (m : CanMsg) (objs : Tab CanObj) : RxWhere :=
  match filterFind im k m with
  | none => .noMatch
  | some i =>
    if cfReject im i then .reject
    else
      let o := 128 * k + cfObj im i
      if coFmt im o ≠ m.fmt ∨ coSize im o < m.data.length then .format
      else if (tabGet {} objs o).locked then .locked
      else .store o

/-- R389: a message is stored into a receive object; the Bool tells that an older one was lost. -/
def canStore (m : CanMsg) (o : CanObj) : CanObj × Bool :=
  ({ o with msg := m, upd := wrapN 8 (o.upd + 1), new := true, lostMsg := o.lostMsg || o.new }, o.new)

/-- A counter of R409 or R379. -/
def inc16 (n : Nat) : Nat := satN 16 (n + 1)

/-- The controller state that TEC and REC give (R398). -/
def canStateOf (c : CanCtl) : Nat :=
  if c.state = 2 ∨ c.state = 3 then c.state
  else if 127 < c.tec ∨ 127 < c.recCnt then 1 else 0

/-- The controller with its state formed from its counters; bus-off past 255 (R398, R399). -/
def canSettle (k : Nat) (c : CanCtl) : CanCtl × List EvReq :=
  let c1 := if c.state < 2 ∧ 255 < c.tec then
      { c with state := 2, recovering := true, busOff := inc16 c.busOff, tmRun := false, refPend := false, cycleAt := none }
    else { c with state := canStateOf c }
  let ev (was : Nat) : List EvReq :=
    if c1.state = was then []
    else [{ code := 0x0E10, src := k, p1 := c1.state, p2 := was
            p3 := satN 8 c1.tec + 256 * satN 8 c1.recCnt + 65536 * c1.busOff }]
  (c1, ev c.state)

/-- ACKRUN returns to 0 (R402). -/
def ackRunZero (k inst : Nat) (c : CanCtl) : CanCtl × List EvReq :=
  ({ c with ackRun := 0, noAck := false },
    if c.noAck then [{ code := 0x0E11, src := k, p1 := 0, p2 := inst, p3 := satN 8 c.tec }] else [])

/-- REC after a valid reception (R398). -/
def recDown (n : Nat) : Nat :=
  if n = 0 then 0 else if 127 < n then 119 + Config.recBack n % 9 else n - 1

/-- Counters and state of controller `k` at a valid frame (R398, R402). -/
def canValid (k : Nat) (restricted : Bool) (c : CanCtl) : CanCtl × List EvReq :=
  let a := ackRunZero k 0xFFFF c
  let b := canSettle k (if restricted then a.1 else { a.1 with recCnt := recDown a.1.recCnt })
  (b.1, a.2 ++ b.2)

/-! ## Transmission (R394 to R402) -/

/-- The wire frame of a transmit object with payload `data` (R385, R394). -/
def canTxMsg (im : Image) (o : Nat) (data : List Byte) : CanMsg :=
  { id := coId im o, xtd := coXtd im o, fmt := coFmt im o, brs := coBrs im o, sec := coSec im o, sdt := coSdt im o
    vcid := coVcid im o, af := coAf im o, data := data }

/-- A load of frame `n` at the instant `now` (R394, R397). -/
def canLoad (im : Image) (now n o : Nat) (data : List Byte) (x : CanObj) : CanObj :=
  let m := canTxMsg im o data
  { x with msg := m, was := x.msg, txPend := true, pendAt := if x.txPend then x.pendAt else now, upd := wrapN 8 (x.upd + 1), app := m, frame := n, count := wrapN 16 (x.count + 1), errors := 0
           blocked := false }

/-- An object after its frame was sent without error (R395, R397, R405). -/
def objSent (tt stale : Bool) (x : CanObj) : CanObj :=
  if tt then { x with result := 0, inWindow := false }
  else if stale then { x with result := 0, errors := 0 }
  else { x with result := 0, txPend := false }

/-- An object after an attempt that ended in an error; the Bool tells that its request ended (R396, R397). -/
def objFailed (im : Image) (o : Nat) (stale : Bool) (x : CanObj) : CanObj × Bool :=
  if stale then ({ x with errors := 0, inWindow := false }, false)
  else
    let e := x.errors + 1
    if coRetry im o ≠ 0 ∧ coRetry im o ≤ e then
      ({ x with errors := e, txPend := false, result := 0x0A01, inWindow := false }, true)
    else ({ x with errors := e, inWindow := false }, false)

/-- Controller `k` after a frame of its own was sent (R398, R402). `inst` is the CANOBJ instance or FFFFh. -/
def ctlSent (k inst : Nat) (c : CanCtl) : CanCtl × List EvReq :=
  let b := canSettle k { c with tec := c.tec - 1, txOk := inc16 c.txOk }
  let a := ackRunZero k inst b.1
  (a.1, b.2 ++ a.2)

/-- Controller `k` after an attempt of its own ended in error `err` (LEC code of R409). `dominant` tells that a
dominant bit followed during its passive error flag (R398, R402). -/
def ctlFailed (k inst err : Nat) (dominant : Bool) (c : CanCtl) : CanCtl × List EvReq :=
  let keep := decide (c.state = 1) && decide (err = 3) && !dominant
  let run := if err = 3 then satN 16 (c.ackRun + 1) else 0
  let lone := decide (0 < run) && (c.noAck || decide (16 ≤ run))
  let b := canSettle k { c with tec := if keep then c.tec else c.tec + 8, lec := err, ackRun := run, noAck := lone }
  (b.1, b.2 ++ flagEvent 0x0E11 k c.noAck lone inst (satN 8 b.1.tec))

/-- Controller `k` after an error it detected while receiving (R398): 8 when it saw a dominant bit after its error
flag, else 1. -/
def ctlRxError (k err : Nat) (eight : Bool) (c : CanCtl) : CanCtl × List EvReq :=
  canSettle k { c with recCnt := c.recCnt + (if eight then 8 else 1), lec := err }

/-- R399. -/
def ctlRecover (k : Nat) (c : CanCtl) : CanCtl × List EvReq :=
  if c.state = 2 then
    let d := { c with state := 0, tec := 0, recCnt := 0, recovering := false }
    (d, [{ code := 0x0E10, src := k, p1 := 0, p2 := 2, p3 := 65536 * c.busOff }])
  else (c, [])

/-- The reference message succeeds: a basic cycle starts (R404, R406). -/
def ctlReference (im : Image) (k now : Nat) (c : CanCtl) : CanCtl :=
  { c with cycle := if c.tmRun then (c.cycle + 1) % 2 ^ ctlMatrix im k else 0, cycleAt := some now, refPend := false, tmRun := true }

/-- Instant of the mark of a transmit object whose window falls in the current basic cycle (R405). -/
def ttMarkAt (im : Image) (o : Nat) (c : CanCtl) : Option Nat :=
  match c.cycleAt with
  | some a =>
    if coEn im o && coTx im o && coTt im o && decide (c.cycle % 2 ^ coTtRep im o = coTtBase im o) then some (a + usC (coTtMark im o)) else none
  | none => none

/-- The window of a transmit object falls in the current basic cycle and its mark has come (R405). -/
def ttDue (im : Image) (o now : Nat) (c : CanCtl) : Bool :=
  (ttMarkAt im o c).any fun m => decide (m ≤ now)

/-- Rank of a frame in arbitration, the lowest first: by its 11 leading identifier bits, then a base frame before an extended one,
Classical and FD before XL (R395). -/
def arbKey (m : CanMsg) : Nat :=
  if m.fmt = 2 then m.id * 2 ^ 20 + 2 ^ 19
  else if m.xtd then m.id / 2 ^ 18 * 2 ^ 20 + 2 ^ 18 + m.id % 2 ^ 18
  else m.id * 2 ^ 20

/-! ## Blocks (R390, R409) -/

/-- The 32-byte object header as READ_CANOBJ returns it (R390, R393). -/
def canHeader (o : CanObj) : List Byte :=
  let m := o.app
  packBytes 32 [(29, m.id), (1, b2n m.xtd), (2, m.fmt), (1, b2n m.brs), (1, b2n m.esi), (1, b2n m.sec), (5, 0), (8, m.sdt),
    (8, m.vcid), (8, 0), (32, m.af), (12, m.data.length), (20, 0), (48, o.frame), (16, o.count)]

/-- The controller status block (R409). -/
def canBlock (restricted : Bool) (c : CanCtl) : List Byte :=
  packBytes 32 [(8, satN 8 c.tec), (8, satN 8 c.recCnt), (2, c.state), (1, b2n c.recovering), (1, b2n c.noAck),
    (1, b2n restricted), (1, b2n c.tmRun), (2, 0), (3, c.lec), (5, 0), (16, c.busOff), (16, c.ackRun), (16, c.rxNoMatch),
    (16, c.rxReject), (16, c.rxFormat), (16, c.rxLocked), (16, c.msgLost), (16, c.rxRemote), (16, c.protoExc), (16, c.txOk),
    (16, c.txRetry), (16, c.ttMiss), (6, c.cycle)]

/-- An object transmit entry (R409). -/
def canTxEntry (o : CanObj) : List Byte :=
  packBytes 4 [(16, o.result), (8, satN 8 o.errors), (1, b2n o.txPend)]

/-! ## Changes at commit (R386, R408) -/

/-- An object at the strobe that opens a new configuration. -/
def canObjCommit (old new : Image) (o : Nat) (x : CanObj) : CanObj :=
  if coTx old o = coTx new o ∧ coFmt old o = coFmt new o ∧ coId old o = coId new o ∧ coSize old o = coSize new o then x
  else { x with msg := {}, new := false, lostMsg := false, locked := false, txPend := false, errors := 0, inWindow := false
                app := {}, frame := 0, blocked := false }

/-- The time master of a controller stops; its next reference message starts a matrix anew (R406). -/
def ctlHalt (c : CanCtl) : CanCtl := { c with tmRun := false, refPend := false, cycleAt := none }

/-- 0E10h when a commit that takes a controller off its bus ends error passive or bus-off (R398, R408). -/
def ctlCommitEvents (k : Nat) (old new : CanCtl) : List EvReq :=
  if old.state = new.state ∨ 2 < old.state ∨ 2 < new.state then []
  else [{ code := 0x0E10, src := k, p1 := new.state, p2 := old.state, p3 := satN 8 new.tec + 256 * satN 8 new.recCnt + 65536 * new.busOff }]

/-- A controller at that strobe: off, newly on, or taken off the bus to integrate again. -/
def canCtlCommit (old new : Image) (k : Nat) (c : CanCtl) : CanCtl :=
  if ctlRestrict new k ∧ !ctlRestrict old k ∧ ctlEn new k ∧ ctlEn old k ∧ ctlF old k 8 104 = ctlF new k 8 104 ∧
      ctlProto old k = ctlProto new k ∧ ctlTmEn old k = ctlTmEn new k then ctlHalt c
  else if !ctlEn new k then { c with state := 3, tec := 0, recCnt := 0, recovering := false, tmRun := false, refPend := false, cycleAt := none }
  else if !ctlEn old k then { c with state := 0, tec := 0, recCnt := 0 }
  else if ctlF old k 8 104 ≠ ctlF new k 8 104 ∨ ctlProto old k ≠ ctlProto new k ∨ ctlTmEn old k ≠ ctlTmEn new k then
    { c with state := 0, tec := 0, recCnt := 0, recovering := false, tmRun := false, refPend := false, cycleAt := none }
  else c

/-! ## ISO 15765-2 (R318) -/

/-- TX_DL in bytes (R376). -/
def txDlBytes (code : Nat) : Nat := [8, 12, 16, 20, 24, 32, 48, 64].getD code 8

/-- Fill a frame up to a CAN FD length. -/
def isoFill (b : List Byte) : List Byte :=
  if b.length ≤ 8 then b
  else
    let n := ([12, 16, 20, 24, 32, 48, 64].find? (b.length ≤ ·)).getD 64
    b ++ List.replicate (n - b.length) Config.isoPad

/-- Byte `k` of a frame as a number. -/
def nth (b : List Byte) (k : Nat) : Nat := (b.getD k 0#8).toNat

/-- What a transport frame leads to: the transport, a whole message, and the messages dropped. -/
structure IsoRx where
  tp    : IsoTp
  whole : Option (List Byte) := none
  drops : Nat := 0
  deriving DecidableEq, Repr

/-- Reception ends. -/
def isoRxIdle (x : IsoTp) : IsoTp := { x with rxLen := 0, rxBuf := [], rxNext := 0 }
/-- Transmission of the message in progress ends; the next one waiting starts. -/
def isoTxNext (now : Nat) (x : IsoTp) : IsoTp :=
  match x.queue with
  | [] => { x with txBuf := [], txSn := 0, txStage := 0, txBlock := none, txWaits := 0 }
  | m :: r => { x with queue := r, txBuf := m, txSn := 1, txStage := 1, txBlock := none, txWaits := 0, txAt := now }

/-- A first frame announcing `len` bytes. -/
def isoFirst (now len : Nat) (data : List Byte) (x : IsoTp) : IsoRx :=
  let d := if 0 < x.rxLen then 1 else 0
  if 8192 < len then { tp := isoRxIdle x, drops := d + 1 }
  else { tp := { x with rxLen := len, rxBuf := data, rxNext := 1, rxAt := now, fcDue := true }, drops := d }

/-- A transport frame arrives (R318). -/
def isoReceive (now : Nat) (b : List Byte) (x : IsoTp) : IsoRx :=
  let p := nth b 0
  match p / 16 with
  | 0 =>
    let d := if 0 < x.rxLen then 1 else 0
    let n := if p % 16 = 0 then nth b 1 else p % 16
    let data := if p % 16 = 0 then b.drop 2 else b.drop 1
    if n = 0 ∨ data.length < n then { tp := x } else { tp := isoRxIdle x, whole := some (data.take n), drops := d }
  | 1 =>
    let n := p % 16 * 256 + nth b 1
    if n = 0 then isoFirst now (((nth b 2 * 256 + nth b 3) * 256 + nth b 4) * 256 + nth b 5) (b.drop 6) x
    else isoFirst now n (b.drop 2) x
  | 2 =>
    if x.rxLen = 0 then { tp := x }
    else if p % 16 ≠ x.rxNext then { tp := isoRxIdle x, drops := 1 }
    else
      let buf := x.rxBuf ++ b.drop 1
      if x.rxLen ≤ buf.length then { tp := isoRxIdle x, whole := some (buf.take x.rxLen) }
      else { tp := { x with rxBuf := buf, rxNext := (x.rxNext + 1) % 16, rxAt := now } }
  | 3 =>
    if x.txStage ≠ 2 then { tp := x }
    else match p % 16 with
      | 0 =>
        let bs := nth b 1
        { tp := { x with txStage := 3, txBlock := if bs = 0 then none else some bs, txGap := nth b 2, txWaits := 0, txAt := now } }
      | 1 => if x.txWaits < 10 then { tp := { x with txWaits := x.txWaits + 1, txAt := now } }
             else { tp := isoTxNext now x, drops := 1 }
      | _ => { tp := isoTxNext now x, drops := 1 }
  | _ => { tp := x }

/-- A message to send (R318). -/
def isoSend (now : Nat) (m : List Byte) (x : IsoTp) : IsoTp :=
  if x.txStage = 0 then isoTxNext now { x with queue := x.queue ++ [m] } else { x with queue := x.queue ++ [m] }

/-- The transport frame that is due, if any, and the bytes of the message it carries; `dl` is TX_DL in bytes. -/
def isoFrame (dl : Nat) (x : IsoTp) : Option (List Byte × Nat) :=
  let byte (n : Nat) : Byte := BitVec.ofNat 8 n
  let len := x.txBuf.length
  if x.fcDue then some ([0x30#8, 0#8, 0#8], 0)
  else if x.txStage = 1 then
    if len ≤ 7 then some (byte len :: x.txBuf, len)
    else if len + 2 ≤ dl then some (isoFill (0#8 :: byte len :: x.txBuf), len)
    else if len ≤ 4095 then some (byte (16 + len / 256) :: byte len :: x.txBuf.take (dl - 2), dl - 2)
    else some (0x10#8 :: 0#8 :: byte (len / 16777216) :: byte (len / 65536) :: byte (len / 256) :: byte len :: x.txBuf.take (dl - 6), dl - 6)
  else if x.txStage = 3 then
    let n := min len (dl - 1)
    some (isoFill (byte (32 + x.txSn) :: x.txBuf.take n), n)
  else none

/-- The transport after the frame due has been sent. -/
def isoSent (now dl : Nat) (x : IsoTp) : IsoTp :=
  match isoFrame dl x with
  | none => x
  | some (_, n) =>
    if x.fcDue then { x with fcDue := false }
    else
      let rest := x.txBuf.drop n
      if rest = [] then isoTxNext now x
      else if x.txStage = 1 then { x with txBuf := rest, txStage := 2, txAt := now }
      else
        let y := { x with txBuf := rest, txSn := (x.txSn + 1) % 16, txAt := now }
        match x.txBlock with
        | some 1 => { y with txStage := 2, txBlock := none }
        | some k => { y with txBlock := some (k - 1) }
        | none => y

/-- The separation time that a flow control asks for, in Zenith cycles (R318). -/
def isoGap (st : Nat) : Nat := if st < 128 then msC st else if 0xF1 ≤ st ∧ st ≤ 0xF9 then usC (100 * (st - 0xF0)) else msC 127

/-- The frame due may go out now: a consecutive frame waits for the separation time (R318). -/
def isoReady (now : Nat) (x : IsoTp) : Bool := x.fcDue || decide (x.txStage ≠ 3) || decide (x.txAt + isoGap x.txGap ≤ now)

/-- N_Bs or N_Cr of 1,000 ms has run out at `now`: the transport, and the messages dropped. -/
def isoTimeout (now : Nat) (x : IsoTp) : IsoTp × Nat :=
  let a := decide (0 < x.rxLen) && decide (x.rxAt + msC 1000 ≤ now)
  let b := decide (x.txStage = 2) && decide (x.txAt + msC 1000 ≤ now)
  let y := if a then isoRxIdle x else x
  (if b then isoTxNext now y else y, b2n a + b2n b)

end Sys2Proof.Machine
end

