-- ==== Sys2Proof/Machine/Curves.lean ====
section
/-! DEFINITION. Curves and trim of an analog channel (R130 to R134, R139). -/

namespace Sys2Proof.Machine

/-! ## Trim (R139) -/

/-- The zero unit u of R139 in record units. -/
def trimUnit (mode sub : Nat) : Int :=
  if mode = 1 then 100 else if mode = 5 && sub = 1 then 1000 else 10

/-- The trimmed input x of R139, before saturation (R128). -/
def trimmed (mode sub : Nat) (tz tg value : Int) : Int :=
  rdiv ((value - tz * trimUnit mode sub) * (524288 + tg)) 524288

/-! ## Scaled curves (R134) -/

/-- Curve 00h. -/
def curveLinear (x inLo inHi lo hi : Int) : Int :=
  rdiv (lo * (inHi - inLo) + (hi - lo) * (x - inLo)) (inHi - inLo)

/-- Curve 01h: the exact root is rounded under R128. -/
def curveRoot (x inLo inHi lo hi cparam : Int) : Int :=
  let num := x - inLo
  let den := inHi - inLo
  if (num.natAbs : Int) * 10000 < cparam * den.natAbs then lo
  else
    let s := hi - lo
    let q := 4 * s.natAbs * s.natAbs * num.natAbs
    let w := isqrt (q / den.natAbs)
    let sg : Int := if num * den * s < 0 then -1 else if num * den * s = 0 then 0 else 1
    if w * w * den.natAbs = q && w % 2 = 1 then rdiv (2 * lo + sg * w) 2
    else lo + sg * (((w + 1) / 2 : Nat) : Int)

/-- Curve 02h: points of `utab` at f_k = k / 31. -/
def curveTable (utab : Nat → Nat) (x inLo inHi lo hi : Int) : Int :=
  let sgn : Int := if inHi < inLo then -1 else 1
  let num := sgn * (x - inLo)
  let den := sgn * (inHi - inLo)
  let k := (clampI 0 30 ((31 * num) / den)).toNat
  let t := 31 * num - k * den
  let u0 : Int := utab k
  let u1 : Int := utab (k + 1)
  rdiv (lo * 4095 * den + (hi - lo) * (u0 * den + t * (u1 - u0))) (4095 * den)

/-! ## Temperature curves (R130 to R133) -/

/-- Ends of the defined input range in °C (R130). -/
def curveRange (curve : Nat) : Int × Int :=
  match curve with
  | 0x10 => (-200, 850) | 0x11 => (-200, 850) | 0x12 => (-200, 850) | 0x13 => (-80, 260) | 0x14 => (-60, 250)
  | 0x15 => (-100, 260) | 0x20 => (-200, 1200) | 0x21 => (-200, 1372) | 0x22 => (-200, 1300)
  | 0x23 => (-200, 400) | 0x24 => (-200, 1000) | 0x25 => (-50, 1768) | 0x26 => (-50, 1768)
  | 0x27 => (250, 1820) | _ => (0, 0)

/-- R0 of a resistance curve in 0.1 mΩ (R131). -/
def curveR0 (curve : Nat) : Int :=
  match curve with
  | 0x10 => 1000000 | 0x11 => 5000000 | 0x12 => 10000000 | 0x13 => 1200000 | 0x14 => 10000000 | _ => 100000

/-- R / R0 of R131 at `t` in 10⁻⁶ °C, in units of 10⁻⁵⁶. -/
def curveRatio (curve : Nat) (t : Int) : Int :=
  let one : Int := 10 ^ 56
  match curve with
  | 0x13 => one + 5880 * t * 10 ^ 44 + 8400 * t ^ 2 * 10 ^ 35
  | 0x14 => one + 5485 * t * 10 ^ 44 + 6650 * t ^ 2 * 10 ^ 35 + 2805 * t ^ 4 * 10 ^ 18 - 2000 * t ^ 6
  | 0x15 => one + 4270 * t * 10 ^ 44
  | _ =>
    let p := one + 39083 * t * 10 ^ 43 - 5775 * t ^ 2 * 10 ^ 34
    if t < 0 then p - 4183 * (t - 100000000) * t ^ 3 * 10 ^ 17 else p

/-- Slope of `curveRatio` per 10⁻⁶ °C. -/
def curveSlope (curve : Nat) (t : Int) : Int :=
  match curve with
  | 0x13 => 5880 * 10 ^ 44 + 2 * 8400 * t * 10 ^ 35
  | 0x14 => 5485 * 10 ^ 44 + 2 * 6650 * t * 10 ^ 35 + 4 * 2805 * t ^ 3 * 10 ^ 18 - 6 * 2000 * t ^ 5
  | 0x15 => 4270 * 10 ^ 44
  | _ =>
    let p := 39083 * 10 ^ 43 - 2 * 5775 * t * 10 ^ 34
    if t < 0 then p - 4183 * (4 * t ^ 3 - 300000000 * t ^ 2) * 10 ^ 17 else p

/-- A temperature curve has a thermocouple's reference function. -/
def isTc (curve : Nat) : Bool := decide (0x20 ≤ curve)

/-- Fine units of `curveOut` in one record unit. -/
def curveUnit (curve : Nat) : Int := if isTc curve then 10 ^ 6 else 10 ^ 56

/-- What a sensor at `t` in 10⁻⁶ °C gives: its resistance by R131, or its emf by the reference function of R132. -/
def curveOut (curve : Nat) (t : Int) : Int := if isTc curve then Config.tcRef curve t else curveR0 curve * curveRatio curve t

/-- Its slope for 10⁻⁶ K. -/
def curveRise (curve : Nat) (t : Int) : Int := if isTc curve then Config.tcSlope curve t else curveR0 curve * curveSlope curve t

/-- Bisection: a `t` of [lo, lo + 2^n) at which the curve has not passed `x` and one step further has; for a rising curve the
largest one. -/
def curveBisect (curve : Nat) (x : Int) : Nat → Int → Int
  | 0, t => t
  | n + 1, t => curveBisect curve x n (if curveOut curve (t + 2 ^ n) ≤ x * curveUnit curve then t + 2 ^ n else t)

/-- The temperature of a curve at `x` in the record unit, in 10⁻⁶ °C rounded down: the inverse of its defining equation or reference
function within the defined range, its tangent at the nearer end outside (R131, R132). -/
def curveExact (curve : Nat) (x : Int) : Int :=
  let r := curveRange curve
  let lo := r.1 * 1000000
  let hi := r.2 * 1000000
  let tang := fun t => t + (x * curveUnit curve - curveOut curve t) / curveRise curve t
  if x * curveUnit curve < curveOut curve lo then tang lo
  else if curveOut curve hi < x * curveUnit curve then tang hi
  else min hi (curveBisect curve x 31 lo)

/-- Evaluation error of a curve in 10⁻⁶ K (R133). -/
def curveTol (curve : Nat) : Int := if isTc curve then 10000 else 2000

/-- The firmware's result at `x` (R129): a free value held within the error of R133, before rounding to 10^−DEC. -/
def curveNear (curve dec : Nat) (x : Int) : Int :=
  let t := curveExact curve x
  let u : Int := ((10 ^ (6 - dec) : Nat) : Int)
  clampI (rdiv (t - curveTol curve) u) (rdiv (t + curveTol curve + 1) u) (Config.tempCurve curve dec x)

/-- Inputs below `x` whose result the error of R133 could place above that of `x`: further down, every curve lies lower by more than
twice the error. -/
abbrev curveSpan : Nat := 1024

/-- A temperature curve. The firmware's exact results are not published (R129); what is warranted is kept: the error of R133, and a
temperature that does not fall when the input rises. -/
def curveTemp (curve dec : Nat) (x : Int) : Int :=
  (List.range curveSpan).foldl (fun (m : Int) (k : Nat) => max m (curveNear curve dec (x - (k : Int)))) (curveNear curve dec x)

/-- E(T_cj) of R137 in 10 nV: a free value held within the error of R133 (R129). -/
def coldEmf (curve : Nat) (t : Int) : Int :=
  clampI (Config.tcRef curve (t - 10000) / 10 ^ 6) (Config.tcRef curve (t + 10000) / 10 ^ 6 + 1) (Config.tcEmf curve t)

/-- The engineering value v of channel `c` for trimmed (and, in AI-TC, compensated) input `x`, before
saturation (R127, R134). -/
def curveValue (im : Image) (c : Nat) (x : Int) : Int :=
  match chCurve im c with
  | 0 => curveLinear x (chInLo im c) (chInHi im c) (chEngLo im c) (chEngHi im c)
  | 1 => curveRoot x (chInLo im c) (chInHi im c) (chEngLo im c) (chEngHi im c) (chCparam im c)
  | 2 => curveTable (chUtab im c) x (chInLo im c) (chInHi im c) (chEngLo im c) (chEngHi im c)
  | k => curveTemp k (chDec im c) x

end Sys2Proof.Machine
end

