-- ==== Sys2Proof/Machine/Channels.lean ====
section
/-! DEFINITION. The serving engine's work on one analog input channel and on one redundant pair
(chapter 05, R157 to R162). -/

namespace Sys2Proof.Machine

/-- The latched CJC record of a connector (R135). -/
structure CjcRec where
  temp  : Int
  fault : Bool
  deriving DecidableEq, Repr

/-- Frames with INIT from the start of a loop-powered configuration (R162). -/
def initFrames (im : Image) (P c : Nat) : Nat :=
  if chMode im c == 2 && chSub im c == 1 then framesOf P (msC 2000) else 0

/-- The trimmed input of a latched record before saturation (R139). -/
def anaTrim (im : Image) (c : Nat) (rec : Rec) : Int :=
  trimmed (chMode im c) (chSub im c) (chTrimZero im c) (chTrimGain im c) (fldI rec 0 32)

/-- The trimmed input of a latched record (R128, R139). -/
def anaInput (im : Image) (c : Nat) (rec : Rec) : Int := sat32 (anaTrim im c rec)

/-- A channel in AI-I mode has a live zero (R158). -/
def liveZero (im : Image) (c : Nat) (multidrop : Bool) : Bool :=
  decide (3000000 ≤ min (chInLo im c) (chInHi im c)) && !multidrop

/-- Conditions that a record shows (R143, R158): OPEN, SHORT, LOOP_FAIL_LOW, LOOP_FAIL_HIGH, LOOP_MARGIN. -/
structure Shown where
  openW    : Bool := false
  short    : Bool := false
  failLow  : Bool := false
  failHigh : Bool := false
  margin   : Bool := false
  deriving DecidableEq, Repr

/-- The five bands of R157 for an input with live zero. -/
def loopBands (x : Int) : Shown :=
  if x < 500000 then { openW := true }
  else if x ≤ 3600000 then { failLow := true }
  else if x < 3800000 then { margin := true }
  else if x ≤ 20500000 then {}
  else if x < 21000000 then { margin := true }
  else if x < 25000000 then { failHigh := true }
  else { short := true }

/-- The wiring conditions that record `rec` with trimmed input `x` shows (R143, R158). -/
def wiringShown (im : Image) (c : Nat) (rec : Rec) (x : Int) (multidrop : Bool) : Shown :=
  let compl := bit rec 39
  let ovr := bit rec 35
  match chMode im c with
  | 2 =>
    if multidrop then {}
    else if liveZero im c multidrop then loopBands x
    else { short := decide (25000000 ≤ x) }
  | 3 =>
    let r0 := if chCurve im c = 2 then chInLo im c else curveR0 (chCurve im c)
    { openW := compl || ovr, short := decide (20 * x < r0) }
  | 4 => { openW := ovr }
  | 5 => { openW := compl || ovr, short := chSub im c == 1 && bit rec 46 }
  | _ => {}

/-- R144 and R159: the flags after one record that counts. -/
def wiringFlags (mode : Nat) (w : Shown) (a : AnaCh) : AnaCh :=
  let b := { a with openW := runFlag w.openW a.openW, short := runFlag w.short a.short
                    failLow := runFlag w.failLow a.failLow
                    failHigh := runFlag w.failHigh a.failHigh
                    margin := runFlag w.margin a.margin }
  if mode = 2 then
    if w.openW && !a.openW.on then
      { b with short := clearFlag, failLow := clearFlag, failHigh := clearFlag, margin := clearFlag }
    else if w.failLow && !a.failLow.on then
      { b with openW := clearFlag, short := clearFlag, failHigh := clearFlag, margin := clearFlag }
    else if w.margin && !a.margin.on then
      { b with openW := clearFlag, short := clearFlag, failLow := clearFlag, failHigh := clearFlag }
    else if w.failHigh && !a.failHigh.on then
      { b with openW := clearFlag, short := clearFlag, failLow := clearFlag, margin := clearFlag }
    else if w.short && !a.short.on then
      { b with openW := clearFlag, failLow := clearFlag, failHigh := clearFlag, margin := clearFlag }
    else b
  else if b.openW.on then { b with short := clearFlag } else b

/-- Events of the wiring flags (R144, R159). -/
def wiringEvents (c : Nat) (x : Int) (a b : AnaCh) : List EvReq :=
  let ua := s32 (rdiv x 1000)
  flagEvent 0x0501 c a.openW.on b.openW.on 0 0 ++ flagEvent 0x0502 c a.short.on b.short.on 0 0 ++
  flagEvent 0x0601 c a.failLow.on b.failLow.on ua 0 ++
  flagEvent 0x0602 c a.failHigh.on b.failHigh.on ua 0 ++
  flagEvent 0x0603 c a.margin.on b.margin.on ua 0

/-- T_cj of an AI-TC channel in 10⁻⁶ °C and whether its source is in fault (R137). `pv` is the
frame n − 1 value of channel CJC_CH, with the decimal places it had there. -/
def cjcTemp (im : Image) (c : Nat) (rec : CjcRec) (pv : PrevVal) (a : AnaCh) : Int × Bool :=
  match chCjcSrc im c with
  | 0 => (rec.temp * 10000, rec.fault)
  | 1 => (chCparam im c * 10000, false)
  | _ =>
    (pv.eng * ((10 ^ (6 - pv.dec) : Nat) : Int),
      decide (pv.quality = qBad) || !a.cjcByCh || decide (a.k = 0))

/-- CJC step of R127: the channel's T_cj, its fault and the frames for which the fault has stood. -/
def cjcStep (im : Image) (c : Nat) (rec : CjcRec) (pv : PrevVal) (a : AnaCh) : AnaCh :=
  if chMode im c = 4 then
    let r := cjcTemp im c rec pv a
    { a with tcj := if r.2 then a.tcj else r.1, cjcFault := r.2
             cjcRun := if r.2 then a.cjcRun + 1 else 0, cjcByCh := decide (chCjcSrc im c = 2) }
  else { a with cjcFault := false, cjcRun := 0 }

/-- Range limits of R146, times 40. -/
def rangeLimits (im : Image) (c : Nat) : Int × Int :=
  if 0x10 ≤ chCurve im c then
    let r := curveRange (chCurve im c)
    let u : Int := ((10 ^ chDec im c : Nat) : Int)
    (40 * r.1 * u, 40 * r.2 * u)
  else
    let lo := min (chEngLo im c) (chEngHi im c)
    let hi := max (chEngLo im c) (chEngHi im c)
    (40 * lo - (hi - lo), 40 * hi + (hi - lo))

/-- One damping step (R116), rounded under R128; τ is DAMP × 0.1 s. -/
def dampStep (P tau : Nat) (y x : Int) : Int :=
  if tau = 0 then x else rdiv (y * (tau : Int) + x * (P : Int)) ((tau : Int) + (P : Int))

/-- Quality of a result (R147, R160); `cjcLong` is ceil(60 s / P). -/
def anaQuality (rec : Rec) (stale init : Bool) (cjcLong : Nat) (a : AnaCh) : Nat :=
  let exc := bit rec 39 || bit rec 41 || bit rec 42 || bit rec 43
  if init || a.openW.on || a.short.on || a.isOver || a.isUnder || a.failLow.on || a.failHigh.on
      || (a.cjcFault && decide (cjcLong ≤ a.cjcRun)) then qBad
  else if a.cjcFault || stale || bit rec 36 || bit rec 37 || bit rec 38 || bit rec 34 || exc
      || bit rec 40 || a.margin.on then qUncertain
  else qGood

/-- Threshold switches of R151 on a value with its quality and HELD mark. -/
def switchStep (im : Image) (c : Nat) (v : Int) (q : Nat) (held : Bool) (a : AnaCh) : AnaCh :=
  let en := chTsEn im c
  if q = qBad || held then { a with sw := a.sw &&& en }
  else
    let one (k : Nat) : Nat :=
      let sp := chSp im c k
      let h : Int := chHyst im c
      let onC := if k < 2 then decide (v < sp) else decide (sp < v)
      let offC := if k < 2 then decide (sp + h ≤ v) else decide (v ≤ sp - h)
      let on := if a.swRun && a.sw.testBit k then !offC else onC
      if en.testBit k && on then 2 ^ k else 0
    { a with sw := one 0 + one 1 + one 2 + one 3, swRun := true }

/-- An engine's result for one channel: its new state, the 16-byte result and its event requests. -/
structure AnaOut where
  st   : AnaCh
  eng  : Int
  q    : Nat
  held : Bool
  /-- Result bits [87:0] and the switches; VERDICT and CHOSEN are added by the pair step. -/
  base : Rec
  ev   : List EvReq
  deriving DecidableEq, Repr

/-- The result fields below VERDICT (R155). -/
def anaResult (rec : Rec) (x eng : Int) (q : Nat) (held stale init paired : Bool)
    (hart : HartCh) (mode sw : Nat) (a : AnaCh) : Rec :=
  let exc := bit rec 39 || bit rec 41 || bit rec 42 || bit rec 43
  packRec [(32, s32 eng), (32, s32 x), (2, q), (1, b2n a.openW.on), (1, b2n a.short.on), (1, b2n a.isOver),
    (1, b2n a.isUnder), (1, b2n a.cjcFault), (1, b2n held), (1, b2n (bit rec 36)), (1, b2n (bit rec 37)),
    (1, b2n stale), (1, b2n init), (1, b2n (bit rec 38)), (1, b2n paired), (1, b2n (bit rec 34)), (1, b2n exc),
    (1, b2n (bit rec 40)),
    (7, if mode = 2 then pack [(1, b2n a.failLow.on), (1, b2n a.failHigh.on), (1, b2n a.margin.on),
      (1, b2n hart.multidrop), (1, b2n hart.comm), (1, b2n hart.dev), (1, b2n hart.mismatch)] else 0),
    (4, sw), (2, 0), (2, qBad), (32, 0)]

/-- Acquisition flags of the record, kept for the events of R124. -/
def acqFlags (rec : Rec) (a : AnaCh) : AnaCh :=
  { a with evConv := bit rec 40, evExc := bit rec 42, evMism := bit rec 41, evUnst := bit rec 43, evBlank := bit rec 44 }

/-- Events of the acquisition faults that set or clear (R124). -/
def acqEvents (c : Nat) (a b : AnaCh) : List EvReq :=
  flagEvent 0x0410 c a.evConv b.evConv 0 0 ++ flagEvent 0x0411 c a.evExc b.evExc 0 0 ++
    flagEvent 0x0412 c a.evMism b.evMism 0 0 ++ flagEvent 0x0413 c a.evUnst b.evUnst 0 0 ++
    flagEvent 0x0414 c a.evBlank b.evBlank 0 0

/-- A stage of R127 leaves the 32-bit range on the high side, or on the low side (R128). -/
def anyOver (l : List Int) : Bool := l.any fun v => decide (2147483647 < v)
def anyUnder (l : List Int) : Bool := l.any fun v => decide (v < -2147483648)

/-- R127: one frame of one analog input channel. `rec0` is its latched record, `stale` the STALE mark
(R59), `hart` the channel's HART flags of this frame. The record of the re-initialising strobe is not
judged (R93). -/
def anaEval (im : Image) (P c : Nat) (rec0 : Rec) (stale : Bool) (cjc : CjcRec) (pv : PrevVal)
    (hart : HartCh) (a0 : AnaCh) : AnaOut :=
  let mode := chMode im c
  let rc := if a0.k = 0 then 0#128 else rec0
  let counts := bit rc 32 && !stale
  let got := a0.got || counts
  let init := decide (a0.k = 0) || decide (a0.k < initFrames im P c) || !got
  let a1 := { a0 with got := got, k := a0.k + 1 }
  if isPairedPart im c then
    let a6 := acqFlags rc a1
    { st := a6, eng := 0, q := qBad, held := init || stale
      base := anaResult rc 0 0 qBad (init || stale) stale init true {} 0 0 {}, ev := acqEvents c a0 a6 }
  else
    let xr := anaTrim im c rc
    let x := sat32 xr
    let a2 := cjcStep im c cjc pv a1
    let er := if mode = 4 then x + coldEmf (chCurve im c) a2.tcj else x
    let v := curveValue im c (sat32 er)
    let stages := [xr, er, v]
    let a3 := if counts && !init then wiringFlags mode (wiringShown im c rc x hart.multidrop) a2 else a2
    let heldRec := stale || bit rc 36 || bit rc 37
    let upd := !init && !heldRec
    let tau := msC 100 * chDamp im c
    let a4 := if upd then
        { a3 with y := if a3.yRun then dampStep P tau a3.y (sat32 v) else sat32 v, yRun := true, ySet := true }
      else a3
    let lim := rangeLimits im c
    let ovr := (mode == 1 || mode == 2) && bit rc 35
    let val := fldI rc 0 32
    let a5 := if a4.ySet && !stale then
        { a4 with isOver := decide (lim.2 < 40 * a4.y) || (ovr && decide (0 < val)) || (upd && anyOver stages)
                  isUnder := decide (40 * a4.y < lim.1) || (ovr && decide (val < 0)) || (upd && anyUnder stages) }
      else a4
    let q := anaQuality rc stale init (framesOf P (msC 60000)) a5
    let held := init || heldRec
    let a6 := acqFlags rc a5
    let pairHead := chPairFn im c == 2 && c % 2 == 0
    let a7 := if pairHead then a6 else switchStep im c a6.y q held a6
    let ev := acqEvents c a0 a6 ++ flagEvent 0x0505 c a0.cjcFault a2.cjcFault 0 0 ++ wiringEvents c x a2 a3 ++
      flagEvent 0x0503 c a4.isOver a5.isOver 0 0 ++ flagEvent 0x0504 c a4.isUnder a5.isUnder 0 0
    { st := a7, eng := a7.y, q := q, held := held
      base := anaResult rc (if a0.k = 0 then 0 else x) a7.y q held stale init false hart mode a7.sw a7
      ev := ev }

/-- The comparison of R149 on the outcomes of channels 2n (`oa`) and 2n + 1 (`ob`): verdict, chosen
value, its quality, its HELD mark, the difference, BASE and cnt. -/
structure PairOut where
  verdict : Nat
  chosen  : Int
  q       : Nat
  held    : Bool
  d       : Int
  base    : Bool
  cnt     : Nat
  deriving DecidableEq, Repr

/-- Selection of R150. -/
def redSelect (sel : Nat) (ya yb : Int) : Int :=
  match sel with
  | 0 => rdiv (ya + yb) 2
  | 1 => min ya yb
  | 2 => max ya yb
  | _ => ya

/-- R149. `N` is max(1, ceil(DEV_TIME × 0.1 s / P)). -/
def pairCompare (N devLim sel : Nat) (base : Bool) (cnt : Nat) (chosen : Int) (oa ob : AnaOut) : PairOut :=
  if oa.q = qBad && ob.q = qBad then
    { verdict := 1, chosen := chosen, q := qBad, held := true, d := 0, base := false, cnt := 0 }
  else if oa.q = qBad then
    { verdict := 2, chosen := ob.eng, q := ob.q, held := ob.held, d := 0, base := false, cnt := 0 }
  else if ob.q = qBad then
    { verdict := 3, chosen := oa.eng, q := oa.q, held := oa.held, d := 0, base := false, cnt := 0 }
  else
    let d : Int := ((oa.eng - ob.eng).natAbs : Int)
    let c1 := if oa.held || ob.held then cnt
      else if (!base && decide ((devLim : Int) < d)) || (base && decide (d ≤ (devLim : Int))) then cnt + 1
      else 0
    let flip := decide (N ≤ c1)
    let base' := if flip then !base else base
    { verdict := b2n base', chosen := redSelect sel oa.eng ob.eng
      q := if base' then qUncertain else worse oa.q ob.q
      held := oa.held || ob.held, d := d, base := base', cnt := if flip then 0 else c1 }

/-- The pair step of R127 for channel `c` = 2n: its new state, its whole result and event 0520h. -/
def pairEval (im : Image) (P c : Nat) (oa ob : AnaOut) : AnaCh × Rec × List EvReq :=
  let N := max 1 (framesOf P (msC (100 * chDevTime im c)))
  let a := oa.st
  let p := pairCompare N (chDevLim im c) (chRedSel im c) a.base a.cnt a.chosen oa ob
  let b := switchStep im c p.chosen p.q p.held
    { a with base := p.base, cnt := p.cnt, chosen := p.chosen, verdict := p.verdict }
  let r := setFld (setFld (setFld (setFld oa.base 88 4 b.sw) 92 2 p.verdict) 94 2 p.q) 96 32 (s32 p.chosen)
  let ev := if p.verdict = a.verdict then []
    else [{ code := 0x0520, src := c, p1 := p.verdict, p2 := a.verdict, p3 := s32 p.d }]
  (b, r, ev)

/-- R152: a commit that changes a linearisation field restarts the damping and the switches, and the
comparison on channel 2n. -/
def anaRestart (a : AnaCh) : AnaCh := { a with yRun := false, swRun := false }

/-- The comparison at start-up and after a restart (R149). -/
def pairRestart (a : AnaCh) : AnaCh := { a with base := false, cnt := 0, verdict := 0, chosen := 0 }

/-- A CJC sensor reading of R136: `none` when the sensor does not reply; readings in 0.01 °C. -/
def cjcReading (r : Option Int) (s : CjcSensor) : CjcSensor :=
  let inRange := match r with
    | some t => decide (-4000 ≤ t) && decide (t ≤ 10500)
    | none => false
  let t := r.getD 0
  let near (o : Option Int) : Bool := match o with
    | some u => decide ((t - u).natAbs ≤ 100)
    | none => true
  let ok := inRange && (if s.fault then near s.ranged else near s.valid)
  let s1 := if inRange then { s with ranged := some t } else s
  if ok then
    let g := min 10 (s.good + 1)
    let cleared := s.fault && decide (g = 10)
    { s1 with valid := some t, bad := 0, good := g, fault := s.fault && !cleared, fresh := true
              temp := if s.fault && !cleared then s.temp else t }
  else
    let b := min 3 (s.bad + 1)
    let sets := !s.fault && decide (b = 3)
    { s1 with bad := b, good := 0, fault := s.fault || sets
              ranged := if sets then none else s1.ranged }

/-- The latch of a CJC record (R135). -/
def cjcLatch (s : CjcSensor) : CjcSensor :=
  { s with recTemp := s.temp, recNew := s.fresh, recFault := s.fault, fresh := false }

/-- The 32-bit CJC record (R135). -/
def cjcWord (s : CjcSensor) : Nat := pack [(16, ofSigned 16 s.recTemp), (1, b2n s.recNew), (1, b2n s.recFault)]

/-! ## Trim commands (R140, R141) -/

/-- Low-path full scale in record units, for the limit of R141: the result unit of the mode. -/
def trimFs (im : Image) (c : Nat) : Nat :=
  match chMode im c with
  | 1 => 1200000000
  | 2 => 27000000
  | 4 => 15000000
  | 5 => if chSub im c = 1 then 1000000000 else 240000000 * 100000 / excSettingOf
  | _ => 240000000 * 100000 / excSettingOf
where
  excSettingOf : Nat := max 1 (if chExcI im c = 0 then 500000 else chExcI im c * 10000)

/-- R140: the new field value for mean `m`; `none` when R141 gives TRIM_RANGE. -/
def trimResult (im : Image) (c : Nat) (span : Bool) (ref m : Int) : Option Int :=
  let u := trimUnit (chMode im c) (chSub im c)
  let g := 524288 + chTrimGain im c
  let z := chTrimZero im c
  let inRange (v : Int) : Option Int := if -32768 ≤ v ∧ v ≤ 32767 then some v else none
  if span then
    let base := m - z * u
    if ref.natAbs * 10 < trimFs im c ∨ ref * base ≤ 0 then none
    else inRange (rdiv (524288 * ref) base - 524288)
  else inRange (rdiv (m * g - ref * 524288) (g * u))

end Sys2Proof.Machine
end

