-- ==== Sys2Proof/Machine/Denif.lean ====
section
/-! DEFINITION. The Denif Safe Channel (chapter 09): identities and seeds, PDUs in both forms, the receive
checks, the state table and transmission, for one engine and one connection. -/

namespace Sys2Proof.Machine

abbrev dscDisabled : Nat := 0
abbrev dscUnconfirmed : Nat := 1
abbrev dscConnecting : Nat := 2
abbrev dscRunning : Nat := 3
abbrev dscFailsafe : Nat := 4

/-! ## Identity and seed (R245, R246) -/

/-- UID16: the low 16 bits of the CRC-32C over the ten ASCII digits of a serial (R245). -/
def uid16 (serial : Nat) : Nat :=
  let digit (k : Nat) : Byte := BitVec.ofNat 8 (48 + serial / 10 ^ (9 - k) % 10)
  crc32c 0xFFFFFFFF ((List.range 10).map digit) % 65536

/-- OWN_ID of a connection (R245). -/
def dscOwnIdOf (im : Image) (i serial : Nat) : Nat := dscOwnAddr im i * 65536 + uid16 serial

/-- SEED: the CRC-32C of the parameter block (R246). -/
def dscSeedOf (im : Image) (i ownId : Nat) : Nat :=
  let slave := dscSlave im i
  let m := if slave then dscPeerId im i else ownId
  let v := if slave then ownId else dscPeerId im i
  let lm := if slave then dscRxLen im i else dscTxLen im i
  let ls := if slave then dscTxLen im i else dscRxLen im i
  crc32c 0xFFFFFFFF (packBytes 16 [(16, dscConnId im i), (16, dscW im i), (32, m), (32, v), (8, lm), (8, ls),
    (8, b2n (dscFull im i)), (8, 1)])

/-! ## PDUs (R242 to R244) -/

/-- The fields of a PDU in full form. -/
structure Pdu where
  conn : Nat := 0
  seq  : Nat := 0
  texp : Nat := 0
  kind : Nat := 0
  fs   : Bool := false
  rsv  : Nat := 0
  len  : Nat := 0
  srcId : Nat := 0
  dstId : Nat := 0
  payload : List Byte := []
  deriving DecidableEq, Repr

/-- Bits [55:48] of the full form. -/
def pduByte6 (p : Pdu) : Nat := pack [(2, p.kind), (1, b2n p.fs), (5, p.rsv)]

/-- Full-form bytes 0 to 15 + L. -/
def pduFull (p : Pdu) : List Byte :=
  packBytes 16 [(16, p.conn), (16, p.seq), (16, p.texp), (8, pduByte6 p), (8, p.len), (32, p.srcId), (32, p.dstId)]
    ++ p.payload

/-- CRC of a PDU (R246). -/
def pduCrc (seed : Nat) (p : Pdu) : Nat := crc32c seed (pduFull p)

/-- The next FD data length for a full-form PDU of `n` bytes (R244). -/
def fdLength (n : Nat) : Nat :=
  if n ≤ 20 then 20 else if n ≤ 24 then 24 else if n ≤ 32 then 32 else if n ≤ 48 then 48 else 64

/-- The bytes on the wire: compact, full, or full and padded on CAN FD (R243, R244). -/
def pduWire (im : Image) (i : Nat) (p : Pdu) : List Byte :=
  let crc := toBytes 4 (pduCrc (dscSeed im i) p)
  if dscFull im i then
    let b := pduFull p ++ crc
    if dscTransport im i = 0 ∧ coFmt im (dscTxObj im i) = 1 then b ++ List.replicate (fdLength b.length - b.length) 0#8
    else b
  else [BitVec.ofNat 8 p.seq, BitVec.ofNat 8 (pduByte6 p)] ++ p.payload ++ crc

/-- The value `k` places after `s` in the ring 0001h to FFFFh. -/
def ringAdd (s k : Nat) : Nat := (s + 65534 + k) % 65535 + 1

/-- Places from `a` up to `b` in the ring. -/
def ringDist (a b : Nat) : Nat := (b + 65535 - a) % 65535

/-- SEQ of a compact DATA PDU: the first of the 256 values from 127 below the expected one (R243). -/
def seqScan (expected low : Nat) : Option Nat :=
  ((List.range 256).map fun k => ringAdd expected (65535 - 127 + k)).find? fun v => v % 256 == low

/-- A received PDU: its full form, its CRC and the wire padding; `none` when nothing can be rebuilt (R243). -/
def pduRebuild (im : Image) (i expected : Nat) (bs : List Byte) : Option (Pdu × Nat × List Byte) :=
  if dscFull im i then
    if bs.length < 21 then none
    else
      let h := ofBytes (bs.take 16)
      let f (lo len : Nat) : Nat := h / 2 ^ lo % 2 ^ len
      let l := f 56 8
      let b6 := f 48 8
      let p : Pdu := { conn := f 0 16, seq := f 16 16, texp := f 32 16, kind := b6 % 4, fs := b6.testBit 2
                       rsv := b6 / 8, len := l, srcId := f 64 32, dstId := f 96 32, payload := (bs.drop 16).take l }
      some (p, ofBytes ((bs.drop (16 + l)).take 4), bs.drop (20 + l))
  else
    let l := dscRxLen im i
    if bs.length ≠ 6 + l then none
    else
      let b6 := ((bs.drop 1).headD 0#8).toNat
      let low := (bs.headD 0#8).toNat
      let kind := b6 % 4
      let seq := if kind = 1 ∨ kind = 2 then some 0 else seqScan expected low
      match seq with
      | none => none
      | some q =>
        some ({ conn := dscConnId im i, seq := q, texp := dscW im i, kind := kind, fs := b6.testBit 2, rsv := b6 / 8
                len := l, srcId := dscPeerId im i, dstId := dscOwnId im i, payload := (bs.drop 2).take l },
          ofBytes ((bs.drop (2 + l)).take 4), [])

/-! ## Receiving (R247) -/

/-- The working marks of one frame: the first FAILSAFE cause, an accepted CONNECT or CONNECT_ACK, and the
discards that event 0902h counts. -/
structure DscFrame where
  cause   : Option Nat := none
  connect : Bool := false
  ack     : Bool := false
  answer  : Bool := false
  again   : Bool := false
  crcs    : Nat := 0
  stales  : Nat := 0
  deriving DecidableEq, Repr

/-- A cause of FAILSAFE; the first of the frame stands (R250). -/
def dscFail (k : Nat) (w : DscFrame) : DscFrame := if w.cause.isSome then w else { w with cause := some k }

/-- A PDU whose CRC fails (R247). -/
def dscCrcFail (d : Dsc) (w : DscFrame) : Dsc × DscFrame :=
  let e := min 3 (d.errCnt + 1)
  let w1 := { w with crcs := w.crcs + 1 }
  ({ d with nCrc := satN 16 (d.nCrc + 1), errCnt := e, errAge := if e = d.errCnt then d.errAge else 0 },
    if e = 3 ∧ d.errCnt < 3 then dscFail 2 w1 else w1)

/-- The expected SEQ: the outstanding s for a master, the last accepted s + 1 for a slave (R247). -/
def dscExpected (slave : Bool) (d : Dsc) : Nat :=
  if slave then (if d.rxSeq = 0 then 1 else ringAdd d.rxSeq 1) else d.txSeq

/-- One DSC entry in entry order (R247). -/
def dscReceive (im : Image) (i : Nat) (bs : List Byte) (x : Dsc × DscFrame) : Dsc × DscFrame :=
  let d := x.1
  let w := x.2
  let slave := dscSlave im i
  let expected := dscExpected slave d
  let live := slave || d.waiting
  match pduRebuild im i expected bs with
  | none => dscCrcFail d w
  | some (p, crc, pad) =>
    if pduCrc (dscSeed im i) p ≠ crc then dscCrcFail d w
    else if 3 ≤ d.errCnt then x
    else if p.srcId ≠ dscPeerId im i ∨ p.dstId ≠ dscOwnId im i then (d, dscFail 4 w)
    else if p.texp ≠ dscW im i ∨ p.len ≠ dscRxLen im i ∨ p.kind = 3 ∨ p.rsv ≠ 0 ∨ pad.any (· ≠ 0#8) then (d, dscFail 5 w)
    else if p.kind = 1 then (d, if slave then { w with connect := true } else w)
    else if p.kind = 2 then (d, if slave then w else { w with ack := true })
    else if d.state ≠ dscRunning ∨ w.cause.isSome then x
    else if live && decide (p.seq = expected) && p.fs then (d, dscFail 6 w)
    else if live && decide (p.seq = expected) then
      ({ d with rxSeq := p.seq, waiting := false, rxData := p.payload, rxFs := false, data := true, age := 0
                elapsed := if slave then 0 else d.elapsed }, { w with answer := slave, again := false })
    else if p.seq = d.rxSeq ∧ d.rxSeq ≠ 0 then
      ({ d with nRepeat := satN 16 (d.nRepeat + 1) }, { w with again := slave && !w.answer })
    else if d.rxSeq ≠ 0 ∧ p.seq ≠ 0 ∧ 1 ≤ ringDist p.seq d.rxSeq ∧ ringDist p.seq d.rxSeq ≤ 8 then
      ({ d with nStale := satN 16 (d.nStale + 1) }, { w with stales := w.stales + 1 })
    else (d, dscFail 3 w)

/-! ## Time, states and transmission (R240, R241, R247 to R250) -/

/-- PREV_LEN of the frame record passes for the elapsed times; ERR_CNT falls by 1 per 3,600 s (R247, R248). -/
def dscElapse (prevLen : Nat) (d : Dsc) : Dsc :=
  let ea := if d.errCnt = 0 then 0 else d.errAge + prevLen
  let fall := decide (msC 3600000 ≤ ea) && decide (0 < d.errCnt)
  { d with elapsed := d.elapsed + prevLen, age := satN 32 (d.age + prevLen), fsAge := d.fsAge + prevLen
           errCnt := if fall then d.errCnt - 1 else d.errCnt, errAge := if fall then 0 else ea }

/-- W in Zenith cycles (R248). -/
def dscWCycles (im : Image) (i : Nat) : Nat := dscW im i * 40000

/-- The watchdog of R248, judged on the state of frame n − 1 and the marks that stood before the entries. -/
def dscWatchdog (im : Image) (i : Nat) (before after : Dsc) : Bool :=
  decide (before.state = dscRunning) &&
    (if dscSlave im i then decide (dscWCycles im i < after.elapsed)
     else before.waiting && decide (dscWCycles im i < before.elapsed))

/-- A PDU of this end. -/
def dscPdu (im : Image) (i kind seq : Nat) (payload : List Byte) : Pdu :=
  { conn := dscConnId im i, seq := seq, texp := dscW im i, kind := kind, fs := decide (kind ≠ 0), len := dscTxLen im i
    srcId := dscOwnId im i, dstId := dscPeerId im i
    payload := if kind = 0 then payload else List.replicate (dscTxLen im i) 0#8 }

/-- Transmission of `p` in this frame. -/
def dscSend (im : Image) (i : Nat) (p : Pdu) (d : Dsc) : Dsc :=
  let b := pduWire im i p
  { d with txSeq := p.seq, sinceTx := 0, stored := b, pdu := some b }

/-- The connection under a new configuration: its next frame is an entry frame when any field of its instance has changed, OWN_ID
and SEED included (R250, R254). -/
def dscCommit (old new : Image) (i : Nat) (d : Dsc) : Dsc :=
  if inst old clsDSC i = inst new clsDSC i then d else { d with started := false }

/-- The received image outside RUNNING (R249). -/
def dscNoImage (d : Dsc) : Dsc := { d with rxData := [], rxFs := true, data := false, waiting := false }

/-- What a frame gives a connection from outside: confirmation, a DSC reset, the transmit payload of the
frame, and a difference between the engines' values of frame n − 1 (R253). -/
structure DscCtx where
  confirmed : Bool
  reset     : Bool
  payload   : List Byte
  mismatch  : Option (Nat × Nat × Nat)
  deriving DecidableEq, Repr

/-- The transmission of a connection that stays in CONNECTING or RUNNING (R240, R241, R249). -/
def dscTransmit (im : Image) (i : Nat) (c : DscCtx) (w : DscFrame) (d : Dsc) : Dsc :=
  let slave := dscSlave im i
  let due := decide (dscCycle im i ≤ d.sinceTx)
  if d.state = dscConnecting then
    if !slave && due then dscSend im i (dscPdu im i 1 0 []) d else d
  else if slave then
    if w.answer then dscSend im i (dscPdu im i 0 d.rxSeq c.payload) { d with payload := c.payload }
    else if w.again then { d with pdu := some d.stored, sinceTx := 0 } else d
  else if d.waiting then
    if due then { d with pdu := some d.stored, sinceTx := 0 } else d
  else if due || decide (d.payload ≠ c.payload) then
    dscSend im i (dscPdu im i 0 (ringAdd d.txSeq 1) c.payload) { d with payload := c.payload, waiting := true, elapsed := 0 }
  else d

/-- The state table of R250 with transmission. -/
def dscState (im : Image) (i : Nat) (c : DscCtx) (w : DscFrame) (d : Dsc) : Dsc :=
  let slave := dscSlave im i
  let prev := d.state
  let entry := !d.started || decide (prev = dscDisabled) || decide (prev = dscUnconfirmed)
  let cause := match w.cause with
    | some k => some k
    | none => if slave && decide (prev = dscRunning) && d.data && w.connect then some 7 else none
  let reset := d.resetDone || (c.reset && decide (prev = dscFailsafe))
  let toConnect (x : Dsc) : Dsc :=
    let y := { dscNoImage x with state := dscConnecting, sinceTx := 0 }
    if slave then y else dscSend im i (dscPdu im i 1 0 []) y
  let x :=
    if !dscEn im i then { dscNoImage d with state := dscDisabled, resetDone := false }
    else if !c.confirmed then { dscNoImage d with state := dscUnconfirmed }
    else if entry then toConnect d
    else match cause with
      | some k => { dscNoImage d with state := dscFailsafe, cause := k, fsAge := 0, resetDone := false }
      | none =>
        if prev = dscFailsafe ∧ dscWCycles im i < d.fsAge ∧ d.errCnt < 3 ∧ (!dscAckReq im i || reset) then
          toConnect { d with resetDone := false }
        else if prev = dscFailsafe then { d with resetDone := reset }
        else if !slave && decide (prev = dscConnecting) && w.ack then
          dscSend im i (dscPdu im i 0 1 c.payload)
            { d with state := dscRunning, payload := c.payload, waiting := true, elapsed := 0, rxSeq := 0, data := false }
        else if slave && w.connect && (decide (prev = dscConnecting) || decide (prev = dscRunning)) then
          dscSend im i (dscPdu im i 2 0 []) { d with state := dscRunning, elapsed := 0, rxSeq := 0, data := false }
        else dscTransmit im i c w d
  { x with started := true }

/-- Events of Nimbus-A for one frame of a connection (R257). -/
def dscEvents (i : Nat) (c : DscCtx) (w : DscFrame) (a b : Dsc) : List EvReq :=
  (if w.crcs = 0 ∧ w.stales = 0 then []
    else [{ code := 0x0902, src := i, p1 := w.crcs, p2 := w.stales, p3 := b.errCnt }]) ++
  (match c.mismatch with
    | some (k, x, y) => [{ code := 0x0903, src := i, p1 := k, p2 := x, p3 := y }]
    | none => []) ++
  (if c.reset ∧ a.state = dscFailsafe ∧ (b.state = dscConnecting ∨ (b.state = dscFailsafe ∧ b.resetDone ∧ !a.resetDone)) then
    [{ code := 0x0905, src := i, p1 := 1 }] else []) ++
  (if a.state = b.state then []
    else [{ code := 0x0901, src := i, p1 := b.state, p2 := a.state, p3 := if b.state = dscFailsafe then b.cause else 0 }])

/-- A frame of a connection that stays DISABLED: AGE and the age of ERR_CNT go on, and every other value is kept (R247, R256). -/
def dscIdle (prevLen : Nat) (d : Dsc) : Dsc :=
  let x := dscElapse prevLen d
  { d with started := true, pdu := none, age := x.age, errCnt := x.errCnt, errAge := x.errAge }

/-- One frame of a connection in one engine: elapsed times, entries in order, watchdog, comparison, state and
transmission. `prevLen` is PREV_LEN of the frame record. -/
def dscEval (im : Image) (i prevLen : Nat) (c : DscCtx) (entries : List (List Byte)) (d0 : Dsc) : Dsc × List EvReq :=
  if !dscEn im i && decide (d0.state = dscDisabled) then (dscIdle prevLen d0, [])
  else
    let d1 := { dscElapse prevLen d0 with sinceTx := d0.sinceTx + 1, pdu := none }
    let r := entries.foldl (fun x b => dscReceive im i b x) (d1, {})
    let w1 := if dscWatchdog im i d1 r.1 then dscFail 1 r.2 else r.2
    let w2 := if c.mismatch.isSome then dscFail 8 w1 else w1
    let d2 := dscState im i c w2 r.1
    (d2, dscEvents i c r.2 d0 d2)

/-- The field in which the engines' values of frame n − 1 differ (R253, R257). -/
def dscMismatch (a b : Dsc) : Option (Nat × Nat × Nat) :=
  if a.state ≠ b.state then some (1, a.state, b.state)
  else if a.cause ≠ b.cause then some (2, a.cause, b.cause)
  else if a.errCnt ≠ b.errCnt then some (3, a.errCnt, b.errCnt)
  else if a.txSeq ≠ b.txSeq then some (4, a.txSeq, b.txSeq)
  else if a.rxSeq ≠ b.rxSeq then some (5, a.rxSeq, b.rxSeq)
  else none

/-- One byte of the transmit payload (R254). -/
def dscFnByte (s : SafeFn) (swBoth : Bool) : Byte :=
  BitVec.ofNat 8 (pack [(4, s.state), (1, b2n (s.dA || s.dB)), (1, b2n swBoth)])

/-- The connection status block (R256). -/
def dscBlock (im : Image) (i : Nat) (d : Dsc) : List Byte :=
  packBytes 64 [(3, d.state), (1, b2n d.rxFs),
    (1, b2n (decide (d.state = dscFailsafe) && dscAckReq im i && !d.resetDone)), (3, 0), (8, d.cause), (2, d.errCnt), (14, 0),
    (16, d.txSeq), (16, d.rxSeq), (32, d.age), (16, d.nRepeat), (16, d.nStale), (16, d.nCrc), (16, 0),
    (256, ofBytes d.rxData)]

end Sys2Proof.Machine
end

