-- ==== Sys2Proof/Machine/Identity.lean ====
section
/-! DEFINITION. Identity data (R521) and the firmware slot block (R506). -/

namespace Sys2Proof.Machine

/-- A BCD number of `n` digits as a number. -/
def bcdValue : Nat → Nat → Nat
  | 0, _ => 0
  | n + 1, v => v % 16 + 10 * bcdValue n (v / 16)

/-- Every digit of a BCD number is at most 9. -/
def bcdOk : Nat → Nat → Bool
  | 0, _ => true
  | n + 1, v => decide (v % 16 ≤ 9) && bcdOk n (v / 16)

/-- Bits [223:0] of the identity data as stored. -/
def identBits (d : Ident) : Nat :=
  pack [(8, d.order), (1, b2n d.witness), (7, 0), (40, d.serial), (8, 0), (48, d.lot), (5, d.wafer), (3, 0), (8, d.dieX),
    (8, d.dieY), (8, d.issue), (8, d.week), (8, d.year), (48, d.mac), (16, d.uid)]

/-- The CRC that IDENT_CRC is compared with (R521, R523). -/
def identCrc (d : Ident) : Nat := crc32c 0xFFFFFFFF (toBytes 28 (identBits d))

/-- UID16 of a BCD serial (R245). -/
def uidOf (serial : Nat) : Nat := uid16 (bcdValue 10 serial)

/-- The identity data a node is made with: order code, licence and serial given, the other fields at the values named
in log 3. -/
def makeIdent (order serial : Nat) : Ident :=
  let d : Ident := { order := order, witness := decide (order = 2), serial := serial, lot := 0x303030303030, uid := uidOf serial }
  { d with crc := identCrc d }

/-- The identity block (R521). -/
def identBlock (d : Ident) (fwCrc cfgCrc safeCrc : Nat) : List Byte :=
  toBytes 28 (identBits d) ++ toBytes 4 fwCrc ++ toBytes 4 cfgCrc ++ toBytes 4 safeCrc ++ toBytes 4 d.crc ++ List.replicate 20 0#8

/-- The firmware slot block (R506). -/
def fwBlock (run : Nat) (fallback : Bool) (a b : Firmware) (cause ended : Nat) : List Byte :=
  packBytes 32 [(2, run), (1, b2n fallback), (1, b2n a.valid), (1, b2n b.valid), (3, 0), (2, a.fails), (2, b.fails), (4, 0),
    (32, a.gen), (32, b.gen), (32, a.ver), (32, b.ver), (32, if run = 2 then b.crc else a.crc), (8, cause), (8, ended)]

end Sys2Proof.Machine
end

