-- ==== Sys2Proof/Machine/Masks.lean ====
section
/-! DEFINITION. Reserved bits and RO fields of the configuration classes, and the CRCs of an image (R542, R543, R549). -/

namespace Sys2Proof.Machine

/-- Rows of reserved bits of a class, as (first bit, length), ascending (R39, R78, R121, R153, R163, R184, R234, R254, R258,
R273, R279, R280, R342, R376, R381, R385, R387, R415, R457, R541). Bits of CHCFG that no field map lists are reserved. -/
def rsvRows : Nat → List (Nat × Nat)
| 0x0 => [(24, 8), (288, 224), (515, 29), (544, 224), (774, 2), (847, 1), (881, 15), (907, 5), (931, 93),
      (1030, 2), (1103, 1), (1137, 15), (1163, 5), (1187, 93), (1286, 2), (1359, 1), (1393, 15), (1419, 5),
      (1443, 93), (1542, 2), (1615, 1), (1649, 15), (1675, 5), (1699, 93)]
| 0x1 => [(10, 2), (14, 2), (22, 2), (51, 13), (78, 2), (86, 42), (141, 3), (162, 14), (224, 544), (794, 6),
      (1536, 512)]
| 0x2 => [(19, 13), (144, 112)]
| 0x3 => [(26, 6), (60, 4), (72, 8), (125, 131)]
| 0x4 => [(7, 1), (10, 6), (25, 7), (41, 7), (57, 7), (79, 1), (86, 10), (109, 19), (224, 288)]
| 0x5 => [(12, 4), (22, 2), (41, 7), (59, 5), (112, 16), (187, 5), (209, 15), (235, 5), (251, 5), (267, 5),
      (283, 5), (293, 3), (300, 212)]
| 0x6 => [(6, 2), (25, 7), (41, 7), (56, 200)]
| 0x7 => [(17, 7), (33, 7), (49, 7), (67, 5), (80, 176)]
| 0x8 => [(5, 3), (13, 3), (64, 192)]
| 0x9 => [(3, 1), (6, 2), (22, 2), (80, 16), (137, 7), (153, 7), (162, 30), (224, 32), (320, 192)]
| 0xA => [(7, 1), (37, 3), (57, 7), (108, 4), (120, 8), (153, 103)]
| 0xB => [(6, 2), (15, 17), (61, 3), (93, 35)]
| 0xC => [(3, 1), (10, 6), (22, 2), (30, 2), (37, 3), (45, 3), (55, 9), (67, 1), (74, 6), (86, 2), (94, 2),
      (101, 3), (109, 3), (119, 9), (129, 127)]
| 0xD => [(2, 6), (56, 200)]
| 0xE => [(1, 3), (8, 24), (35, 5), (262, 2), (272, 16), (352, 32)]
  | _ => []

/-- RO fields of a class, as (first bit, length) (R78, R121, R254, R541). -/
def roRows : Nat → List (Nat × Nat)
| 0x0 => [(0, 16), (16, 8), (32, 32), (64, 32), (96, 32), (128, 32), (160, 32), (192, 32), (224, 48), (272,
      16)]
| 0x1 => [(64, 4), (68, 3), (71, 1), (72, 4), (76, 2), (80, 4), (84, 1), (85, 1), (176, 16), (192, 16), (208,
      16)]
| 0x9 => [(256, 32), (288, 32)]
  | _ => []

/-- The mask of the bits of some rows. -/
def rowMask (rs : List (Nat × Nat)) : Nat := rs.foldl (fun m r => m + (2 ^ r.2 - 1) * 2 ^ r.1) 0

/-- Mask of the bits of a class that the integrator writes. -/
def rwMask (k : Nat) : Nat := (2 ^ (8 * clsBytes k) - 1) - rowMask (rsvRows k) - rowMask (roRows k)

/-- An instance with its RO fields and reserved bits taken as 0. -/
def maskedInst (im : Image) (k i : Nat) : Inst := inst im k i &&& BitVec.ofNat 2048 (rwMask k)

/-- Bytes of an instance as stored. -/
def instBytes (k : Nat) (v : Inst) : List Byte := toBytes (clsBytes k) v.toNat

/-- Every class with its instances in image order. -/
def imageOrder : List (Nat × Nat) := (List.range 15).flatMap fun k => (List.range (clsCount k)).map fun i => (k, i)

/-- The configuration CRC (R542). -/
def configCrc (im : Image) : Nat :=
  (crc32 (imageOrder.flatMap fun p => instBytes p.1 (maskedInst im p.1 p.2))).toNat

/-- Channels that an enabled safety function names (R235). -/
def safeOwnedBy (im : Image) (c : Nat) : Bool :=
  (listedInst im clsSAFEFN).any fun f =>
    sfEn im f && (decide (c = sfIn im f) || decide (c = sfIn im f + 1) || decide (c = sfOut im f) ||
      decide (c = sfOut im f + 1) || (sfResetEn im f && decide (c = sfResetCh im f)))

/-- The safety CRC (R543). -/
def safetyCrc (im : Image) : Nat :=
  (crc32 (toBytes 4 (imF im clsHDR 0 512 2) ++
    ((List.range 32).flatMap fun i => instBytes clsSAFEFN (maskedInst im clsSAFEFN i)) ++
    ((List.range 32).flatMap fun i => instBytes clsDSC (maskedInst im clsDSC i)) ++
    ((List.range 512).filter (safeOwnedBy im)).flatMap fun c =>
      toBytes 2 c ++ instBytes clsCHCFG (maskedInst im clsCHCFG c) ++ instBytes clsDICFG (maskedInst im clsDICFG c))).toNat

/-- Configuration CRC of the empty image. -/
def emptyCfgCrc : Nat := configCrc []
/-- Safety CRC of the empty image. -/
def emptySafeCrc : Nat := safetyCrc []

end Sys2Proof.Machine
end

