-- ==== Sys2Proof/Machine/Alloc.lean ====
section
/-! DEFINITION. Allocation of the contested resources at commit (R81 to R92), the RO fields of CHCFG (R79, R90, R114, R119,
R122), and the loop budget (R173, R174). -/

namespace Sys2Proof.Machine

/-! ## Order and claims -/

/-- Channels with a configuration instance that is not empty. -/
def chanListed (im : Image) (c : Nat) : Bool :=
  im.any fun e => decide (e.1 = objKey clsCHCFG c) || decide (e.1 = objKey clsAOCFG c) || decide (e.1 = objKey clsDICFG c)

/-- Allocation order (R89): safety-owned channels, then the others, each ascending; a pair whose instances are all empty
claims nothing and breaks no rule, and is left out. -/
def allocOrder (im : Image) : List Nat :=
  let cs := (List.range 512).filter fun c => chanListed im c || (decide (c % 2 = 0) && chanListed im (c + 1)) || safeOwnedBy im c
  cs.filter (safeOwnedBy im) ++ cs.filter fun c => !safeOwnedBy im c

/-- Converter entries that channel `c` claims (R76, R85). -/
def entryClaim (im : Image) (c : Nat) : Nat :=
  if !isAnalogIn (chMode im c) || (decide (chMode im c = 3) && decide (chSub im c = 2) && decide (c % 2 = 1)) then 0
  else chSlots im c + 1

/-- Excitation sources that channel `c` claims, and whether continuously (R84). -/
def excClaim (im : Image) (c : Nat) : Nat × Bool :=
  match chMode im c, chSub im c with
  | 3, 0 => (1, false)
  | 3, 1 => (2, false)
  | 3, 2 => (if c % 2 = 0 then 2 else 0, false)
  | 5, _ => (1, chExcCont im c)
  | 1, _ => (if chExcExt im c then 1 else 0, chExcCont im c)
  | _, _ => (0, false)

/-- Driving claims of channel `c` as (terminal index of R82, function code of R91). -/
def termClaims (im : Image) (c : Nat) : List (Nat × Nat) :=
  let exc := if chExcCont im c then 3 else 2
  match chMode im c, chSub im c with
  | 1, _ => if chExcExt im c then [(16 * (c / 8) + chExcTerm im c, 5)] else []
  | 2, 1 => [(2 * c, 1)]
  | 3, 0 => [(2 * c, 2)]
  | 3, 1 => [(2 * c, 2), (2 * c + 1, 2)]
  | 3, 2 => if c % 2 = 0 then [(2 * c, 2)] else []
  | 5, 0 => [(2 * c, exc)]
  | 5, 1 => [(2 * c + 1, exc)]
  | 6, _ => [(2 * c, 1)]
  | 8, _ => [(2 * c, 1)]
  | 7, _ => [(2 * c + 1, 1)]
  | 9, _ => [(2 * c + 1, 1)]
  | _, _ => []

/-- Width in 10 µs of the test-pulse claim of channel `c`: that of the safety function whose output it is (R80), else its own. -/
def testClaim (im : Image) (c : Nat) : Option Nat :=
  match (listedInst im clsSAFEFN).find? fun f => sfEn im f && (decide (c = sfOut im f) || decide (c = sfOut im f + 1)) with
  | some f => some (sfTpWidth im f)
  | none => if chTpKind im c = 0 then none else some (chTpWidth im c)

/-! ## Allocation -/

/-- A refused claim (R91): KIND, RES_INDEX, HOLDER, HOLDER_FN, REFUSED, REFUSED_FN. -/
structure Refusal6 where
  kind     : Nat := 0
  index    : Nat := 0
  holder   : Nat := 0
  holderFn : Nat := 0
  refused  : Nat := 0
  fn       : Nat := 0
  deriving DecidableEq, Repr

/-- What the allocation has granted so far. Lists hold the grants in allocation order. -/
structure Alloc where
  /-- Terminal, holder, function code. -/
  terms   : List (Nat × Nat × Nat) := []
  /-- Source 2 × block + s, holder, continuous. -/
  excs    : List (Nat × Nat × Bool) := []
  /-- Block, channel, first entry, count. -/
  entries : List (Nat × Nat × Nat × Nat) := []
  /-- Block, channel, first slot, run. -/
  tests   : List (Nat × Nat × Nat × Nat) := []
  /-- Modem cell 8 × region + cell, channel. -/
  modems  : List (Nat × Nat) := []
  refused : List Refusal6 := []
  deriving DecidableEq, Repr

/-- A claim is refused. -/
def Alloc.refuse (a : Alloc) (r : Refusal6) : Alloc := { a with refused := a.refused ++ [r] }

/-- A driving claim on a terminal (R83). -/
def allocTerm (c : Nat) (a : Alloc) (x : Nat × Nat) : Alloc :=
  match a.terms.find? fun t => decide (t.1 = x.1) with
  | some h => a.refuse { kind := 1, index := x.1, holder := h.2.1, holderFn := h.2.2, refused := c, fn := x.2 }
  | none => { a with terms := a.terms ++ [(x.1, c, x.2)] }

/-- The first claimant that holds source `k`, of any kind or continuously only. -/
def excHolder (a : Alloc) (k : Nat) (contOnly : Bool) : Option (Nat × Bool) :=
  (a.excs.find? fun e => decide (e.1 = k) && (!contOnly || e.2.2)).map fun e => (e.2.1, e.2.2)

/-- The excitation claim of channel `c` (R84). -/
def allocExc (im : Image) (c : Nat) (a : Alloc) : Alloc :=
  let need := (excClaim im c).1
  let cont := (excClaim im c).2
  let ks := [2 * (c / 8), 2 * (c / 8) + 1]
  let free := ks.filter fun k => (excHolder a k (!cont)).isNone
  let n := if cont then 1 else need
  if need = 0 then a
  else if n ≤ free.length then { a with excs := a.excs ++ (free.take n).map fun k => (k, c, cont) }
  else
    match ks.find? fun k => (excHolder a k (!cont)).isSome with
    | some k =>
      let h := (excHolder a k (!cont)).getD (0, false)
      a.refuse { kind := 2, index := k, holder := h.1, holderFn := if h.2 then 3 else 2, refused := c
                 fn := if cont then 3 else 2 }
    | none => a

/-- Lowest free converter entry of block `b`. -/
def entryNext (a : Alloc) (b : Nat) : Nat := a.entries.foldl (fun m e => if e.1 = b then max m (e.2.2.1 + e.2.2.2) else m) 0

/-- The entry claim of channel `c` (R85). -/
def allocEntries (im : Image) (c : Nat) (a : Alloc) : Alloc :=
  let b := c / 8
  let n := entryClaim im c
  let f := entryNext a b
  if n = 0 then a
  else if f + n ≤ 16 then { a with entries := a.entries ++ [(b, c, f, n)] }
  else
    let h := (a.entries.reverse.find? fun e => decide (e.1 = b)).getD (b, 0, 0, 0)
    a.refuse { kind := 3, index := b, holder := h.2.1, holderFn := 6, refused := c, fn := 6 }

/-- Frame-phase slots of a test claim of width `w` in 10 µs (R87). -/
def testRun (P w : Nat) : Nat := ceilDiv (usC (100 + 10 * w)) P + 1

/-- The test-pulse claim of channel `c` (R87). -/
def allocTest (im : Image) (c : Nat) (a : Alloc) : Alloc :=
  match testClaim im c with
  | none => a
  | some w =>
    let b := c / 8
    let k := testRun (imPeriod im) w
    let mine := a.tests.filter fun e => decide (e.1 = b)
    let fits (s : Nat) : Bool :=
      decide (s + k ≤ 16) && mine.all fun e => decide (s + k ≤ e.2.2.1) || decide (e.2.2.1 + e.2.2.2 ≤ s)
    match (List.range 16).find? fits with
    | some s => { a with tests := a.tests ++ [(b, c, s, k)] }
    | none =>
      let h := mine.foldl (fun m e => if m.2 < e.2.2.1 + e.2.2.2 then (e.2.1, e.2.2.1 + e.2.2.2) else m) (0, 0)
      a.refuse { kind := 5, index := b, holder := h.1, holderFn := 7, refused := c, fn := 7 }

/-- A modem claim of channel `c` for the named cell, or for the lowest free one (R83, R86). The claim that is granted
joins terminal A and keeps other driving claims from it. -/
def allocModem (c : Nat) (cell : Option Nat) (a : Alloc) : Alloc :=
  let g := c / 128
  let held := a.terms.find? fun t => decide (t.1 = 2 * c)
  let grant (k : Nat) : Alloc :=
    { a with modems := a.modems ++ [(8 * g + k, c)]
             terms := if held.isSome then a.terms else a.terms ++ [(2 * c, c, 4)] }
  let holder (k : Nat) : Option Nat := (a.modems.find? fun m => decide (m.1 = 8 * g + k)).map (·.2)
  let no (k : Nat) : Alloc :=
    a.refuse { kind := 4, index := 8 * g + k, holder := (holder k).getD 0, holderFn := 4, refused := c, fn := 4 }
  match held with
  | some h =>
    if h.2.1 ≠ c then a.refuse { kind := 1, index := 2 * c, holder := h.2.1, holderFn := h.2.2, refused := c, fn := 4 }
    else take grant holder no
  | none => take grant holder no
where
  /-- The cell is named, or the lowest free one is taken. -/
  take (grant : Nat → Alloc) (holder : Nat → Option Nat) (no : Nat → Alloc) : Alloc :=
    match cell with
    | some k => if (holder k).isSome then no k else grant k
    | none =>
      match (List.range 8).find? fun k => (holder k).isNone with
      | some k => grant k
      | none => no 7

/-- All claims of one channel in the first pass (R89). -/
def allocChannel (im : Image) (a : Alloc) (c : Nat) : Alloc :=
  let a := (termClaims im c).foldl (allocTerm c) a
  let a := allocTest im c (allocEntries im c (allocExc im c a))
  let m := chModem im c
  if 1 ≤ m ∧ m ≤ 8 then allocModem c (some (m - 1)) a else a

/-- The whole allocation of an image (R89). -/
def allocate (im : Image) : Alloc :=
  let order := allocOrder im
  let a := order.foldl (allocChannel im) {}
  (order.filter fun c => decide (chModem im c = 15)).foldl (fun a c => allocModem c none a) a

/-! ## Timing of a block (R97, R114, R119) -/

/-- Entry grant of channel `c`: first entry and count. -/
def Alloc.entryOf (a : Alloc) (c : Nat) : Nat × Nat :=
  match a.entries.find? fun e => decide (e.2.1 = c) with
  | some e => e.2.2
  | none => (0, 0)

/-- T_run of channel `c` holding `n` entries, in µs (R97). -/
def runUs (im : Image) (c n : Nat) : Nat :=
  n * 250 + (if isPairedConv (chMode im c) (chSub im c) then n else min n 1) * (10 * chSettle im c)

/-- T_cyc of block `b` in µs (R97). -/
def cycUs (im : Image) (a : Alloc) (b : Nat) : Nat :=
  a.entries.foldl (fun t e => if e.1 = b then t + runUs im e.2.1 e.2.2.2 else t) 50

/-- N_c of channel `c` for a cycle of `cyc` µs (R114); 0 with the notch off. -/
def notchN (im : Image) (c cyc : Nat) : Nat :=
  let w := match chNotch im c with
    | 1 => 20000
    | 2 => 16667
    | _ => 100000
  if chNotch im c = 0 then 0
  else if isPairedConv (chMode im c) (chSub im c) && decide (chSlots im c = 0) then 2 * ((2 * w + 2 * cyc) / (4 * cyc))
  else (2 * w + cyc) / (2 * cyc)

/-- T_FILT of channel `c` in 10 µs steps (R119). -/
def filtSteps (im : Image) (c cyc run : Nat) : Nat :=
  let k := if chNotch im c ≠ 0 then notchN im c cyc
    else if isPairedConv (chMode im c) (chSub im c) && decide (chSlots im c = 0) then 2 else 1
  ceilDiv ((k * cyc + run) * 1016) 10000

/-! ## RO fields (R79, R122) -/

/-- The RO fields of CHCFG[c] as the commit writes them. -/
def chRo (im : Image) (a : Alloc) (c : Nat) : Inst :=
  let e := a.entryOf c
  let t := (a.tests.find? fun x => decide (x.2.1 = c)).map (·.2.2)
  let m := a.modems.find? fun x => decide (x.2 = c)
  let cont (s : Nat) : Nat := b2n (a.excs.any fun x => decide (x = (2 * (c / 8) + s, c, true)))
  let cyc := if e.2 = 0 then 0 else cycUs im a (c / 8)
  let v := maskedInst im clsCHCFG c ||| (inst im clsCHCFG c &&& BitVec.ofNat 2048 (rowMask (rsvRows clsCHCFG)))
  let v := setFld v 64 22 (pack [(4, e.1), (3, e.2), (1, b2n (safeOwnedBy im c)), (4, (t.getD (0, 0)).1), (2, (t.getD (0, 0)).2),
    (2, 0), (4, match m with | some x => x.1 % 8 + 1 | none => 0), (1, cont 0), (1, cont 1)])
  setFld v 176 48 (pack [(16, cyc), (16, if e.2 = 0 then 0 else notchN im c cyc),
    (16, if e.2 = 0 then 0 else filtSteps im c cyc (runUs im c e.2))])

/-- The image with the RO fields of every CHCFG instance written. -/
def writeAlloc (im : Image) (a : Alloc) : Image :=
  (List.range 512).foldl (fun r c => if chanListed im c || safeOwnedBy im c then setInst r clsCHCFG c (chRo im a c) else r) im

/-! ## Reply bodies of the two budgets -/

/-- Reply body of RESOURCE_CONFLICT (R91). -/
def conflictBody (r : Refusal6) (count : Nat) : List Byte :=
  packBytes 16 [(8, r.kind), (8, 0), (16, r.index), (16, r.holder), (8, r.holderFn), (8, 0), (16, r.refused), (8, r.fn), (8, 0),
    (16, satN 16 count), (16, 0)]

/-- Loop allowance in mW (R173). -/
def loopAllowance (im : Image) (c : Nat) : Nat :=
  match chMode im c, chSub im c with
  | 6, _ => 1100
  | 2, 1 => 550
  | _, _ => 0

/-- Running sums in allocation order: the first channel at which the sum of `f` passes `lim`. -/
def sumPast (f : Nat → Nat) (lim : Nat) : Nat → List Nat → Option Nat
  | _, [] => none
  | s, c :: r => if lim < s + f c then some c else sumPast f lim (s + f c) r

/-- Reply body of LOOP_BUDGET, where a budget is exceeded (R173, R174). -/
def loopBudget (im : Image) : Option (List Byte) :=
  let order := allocOrder im
  let cs (b : Nat) : List Nat := order.filter fun c => decide (c / 8 = b)
  let sum (f : Nat → Nat) (l : List Nat) : Nat := l.foldl (fun s c => s + f c) 0
  let ao (c : Nat) : Nat := b2n (decide (chMode im c = 6))
  let tooMuch := (List.range 64).filter fun b => decide (4400 < sum (loopAllowance im) (cs b))
  let aoOver := decide (128 < sum ao order)
  let body (scope index demand limit ch : Nat) : List Byte :=
    packBytes 16 [(8, scope), (8, 0), (16, index), (16, demand), (16, limit), (16, ch), (16, tooMuch.length + b2n aoOver), (32, 0)]
  match tooMuch with
  | b :: _ => some (body 0 b (sum (loopAllowance im) (cs b)) 4400 ((sumPast (loopAllowance im) 4400 0 (cs b)).getD 0))
  | [] => if aoOver then some (body 1 0 (sum ao order) 128 ((sumPast ao 128 0 order).getD 0)) else none

end Sys2Proof.Machine
end

