-- ==== Sys2Proof/Machine/Rules.lean ====
section
/-! DEFINITION. Commit rules of stages 1 to 5 (R333): the witness licence, reserved bits, field values and their
combinations in every class, pair functions, and outputs named twice. Where a rule joins several fields and does not say
which one the refusal names, it is the first one the rule mentions (log 30). -/

namespace Sys2Proof.Machine

/-- A fault of a commit as the naming body gives it (R332). -/
structure CFault where
  cls  : Nat := 0
  ix   : Nat := 0
  bit  : Nat := 0
  cls2 : Nat := 0xFF
  ix2  : Nat := 0
  bit2 : Nat := 0
  ch   : Nat := 0xFFFF
  deriving DecidableEq, Repr

/-- What the rules ask about the unit itself. -/
structure UnitFacts where
  witness  : Bool := false
  identBad : Bool := false
  unitB    : Bool := false
  serial   : Nat := 0
  /-- The partner's hold current is present. -/
  partner  : Bool := false
  /-- PAIR.EN of the running image. -/
  pairWas  : Bool := false
  fwCrc    : Nat := 0
  deriving DecidableEq, Repr

/-- First bits of the fields that are refused, each once and ascending, as faults of object `(k, i)`. -/
def faultsOf (k i : Nat) (l : List (Bool × Nat)) : List CFault :=
  let bits := (l.filter (·.1)).foldl (fun r e => ins e.2 r) []
  bits.map fun b => { cls := k, ix := i, bit := b }
where
  /-- Insertion of a bit number that is not there yet. -/
  ins (b : Nat) : List Nat → List Nat
    | [] => [b]
    | x :: r => if b < x then b :: x :: r else if b = x then x :: r else x :: ins b r

/-- A number lies outside a range. -/
def outside (lo hi v : Nat) : Bool := decide (v < lo) || decide (hi < v)

/-- A field is not zero. -/
def nz (v : Nat) : Bool := decide (v ≠ 0)

/-! ## CHCFG -/

/-- Largest listed SUBMODE of a mode (R75). -/
def subMax : Nat → Nat
  | 1 => 1 | 2 => 1 | 3 => 2 | 5 => 1 | _ => 0

/-- The first channel of block `b`, in allocation order, that is a DI channel with BLANK_SRC (R113). -/
def blankSource (im : Image) (b : Nat) : Option Nat :=
  (allocOrder im).find? fun c => decide (c / 8 = b) && chBlankSrc im c && decide (chMode im c = 7)

/-- CURVE is valid for the mode (R130). -/
def curveValid (m curve : Nat) : Bool :=
  match curve with
  | 0 => [1, 2, 5].contains m
  | 1 => [1, 2].contains m
  | 2 => [1, 2, 3, 5].contains m
  | _ => (decide (0x10 ≤ curve) && decide (curve ≤ 0x15) && decide (m = 3)) ||
    (decide (0x20 ≤ curve) && decide (curve ≤ 0x27) && decide (m = 4))

/-- Bytes 0 to 15 (R75, R78, R80, R98, R176, R185). -/
def rulesChHead (im : Image) (c : Nat) : List (Bool × Nat) :=
  let m := chMode im c
  let own := safeOwnedBy im c
  let ext := chExcExt im c
  let kind := chTpKind im c
  let mo := chModem im c
  [(decide (subMax m < chSub im c), 4),
   (nz (chSlots im c) && decide (entryClaim im c = 0), 12),
   (decide (chSlots im c = 2) && isPairedConv m (chSub im c), 12),
   (nz (chExcTerm im c) && !ext, 16),
   (ext && decide (m ≠ 1), 20),
   (chExcCont im c && !(decide (m = 5) || (decide (m = 1) && ext)), 21),
   (decide (200 < chExcI im c) || (nz (chExcI im c) && !(decide (m = 3) || decide (m = 5) || (decide (m = 1) && ext))), 24),
   ((decide (9 ≤ mo) && decide (mo ≤ 14)) || (nz mo && (!(decide (m = 2) || decide (m = 6)) || own)), 32),
   (((decide (kind = 1) || decide (kind = 2)) && decide (m ≠ 8)) || (decide (kind = 3) && decide (m ≠ 7)) || (nz kind && own), 36),
   (decide (kind = 3) && decide (diCsup im c ≠ 1), 36),
   (if kind = 0 then nz (chTpWidth im c) else outside 20 80 (chTpWidth im c), 38),
   (if kind = 0 then nz (chTpInterval im c) else outside 1 60 (chTpInterval im c), 45),
   (own && nz (chTpWidth im c), 38), (own && nz (chTpInterval im c), 45)]

/-- Bytes 16 to 95 (R113, R114, R118, R121). -/
def rulesChAcq (im : Image) (a : Alloc) (c : Nat) : List (Bool × Nat) :=
  let m := chMode im c
  let ain := isAnalogIn m
  let own := safeOwnedBy im c
  let held := decide ((a.entryOf c).2 ≠ 0)
  let blanked := chBlankBlk im c || chBlankMod im c
  [(decide (200 < chSettle im c) || (!ain && nz (chSettle im c)), 128),
   (!ain && nz (chNotch im c), 136),
   (ain && nz (chNotch im c) && held && decide (notchN im c (cycUs im a (c / 8)) < 4), 136),
   (chBlankBlk im c && (own || !ain || (blankSource im (c / 8)).isNone), 138),
   (chBlankMod im c && (own || !ain), 139),
   (chBlankSrc im c && (decide (m ≠ 7) || decide (blankSource im (c / 8) ≠ some c)), 140),
   (ain && decide (chBlankMax im c = 0) && blanked, 144),
   (nz (chBlankMax im c) && (!blanked || !ain), 144),
   (decide (600 < chDamp im c) || (nz (chDamp im c) && (!ain || own)), 152)]

/-- First bits of the fields of R153. -/
def linFields : List (Nat × Nat) :=
  [(768, 6), (774, 3), (777, 2), (779, 2), (781, 4), (785, 9), (800, 16), (816, 16), (832, 32), (864, 32), (896, 32), (928, 32),
   (960, 16), (976, 16), (992, 32), (1024, 32), (1056, 32), (1088, 32), (1120, 16), (1136, 16), (1152, 384)]

/-- Bytes 96 to 191 (R154). -/
def rulesChLin (im : Image) (c : Nat) : List (Bool × Nat) :=
  let m := chMode im c
  let curve := chCurve im c
  let scaled := decide (curve ≤ 2)
  let temp := curveValid 3 curve && !scaled || curveValid 4 curve
  let src := chCjcSrc im c
  let cp := chCparam im c
  let red := decide (c % 2 = 0) && decide (chPairFn im c = 2)
  let f (lo len : Nat) : Bool := nz (imF im clsCHCFG c lo len)
  if !isAnalogIn m then linFields.map fun x => (f x.1 x.2, x.1)
  else
    [(!curveValid m curve, 768), (decide (chDec im c = 7), 774),
     (decide (src = 3) || (nz src && decide (m ≠ 4)), 777),
     ((f 779 2) && !red, 779),
     (decide (src = 2) && (decide (chCjcCh im c = c) || decide (chMode im (chCjcCh im c) ≠ 3) ||
       decide (chCjcCh im c / 128 ≠ c / 128)), 785),
     (if decide (m = 4) && decide (src = 1) then decide (cp < -5000) || decide (10000 < cp)
      else if curve = 1 then decide (cp < 0) || decide (2000 < cp) else decide (cp ≠ 0), 800),
     (decide (6000 < chDevTime im c) || ((f 816 16) && !red), 816),
     (temp && f 832 32, 832), (temp && f 864 32, 864), (temp && f 896 32, 896), (temp && f 928 32, 928),
     (scaled && decide (chInLo im c = chInHi im c), 864),
     (scaled && decide (chEngLo im c = chEngHi im c), 928),
     (if red then decide (chDevLim im c = 0) else f 1136 16, 1136),
     (decide (curve ≠ 2) && f 1152 384, 1152)]

/-- BAD_VALUE faults of CHCFG[c]. Nothing else of a channel is judged under a MODE that is not listed. -/
def faultsCh (im : Image) (a : Alloc) (c : Nat) : List CFault :=
  if 9 < chMode im c then faultsOf clsCHCFG c [(true, 0)]
  else faultsOf clsCHCFG c (rulesChHead im c ++ if ignoresRest im c then [] else rulesChAcq im a c ++ rulesChLin im c)

/-! ## AOCFG and DICFG -/

/-- BAD_VALUE faults of AOCFG[c] (R163, R164). -/
def faultsAo (im : Image) (c : Nat) : List CFault :=
  let f (lo len : Nat) : Bool := nz (imF im clsAOCFG c lo len)
  if 9 < chMode im c then []
  else if chMode im c ≠ 6 then
    faultsOf clsAOCFG c ([(0, 2), (2, 9), (12, 2), (14, 2), (16, 3), (32, 32), (64, 32), (96, 16), (112, 16), (128, 16)].map
      fun x => (f x.1 x.2, x.1))
  else
    faultsOf clsAOCFG c
      [(decide (1 < aoSrc im c), 0), (decide (aoSrc im c = 1) && !isAnalogIn (chMode im (aoSrcCh im c)), 2),
       (decide (aoFail im c = 3), 12),
       (decide (aoSafe im c = 3) || (decide (aoSafe im c = 2) && (decide (aoFail im c = 0) || decide (aoFail im c = 3))), 14),
       (decide (aoDec im c = 7) || (decide (aoSrc im c = 1) && nz (aoDec im c)), 16),
       (decide (aoEngLo im c = aoEngHi im c), 32),
       (decide (24000 < aoOutLo im c) || decide (aoOutLo im c = aoOutHi im c), 96),
       (decide (24000 < aoOutHi im c), 112), (decide (24000 < aoInitI im c), 128)]

/-- BAD_VALUE faults of DICFG[c] (R184, R185). -/
def faultsDi (im : Image) (c : Nat) : List CFault :=
  let m := chMode im c
  let di := decide (m = 7)
  let pi := decide (m = 9)
  let inp := di || pi
  let dout := decide (m = 8)
  let sil := dout || decide (m = 6)
  let thr := inp && decide (diPreset im c = 0) && decide (diCsup im c ≠ 2)
  let f (lo len : Nat) : Bool := nz (imF im clsDICFG c lo len)
  if 9 < m then []
  else
    faultsOf clsDICFG c
      [(!inp && f 0 2, 0), (if inp then decide (diCsup im c = 3) else f 2 2, 2),
       (f 4 2 && (!di || chBlankSrc im c), 4), (f 6 1 && (!di || chBlankSrc im c), 6), (!inp && f 7 1, 7),
       (if thr then outside 20 300 (diThrOn im c) || decide (diThrOn im c < diThrOff im c + 5) else f 8 9, 8),
       (if thr then outside 20 300 (diThrOff im c) else f 17 9, 17),
       (if inp then decide (diDeb im c = 0) else f 32 16, 32),
       (if dout then decide (diSafe im c = 3) || (f 48 2 && safeOwnedBy im c) else f 48 2, 48),
       (if sil then outside 2 500 (diSilence im c) || decide (msC (diSilence im c) < 10 * imPeriod im) else f 50 10, 50),
       (if dout then decide (100 < diOpenLim im c) else f 64 8, 64),
       (if pi then decide (diKNum im c = 0) else f 80 16, 80), (if pi then decide (diKDen im c = 0) else f 96 16, 96),
       (if pi then decide (diDec im c = 7) else f 112 3, 112),
       (if pi then outside 1 1000 (diGate im c) else f 115 10, 115)]

/-! ## HDR (R39, R381, R382) -/

/-- Rules of one bit-timing phase: prescaler, segments and jump width at `lo`, with their largest values. -/
def rulesPhase (im : Image) (k lo s1 s2 s1Min : Nat) : List (Bool × Nat) :=
  let b := ctlF im k lo 8
  let seg2 := ctlF im k (lo + 16) 8
  [(outside 1 32 b, lo), (outside s1Min s1 (ctlF im k (lo + 8) 8), lo + 8), (outside 1 s2 seg2, lo + 16),
   (outside 1 (if 1 ≤ seg2 ∧ seg2 ≤ s2 then seg2 else s2) (ctlF im k (lo + 24) 8), lo + 24)]

/-- Bit time of a phase in kernel cycles (R382). -/
def bitTime (im : Image) (k lo : Nat) : Nat := ctlF im k lo 8 * (1 + ctlF im k (lo + 8) 8 + ctlF im k (lo + 16) 8)

/-- Fields of R381 other than EN, as (first bit, length). -/
def ctlFields : List (Nat × Nat) :=
  [(1, 2), (3, 1), (4, 1), (5, 1), (8, 8), (16, 8), (24, 8), (32, 8), (40, 8), (48, 8), (56, 8), (64, 8), (72, 7), (80, 8), (88, 8),
   (96, 8), (104, 8), (112, 1), (128, 11), (144, 16), (160, 3)]

/-- Rules of CANCTLk, as bits within the block. A bit rate is judged where the fields that form it are valid. -/
def rulesCtl (im : Image) (k : Nat) : List (Bool × Nat) :=
  let f (lo len : Nat) : Bool := nz (ctlF im k lo len)
  let none (l : List (Nat × Nat)) : List (Bool × Nat) := l.map fun x => (f x.1 x.2, x.1)
  let port := if k < 2 then some (3 + k) else Option.none
  let uses := match port with
    | some i => [(poPktEn im i && !ctlEn im k, 0), (poFd im i && decide (ctlProto im k = 0), 1)]
    | Option.none => []
  let nom := rulesPhase im k 8 255 128 2
  let dat := rulesPhase im k 40 64 32 1
  let xl := rulesPhase im k 80 64 32 1
  let good (l : List (Bool × Nat)) : Bool := (l.take 3).all fun x => !x.1
  let tn := bitTime im k 8
  uses ++
  if !ctlEn im k then none ctlFields
  else if ctlProto im k = 3 then [(true, 1)]
  else
    nom ++ [(good nom && outside 80 8000 tn, 8)] ++
    (if ctlProto im k = 0 then none [(5, 1), (40, 8), (48, 8), (56, 8), (64, 8), (72, 7)]
     else dat ++ [(good dat && (decide (bitTime im k 40 < 10) || (good nom && decide (tn < bitTime im k 40))), 40),
       (f 72 7 && !f 5 1, 72)]) ++
    (if ctlProto im k = 2 then
       xl ++ [(good xl && (decide (bitTime im k 80 < 8) || (good nom && decide (tn < bitTime im k 80))), 80)]
     else none [(80, 8), (88, 8), (96, 8), (104, 8), (112, 1)]) ++
    (if ctlTmEn im k then [(decide (ctlCycleLen im k < 1000), 144), (decide (ctlMatrix im k = 7), 160)]
     else none [(128, 11), (144, 16), (160, 3)])

/-- BAD_VALUE faults of HDR. -/
def faultsHdr (im : Image) : List CFault :=
  faultsOf clsHDR 0 ((decide (imPeriodCode im = 3), 512) ::
    (List.range 4).flatMap fun k => (rulesCtl im k).map fun x => (x.1, ctlBase k + x.2))

/-! ## SAFEFN (R234, R235) -/

/-- Enabled instances of a class whose bit 0 is EN. -/
def enabledOf (im : Image) (k : Nat) : List Nat := (listedInst im k).filter fun i => imB im k i 0

/-- The modes of an input pair match the type (R217). -/
def sfModesOk (im : Image) (f : Nat) : Bool :=
  let a := chMode im (sfIn im f)
  decide (a = chMode im (sfIn im f + 1)) &&
    (match sfType im f with
    | 0 => decide (a = 7)
    | 2 => [1, 2, 5].contains a
    | _ => decide (a = 9))

/-- Channel `c` lies in the input or output pair of an enabled function. -/
def inSafePair (im : Image) (c : Nat) : Bool :=
  (enabledOf im clsSAFEFN).any fun f => [sfIn im f, sfIn im f + 1, sfOut im f, sfOut im f + 1].contains c

/-- BAD_VALUE faults of an enabled SAFEFN. -/
def faultsSf (im : Image) (f : Nat) : List CFault :=
  let t := sfType im f
  let i := sfIn im f
  let o := sfOut im f
  let bad (c : Nat) : Bool := decide (chMode im c ≠ 8) || decide (chPairFn im c ≠ 0) || decide (50 < diSilence im c)
  let g (lo len : Nat) : Bool := nz (imF im clsSAFEFN f lo len)
  if 3 < t then faultsOf clsSAFEFN f [(true, 1)]
  else
    faultsOf clsSAFEFN f
      [(if t = 3 then decide (sfAllow im f = 0) || decide (sfAllow im f = 3) else g 8 2, 8),
       (decide (i % 2 = 1) || decide (i / 128 ≠ f / 8) || decide (chPairFn im i ≠ 3) || decide (chPairFn im (i + 1) ≠ 3) ||
         !sfModesOk im f, 16),
       (decide (o % 2 = 1) || decide (o / 128 ≠ f / 8) || bad o || bad (o + 1), 32),
       (if sfResetEn im f then decide (chMode im (sfResetCh im f) ≠ 7) || decide (sfResetCh im f / 128 ≠ f / 8) ||
          inSafePair im (sfResetCh im f) else g 48 9, 48),
       ((maskBits (sfLink im f)).any fun j => decide (j = f % 8) || !sfEn im (8 * (f / 8) + j), 64),
       (outside 20 80 (sfTpWidth im f), 72), (outside 1 60 (sfTpInterval im f), 80), (outside 1 5000 (sfDiscTime im f), 96),
       (if t = 1 then decide (sfLimitHi im f ≤ 0) else decide (t ≠ 2) && g 128 32, 128),
       (if t = 2 then decide (sfLimitHi im f ≤ sfLimitLo im f) else if t = 3 then decide (sfLimitLo im f ≤ 0) else g 160 32, 160),
       (if t = 0 then g 192 32 else decide (sfDiscTol im f = 0), 192)]

/-! ## ALMPT (R258 to R261) -/

/-- BAD_VALUE faults of an enabled point (R259). -/
def faultsAl (im : Image) (p : Nat) : List CFault :=
  let k := alKind im p
  let f (lo len : Nat) : Bool := nz (imF im clsALMPT p lo len)
  let c := alCh im p
  let m := chMode im c
  let sel := alSel im p
  let red := decide (c % 2 = 0) && decide (chPairFn im c = 2)
  let n := alLogN im p
  let en (q : Nat) : Bool := decide (q = p) || !alEn im q
  faultsOf clsALMPT p (
    [(decide (k = 0) || decide (7 < k), 4),
     (alFo im p && (decide (alPrio im p = 3) || alLogic im p), 9),
     (alShelveOk im p && (decide (alPrio im p = 0) || alLogic im p), 10),
     (alSuppEn im p && alLogic im p, 11),
     (match k with
      | 1 => decide (3 < sel) || !(chTsEn im c).testBit sel
      | 2 => decide (3 < sel) || (sel.testBit 1 && !red)
      | 4 => decide (1 < sel)
      | 5 => outside 1 7 sel
      | 6 => !(decide (sel < 0x18) || (decide (0x20 ≤ sel) && decide (sel < 0x80)))
      | 3 => nz sel
      | 7 => nz sel
      | _ => false, 24),
     (match k with
      | 1 => !isAnalogIn m
      | 2 => !(isAnalogIn m || decide (m = 9))
      | 3 => decide (m ≠ 7)
      | 4 => decide (m = 0)
      | 5 => !red
      | 6 => nz c
      | 7 => nz c
      | _ => false, 32),
     (alSuppEn im p && en (alSuppPt im p), 48),
     (outside 1 7 k || decide (k = 2) || !f 64 32 |> not, 64), (outside 1 7 k || decide (k = 2) || !f 96 16 |> not, 96),
     (decide (36000 < alOnDelay im p), 128), (decide (36000 < alOffDelay im p), 144),
     (decide (6000 < alSuppHold im p) || (nz (alSuppHold im p) && !alSuppEn im p), 160),
     (if alShelveOk im p then outside 1 1440 (alShelveMax im p) else nz (alShelveMax im p), 176),
     (nz (alAckLoc im p) && alLogic im p, 192),
     ((List.range 16).any fun j => (alAckLoc im p).testBit (j + 1) && !caEn im j, 192)] ++
    if k = 7 then
      ((List.range 4).map fun j => (if j < n then en (alOp im p j) else nz (alOp im p j), 224 + 16 * j)) ++
      [(decide (alLogFn im p = 3) || (decide (alLogFn im p = 2) && decide (n < 2)), 288), (outside 1 4 n, 290),
       ((List.range 4).any fun j => decide (n ≤ j) && alLogInv im p j, 296)]
    else if outside 1 7 k then []
    else [(224, 11), (240, 11), (256, 11), (272, 11), (288, 2), (290, 3), (296, 4)].map fun x => (f x.1 x.2, x.1))

/-! ## GRP, CALL and CALLSYS (R273, R281) -/

/-- An enabled transmit object with 8 payload bytes. -/
def isTx8 (im : Image) (o : Nat) : Bool := coEn im o && coTx im o && decide (coSize im o = 8)
/-- An enabled receive object. -/
def isRx (im : Image) (o : Nat) : Bool := coEn im o && !coTx im o

/-- BAD_VALUE faults of GRP[g]. -/
def faultsGr (im : Image) (g : Nat) : List CFault :=
  faultsOf clsGRP g
    [(decide (grOutMode im g = 3), 1), (if grOutMode im g = 2 then decide (grFlash im g = 0) else nz (grFlash im g), 8),
     (if grOutEn im g then decide (chMode im (grOutCh im g) ≠ 8) else nz (grOutCh im g), 16),
     (if grObjEn im g then !isTx8 im (grOutObj im g) else nz (grOutObj im g), 32),
     (if grObjEn im g then decide (grObjCycle im g = 0) else nz (grObjCycle im g), 48)]

/-- BAD_VALUE faults of CALL[k]. -/
def faultsCa (im : Image) (k : Nat) : List CFault :=
  let can := caCanEn im k
  faultsOf clsCALL k
    [(caEn im k && !csEn im, 0), (decide (caKind im k = 3), 1), (caMach im k && decide (caKind im k ≠ 1), 3),
     (caEn im k && !can && !caDoEn im k, 5),
     (if caDoEn im k then decide (chMode im (caOutCh im k) ≠ 8) else nz (caOutCh im k), 8),
     (if can then !isTx8 im (caTxObj im k) else nz (caTxObj im k), 24),
     (if can then !isRx im (caRxObj im k) else nz (caRxObj im k), 40),
     (if caBtnEn im k then decide (chMode im (caBtnCh im k) ≠ 7) else nz (caBtnCh im k), 56),
     (if caBtnEn im k then decide (caBtnFn im k = 3) || (decide (caBtnFn im k = 2) && !caMach im k) else nz (caBtnFn im k), 65),
     (if can then decide (caObjCycle im k = 0) else nz (caObjCycle im k), 72)]

/-- BAD_VALUE faults of CALLSYS. -/
def faultsCs (im : Image) : List CFault :=
  faultsOf clsCALLSYS 0
    [(decide (csPrio im = 3), 1),
     (csDutyInitEn im && !(caEn im (csDutyInit im) && decide (caKind im (csDutyInit im) = 0)), 8),
     (outside 30 900 (csTEsc im), 16), (outside 60 3600 (csTDm im), 32),
     (outside 10 600 (csTPre im) || decide (csTDm im ≤ csTPre im), 48)]

/-! ## DSC (R255) -/

/-- Bytes of a PDU with payload length `l` on an object of format `fmt` (R244). -/
def pduSize (fmt l : Nat) : Nat :=
  match fmt with
  | 0 => 6 + l
  | 1 => fdLength (20 + l)
  | _ => 20 + l

/-- BAD_VALUE faults of an enabled connection. -/
def faultsDs (im : Image) (i : Nat) : List CFault :=
  let t := dscTransport im i
  let can := decide (t = 0)
  let tx := dscTxObj im i
  let rx := dscRxObj im i
  let before := (enabledOf im clsDSC).filter fun j => decide (j < i) && decide (dscTransport im j = t)
  let g (lo len : Nat) : Bool := nz (imF im clsDSC i lo len)
  let place (o : Nat) (dir : Bool) : Bool := decide (o < 256) || decide (coTx im o ≠ dir)
  faultsOf clsDSC i
    [(decide (1 < t), 4),
     (decide (dscTxFn im i = 0) || (can && decide (coFmt im tx = 0) && decide (2 < dscTxLen im i)), 8),
     (outside 1 32 (dscRxLen im i) || (can && decide (coFmt im tx = 0) && decide (2 < dscRxLen im i)), 16),
     (decide (dscCycle im i = 0), 24), (outside 1 0xFFFE (dscConnId im i), 32),
     (decide (dscW im i = 0) || decide (dscW im i * 40000 < (dscCycle im i + 4) * imPeriod im), 48),
     (outside 1 0xFFFE (dscOwnAddr im i), 64),
     (if can then place tx true || decide (coFmt im tx ≠ coFmt im rx) || decide (coSize im tx ≠ pduSize (coFmt im tx) (dscTxLen im i)) ||
        before.any fun j => decide (dscTxObj im j = tx)
      else g 128 9, 128),
     (if can then place rx false || decide (coSize im rx ≠ pduSize (coFmt im rx) (dscRxLen im i)) ||
        before.any fun j => decide (dscRxObj im j = rx)
      else g 144 9, 144),
     (if can then g 160 2 else decide (dscEth im i = 3) || (decide (t = 1) && before.any fun j => decide (dscEth im j = dscEth im i) &&
        decide (dscPeerIp im j = dscPeerIp im i) && decide (dscConnId im j = dscConnId im i)), 160),
     (can && g 192 32, 192)]

/-! ## CANOBJ and CANFLT (R385 to R387) -/

/-- Payload sizes of CAN FD. -/
def fdSizes : List Nat := [0, 1, 2, 3, 4, 5, 6, 7, 8, 12, 16, 20, 24, 32, 48, 64]

/-- A GRP, CALL or DSC instance names object `o` as one it sends. -/
def objNamed (im : Image) (o : Nat) : Bool :=
  ((listedInst im clsGRP).any fun g => grObjEn im g && decide (grOutObj im g = o)) ||
  ((enabledOf im clsCALL).any fun k => caCanEn im k && decide (caTxObj im k = o)) ||
  ((enabledOf im clsDSC).any fun i => decide (dscTransport im i = 0) && decide (dscTxObj im i = o))

/-- The port of controller `k` carries packets under identifier `ident` (R318, R377). -/
def portUses (im : Image) (k : Nat) (xtd : Bool) (ident : Nat) : Bool :=
  decide (k < 2) && poPktEn im (3 + k) && decide (poXtd im (3 + k) = xtd) &&
    (decide (poReqId im (3 + k) = ident) || decide (poRespId im (3 + k) = ident))

/-- BAD_VALUE faults of an enabled object (R386). -/
def faultsCo (im : Image) (o : Nat) : List CFault :=
  let k := o / 128
  let fmt := coFmt im o
  let tx := coTx im o
  let xl := decide (fmt = 2)
  let f (lo len : Nat) : Bool := nz (imF im clsCANOBJ o lo len)
  let before := (enabledOf im clsCANOBJ).filter fun j => decide (j / 128 = k) && decide (j < o)
  let buf (j : Nat) : Nat := 4 * ceilDiv (coSize im j) 4
  let sum := before.foldl (fun s j => s + buf j) 0
  let same := if tx then before.find? fun j => coTx im j && decide (coFmt im j = fmt) && decide (coXtd im j = coXtd im o) &&
    decide (coId im j = coId im o) else none
  let tt := coTt im o
  let idBad := (decide (0x7FF < coId im o) && (!coXtd im o || xl)) ||
    (ctlTmEn im k && !xl && !coXtd im o && decide (coId im o = ctlRefId im k)) || (!xl && portUses im k (coXtd im o) (coId im o))
  let rest := faultsOf clsCANOBJ o
    [(!ctlEn im k || decide (ctlProto im k < fmt), 2), (xl && coXtd im o, 4), (coBrs im o && !(decide (fmt = 1) && tx), 5),
     (tt && (!tx || !ctlTmEn im k || objNamed im o), 6), (idBad || same.isSome, 8),
     (f 40 8 && !(xl && tx), 40), (f 48 8 && !(xl && tx), 48), (f 56 1 && !(xl && tx), 56), (f 64 32 && !(xl && tx), 64),
     ((match fmt with
       | 0 => decide (8 < coSize im o)
       | 1 => !fdSizes.contains (coSize im o)
       | _ => outside 1 2048 (coSize im o)) || (decide (sum ≤ 24576) && decide (24576 < sum + buf o)), 96),
     (f 112 8 && (!tx || tt), 112),
     (if tt then decide (ctlCycleLen im k ≤ coTtMark im o) else f 128 16, 128),
     (if tt then decide (2 ^ coTtRep im o ≤ coTtBase im o) && decide (coTtRep im o ≤ ctlMatrix im k) else f 144 6, 144),
     (if tt then decide (coTtRep im o = 7) || decide (ctlMatrix im k < coTtRep im o) else f 150 3, 150)]
  if fmt = 3 then faultsOf clsCANOBJ o [(true, 2)]
  else match same with
    | some j => rest.map fun x => if x.bit = 8 then { x with cls2 := clsCANOBJ, ix2 := j, bit2 := 8 } else x
    | none => rest

/-- BAD_VALUE faults of an enabled filter element (R387). -/
def faultsCf (im : Image) (i : Nat) : List CFault :=
  let o := 128 * (i / 64) + cfObj im i
  let sp := cfSpace im i
  let wide (v : Nat) : Bool := decide (sp ≠ 1) && decide (sp ≠ 3) && decide (0x7FF < v)
  faultsOf clsCANFLT i
    [(decide (cfType im i = 3), 1), (decide (sp = 3), 3),
     (!cfReject im i && !(isRx im o && decide (coFmt im o = 2) == decide (sp = 2)), 8),
     (wide (cfId1 im i) || (decide (cfType im i = 0) && decide (cfId2 im i < cfId1 im i)), 32), (wide (cfId2 im i), 64)]

/-! ## RTC, PAIR and PORT (R458, R416, R377) -/

/-- Rules of RTC alarm `k` (R458). -/
def rulesRtc (im : Image) (k : Nat) : List (Bool × Nat) :=
  let f (lo len : Nat) : Nat := imF im clsRTC 0 (64 * k + lo) len
  let en := decide (f 0 1 = 1)
  let cmp (b : Nat) : Bool := (f 4 6).testBit b
  let rule (b lo len min max : Nat) : Bool × Nat :=
    (if en && cmp b then outside min max (f lo len) else nz (f lo len), 64 * k + lo)
  let days := match f 48 4 with
    | 2 => 29
    | 4 => 30
    | 6 => 30
    | 9 => 30
    | 11 => 30
    | _ => 31
  [(en && decide (f 4 6 = 0), 64 * k), (!en && nz (f 1 1), 64 * k + 1), (!en && nz (f 2 1), 64 * k + 2), (!en && nz (f 4 6), 64 * k + 4),
   rule 0 16 6 0 59, rule 1 24 6 0 59, rule 2 32 5 0 23, rule 3 40 5 1 31, rule 4 48 4 1 12, rule 5 52 3 0 6,
   (en && cmp 3 && cmp 4 && decide (days < f 40 5), 64 * k + 40)]

/-- BAD_VALUE faults of PAIR (R416). -/
def faultsPa (im : Image) (u : UnitFacts) : List CFault :=
  let ser := paSerialBcd im
  faultsOf clsPAIR 0
    [(decide (paEn im ≠ u.pairWas) && u.partner, 0), (!paEn im && paAuto im, 1),
     (decide (120 < paHold im) || (!paEn im && nz (paHold im)), 8),
     (((List.range 10).any fun d => decide (9 < ser / 16 ^ d % 16)) || (!paEn im && nz ser) ||
       (paEn im && !u.unitB && decide (ser ≠ u.serial)), 16)]

/-- Addresses of the Ethernet ports as (port, first bit), in order. -/
def portAddrs : List (Nat × Nat) := (List.range 3).flatMap fun i => [(i, 64), (i, 96), (i, 128)]

/-- The set bits of a mask are contiguous from bit 31. -/
def maskOk (m : Nat) : Bool := (List.range 33).any fun n => decide (m = (2 ^ 32 - 2 ^ n) % 2 ^ 32)

/-- BAD_VALUE faults of PORT[i] (R377). -/
def faultsPo (im : Image) (i : Nat) : List CFault :=
  let f (lo len : Nat) : Nat := imF im clsPORT i lo len
  let eth := decide (i < 3)
  let gig := decide (i < 2)
  let ten := decide (i = 2)
  let ser := decide (i = 5)
  let can := decide (i = 3) || decide (i = 4)
  let only (b : Bool) (lo len : Nat) : Bool × Nat := (!b && nz (f lo len), lo)
  let nm := poNetmask im i
  let twice (lo : Nat) : Bool :=
    nz (f lo 32) && ((portAddrs.takeWhile fun x => decide (x ≠ (i, lo))).any fun x => decide (imF im clsPORT x.1 x.2 32 = f lo 32))
  let coord := poPlcaEn im i && decide (poPlcaId im i = 0)
  let used (x : Nat) : Bool := (enabledOf im clsCANOBJ).any fun o => decide (o / 128 + 3 = i) && decide (coFmt im o ≠ 2) &&
    decide (coXtd im o = poXtd im i) && decide (coId im o = x)
  let idBad (x : Nat) : Bool := (decide (0x7FF < x) && !poXtd im i) || (poPktEn im i && used x)
  faultsOf clsPORT i
    [only gig 32 2, (gig && decide (poLink im i = 3), 32), only ten 34 1, only ten 40 8, (ten && decide (poPlcaId im i = 255), 40),
     only ten 48 8,
     (ten && ((nz (poPlcaCnt im i) && decide (poPlcaId im i ≠ 0)) || decide (poPlcaCnt im i = 1) ||
       (coord && decide (poPlcaCnt im i = 0))), 48),
     only ten 56 8, only eth 64 32, only eth 96 32, only eth 128 32, only eth 160 32, only eth 192 32, only eth 224 32,
     (eth && nz (poIpA im i) && decide (nm = 0), 64), (eth && nz (poIpB im i) && decide (nm = 0), 96),
     (eth && twice 64, 64), (eth && twice 96, 96), (eth && (twice 128 || (nz (poSvcIp im i) && !paEn im)), 128),
     (eth && !maskOk nm, 160),
     (eth && nz (poGateway im i) && decide (poGateway im i &&& nm ≠ poIpA im i &&& nm), 192),
     only ser 256 2, only ser 258 1, (ser && poModbus im i && poClaimEn im i, 258), only ser 259 2, (ser && decide (f 259 2 = 3), 259),
     only ser 261 1, only ser 264 8,
     (ser && (decide (0xF7 < poMbAddr im i) || (poModbus im i && decide (poMbAddr im i = 0)) ||
       (!poModbus im i && nz (poMbAddr im i))), 264),
     only can 288 29, (can && (idBad (poReqId im i) || (poPktEn im i && decide (poReqId im i = poRespId im i))), 288),
     only can 317 1, only can 318 1, only can 319 1, only can 320 29, (can && idBad (poRespId im i), 320), only can 349 3,
     (can && nz (poTxDl im i) && !poFd im i, 349)]

/-! ## Stages -/

/-- Objects of the image in the order of R333 that can hold a fault: channels in allocation order with their three
instances, then the other classes. -/
def faultOrder (im : Image) : List (Nat × Nat) :=
  ((allocOrder im).flatMap fun c => [(clsCHCFG, c), (clsAOCFG, c), (clsDICFG, c)]) ++
  [clsHDR, clsSAFEFN, clsALMPT, clsGRP, clsCALL, clsCALLSYS, clsDSC, clsCANOBJ, clsCANFLT, clsRTC, clsPAIR, clsPORT].flatMap fun k =>
    if clsCount k = 1 then [(k, 0)] else if k = clsPORT then (List.range 6).map fun i => (k, i) else (listedInst im k).map fun i => (k, i)

/-- Stage 1: enabling fields on a witness or under an invalid identity (R3, R255, R416, R523). -/
def stage1 (im : Image) (u : UnitFacts) : List CFault :=
  if !(u.witness || u.identBad) then []
  else (faultOrder im).flatMap fun x =>
    let hit := match x.1 with
      | 0x1 => decide (chMode im x.2 ≠ 0)
      | 0x4 => sfEn im x.2
      | 0x5 => alEn im x.2
      | 0x9 => dscEn im x.2
      | 0xD => paEn im && u.witness
      | _ => false
    faultsOf x.1 x.2 [(hit, 0)]

/-- Stage 2: reserved bits (R8). -/
def stage2 (im : Image) : List CFault :=
  (faultOrder im).flatMap fun x => faultsOf x.1 x.2 ((rsvRows x.1).map fun r => (nz (imF im x.1 x.2 r.1 r.2), r.1))

/-- Stage 3: field values and combinations. -/
def stage3 (im : Image) (a : Alloc) (u : UnitFacts) : List CFault :=
  (faultOrder im).flatMap fun x =>
    let i := x.2
    match x.1 with
    | 0x0 => faultsHdr im
    | 0x1 => faultsCh im a i
    | 0x2 => faultsAo im i
    | 0x3 => faultsDi im i
    | 0x4 => if sfEn im i then faultsSf im i else []
    | 0x5 => if alEn im i then faultsAl im i else []
    | 0x6 => faultsGr im i
    | 0x7 => faultsCa im i
    | 0x8 => faultsCs im
    | 0x9 => if dscEn im i then faultsDs im i else []
    | 0xA => if coEn im i then faultsCo im i else []
    | 0xB => if cfEn im i then faultsCf im i else []
    | 0xC => faultsOf clsRTC 0 (rulesRtc im 0 ++ rulesRtc im 1)
    | 0xD => faultsPa im u
    | 0xE => faultsPo im i
    | _ => []

/-- The pair of channel `c`, even, breaks R77. -/
def pairBad (im : Image) (c : Nat) : Bool :=
  let a := chMode im c
  let b := chMode im (c + 1)
  let four (x : Nat) : Bool := decide (chMode im x = 3) && decide (chSub im x = 2)
  decide (chPairFn im c ≠ chPairFn im (c + 1)) ||
    (match chPairFn im c with
    | 0 => four c || four (c + 1)
    | 1 => !(four c && four (c + 1))
    | 2 => !(isAnalogIn a && isAnalogIn b) || four c || four (c + 1)
    | _ => decide (a ≠ b) || !([1, 2, 5, 7, 9].contains a) || !((enabledOf im clsSAFEFN).any fun f => decide (sfIn im f = c)))

/-- Stage 4: pair functions (R77, R148, R235). Faults are named by channel 2n. -/
def stage4 (im : Image) : List CFault :=
  let order := (allocOrder im).filter fun c => decide (c % 2 = 0)
  let sf (t : Nat → Bool) (c : Nat) : Bool := (enabledOf im clsSAFEFN).any fun f => decide (sfIn im f = c) && t (sfType im f)
  order.flatMap fun c =>
    ((faultsOf clsCHCFG c
      [(pairBad im c, 8),
       (decide (chDec im c ≠ chDec im (c + 1)) && (decide (chPairFn im c = 2) && decide (chPairFn im (c + 1) = 2) ||
         sf (fun t => decide (t = 2)) c), 774)]) ++
     faultsOf clsDICFG c [(decide (diDec im c ≠ diDec im (c + 1)) && sf (fun t => decide (t = 1) || decide (t = 3)) c, 112)]).map
      fun x => { x with ch := c }

/-- Objects that name output channels, as (channel, class, instance, first bit), in order (R186). -/
def outClaims (im : Image) : List (Nat × Nat × Nat × Nat) :=
  ((enabledOf im clsSAFEFN).flatMap fun f => [(sfOut im f, clsSAFEFN, f, 32), (sfOut im f + 1, clsSAFEFN, f, 32)]) ++
  (((listedInst im clsGRP).filter (grOutEn im)).map fun g => (grOutCh im g, clsGRP, g, 16)) ++
  (((enabledOf im clsCALL).filter (caDoEn im)).map fun k => (caOutCh im k, clsCALL, k, 8))

/-- Objects that name transmit objects. -/
def objClaims (im : Image) : List (Nat × Nat × Nat × Nat) :=
  (((listedInst im clsGRP).filter (grObjEn im)).map fun g => (grOutObj im g, clsGRP, g, 32)) ++
  (((enabledOf im clsCALL).filter (caCanEn im)).map fun k => (caTxObj im k, clsCALL, k, 24)) ++
  (((enabledOf im clsDSC).filter fun i => decide (dscTransport im i = 0)).map fun i => (dscTxObj im i, clsDSC, i, 128))

/-- Faults of claims that repeat an earlier one, each with the earliest as its first object. -/
def repeated (isCh : Bool) (l : List (Nat × Nat × Nat × Nat)) : List CFault :=
  go [] l
where
  /-- Claims seen so far, and the rest. -/
  go (seen : List (Nat × Nat × Nat × Nat)) : List (Nat × Nat × Nat × Nat) → List CFault
    | [] => []
    | x :: r =>
      let rest := go (seen ++ [x]) r
      match seen.find? fun y => decide (y.1 = x.1) && decide (y.2 ≠ x.2) with
      | some y => { cls := y.2.1, ix := y.2.2.1, bit := y.2.2.2, cls2 := x.2.1, ix2 := x.2.2.1, bit2 := x.2.2.2
                    ch := if isCh then x.1 else 0xFFFF } :: rest
      | none => rest

/-- Faults by class, instance and bit of the first object; a second fault of the same two objects is dropped. -/
def faultSort (l : List CFault) : List CFault :=
  l.foldl (fun r x =>
    if r.any fun y => decide (y.cls = x.cls) && decide (y.ix = x.ix) && decide (y.cls2 = x.cls2) && decide (y.ix2 = x.ix2) &&
      decide (y.bit = x.bit) then r
    else ins x r) []
where
  /-- Key of a fault. -/
  key (x : CFault) : Nat := (x.cls * 4096 + x.ix) * 4096 + x.bit
  /-- Insertion in ascending order of the key. -/
  ins (x : CFault) : List CFault → List CFault
    | [] => [x]
    | y :: r => if key x < key y then x :: y :: r else y :: ins x r

/-- Stage 5: outputs and transmit objects named twice (R186, R235, R273, R281). -/
def stage5 (im : Image) : List CFault :=
  faultSort (repeated true (outClaims im) ++ repeated false (objClaims im))

/-- The naming body (R332). -/
def namingBody (l : List CFault) : List Byte :=
  let x := l.headD {}
  packBytes 16 [(8, x.cls), (8, x.cls2), (16, x.ix), (16, x.ix2), (16, x.bit), (16, x.bit2), (16, x.ch), (16, satN 16 l.length), (16, 0)]

end Sys2Proof.Machine
end

