-- ==== Sys2Proof/Machine/Commit.lean ====
section
/-! DEFINITION. The commit check as a whole (R331 to R333), the RO fields an accepted commit writes, byte access to an image
(R328, R329, R335), and stored slots (R548, R549). -/

namespace Sys2Proof.Machine

/-! ## Commit (R331 to R333) -/

/-- Reply body of FRAME_BUDGET, where an estimate exceeds 0.90 P (R44, R332). -/
def frameBudget (im : Image) (fwCrc : Nat) : Option (List Byte) :=
  let w := Config.frameWork im fwCrc
  let top := (List.range 5).foldl (fun m i => if w m < w i then i else m) 0
  let lim := imPeriod im * 9 / 10
  if lim < w top then some (packBytes 16 [(8, top), (24, 0), (32, w top), (32, lim), (32, 0)]) else none

/-- The first stage that finds a fault, as status and reply body; none for a valid image. -/
def commitCheck (im : Image) (u : UnitFacts) : Option (Nat × List Byte) :=
  let a := allocate im
  let stage (st : Nat) (l : List CFault) (rest : Option (Nat × List Byte)) : Option (Nat × List Byte) :=
    if l.isEmpty then rest else some (st, namingBody l)
  stage stWitnessOnly (stage1 im u) <| stage stReservedSet (stage2 im) <| stage stBadValue (stage3 im a u) <|
  stage stPairMismatch (stage4 im) <| stage stOutputClaimed (stage5 im) <|
  match a.refused with
  | r :: _ => some (stResourceConflict, conflictBody r a.refused.length)
  | [] =>
    match loopBudget im with
    | some b => some (stLoopBudget, b)
    | none => (frameBudget im u.fwCrc).map fun b => (stFrameBudget, b)

/-- OWN_ID and SEED written into every connection, for the serial whose UID16 counts (R245, R246). -/
def writeDsc (im : Image) (serial : Nat) : Image :=
  (List.range 32).foldl (fun r i =>
    let own := dscOwnIdOf im i (bcdValue 10 serial)
    let v := setFld (inst r clsDSC i) 256 64 (own + 2 ^ 32 * dscSeedOf im i own)
    setInst r clsDSC i v) im

/-- The image that runs after an accepted commit: its RO fields as the commit writes them (R79, R122, R245, R246). -/
def finishImage (im : Image) (serial : Nat) : Image :=
  writeDsc (writeAlloc im (allocate im)) (if paEn im then paSerialBcd im else serial)

/-- The integrator's bits of two images agree. -/
def sameSettings (a b : Image) : Bool :=
  (a ++ b).all fun e => decide (maskedInst a (e.1 / 4096) (e.1 % 4096) = maskedInst b (e.1 / 4096) (e.1 % 4096))

/-- CONFIRMED after a change of image (R546). -/
def newConfirmed (h : Header) (safe : Nat) : Nat := if safe = h.safeCrc then h.confirmed else 2 ^ 32 - 1 - safe

/-- Parameters 2 and 3 of 0302h from a refusal's reply body (R554). -/
def refusalParams (st : Nat) (body : List Byte) : Nat × Nat :=
  let f (lo len : Nat) : Nat := ofBytes body / 2 ^ lo % 2 ^ len
  (f 0 8 + 65536 * f 16 16, if st = stFrameBudget then 0 else if st = stLoopBudget then f 80 16 else f 96 16)

/-! ## Bytes of an image -/

/-- Class at an image offset. -/
def clsAt (off : Nat) : Nat := (List.range 15).foldl (fun m k => if clsOffset k ≤ off then k else m) 0

/-- The instances that `len` bytes from an image offset run through: class, instance, first byte in it, count. -/
def imageRuns : Nat → Nat → Nat → List (Nat × Nat × Nat × Nat)
  | 0, _, _ => []
  | _, _, 0 => []
  | fuel + 1, off, len =>
    let k := clsAt off
    let o := (off - clsOffset k) % clsBytes k
    let n := min (clsBytes k - o) len
    (k, (off - clsOffset k) / clsBytes k, o, n) :: imageRuns fuel (off + n) (len - n)

/-- Bytes of an image from an offset, `get` giving each instance. -/
def imageBytes (get : Nat → Nat → Inst) (off len : Nat) : List Byte :=
  (imageRuns (len + 1) off len).flatMap fun r => toBytes r.2.2.2 ((get r.1 r.2.1).toNat >>> (8 * r.2.2.1))

/-- The HDR instance with the fields that the node itself writes (R541). -/
def hdrInst (im : Image) (h : Header) : Inst :=
  setFld (setFld (inst im clsHDR 0) 32 32 h.storeCrc) 96 192
    (pack [(32, h.generation), (32, h.cfgCrc), (32, h.safeCrc), (32, h.confirmed), (48, h.firstFrame), (16, h.pwr)])

/-- An instance of an image with its header. -/
def instOf (im : Image) (h : Header) (k i : Nat) : Inst := if k = clsHDR then hdrInst im h else inst im k i

/-- The bits of `mask`, given from an offset on, that lie in RO fields (R329). -/
def masksRo (off : Nat) (mask : List Byte) : Bool :=
  go (imageRuns (mask.length + 1) off mask.length) mask
where
  /-- Each run in turn with the mask bytes that are left. -/
  go : List (Nat × Nat × Nat × Nat) → List Byte → Bool
    | [], _ => false
    | r :: rs, m =>
      decide ((ofBytes (m.take r.2.2.2) <<< (8 * r.2.2.1)) &&& rowMask (roRows r.1) ≠ 0) || go rs (m.drop r.2.2.2)

/-- The masked bytes written into an image from an offset on; RO fields keep their bits. -/
def imageWrite (off : Nat) (data mask : List Byte) (im : Image) : Image :=
  go (imageRuns (data.length + 1) off data.length) data mask im
where
  /-- Each run in turn. -/
  go : List (Nat × Nat × Nat × Nat) → List Byte → List Byte → Image → Image
    | [], _, _, im => im
    | r :: rs, d, m, im =>
      let at0 (l : List Byte) : BitVec 2048 := BitVec.ofNat 2048 (ofBytes (l.take r.2.2.2) <<< (8 * r.2.2.1))
      let mk := at0 m &&& ~~~ BitVec.ofNat 2048 (rowMask (roRows r.1))
      let v := (inst im r.1 r.2.1 &&& ~~~ mk) ||| (at0 d &&& mk)
      go rs (d.drop r.2.2.2) (m.drop r.2.2.2) (setInst im r.1 r.2.1 v)

/-! ## Stored slots (R548, R549) -/

/-- STORE_CRC of an image under a header (R549). -/
def storeCrcOf (im : Image) (h : Header) : Nat := (crc32 (imageBytes (instOf im h) 8 (imageLength - 8))).toNat

/-- A slot as a whole store leaves it. -/
def makeSlot (im : Image) (h : Header) : Slot := { image := im, hdr := { h with storeCrc := storeCrcOf im h } }

/-- A slot that R498 judges valid. -/
def slotValid (o : Option Slot) : Bool :=
  match o with
  | some s => !s.torn && decide (s.hdr.storeCrc = storeCrcOf s.image s.hdr)
  | none => false

/-- Bytes of slot `k` as READ_IMAGE returns them (R335). Bytes of a slot that no store has written whole are free. -/
def slotBytes (k : Nat) (o : Option Slot) (off len : Nat) : List Byte :=
  match o with
  | some s => if s.torn then (List.range len).map fun i => Config.slotByte k (off + i) else imageBytes (instOf s.image s.hdr) off len
  | none => (List.range len).map fun i => Config.slotByte k (off + i)

/-- A valid slot that the latest start-up has not refused; a refused slot is treated as not valid (R551). -/
def slotHolds (o : Option Slot) : Bool := slotValid o && !(o.getD {}).refused

/-- The slot that the next store writes (R548): 0 for A. -/
def storeTarget (a b : Option Slot) : Nat :=
  match slotHolds a, slotHolds b with
  | true, true =>
    let ga := (a.getD {}).hdr.generation
    let gb := (b.getD {}).hdr.generation
    -- A is the newest unless B lies ahead of it in ring order
    if (gb + 2 ^ 32 - ga) % 2 ^ 32 = 1 then 0 else 1
  | true, false => 1
  | _, _ => 0

/-- GENERATION of the next store (R548). -/
def storeGeneration (a b : Option Slot) : Nat :=
  match slotHolds a, slotHolds b with
  | false, false => 1
  | va, vb =>
    let keep := if va && vb then (if storeTarget a b = 0 then b else a) else if va then a else b
    ((keep.getD {}).hdr.generation + 1) % 2 ^ 32

end Sys2Proof.Machine
end

