-- ==== Sys2Proof/Machine/Digital.lean ====
section
/-! DEFINITION. Digital inputs, pulse inputs and high-side outputs (chapter 07): what the block does,
the records it latches, and the serving engine's results. -/

namespace Sys2Proof.Machine

/-! ## Comparator and debounced edges (R187 to R193) -/

/-- On and off thresholds in mV, or in µA with a NAMUR supply (R187, R188). -/
def diThresholds (im : Image) (c : Nat) : Nat × Nat :=
  if diCsup im c = 2 then (1750, 1550)
  else match diPreset im c with
    | 0 => (100 * diThrOn im c, 100 * diThrOff im c)
    | 1 => (11000, 8000)
    | _ => (9000, 7000)

/-- RAW for a level, holding between the thresholds (R187); the NAMUR limits are inclusive (R188). -/
def comparator (im : Image) (c level : Nat) (raw : Bool) : Bool :=
  let t := diThresholds im c
  let namur := decide (diCsup im c = 2)
  if (if namur then decide (t.1 ≤ level) else decide (t.1 < level)) then true
  else if (if namur then decide (level ≤ t.2) else decide (level < t.2)) then false
  else raw

/-- Block clock cycles of the debounce time: round(DEB × 16.384) (R190). -/
def debLimit (im : Image) (c : Nat) : Nat := max 1 ((diDeb im c * 16384 + 500) / 1000)

/-- The level of one run of samples: RAW follows the comparator, and unless debounce is frozen (R191) every sample that differs from
STATE after INVERT adds to the count, which any other sample ends (R187, R190). -/
def sampleRun (im : Image) (c : Nat) (frozen : Bool) (d : DigCell) (x : Nat × Nat) : DigCell :=
  let raw := comparator im c x.1 d.raw
  let differs := (raw != diInvert im c) != d.state
  { d with raw := raw, deb := if frozen || decide (x.2 = 0) then d.deb else if differs then d.deb + x.2 else 0 }

/-- The runs end in the very cycle in which the count is reached: the cell before its STATE changes, or none (R190). -/
def samplesEdge (im : Image) (c : Nat) : List (Nat × Nat) → DigCell → Option DigCell
  | [], _ => none
  | x :: r, d =>
    let e := sampleRun im c false d x
    if e.deb < debLimit im c then samplesEdge im c r e
    else if e.deb = debLimit im c ∧ r = [] then some e
    else none

/-- COS selects an edge to `st` (R184). -/
def cosSelects (im : Image) (c : Nat) (st : Bool) : Bool :=
  chMode im c == 7 && (if st then (diCos im c).testBit 0 else (diCos im c).testBit 1)

/-- A debounced edge completes `bt` block clock cycles after the latch: the cell, and the new STATE with
its queue place when an entry is stamped (R190, R192, R193, R195). -/
def cellEdge (im : Image) (c bt : Nat) (d : DigCell) : DigCell × Option (Bool × Nat) :=
  let st := !d.state
  let d1 := { d with state := st, deb := 0, edges := satN 8 (d.edges + 1) }
  if chMode im c = 9 then
    if st then
      let u := satN 16 (bt / 16)
      ({ d1 with count := wrapN 32 (d1.count + 1), firstT := if d1.count = 0 then u else d1.firstT, lastT := u }, none)
    else (d1, none)
  else if cosSelects im c st then
    if d1.queued < 8 then ({ d1 with queued := d1.queued + 1 }, some (st, d1.queued))
    else ({ d1 with cosLost := true }, none)
  else (d1, none)

/-- The DI or PI record at a latch (R195) and the cell after it. RAW has followed the levels since the cell was observed last; an
edge that completes is reported as such before the latch. `frozen` tells of a line test (R191). -/
def digRecord (im : Image) (c : Nat) (m : CellMeas) (fsLow frozen : Bool) (cellStat : Nat) (d0 : DigCell) : Rec × DigCell :=
  let d := m.levels.foldl (sampleRun im c frozen) d0
  let raw := comparator im c m.level d.raw
  let namur := decide (diCsup im c = 2)
  (packRec [(1, b2n d.state), (1, b2n raw), (1, b2n d.line), (1, b2n (namur && decide (m.level < 350))),
      (1, b2n (namur && decide (6000 < m.level))), (1, b2n (decide (diCsup im c = 1) && m.csupLimit)),
      (1, b2n fsLow), (1, b2n d.tpDone), (8, d.edges), (1, b2n d.cosLost), (15, 0),
      (32, if chMode im c = 9 then d.count else 0), (16, if chMode im c = 9 then d.firstT else 0),
      (16, if chMode im c = 9 then d.lastT else 0), (16, 0), (16, cellStat)],
    { d with raw := raw, deb := min d.deb (debLimit im c - 1), supply := true, tpDone := false, edges := 0, queued := 0, cosLost := false, count := 0, firstT := 0, lastT := 0 })

/-! ## Test pulses (R87, R88, R191, R202) -/

/-- The test pulse of block `b` scheduled in frame `n`: the channel whose run starts in this slot and whose
interval falls in this cycle of 16 frames (R87). `interval` gives the requested interval in seconds. -/
def scheduledPulse (im : Image) (interval : Nat → Nat) (b n : Nat) : Option Nat :=
  ((List.range 8).map (8 * b + ·)).find? fun c =>
    decide (chTpRun im c ≠ 0) && decide (n % 16 = chTpSlot im c) &&
      decide (n / 16 % max 1 (ceilDiv (msC 1000 * interval c) (16 * imPeriod im)) = 0)

/-- Least and greatest length in Zenith cycles of `us` µs on the block clock (R30). -/
def blkLeast (us : Nat) : Nat := usC us * 16384 / 16630
def blkMost (us : Nat) : Nat := ceilDiv (usC us * 16384) 16138

/-- The pulse may have come to its end at `now` (R87). -/
def pulseAtEnd (now : Nat) (p : Pulse) : Bool :=
  decide (p.since + blkLeast (10 * p.width) ≤ now) && decide (now ≤ p.since + blkMost (10 * p.width))

/-- The pulse is over at `now`, reported or not. -/
def pulseOver (now : Nat) (p : Pulse) : Bool := decide (p.since + blkMost (10 * p.width) < now)

/-- A pulse of `kind` runs (R191, R202); `driven` is what the switch drives and `level` the terminal level of a DI at its
start. -/
def pulseRuns (kind : Nat) (level blocked driven : Bool) (o : OutCell) : Bool :=
  !blocked && (match kind with
    | 1 => driven
    | 2 => !driven && !o.offVolt
    | _ => level)

/-- A DO pulse fails on the values sampled 10 µs before its end: TERM_V in 10 mV, CURRENT in mA (R202). -/
def pulseFails (kind : Nat) (termV : Int) (current : Nat) : Bool :=
  if kind = 1 then decide (500 < termV) else decide (current < 1) || decide (termV < 1200)

/-! ## What an output drives (R211) -/

/-- The DO switch by the order of R211: released and not withheld, FS_OFF, safe state, test pulse, shadow. -/
def doDrive (im : Image) (c : Nat) (off fsOff : Bool) (pulse : Option Pulse) (shadow : Bool) (o : OutCell) : Bool :=
  if off || fsOff then false
  else if o.silent then (match diSafe im c with | 0 => false | 1 => true | _ => o.applied)
  else match pulse with
    | some p => if p.ch = c ∧ p.kind = 1 then false else if p.ch = c ∧ p.kind = 2 then true else shadow
    | none => shadow

/-- The DO record at a latch (R203) and the cell after it. `applied` is the command of this strobe. -/
def doRecord (m : CellMeas) (applied fsLow fsOff : Bool) (cellStat : Nat) (o : OutCell) : Rec × OutCell :=
  let offV := !m.swOn && !m.demag && decide (1200 ≤ m.termV)
  (packRec [(1, b2n applied), (1, b2n m.swOn), (1, b2n offV), (1, b2n o.ilim), (1, b2n o.therm), (1, b2n o.rail),
      (1, b2n m.demag), (1, b2n fsLow), (1, b2n (o.fsOff || fsOff)), (1, b2n (o.safe || o.silent)), (1, b2n o.tpDone),
      (1, b2n o.tpFail), (4, 0), (16, m.current), (16, ofSigned 16 m.termV), (64, 0), (16, cellStat)],
    { o with applied := applied, ilim := false, therm := false, rail := false, fsOff := false, safe := false,
             tpDone := false, tpFail := false, offVolt := offV })

/-! ## Serving engine: DI (R196) -/

/-- An engine's outcome for a digital channel. -/
structure DigOut (α : Type) where
  st  : α
  res : Rec
  ev  : List EvReq
  deriving DecidableEq, Repr

/-- One frame of a DI channel (R196, R212). The record of the re-initialising strobe is of the old mode, so the result of that frame
copies nothing from it (R93, log 41). -/
def diEval (c : Nat) (rec : Rec) (stale : Bool) (a : DiCh) : DigOut DiCh :=
  if a.k = 0 then
    { st := { a with k := 1 }
      res := packRec [(1, b2n a.state), (1, 0), (2, qBad), (6, 0), (1, 1), (1, b2n stale), (1, 1)], ev := [] }
  else
    let a1 := if stale then a else
      { a with openW := runFlag (bit rec 3) a.openW, short := runFlag (bit rec 4) a.short
               csup := runFlag (bit rec 5) a.csup, line := runFlag (bit rec 2) a.line }
    let held := a1.openW.on || a1.short.on || stale
    let a2 := { a1 with k := 2, state := if held then a1.state else bit rec 0 }
    let q := if a2.openW.on || a2.short.on || a2.csup.on || a2.line.on then qBad
      else if bit rec 6 || bit rec 16 || stale then qUncertain else qGood
    { st := a2
      res := packRec [(1, b2n a2.state), (1, b2n (bit rec 1)), (2, q), (1, b2n a2.openW.on), (1, b2n a2.short.on),
        (1, b2n a2.csup.on), (1, b2n a2.line.on), (1, b2n (bit rec 6)), (1, b2n (bit rec 16)), (1, b2n held),
        (1, b2n stale), (1, 0), (3, 0), (8, fld rec 8 8)]
      ev := flagEvent 0x0501 c a.openW.on a2.openW.on 0 0 ++ flagEvent 0x0502 c a.short.on a2.short.on 0 0 ++
        flagEvent 0x0703 c a.csup.on a2.csup.on 0 0 ++ flagEvent 0x0702 c a.line.on a2.line.on 0 0 ++
        (if bit rec 16 && !stale then [{ code := 0x0705, src := c, p1 := 1 }] else []) }

/-! ## Serving engine: PI (R197 to R200) -/

/-- The largest GATE: so many records are kept, since a commit may raise GATE (R184, R198). -/
abbrev gateMax : Nat := 1000

/-- FREQ in mHz over gathered (COUNT, PREV_LEN) pairs (R198). -/
def piFreq (g : List (Nat × Nat)) : Nat :=
  (rdiv (((1000 * (g.map (·.1)).sum * 400000000 : Nat)) : Int) ((g.map (·.2)).sum : Int)).toNat

/-- ENG of a frequency (R198), saturated to 32 bits. -/
def piEng (im : Image) (c freq : Nat) : Int :=
  sat32 (rdiv ((freq * diKNum im c * 10 ^ diDec im c : Nat) : Int) ((1000 * diKDen im c : Nat) : Int))

/-- FREQ as its 32-bit field shows it. -/
def freqBits (f : Nat) : Nat := if f < 2 ^ 32 then f else Config.freqField f

/-- One frame of a PI channel; `prevLen` is PREV_LEN of the frame record and `clear` a CLEAR_TOTAL of
this frame (R198, R199, R200). -/
def piEval (im : Image) (c prevLen : Nat) (clear : Bool) (rec : Rec) (stale : Bool) (a : PiCh) : DigOut PiCh :=
  if a.k = 0 then
    { st := { a with k := 1, total := 0 }
      res := packRec [(32, s32 a.eng), (32, freqBits a.freq), (2, qBad), (6, 0), (1, b2n (decide (0 < diGate im c))), (1, 1),
        (1, b2n stale), (1, 1)], ev := [] }
  else
    let a1 := if stale then a else
      { a with openW := runFlag (bit rec 3) a.openW, short := runFlag (bit rec 4) a.short
               csup := runFlag (bit rec 5) a.csup
               gate := ((fld rec 32 32, prevLen) :: a.gate).take gateMax }
    let g := a1.gate.take (diGate im c)
    let t0 := if clear then 0 else a1.total
    let held := a1.openW.on || a1.short.on || stale
    let upd := !held && decide (g ≠ [])
    let f := if upd then piFreq g else a1.freq
    let a2 := { a1 with k := 2, total := if stale then t0 else wrapN 32 (t0 + fld rec 32 32)
                        freq := f, eng := if upd then piEng im c f else a1.eng
                        isOver := if stale then a1.isOver else decide (50000000 < f) }
    let fill := decide (g.length < diGate im c)
    let q := if a2.openW.on || a2.short.on || a2.csup.on then qBad
      else if a2.isOver || bit rec 6 || fill || stale then qUncertain else qGood
    { st := a2
      res := packRec [(32, s32 a2.eng), (32, freqBits a2.freq), (2, q), (1, b2n (bit rec 0)), (1, b2n a2.isOver),
        (1, b2n a2.openW.on), (1, b2n a2.short.on), (1, b2n a2.csup.on), (1, b2n (bit rec 6)), (1, b2n fill),
        (1, b2n held), (1, b2n stale), (1, 0), (20, 0), (32, a2.total)]
      ev := flagEvent 0x0501 c a.openW.on a2.openW.on 0 0 ++ flagEvent 0x0502 c a.short.on a2.short.on 0 0 ++
        flagEvent 0x0703 c a.csup.on a2.csup.on 0 0 ++ flagEvent 0x0730 c a.isOver a2.isOver 0 0 }

/-! ## Serving engine: DO (R204 to R206) -/

/-- One frame of a DO channel: `cmd` is the state written to the output image, `other` tells whether another
DO channel of the same engine shows APPLIED = 1 with CURRENT ≥ 5 mA (R204). -/
def doEval (im : Image) (P c : Nat) (rec : Rec) (stale cmd other : Bool) (a : DoCh) : DigOut DoCh :=
  if a.k = 0 then
    { st := { a with k := 1 }
      res := packRec [(1, b2n cmd), (1, 0), (2, qBad), (9, 0), (1, b2n stale), (1, 1)], ev := [] }
  else
    let applied := bit rec 0
    let h := (applied :: a.hist).take 10
    let w := framesOf P (msC 5)
    let offLong := bit rec 2 && !applied && decide (w ≤ h.length) && (h.take w).all (! ·)
    let a1 := if stale then a else
      { a with hist := h
               overload := runFlag (bit rec 3 || bit rec 5) a.overload
               thermal := runFlag (bit rec 4) a.thermal
               openLoad := runFlag (decide (diOpenLim im c ≠ 0) && applied && bit rec 1 &&
                 decide (fld rec 16 16 < diOpenLim im c) && decide (3 ≤ h.length) && (h.take 3).all id) a.openLoad
               backfeed := runFlag (offLong && other) a.backfeed
               shortSup := runFlag (offLong && !other) a.shortSup
               testFail := runFlag (bit rec 11) a.testFail }
    let a2 := { a1 with k := 2 }
    let q := if a2.overload.on || a2.shortSup.on || a2.thermal.on || a2.testFail.on then qBad
      else if a2.openLoad.on || a2.backfeed.on || bit rec 7 || bit rec 8 || bit rec 9 || stale then qUncertain
      else qGood
    { st := a2
      res := packRec [(1, b2n cmd), (1, b2n (bit rec 1)), (2, q), (1, b2n a2.overload.on), (1, b2n a2.openLoad.on),
        (1, b2n a2.shortSup.on), (1, b2n a2.backfeed.on), (1, b2n a2.thermal.on), (1, b2n a2.testFail.on),
        (1, b2n (bit rec 7)), (1, b2n (bit rec 8)), (1, b2n (bit rec 9)), (1, b2n stale), (1, 0), (17, 0),
        (16, fld rec 16 16), (16, fld rec 32 16)]
      ev := flagEvent 0x0710 c a.overload.on a2.overload.on 0 0 ++ flagEvent 0x0711 c a.openLoad.on a2.openLoad.on 0 0 ++
        flagEvent 0x0712 c a.shortSup.on a2.shortSup.on 0 0 ++ flagEvent 0x0713 c a.backfeed.on a2.backfeed.on 0 0 ++
        flagEvent 0x0714 c a.thermal.on a2.thermal.on 0 0 ++ flagEvent 0x0715 c a.testFail.on a2.testFail.on 0 0 }

/-- A record shows APPLIED = 1 and CURRENT ≥ 5 mA (R204). -/
def doCarries (rec : Rec) : Bool := bit rec 0 && decide (5 ≤ fld rec 16 16)

end Sys2Proof.Machine
end

