-- ==== Sys2Proof/Machine/Hart.lean ====
section
/-! DEFINITION. FSK on the loop (R177 to R182): the modem cell's schedule and transactions, the device
table, and the HART flags of a channel. -/

namespace Sys2Proof.Machine

/-- A device table of one modem cell: entries by polling address 0 to 15 (R181). -/
abbrev HartTable := Tab HartDev

/-- Entry of a polling address. -/
def hartDev (t : HartTable) (a : Nat) : HartDev := tabGet {} t a

/-- Addresses of listed devices, ascending. -/
def hartListed (t : HartTable) : List Nat := (List.range 16).filter fun a => (hartDev t a).listed

/-- A device is listed at an address from 1 to 15 and none at address 0 (R180). -/
def hartMultidrop (t : HartTable) : Bool :=
  !(hartDev t 0).listed && (hartListed t).any (1 ≤ ·)

/-! ## Schedule (R179) -/

/-- `d` ms have passed at `now` since an instant; true when there has been none. -/
def sinceMs (now d : Nat) (o : Option Nat) : Bool :=
  match o with
  | some u => decide (u + msC d ≤ now)
  | none => true

/-- The device that a multidrop segment reads next: listed devices in ascending address, over and over (R179). -/
def hartNext (t : HartTable) (m : Modem) : Option Nat :=
  let l := (hartListed t).filter fun a => !(hartDev t a).unsup
  match m.prev3 with
  | some p => ((l.find? fun a => decide (p < a)).orElse fun _ => l.head?)
  | none => l.head?

/-- The schedule of R179 makes request `r` due at `now`. -/
def hartDue (now : Nat) (t : HartTable) (r : HartReq) (m : Modem) : Bool :=
  let e := hartDev t r.addr
  let ti := tabGet {} m.times r.addr
  m.service && m.req.isNone && (match r.cmd with
    | 0 =>
      if e.listed then sinceMs now 60000 ti.last0
      else if r.addr = 0 then decide (hartListed t = []) && sinceMs now 60000 ti.last0
      else match m.scan with
        | some k => if k < 16 then decide (r.addr = k) else sinceMs now 60000 m.lastDisc
        | none => false
    | 3 => e.listed && !e.unsup && decide (ti.count3 < 10) && (if hartMultidrop t then decide (hartNext t m = some r.addr) else sinceMs now 5000 ti.last3)
    | 48 => e.listed && !e.unsup && decide (10 ≤ ti.count3)
    | _ => false)

/-- A due request starts: it is sent when the loop is quiet, and waits otherwise (R178). A discovery of address 0 has its own
60 s, and puts off no request to an unlisted address from 1 to 15 (R179). -/
def hartStart (now : Nat) (t : HartTable) (r : HartReq) (m : Modem) : Modem :=
  let ti := tabGet {} m.times r.addr
  let ti' := match r.cmd with
    | 0 => { ti with last0 := some now }
    | 3 => { ti with last3 := some now, count3 := ti.count3 + 1 }
    | _ => { ti with count3 := 0 }
  { m with req := some r, attempt := 1, sentAt := now, waiting := m.carrier, times := tabSet {} m.times r.addr ti'
           lastDisc := if r.cmd = 0 ∧ r.addr ≠ 0 ∧ !(hartDev t r.addr).listed then some now else m.lastDisc
           prev3 := if r.cmd = 3 then some r.addr else m.prev3 }

/-- The schedule moves on after a failed or answered command 0 to an unlisted address (R179). -/
def hartScanOn (r : HartReq) (failed : Bool) (m : Modem) : Modem :=
  if r.cmd ≠ 0 then m
  else match m.scan with
    | none => if failed && r.addr = 0 then { m with scan := some 1 } else m
    | some k => if k < 16 && r.addr = k then { m with scan := some (k + 1) } else m

/-- R178: no valid reply began within 305 ms of the request's end. The retry waits while a carrier stands on the loop. A third
failure ends the request; the number tells the address to which it counted as failed. -/
def hartTimeout (now : Nat) (carrier : Bool) (m0 : Modem) : Modem × Option Nat :=
  let m := { m0 with carrier := m0.carrier || carrier }
  match m.req with
  | some r =>
    if !m.waiting && decide (m.sentAt + msC 305 ≤ now) then
      if m.attempt < 3 then ({ m with attempt := m.attempt + 1, sentAt := now, waiting := m.carrier }, none)
      else (hartScanOn r true { m with req := none, attempt := 0 }, some r.addr)
    else (m, none)
  | none => (m, none)

/-- 75 ms after a carrier ended, a waiting request is sent (R178). -/
def hartQuiet (now : Nat) (m : Modem) : Modem :=
  { m with carrier := false, waiting := false, sentAt := if m.waiting then now else m.sentAt }

/-! ## Frames (R177) -/

/-- Bytes as a number, most significant first, as HART sends them. -/
def hartNum (b : List Byte) : Nat := b.foldl (fun a x => 256 * a + x.toNat) 0

/-- A frame from a field device, from its delimiter to its checksum: a short frame with a polling address or a long one with the
5-byte unique address, without expansion bytes, whose checksum is the XOR of all bytes before it (R177). The delimiters and the
places of the address, command, count and status bytes are those of the HART standard (log 64). -/
def hartParse (b : List Byte) : Option HartFrame :=
  let d := (b.getD 0 0#8).toNat
  let n := if d = 0x86 ∨ d = 0x81 then 5 else 1
  let cnt := (b.getD (n + 2) 0#8).toNat
  let a := b.getD 1 0#8
  if !(decide (d = 0x06) || decide (d = 0x86) || decide (d = 0x01) || decide (d = 0x81)) then none
  else if cnt < 2 ∨ b.length ≠ n + 4 + cnt ∨ b.foldl (· ^^^ ·) 0#8 ≠ 0#8 then none
  else some {
    burst := decide (d % 8 = 1), primary := a.getLsbD 7
    addr := if n = 1 then .poll (a.toNat % 16) else .unique (hartNum ((b.drop 1).take 2) % 16384) (hartNum ((b.drop 3).take 3))
    cmd := (b.getD (n + 1) 0#8).toNat, resp := (b.getD (n + 3) 0#8).toNat, stat := (b.getD (n + 4) 0#8).toNat
    data := (b.drop (n + 5)).take (cnt - 2) }

/-- Polling address that a frame comes from: its own, or that of the device with its unique address. -/
def hartWhere (t : HartTable) (g : HartFrame) : Option Nat :=
  match g.addr with
  | .poll a => some a
  | .unique ty id => (hartListed t).find? fun a => decide ((hartDev t a).devType % 16384 = ty) && decide ((hartDev t a).devId = id)

/-- A valid reply to the request in progress: to the primary master, with the request's command, from its address; command 0 by
short frames, all others by long ones. -/
def hartAnswers (t : HartTable) (g : HartFrame) (m : Modem) : Bool :=
  match m.req with
  | some r => !g.burst && g.primary && decide (g.cmd = r.cmd) && decide (hartWhere t g = some r.addr) && (match g.addr with
    | .poll _ => decide (r.cmd = 0)
    | .unique _ _ => decide (r.cmd ≠ 0))
  | none => false

/-- The modem cell after the reply to its request. -/
def hartAnswered (m : Modem) : Modem :=
  match m.req with
  | some r => hartScanOn r false { m with req := none, attempt := 0, waiting := false }
  | none => m

/-! ## Device table (R181) -/

/-- Unit and value of dynamic variable `k` in the data of command 3; FAh and 7FA00000h when not sent. -/
def hartVar (b : List Byte) (k : Nat) : Nat × Nat :=
  let v := (b.drop (4 + 5 * k)).take 5
  if v.length = 5 then (hartNum (v.take 1), hartNum (v.drop 1)) else (0xFA, 0x7FA00000)

/-- An entry after a valid reply assigned to the frame (R179, R181); the Bool tells that a listed device was
replaced (event 0623h). A reply without its data bytes, such as one with a communication error, brings status and response code. -/
def hartUpdate (g : HartFrame) (e : HartDev) : HartDev × Bool :=
  let e1 := { e with status := g.stat, resp := g.resp, age := 0, lost := false, nReply := wrapN 16 (e.nReply + 1) }
  let d := g.data
  if g.cmd = 0 ∧ 12 ≤ d.length then
    let ur := hartNum ((d.drop 4).take 1)
    let ty := hartNum ((d.drop 1).take 2)
    let id := hartNum ((d.drop 9).take 3)
    ({ e1 with listed := true, unsup := decide (ur < 5), univRev := ur, devType := ty, devId := id },
      e.listed && (decide (e.devType ≠ ty) || decide (e.devId ≠ id)))
  else if g.cmd = 3 ∧ 4 ≤ d.length then
    ({ e1 with loopMa := hartNum (d.take 4), pvUnit := (hartVar d 0).1, pv := (hartVar d 0).2, svUnit := (hartVar d 1).1,
               sv := (hartVar d 1).2, tvUnit := (hartVar d 2).1, tv := (hartVar d 2).2,
               qvUnit := (hartVar d 3).1, qv := (hartVar d 3).2 }, false)
  else if g.cmd = 48 ∧ 6 ≤ d.length then ({ e1 with ext := ofBytes (d.take 6) }, false)
  else (e1, false)

/-- One frame passes for every listed entry (AGE and COMM_LOST, R181, R182). -/
def hartAge (P : Nat) (t : HartTable) : HartTable :=
  t.map fun e => (e.1,
    if e.2.age = 0xFFFFFFFF then e.2
    else { e.2 with age := satN 32 (e.2.age + 1), lost := decide (framesOf P (msC 30000) < e.2.age + 1) })

/-- A number of `n` bytes with its most significant byte first: the HART byte order, as a field (R181). -/
def hartField (n v : Nat) : Nat × Nat := (8 * n, ofBytes (toBytes n v).reverse)

/-- The 64 bytes of an entry; fields taken from a reply keep the HART byte order (R181). -/
def hartBytes (a : Nat) (e : HartDev) : List Byte :=
  packBytes 64 [(4, a), (1, b2n e.listed), (1, b2n e.unsup), (1, b2n e.burst), (1, b2n e.lost), (8, e.univRev),
    hartField 2 e.devType, hartField 3 e.devId, (8, e.status), (8, e.resp), (8, 0), hartField 4 e.loopMa, (8, e.pvUnit),
    hartField 4 e.pv, (8, e.svUnit), hartField 4 e.sv, (8, e.tvUnit), hartField 4 e.tv, (8, e.qvUnit), hartField 4 e.qv, (48, e.ext),
    (32, e.age), (16, e.nReply), (16, e.nFail)]

/-! ## HART flags (R180, R182) -/

/-- A single-precision pattern in mA as nA, rounded to the nearest (R182). -/
def floatMaToNa (x : Nat) : Int :=
  let e := x / 2 ^ 23 % 256
  let f := x % 2 ^ 23
  let m : Nat := if e = 0 then f else f + 2 ^ 23
  let k : Nat := if e = 0 then 1 else e
  if e = 255 then Config.hartNotFinite x
  else
    let v : Int := if 150 ≤ k then ((m * 1000000 * 2 ^ (k - 150) : Nat) : Int)
      else rdiv ((m * 1000000 : Nat) : Int) ((2 ^ (150 - k) : Nat) : Int)
    if x / 2 ^ 31 % 2 = 1 then -v else v

/-- HART flags of a channel in one frame (R180, R182). `got3` tells that a valid command 3 reply from
address 0 was assigned to the frame; `i` is x or READBACK in nA; `begun` tells that modem service has begun. -/
def hartFlags (P : Nat) (begun got3 : Bool) (i : Int) (t : HartTable) (h : HartCh) : HartCh :=
  let lim := framesOf P (msC 30000)
  let srv := if begun then some ((h.service.map (· + 1)).getD 0) else none
  let late := match srv with
    | some k => decide (hartListed t = []) && decide (lim ≤ k)
    | none => false
  { multidrop := hartMultidrop t
    comm := late || (hartListed t).any fun a => decide (lim < (hartDev t a).age)
    dev := (hartListed t).any fun a => (hartDev t a).status.testBit 7
    mismatch := if got3 then decide (100000 < (floatMaToNa (hartDev t 0).loopMa - i).natAbs) else h.mismatch
    service := srv }

/-- The lowest listed polling address that satisfies `p`, else the lowest listed one, else 0. -/
def hartAddr (t : HartTable) (p : HartDev → Bool) : Nat :=
  ((hartListed t).find? fun a => p (hartDev t a)).getD ((hartListed t).headD 0)

/-- Events of the HART flags (R182). -/
def hartEvents (P c : Nat) (t : HartTable) (a b : HartCh) : List EvReq :=
  let lim := framesOf P (msC 30000)
  flagEvent 0x0620 c a.comm b.comm (hartAddr t fun e => decide (lim < e.age)) 0 ++
  flagEvent 0x0621 c a.dev b.dev (hartAddr t fun e => e.status.testBit 7) 0 ++
  flagEvent 0x0622 c a.mismatch b.mismatch 0 0

end Sys2Proof.Machine
end

