-- ==== Sys2Proof/Machine/Memory.lean ====
section
/-! DEFINITION. Memories and data integrity (chapter 19): the RS(40,32) code, the mirror mailbox, corrected and
uncorrectable reads, Haze, and the health block. -/

namespace Sys2Proof.Machine

/-! ## GF(2⁸) and RS(40,32) (R472, R473) -/

/-- `a · x` in GF(2⁸) with polynomial 11Dh. -/
def gfDouble (a : Nat) : Nat := if 128 ≤ a then (2 * a) ^^^ 0x11D else 2 * a

/-- Product of `a` and the low `n` bits of `b`. -/
def gfMulN : Nat → Nat → Nat → Nat
  | 0, _, _ => 0
  | n + 1, a, b => (if b % 2 = 1 then a else 0) ^^^ gfMulN n (gfDouble a) (b / 2)

/-- Product in GF(2⁸). -/
def gfMul (a b : Nat) : Nat := gfMulN 8 a b

/-- `a` to the power `n`. -/
def gfPow (a : Nat) : Nat → Nat
  | 0 => 1
  | n + 1 => gfMul a (gfPow a n)

/-- Inverse of a non-zero element: a^254. -/
def gfInv (a : Nat) : Nat :=
  let a2 := gfMul a a
  let a4 := gfMul a2 a2
  let a8 := gfMul a4 a4
  let a16 := gfMul a8 a8
  let a32 := gfMul a16 a16
  let a64 := gfMul a32 a32
  gfMul (gfMul (gfMul a2 a4) (gfMul a8 a16)) (gfMul (gfMul a32 a64) (gfMul a64 a64))

/-- Value at `x` of the polynomial with coefficients `c`, highest degree first. -/
def polyEval (c : List Nat) (x : Nat) : Nat := c.foldl (fun s k => gfMul s x ^^^ k) 0

/-- Generator coefficients x⁷ to x⁰: the product of (x − α^i) for i = 0 to 7. -/
def rsGen : List Nat :=
  ((List.range 8).foldl (fun g i =>
    let a := gfPow 2 i
    ((g ++ [0]).zip (0 :: g)).map fun (p : Nat × Nat) => p.1 ^^^ gfMul a p.2) [1]).drop 1

/-- Check bytes of 32 data bytes; byte 0 is the coefficient of the highest degree. -/
def rsCheck (data : List Nat) : List Nat :=
  data.foldl (fun s b =>
    let f := b ^^^ s.headD 0
    ((s.drop 1 ++ [0]).zip rsGen).map fun (p : Nat × Nat) => p.1 ^^^ gfMul f p.2) (List.replicate 8 0)

/-- The codeword of 32 data bytes. -/
def rsEncode (data : List Nat) : List Nat := data ++ rsCheck data

/-- The eight syndromes of a raw codeword. -/
def rsSyndromes (c : List Nat) : List Nat := (List.range 8).map fun i => polyEval c (gfPow 2 i)

/-- `n`-th coefficient, lowest degree first. -/
def co (l : List Nat) (n : Nat) : Nat := l.getD n 0

/-- Sum of two polynomials, lowest degree first. -/
def polyAdd (a b : List Nat) : List Nat := (List.range (max a.length b.length)).map fun i => co a i ^^^ co b i

/-- Berlekamp–Massey over the syndromes: locator, previous locator, L, m and the previous discrepancy. -/
def rsLocate (s : List Nat) : List Nat × Nat :=
  let r := (List.range 8).foldl (fun (x : List Nat × List Nat × Nat × Nat × Nat) n =>
    let (c, b, l, m, bb) := x
    let d := (List.range (l + 1)).foldl (fun a i => a ^^^ gfMul (co c i) (co s (n - i))) 0
    if d = 0 then (c, b, l, m + 1, bb)
    else
      let k := gfMul d (gfInv bb)
      let c' := polyAdd c (List.replicate m 0 ++ b.map (gfMul k))
      if 2 * l ≤ n then (c', c, n + 1 - l, 1, d) else (c', b, l, m + 1, bb)) ([1], [1], 0, 1, 1)
  (r.1, r.2.2.1)

/-- Outcome of a decode (R473). -/
inductive RsOut where
  | clean
  | corrected (data : List Nat)
  | uncorrectable
  deriving DecidableEq, Repr

/-- The error value at locator `x` (Forney). -/
def rsValue (s loc : List Nat) (l x : Nat) : Nat :=
  let xi := gfInv x
  let omega := (List.range l).map fun i => (List.range (i + 1)).foldl (fun a j => a ^^^ gfMul (co loc j) (co s (i - j))) 0
  let num := omega.reverse.foldl (fun a k => gfMul a xi ^^^ k) 0
  let der := (List.range 8).foldl (fun a i => if i % 2 = 1 then a ^^^ gfMul (co loc i) (gfPow xi (i - 1)) else a) 0
  gfMul x (gfMul num (gfInv der))

/-- Decoding of 40 raw bytes (R473): up to four erroneous bytes are corrected. -/
def rsDecode (c : List Nat) : RsOut :=
  let s := rsSyndromes c
  if s.all (· = 0) then .clean
  else
    let (loc, l) := rsLocate s
    let pos := (List.range 40).filter fun i => polyEval loc.reverse (gfInv (gfPow 2 (39 - i))) = 0
    if 4 < l ∨ pos.length ≠ l then .uncorrectable
    else
      let fix := pos.foldl (fun d i => d.set i (co d i ^^^ rsValue s loc l (gfPow 2 (39 - i)))) c
      if (rsSyndromes fix).all (· = 0) then .corrected fix else .uncorrectable

/-- The 40 raw bytes of a codeword given as a number, byte 0 lowest. -/
def rawBytes (v : Nat) : List Nat := (toBytes 40 v).map (·.toNat)

/-- The number of 40 raw bytes. -/
def rawNumber (l : List Nat) : Nat := ofBytes (l.map (BitVec.ofNat 8))

/-- The decode of a raw codeword. -/
def rawDecode (raw : Nat) : RsOut := if raw = 0 then .clean else rsDecode (rawBytes raw)

/-- What a codeword holds after the read that decoded it: the corrected codeword is written back (R474). -/
def RsOut.kept (raw : Nat) : RsOut → Nat
  | .corrected fix => rawNumber fix
  | _ => raw

/-! ## The mirror mailbox (R470, R471) -/

/-- Two writes of one cycle to one codeword, each a byte or none per place: the merged bytes over the stored ones,
and the mask of discarded bytes of port 1. -/
def mailboxMerge (old : List Byte) (p0 p1 : List (Option Byte)) : List Byte × Nat :=
  let at0 (i : Nat) : Option Byte := (p0.getD i none)
  let at1 (i : Nat) : Option Byte := (p1.getD i none)
  (old.zipIdx.map fun x => (at0 x.2).getD ((at1 x.2).getD x.1),
    ((List.range old.length).filter fun i => match at0 i, at1 i with
      | some a, some b => decide (a ≠ b)
      | _, _ => false).foldl (fun m i => m + 2 ^ i) 0)

/-- The access covers all 32 data bytes: it needs no read of the codeword (R467). -/
def accWhole : MemAccess → Bool
  | .read => false
  | .write off bytes => decide (off = 0) && decide (bytes.length = 32)

/-- The access lies in the codeword. -/
def accFits : MemAccess → Bool
  | .read => true
  | .write off bytes => decide (0 < bytes.length) && decide (off + bytes.length ≤ 32)

/-- The bytes that an access writes, none per place that it leaves. -/
def accPatch : MemAccess → List (Option Byte)
  | .read => []
  | .write off bytes => List.replicate off none ++ bytes.map some

/-- The access as it is performed on a codeword decoded as `d`: a write of fewer than 32 bytes into an uncorrectable codeword is
not performed (R476). -/
def accDone (d : RsOut) (a : MemAccess) : MemAccess := if accWhole a || decide (d ≠ .uncorrectable) then a else .read

/-- A codeword after the accesses of one cycle through both ports, and the mask of discarded bytes (R467, R470, R471, R476). A
read returns the data stored before the cycle. -/
def wordAfter (raw : Nat) (d : RsOut) (a0 a1 : MemAccess) : Nat × Nat :=
  let p0 := accPatch (accDone d a0)
  let p1 := accPatch (accDone d a1)
  if p0.isEmpty && p1.isEmpty then (d.kept raw, 0)
  else
    let m := mailboxMerge (toBytes 32 (d.kept raw)) p0 p1
    (rawNumber (rsEncode (m.1.map (·.toNat))), m.2)

/-! ## The words of a memory -/

/-- Key of a codeword. -/
def wordKey (bank cw : Nat) : Nat := 65536 * bank + cw

/-- The raw codeword stored. -/
def memWord (bank cw : Nat) (m : MemSt) : Nat := tabGet 0 m.words (wordKey bank cw)

/-- A raw codeword is stored. -/
def memPut (bank cw raw : Nat) (m : MemSt) : MemSt := { m with words := tabSet 0 m.words (wordKey bank cw) raw }

/-! ## Reads (R474, R475) -/

/-- Memory code of an engine-local memory or scratchpad lies in region `g` (R486). -/
def memRegion (mem : Nat) : Nat := if mem < 16 then mem / 4 else mem - 16

/-- The latest error of a memory. -/
def memMark (bank kind cw req : Nat) (m : MemSt) : MemSt :=
  { m with lastBank := bank, lastKind := kind, lastCw := cw, lastReq := req }

/-- A corrected read (R474): CORR, and WEAR past 16 corrections in one bank within 60 s of operating time. -/
def memCorrected (mem bank cw req opMs : Nat) (m : MemSt) : MemSt × List EvReq :=
  let keep := (m.recent.filter fun e => decide (opMs < e.2 + 60000)) ++ [(bank, opMs)]
  let n := (keep.filter fun e => decide (e.1 = bank)).length
  let c := satN 16 (m.corr + 1)
  let worn := decide (16 < n)
  ({ memMark bank 1 cw req m with corr := c, recent := keep, wear := m.wear || worn },
    if worn && !m.wear then [{ code := 0x1002, src := mem, p1 := bank, p2 := c }] else [])

/-- An uncorrectable read (R475); `frameLo` is the frame poisoned or FFFFFFFFh. -/
def memUncorrectable (mem bank cw req frameLo : Nat) (m : MemSt) : MemSt × List EvReq :=
  ({ memMark bank 2 cw req m with uncorr := satN 16 (m.uncorr + 1) },
    [{ code := 0x1001, src := mem, p1 := bank * 65536 + cw, p2 := req, p3 := frameLo }])

/-- A failed comparison with its failing byte lanes (R478, R482). -/
def memMarch (mem bank cw req lanes : Nat) (m : MemSt) : MemSt × List EvReq :=
  ({ memMark bank 3 cw req m with marchFail := satN 16 (m.marchFail + 1) },
    [{ code := 0x1004, src := mem, p1 := bank * 65536 + cw, p2 := lanes % 2 ^ 32, p3 := lanes / 2 ^ 32 % 256 }])

/-- Poisoned source that an uncorrectable read by requester `req` makes: bit of parameter 2 of 1006h and its cause
(R475, R488); none for requesters that poison no frame. Bit 17 stands for the output distribution, which is no source of
an output command. -/
def memPoison (mem req : Nat) : Option (Nat × Nat) :=
  if 0x10 ≤ req ∧ req ≤ 0x13 then some (4 * memRegion mem + (req - 0x10), 1)
  else if req = 0x0B ∨ req = 0x04 then some (16, 1)
  else if req = 0x06 then some (17, 4)
  else none

/-! ## Haze (R479 to R483) -/

/-- One scrub step over the codewords from `cw` on, each with the bits that have flipped in it (R481). An uncorrectable codeword of
engine code is rewritten from `slot`, the running firmware slot (R483). -/
def hazeScrub (mem bank slot opMs : Nat) : Nat → List Nat → MemSt → MemSt × List EvReq
  | _, [], m => (m, [])
  | cw, v :: r, m =>
    let raw := memWord bank cw m ^^^ v
    let d := rawDecode raw
    let n := memPut bank cw (d.kept raw) m
    let x := match d with
      | .clean => (n, [])
      | .corrected _ => memCorrected mem bank cw 1 opMs n
      | .uncorrectable =>
        let u := memUncorrectable mem bank cw 1 0xFFFFFFFF n
        if mem < 0x10 ∧ bank = 0 then
          (memPut bank cw 0 u.1, u.2 ++ [{ code := 0x1007, src := mem, p1 := bank * 65536 + cw, p2 := slot : EvReq }])
        else u
    let y := hazeScrub mem bank slot opMs (cw + 1) r x.1
    (y.1, x.2 ++ y.2)

/-- One march step with the byte lanes that failed in each codeword it visits (R482): `cw` is its lowest codeword, and a descending
pass visits the highest first. -/
def hazeMarch (mem bank : Nat) (down : Bool) : Nat → List Nat → MemSt → MemSt × List EvReq
  | _, [], m => (m, [])
  | cw, v :: r, m =>
    let x := if v = 0 then (m, []) else memMarch mem bank (if down then cw + r.length else cw) 1 v m
    let y := hazeMarch mem bank down (if down then cw else cw + 1) r x.1
    (y.1, x.2 ++ y.2)

/-- A pass ends at `now` (R479, R482). -/
def hazePass (mem now : Nat) (march : Bool) (m : MemSt) : MemSt × List EvReq :=
  let took := now - (if march then m.marchFrom else m.scrubFrom)
  let s := msC 1000
  let late := if march then decide (96 * 3600 * s < took) else decide (32 * s < took)
  let met := if march then decide (took ≤ 24 * 3600 * s) else decide (took ≤ 8 * s)
  let m1 := if march then { m with marches := wrapN 8 (m.marches + 1), marchFrom := now, marchDown := !m.marchDown }
    else { m with scrubs := wrapN 8 (m.scrubs + 1), scrubFrom := now }
  ({ m1 with slow := if late then true else if met then false else m.slow },
    if late then [{ code := 0x1005, src := mem, p1 := if march then 2 else 1, p2 := took / s }] else [])

/-! ## Health block (R486) -/

/-- The 16 bytes of one memory. -/
def memBytes (m : MemSt) : List Byte :=
  packBytes 16 [(16, m.corr), (16, m.uncorr), (16, m.marchFail), (8, m.lastBank), (8, m.lastKind), (16, m.lastCw), (8, m.lastReq),
    (8, m.scrubs), (8, m.marches), (1, b2n m.wear), (1, b2n m.slow)]

/-- The health block. -/
def memBlock (d : ModDiag) (t : Tab MemSt) : List Byte :=
  packBytes 16 [(16, d.collide), (16, d.nPoisoned), (48, d.lastPoisoned)] ++
    (List.range 23).flatMap fun k => memBytes (tabGet {} t k)

/-- The counters and the held bit of a memory cleared (R340, R474, R486). -/
def memClear (m : MemSt) : MemSt := { m with corr := 0, uncorr := 0, marchFail := 0, wear := false }

end Sys2Proof.Machine
end

