-- ==== Sys2Proof/Machine/Recorder.lean ====
section
/-! DEFINITION. The event recorder (chapter 12): records, admission to the pending queue, the writer, the
start-up checks and reading. -/

namespace Sys2Proof.Machine

/-- Codes assigned to the sealed safety log (R237, R257). -/
def sealedCode (code : Nat) : Bool :=
  decide (code / 256 = 8) || decide (code = 0x0901) || decide (code = 0x0903) || decide (code = 0x0905)

/-- SEALED of a record (R295). -/
def EvRec.sealed (r : EvRec) : Bool := sealedCode r.code && !r.replay

/-- The 32 bytes of a record with sequence number `seq` (R294). -/
def recordBits (seq : Nat) (r : EvRec) : BitVec 256 :=
  BitVec.ofNat 256 (pack [(32, seq), (16, r.code), (16, r.src), (32, r.opS), (10, r.opMs), (1, b2n r.unit), (1, b2n r.sealed),
    (1, b2n r.standby), (1, b2n r.replay), (1, b2n r.poisoned), (1, b2n r.prestart), (16, r.pwr), (32, r.frameLo),
    (32, r.p1), (32, r.p2), (32, r.p3)])

/-- Bytes of a stored record. -/
def recordBytes (r : BitVec 256) : List Byte := toBytes 32 r.toNat

/-- The 16-bit slot check (R308). -/
def slotCheck (r : BitVec 256) : Nat := crc32c 0xFFFFFFFF (recordBytes r) % 65536

/-- Places of the pending queue (R304). -/
abbrev queuePlaces : Nat := 512

/-- LOST_PENDING before saturation: records that no LOST record written so far has reported (R313). -/
def lostPending (q : Recorder) : Nat :=
  q.lost + ((q.queue.filter fun r => decide (r.code = 0x0C01)).map (·.p1)).sum

/-- Count `k` records not stored, the first with `code` and `frame`, the last with `last` and `lastFrame` (R305). -/
def countLost (k code frame last lastFrame : Nat) (q : Recorder) : Recorder :=
  { q with lost := q.lost + k, lostCode := if q.lost = 0 then code else q.lostCode
           lostFrame := if q.lost = 0 then frame else q.lostFrame, lostLast := last, lostLastFrame := lastFrame
           lostTotal := satN 32 (q.lostTotal + 1) }

/-- A record that is not stored is counted (R305). -/
def countRec (r : EvRec) (q : Recorder) : Recorder := countLost 1 r.code r.frameLo r.code r.frameLo q

/-- Append a record to the queue. -/
def enqueue (r : EvRec) (q : Recorder) : Recorder :=
  { q with queue := q.queue ++ [r], queueMax := max q.queueMax (q.queue.length + 1) }

/-- The LOST record, stamped by `base`, that takes a free place before any other record (R305). -/
def admitLost (base : EvRec) (q : Recorder) : Recorder :=
  if 0 < q.lost ∧ q.queue.length < queuePlaces then
    enqueue { base with code := 0x0C01, src := 0, unit := true, poisoned := false
                        p1 := q.lost, p2 := q.lostCode + 65536 * q.lostLast, p3 := q.lostFrame }
      { q with lost := 0, lostCode := 0, lostFrame := 0, lostLast := 0, lostLastFrame := 0 }
  else q

/-- Remove the last element that satisfies `p`. -/
def dropLastWhere {α : Type} (p : α → Bool) (l : List α) : Option (α × List α) :=
  match l with
  | [] => none
  | x :: r =>
    match dropLastWhere p r with
    | some (y, r') => some (y, x :: r')
    | none => if p x then some (x, r) else none

/-- Admit one record (R304 to R306). A sealed record that finds no place displaces the youngest record with
SEALED = 0. -/
def admitRec (r : EvRec) (q : Recorder) : Recorder :=
  if q.queue.length < queuePlaces then enqueue r q
  else if r.sealed then
    match dropLastWhere (fun x => !x.sealed) q.queue with
    | some (d, rest) =>
      let q1 := { q with queue := rest ++ [r] }
      if d.code = 0x0C01 then countLost (d.p1 + 1) (d.p2 % 65536) d.p3 0x0C01 d.frameLo q1 else countRec d q1
    | none => countRec r q
  else countRec r q

/-- Admit records in order, a pending LOST record first; `base` is the stamp of the instant. -/
def admitAll (base : EvRec) (rs : List EvRec) (q : Recorder) : Recorder :=
  rs.foldl (fun x r => admitRec r (admitLost base x)) q

/-- The writer writes the front record (R308): slot, slot check and NEXT_SEQ, and for a sealed record the sealed
log with its chain value and SEAL_COUNT. -/
def writeRecord (q : Recorder) : Recorder :=
  match q.queue with
  | [] => q
  | r :: rest =>
    let bits := recordBits q.nextSeq r
    let chk := slotCheck bits
    let q1 := { q with queue := rest, mainLog := tabSet none q.mainLog (q.nextSeq % 65536) (some { data := bits, check := chk })
                       nextSeq := wrapN 32 (q.nextSeq + 1) }
    if r.sealed then
      let ch := crc32c q.sealChain (recordBytes bits)
      { q1 with sealLog := tabSet none q1.sealLog (q.sealCount % 4096) (some { data := bits, check := chk, chain := ch })
                sealCount := wrapN 32 (q.sealCount + 1), sealChain := ch }
    else q1

/-- Bits of a slot; every bit of one that has never been written is 1 (R294). -/
def slotData (o : Option LogSlot) : BitVec 256 :=
  match o with
  | some s => s.data
  | none => BitVec.allOnes 256

/-- A written slot whose slot check agrees; the check of one that has never been written fails (R309). -/
def slotWhole (o : Option LogSlot) : Option LogSlot :=
  match o with
  | some s => if slotCheck s.data = s.check then some s else none
  | none => none

/-- R309 at start-up: a record whose write completed before the power loss advances NEXT_SEQ. -/
def recoverNext (q : Recorder) : Recorder :=
  match slotWhole (tabGet none q.mainLog (q.nextSeq % 65536)) with
  | some s => if fld s.data 0 32 = q.nextSeq then { q with nextSeq := wrapN 32 (q.nextSeq + 1) } else q
  | none => q

/-- Chain check over sealed records `i` to `i + n − 1` from chain value `c`: the first index that fails, with
the stored and the computed value. -/
def chainCheck (q : Recorder) : Nat → Nat → Nat → Option (Nat × Nat × Nat)
  | 0, _, _ => none
  | n + 1, i, c =>
    let o := tabGet none q.sealLog (i % 4096)
    let v := crc32c c (recordBytes (slotData o))
    let w := match o with | some s => s.chain | none => 0xFFFFFFFF
    if (slotWhole o).isSome && decide (v = w) then chainCheck q n (i + 1) v else some (i, w, v)

/-- The start-up check of R303 over the 16 newest sealed records. -/
def sealCheck (q : Recorder) : Option (Nat × Nat × Nat) :=
  let n := min 16 q.sealCount
  let i := q.sealCount - n
  let before := if i = 0 then 0xFFFFFFFF
    else match tabGet none q.sealLog ((i - 1) % 4096) with
      | some s => s.chain
      | none => 0xFFFFFFFF
  chainCheck q n i before

/-! ## Reading (R310 to R312) -/

/-- Places from `a` up to `b` in the ring modulo 2³². -/
def seqDist (a b : Nat) : Nat := (b + 2 ^ 32 - a) % 2 ^ 32

/-- The oldest record that the main log holds whole, told by how many SEQ it lies before NEXT_SEQ; 0 when the log is empty. -/
def mainAge (q : Recorder) : Nat :=
  q.mainLog.foldl (fun m e => match slotWhole e.2 with
    | some s => let d := seqDist (fld s.data 0 32) q.nextSeq
                if m < d ∧ d ≤ 65536 then d else m
    | none => m) 0

/-- Records of the main log from the oldest to the newest: the SEQ that they span, and the first SEQ. A slot that failed its check
leaves a gap (R309). -/
def mainRange (q : Recorder) : Nat × Nat := (mainAge q, (q.nextSeq + 2 ^ 32 - mainAge q) % 2 ^ 32)

/-- Records of the sealed log, oldest first. -/
def sealRecords (q : Recorder) : List LogSlot :=
  let n := min 4096 q.sealCount
  (List.range n).filterMap fun k => slotWhole (tabGet none q.sealLog ((q.sealCount - n + k) % 4096))

/-- Header of the reply of R312 and the records with their chain bytes. -/
def eventBody (oldest newest : Nat) (empty : Bool) (chain : Bool) (rs : List LogSlot) : List Byte :=
  packBytes 12 [(32, oldest), (32, newest), (8, rs.length), (1, b2n empty)] ++
    rs.flatMap fun s => recordBytes s.data ++ (if chain then toBytes 4 s.chain else [])

/-- R311: whether the request was overwritten, and the reply body. -/
def readEvents (sealLog : Bool) (maxN fromSeq : Nat) (q : Recorder) : Bool × List Byte :=
  if sealLog then
    let rs := sealRecords q
    match rs with
    | [] => (false, eventBody 0 0 true true [])
    | s :: _ =>
      let oldest := fld s.data 0 32
      let newest := fld (rs.getLastD s).data 0 32
      let span := seqDist oldest newest
      let d := seqDist oldest fromSeq
      if d ≤ span then
        (false, eventBody oldest newest false true ((rs.filter fun r => decide (d ≤ seqDist oldest (fld r.data 0 32))).take maxN))
      else if d = span + 1 then (false, eventBody oldest newest false true [])
      else (true, eventBody oldest newest false true (rs.take maxN))
  else
    let m := mainRange q
    if m.1 = 0 then (false, eventBody 0 0 true false [])
    else
      let newest := wrapN 32 (m.2 + m.1 - 1)
      let d := seqDist m.2 fromSeq
      let pick (k : Nat) : List LogSlot :=
        (List.range (min maxN (m.1 - k))).filterMap fun j => slotWhole (tabGet none q.mainLog ((m.2 + k + j) % 65536))
      if d < m.1 then (false, eventBody m.2 newest false false (pick d))
      else if d = m.1 then (false, eventBody m.2 newest false false [])
      else (true, eventBody m.2 newest false false (pick 0))

/-- The recorder status block (R313). -/
def recorderBlock (q : Recorder) : List Byte :=
  packBytes 32 [(32, q.opS), (32, q.pwr), (32, q.nextSeq), (32, q.sealCount), (32, q.sealChain), (32, q.lostTotal),
    (10, q.queue.length), (10, q.queueMax), (16, satN 16 (lostPending q))]

end Sys2Proof.Machine
end

