-- ==== Sys2Proof/Machine/State.lean ====
section
/-! DEFINITION. The state of the node: one module, its blocks and ports, and the queue of commands that wait.
`State.reset` is a standard SZ-5120-S as manufactured at the end of its start-up under the empty image. -/

namespace Sys2Proof.Machine

/-- Everything that describes the unit: power, firmware, identity, memories, diagnostics, pair. -/
structure UnitPart where
  power  : Power := {}
  fw1    : Firmware := {}
  fw2    : Firmware := {}
  runSlot : Nat := 1
  ident  : Ident := {}
  mem    : Tab MemSt := []
  mdiag  : ModDiag := {}
  regs   : Tab RegDiag := []
  pair   : Pair := {}
  wit    : Witness := {}
  deriving DecidableEq, Repr

/-- The state of the node. -/
structure State where
  /-- Commands that wait, first in first out. -/
  pending : List Instr
  /-- Latest instant, in Zenith cycles. -/
  now     : Nat
  mode    : RunMode
  phase   : Phase
  fr      : FrameClk
  /-- Operating milliseconds at `opFrom`, an instant of this run (R297). -/
  opBase  : Nat
  opFrom  : Nat
  cfg     : CfgPart
  inp     : InPart
  blks    : BlkPart
  eng     : EngPart
  safe    : SafePart
  alm     : AlmPart
  recd    : Recorder
  can     : CanPart
  port    : PortPart
  twi     : Twi
  unt     : UnitPart
  /-- The latest complete frame, as readers see it. -/
  shown   : FrameImg
  deriving DecidableEq, Repr

/-- Why the machine stops. -/
inductive Fault where
  /-- An operand names a channel, block, port, object or other unit that the node does not have (R9 to R12). Raised by
  the meaning of any command with such an operand. Safe: the manual describes no such happening. -/
  | noSuchUnit
  deriving DecidableEq, Repr

/-- Why a command has no meaning. -/
inductive Refusal where
  /-- The command is not modelled yet. Raised by the arms of `exec` only. Safe. -/
  | notModelled (mnemonic : String)
  deriving DecidableEq, Repr

/-- Outcome of a command. -/
abbrev Out : Type := Host.Outcome State Fault Refusal

/-- The state at the end of start-up: CRCs of the empty image, vacant ownership, frame 0 open with its outputs
withheld, every other field at its Reset value. -/
def State.reset : State :=
  { pending := [], now := 0, mode := .running, phase := .gather, fr := {}, opBase := 0, opFrom := 0
    cfg := { hdr := { cfgCrc := emptyCfgCrc, safeCrc := emptySafeCrc, confirmed := 4294967295 - emptySafeCrc } }
    inp := {}, blks := {}, eng := {}, safe := {}, alm := {}, recd := {}, can := {}, port := {}, twi := {}
    unt := { fw1 := { valid := true }, ident := makeIdent 0 1 }, shown := {} }

end Sys2Proof.Machine
end

