-- ==== Sys2Proof/Machine/Twilight.lean ====
section
/-! DEFINITION. The Twilight domain (chapter 18): calendar, staging and commit, alarms, coherent reading and the
backup RAM. -/

namespace Sys2Proof.Machine

/-! ## Calendar (R451) -/

/-- Year 2000 + `y` is a leap year. -/
def isLeap (y : Nat) : Bool := decide (y % 4 = 0) && decide (y ≠ 100)

/-- Days of month `m` in year 2000 + `y`. -/
def daysIn (y m : Nat) : Nat :=
  if m = 2 then (if isLeap y then 29 else 28)
  else if m = 4 ∨ m = 6 ∨ m = 9 ∨ m = 11 then 30 else 31

/-- The day after a date; 2199-12-31 is followed by 2000-01-01 (R453). -/
def nextDay (d : Nat × Nat × Nat) : Nat × Nat × Nat :=
  let y := d.1
  let m := d.2.1
  if d.2.2 < daysIn y m then (y, m, d.2.2 + 1)
  else if m < 12 then (y, m + 1, 1)
  else if y < 199 then (y + 1, 1, 1) else (0, 1, 1)

/-- Days from 2000-01-01 to a date. -/
def dayNumber (y m d : Nat) : Nat :=
  ((List.range y).map fun k => if isLeap k then 366 else 365).sum +
    ((List.range (m - 1)).map fun k => daysIn y (k + 1)).sum + (d - 1)

/-- Second of the day. -/
def secOfDay (h mi s : Nat) : Nat := (h * 60 + mi) * 60 + s

/-- SUBSEC at an instant of the Zenith axis, at the crystal's nominal rate. -/
def subsecNow (now : Nat) (w : Twi) : Nat := min 32767 (w.subsec + (now - w.subsecAt) * 32768 / 400000000)

/-- Milliseconds of the day at an instant. -/
def msOfDay (now : Nat) (w : Twi) : Nat := secOfDay w.hour w.min w.sec * 1000 + subsecNow now w * 1000 / 32768

/-- The time block (R449). -/
def timeBlock (now : Nat) (torn : Bool) (w : Twi) : Nat :=
  let ss := subsecNow now w
  pack [(16, ss), (10, ss * 1000 / 32768), (6, 0), (8, w.sec), (8, w.min), (16, w.hour), (8, w.day), (8, w.month), (8, w.year),
    (8, w.wday), (8, w.roll), (1, b2n w.valid), (1, b2n torn), (1, b2n w.bakLow), (1, b2n w.bakLost), (1, b2n w.wrapped),
    (1, b2n w.a0.fired), (1, b2n w.a1.fired), (1, b2n w.a0.skipped), (1, b2n w.a1.skipped), (1, b2n w.a0.armed),
    (1, b2n w.a1.armed)]

/-! ## Alarms (R457 to R461) -/

/-- Field of alarm `k` in the settings in force. -/
def alarmF (k lo len : Nat) (w : Twi) : Nat := fld w.alSet (64 * k + lo) len

/-- The date fields of alarm `k` that are compared equal a date with weekday counter `wd`. -/
def alarmDate (k : Nat) (w : Twi) (month day wd : Nat) : Bool :=
  let cmp := alarmF k 4 6 w
  (!cmp.testBit 3 || decide (alarmF k 40 5 w = day)) && (!cmp.testBit 4 || decide (alarmF k 48 4 w = month)) &&
    (!cmp.testBit 5 || decide (alarmF k 52 3 w = wd))

/-- The time-of-day fields of alarm `k` that are compared equal a time. -/
def alarmTime (k : Nat) (w : Twi) (h mi s : Nat) : Bool :=
  let cmp := alarmF k 4 6 w
  (!cmp.testBit 0 || decide (alarmF k 16 6 w = s)) && (!cmp.testBit 1 || decide (alarmF k 24 6 w = mi)) &&
    (!cmp.testBit 2 || decide (alarmF k 32 5 w = h))

/-- Some second of the day from `lo` to `hi` matches the time-of-day fields. -/
def alarmTimeIn (k : Nat) (w : Twi) (lo hi : Nat) : Bool :=
  if lo = 0 ∧ 86399 ≤ hi then true
  else
    let cmp := alarmF k 4 6 w
    let hs := if cmp.testBit 2 then [alarmF k 32 5 w] else List.range 24
    let ms := if cmp.testBit 1 then [alarmF k 24 6 w] else List.range 60
    let ss := if cmp.testBit 0 then [alarmF k 16 6 w] else List.range 60
    hs.any fun h => ms.any fun m => ss.any fun s =>
      decide (lo ≤ secOfDay h m s) && decide (secOfDay h m s ≤ hi)

/-- Some whole second after (date `d`, second `lo − 1`) and not after (the date `n` days later, second `hi`) matches
alarm `k` (R460). -/
def alarmBetween (k : Nat) (w : Twi) : Nat → Nat × Nat × Nat → Nat → Nat → Bool
  | 0, d, lo, hi => alarmDate k w d.2.1 d.2.2 w.wday && decide (lo ≤ hi) && alarmTimeIn k w lo hi
  | n + 1, d, lo, hi =>
    (alarmDate k w d.2.1 d.2.2 w.wday && decide (lo ≤ 86399) && alarmTimeIn k w lo 86399) ||
      alarmBetween k w n (nextDay d) 0 hi

/-- State bits of alarm `k`. -/
def alarmSt (k : Nat) (w : Twi) : RtcAlarm := if k = 0 then w.a0 else w.a1
/-- Replace them. -/
def setAlarmSt (k : Nat) (a : RtcAlarm) (w : Twi) : Twi := if k = 0 then { w with a0 := a } else { w with a1 := a }
def alarmEn (k : Nat) (w : Twi) : Bool := bit w.alSet (64 * k)
def alarmRepeat (k : Nat) (w : Twi) : Bool := bit w.alSet (64 * k + 1)
def alarmWake (k : Nat) (w : Twi) : Bool := bit w.alSet (64 * k + 2)

/-- Alarm `k` fires (R459, R460). -/
def alarmFire (k : Nat) (skip : Bool) (w : Twi) : Twi :=
  let a := alarmSt k w
  setAlarmSt k { fired := true, skipped := skip, armed := a.armed && alarmRepeat k w, fresh := true } w

/-- R459 for alarm `k` at the second increment that has just been made. -/
def alarmTick (k : Nat) (w : Twi) : Twi :=
  if alarmEn k w && (alarmSt k w).armed && w.valid && alarmDate k w w.month w.day w.wday && alarmTime k w w.hour w.min w.sec
  then alarmFire k false w else w

/-- The instant `now` lies in the Twilight cycle, 12,207 Zenith cycles, that an action at `x` opened. -/
def sameTick (now : Nat) (x : Option Nat) : Bool :=
  match x with
  | some a => decide (now < a + 12207)
  | none => false

/-- One second increment that no time commit has dropped (R451 to R453, R459). A weekday set in its cycle stands. -/
def rtcAdvance (now : Nat) (w : Twi) : Twi :=
  let w1 := { w with subsec := 0, subsecAt := now, roll := wrapN 8 (w.roll + 1) }
  let w2 :=
    if w.sec < 59 then { w1 with sec := w.sec + 1 }
    else if w.min < 59 then { w1 with sec := 0, min := w.min + 1 }
    else if w.hour < 23 then { w1 with sec := 0, min := 0, hour := w.hour + 1 }
    else
      let d := nextDay (w.year, w.month, w.day)
      let wraps := decide (w.year = 199) && decide (w.month = 12) && decide (w.day = 31)
      { w1 with sec := 0, min := 0, hour := 0, year := d.1, month := d.2.1, day := d.2.2
                wday := if sameTick now w.wdayAt then w.wday else (w.wday + 1) % 7
                wrapped := w.wrapped || wraps, valid := w.valid && !wraps }
  alarmTick 1 (alarmTick 0 w2)

/-- RTC second increment: one in the Twilight cycle of a time commit is dropped, with its weekday advance and its alarm matching
(R456). -/
def rtcSecond (now : Nat) (w : Twi) : Twi := if sameTick now w.setAt then w else rtcAdvance now w

/-- SET_WDAY (R452). -/
def setWeekday (now v : Nat) (w : Twi) : Twi := { w with wday := v, wdayAt := some now }

/-! ## Setting the clock (R454 to R456) -/

/-- Field of a staging set. -/
def stF (set lo len : Nat) : Nat := set / 2 ^ lo % 2 ^ len

/-- A reserved bit of a staging set is 1 (R454). -/
def stReserved (set : Nat) : Bool :=
  decide (stF set 10 22 ≠ 0) || decide (stF set 38 2 ≠ 0) || decide (stF set 46 2 ≠ 0) || decide (stF set 53 11 ≠ 0) ||
    decide (stF set 69 3 ≠ 0) || decide (stF set 76 4 ≠ 0) || decide (stF set 88 8 ≠ 0)

/-- The staging set passes R455. -/
def stValid (set : Nat) : Bool :=
  let y := stF set 80 8
  let m := stF set 72 4
  let d := stF set 64 5
  decide (y ≤ 199) && decide (1 ≤ m) && decide (m ≤ 12) && decide (1 ≤ d) && decide (d ≤ daysIn y m) &&
    decide (stF set 48 5 ≤ 23) && decide (stF set 40 6 ≤ 59) && decide (stF set 32 6 ≤ 59) && decide (stF set 0 10 ≤ 999)

/-- Alarm `k` at a commit that moves the clock from `a` to `b`, both as (day number, second of day, SUBSEC),
with the earlier date `d` (R460, R461). -/
def alarmMove (k : Nat) (wasValid : Bool) (a b : Nat × Nat × Nat) (dA dB : Nat × Nat × Nat) (w : Twi) : Twi :=
  let x := alarmSt k w
  let lt (p q : Nat × Nat × Nat) : Bool :=
    decide (p.1 < q.1) || (decide (p.1 = q.1) && (decide (p.2.1 < q.2.1) || (decide (p.2.1 = q.2.1) && decide (p.2.2 < q.2.2))))
  if !alarmEn k w || !wasValid then w
  else if lt a b then
    if x.armed && alarmBetween k w (b.1 - a.1) dA (a.2.1 + 1) b.2.1 then alarmFire k true w else w
  else if lt b a then
    if !alarmRepeat k w && !x.armed && alarmBetween k w (a.1 - b.1) dB (b.2.1 + 1) a.2.1
    then setAlarmSt k { x with armed := true } w else w
  else w

/-- An accepted time commit (R456). -/
def timeCommit (now : Nat) (w : Twi) : Twi :=
  let s := w.stage
  let ss := ceilDiv (stF s 0 10 * 32768) 1000
  let w1 := { w with
    year := stF s 80 8, month := stF s 72 4, day := stF s 64 5, hour := stF s 48 5, min := stF s 40 6, sec := stF s 32 6
    subsec := ss, subsecAt := now, roll := wrapN 8 (w.roll + 1), valid := true, bakLost := false, wrapped := false, stage := 0
    setAt := some now }
  let a := (dayNumber w.year w.month w.day, secOfDay w.hour w.min w.sec, subsecNow now w)
  let b := (dayNumber w1.year w1.month w1.day, secOfDay w1.hour w1.min w1.sec, ss)
  let dA := (w.year, w.month, w.day)
  let dB := (w1.year, w1.month, w1.day)
  alarmMove 1 w.valid a b dA dB (alarmMove 0 w.valid a b dA dB w1)

/-! ## Registers, alarm load, backup RAM -/

/-- LOAD_ALARMS with the committed RTC instance (R457, R458). -/
def loadAlarms (bits : BitVec 256) (w : Twi) : Twi :=
  let one (k : Nat) (v : Twi) : Twi :=
    if fld bits (64 * k) 64 = fld w.alSet (64 * k) 64 then v else setAlarmSt k { armed := true } v
  { one 1 (one 0 w) with alReg := bits, alSet := bits }

/-- Bytes entered in the write buffer from offset `off` (R463). -/
def fillBuffer (off : Nat) (data : List Byte) (w : Twi) : Twi :=
  { w with wbuf := (data.zipIdx).foldl (fun t e => tabSet none t (off + e.2) (some e.1)) w.wbuf }

/-- BRAM_COMMIT: the write buffer becomes effective whole (R445, R463). -/
def bramCommit (w : Twi) : Twi :=
  { w with bram := w.wbuf.foldl (fun t e => match e.2 with
                                   | some b => tabSet 0#8 t e.1 b
                                   | none => t) w.bram
           wbuf := [] }

/-- Bytes of the backup RAM. -/
def bramRead (off len : Nat) (w : Twi) : List Byte := (List.range len).map fun k => tabGet 0#8 w.bram (off + k)

/-- FIRED of an alarm after a write of `one` to it: a 1 clears the bit, unless the alarm fired in the same frame (R9, R449). -/
def firedWrite (one : Bool) (a : RtcAlarm) : RtcAlarm := { a with fired := a.fired && (a.fresh || !one) }

/-- A frame opens: the firings before are no longer of its frame. -/
def twiNewFrame (w : Twi) : Twi := { w with a0 := { w.a0 with fresh := false }, a1 := { w.a1 with fresh := false } }

/-- A write to a register without an action of its own (R448). -/
def twiWrite (off v : Nat) (w : Twi) : Twi :=
  if 0x10 ≤ off ∧ off < 0x1C ∧ off % 4 = 0 then
    let sh := 8 * (off - 0x10)
    { w with stage := w.stage - stF w.stage sh 32 * 2 ^ sh + v % 2 ^ 32 * 2 ^ sh }
  else if 0x20 ≤ off ∧ off < 0x40 ∧ off % 4 = 0 then { w with alReg := setFld w.alReg (8 * (off - 0x20)) 32 v }
  else if off = 0x0C then
    { w with a0 := firedWrite (v.testBit 13) w.a0, a1 := firedWrite (v.testBit 14) w.a1 }
  else if 0x80 ≤ off ∧ off < 0x100 ∧ off % 4 = 0 then fillBuffer (off - 0x80) (toBytes 4 v) w
  else w

/-- A read of offset 00h (R450). -/
def rtcFreeze (now : Nat) (w : Twi) : Twi :=
  let w1 := { w with torn := false }
  { w1 with shadow := timeBlock now false w1, frozenAt := some now }

/-- A read of offset 0Ch (R450). -/
def rtcRelease (w : Twi) : Twi := { w with frozenAt := none }

/-- A freeze not released within 2 ms (R450). -/
def rtcFreezeTimeout (now : Nat) (w : Twi) : Twi :=
  match w.frozenAt with
  | some a => if a + msC 2 ≤ now then { w with frozenAt := none, torn := true } else w
  | none => w

/-- The contents of a domain that powers on after R446; its supply state stays. -/
def twiLost (now : Nat) (w : Twi) : Twi := { locked := w.locked, onBackup := w.onBackup, subsecAt := now }

end Sys2Proof.Machine
end

