-- ==== Sys2Proof/Machine/Ops.lean ====
section
/-! DEFINITION. Operations that every meaning shares: updates of one part of the state, the passing of time, the events
of the unit, entries of asynchronous inputs, and CELL_STAT. -/

namespace Sys2Proof.Machine

/-! ## Updates of one part -/

def State.modFr (f : FrameClk → FrameClk) (s : State) : State := { s with fr := f s.fr }
def State.modCfg (f : CfgPart → CfgPart) (s : State) : State := { s with cfg := f s.cfg }
def State.modInp (f : InPart → InPart) (s : State) : State := { s with inp := f s.inp }
def State.modBlks (f : BlkPart → BlkPart) (s : State) : State := { s with blks := f s.blks }
def State.modEng (f : EngPart → EngPart) (s : State) : State := { s with eng := f s.eng }
def State.modSafe (f : SafePart → SafePart) (s : State) : State := { s with safe := f s.safe }
def State.modAlm (f : AlmPart → AlmPart) (s : State) : State := { s with alm := f s.alm }
def State.modRecd (f : Recorder → Recorder) (s : State) : State := { s with recd := f s.recd }
def State.modCan (f : CanPart → CanPart) (s : State) : State := { s with can := f s.can }
def State.modPort (f : PortPart → PortPart) (s : State) : State := { s with port := f s.port }
def State.modTwi (f : Twi → Twi) (s : State) : State := { s with twi := f s.twi }
def State.modUnt (f : UnitPart → UnitPart) (s : State) : State := { s with unt := f s.unt }
def State.modPower (f : Power → Power) (s : State) : State := s.modUnt fun u => { u with power := f u.power }
def State.modPair (f : Pair → Pair) (s : State) : State := s.modUnt fun u => { u with pair := f u.pair }
def State.modMdiag (f : ModDiag → ModDiag) (s : State) : State := s.modUnt fun u => { u with mdiag := f u.mdiag }
/-- The run mode changes. -/
def State.setMode (m : RunMode) (s : State) : State := { s with mode := m }
/-- The phase of the frame changes. -/
def State.setPhase (p : Phase) (s : State) : State := { s with phase := p }

/-! ## Entries of the tables -/

/-- Acquisition state of channel `c`. -/
def State.acqOf (s : State) (c : Nat) : AcqCh := tabGet {} s.blks.acq c
/-- Sequencer of block `b`. -/
def State.seqOf (s : State) (b : Nat) : BlkAcq := tabGet {} s.blks.seqr b
/-- Block `b`. -/
def State.blkOf (s : State) (b : Nat) : Blk := tabGet {} s.blks.blk b
/-- DI or PI cell `c`. -/
def State.digOf (s : State) (c : Nat) : DigCell := tabGet {} s.blks.dig c
/-- Output cell `c`. -/
def State.outOf (s : State) (c : Nat) : OutCell := tabGet {} s.blks.out c
/-- AO-I cell `c`. -/
def State.loopOf (s : State) (c : Nat) : LoopCell := tabGet {} s.blks.loop c
/-- Diagnostics of cell `c`. -/
def State.cellOf (s : State) (c : Nat) : CellDiag := tabGet {} s.blks.cell c
/-- Diagnostics of block `b`. -/
def State.bdiagOf (s : State) (b : Nat) : BlkDiag := tabGet {} s.blks.diag b
/-- Diagnostics of region `g`. -/
def State.regOf (s : State) (g : Nat) : RegDiag := tabGet {} s.unt.regs g
/-- Port `i`. -/
def State.portOf (s : State) (i : Nat) : PortSt := tabGet {} s.port.st i
/-- Session of the port with owner code `k`. -/
def State.sessOf (s : State) (k : Nat) : Session := tabGet {} s.port.sess k
/-- Controller `k`. -/
def State.ctlOf (s : State) (k : Nat) : CanCtl := tabGet {} s.can.ctls k
/-- Message object `o`. -/
def State.objOf (s : State) (o : Nat) : CanObj := tabGet {} s.can.objs o

def State.modAcq (c : Nat) (f : AcqCh → AcqCh) (s : State) : State := s.modBlks fun b => { b with acq := tabMod {} b.acq c f }
def State.modSeq (k : Nat) (f : BlkAcq → BlkAcq) (s : State) : State := s.modBlks fun b => { b with seqr := tabMod {} b.seqr k f }
def State.modBlk (k : Nat) (f : Blk → Blk) (s : State) : State := s.modBlks fun b => { b with blk := tabMod {} b.blk k f }
def State.modDig (c : Nat) (f : DigCell → DigCell) (s : State) : State := s.modBlks fun b => { b with dig := tabMod {} b.dig c f }
def State.modOut (c : Nat) (f : OutCell → OutCell) (s : State) : State := s.modBlks fun b => { b with out := tabMod {} b.out c f }
def State.modLoop (c : Nat) (f : LoopCell → LoopCell) (s : State) : State := s.modBlks fun b => { b with loop := tabMod {} b.loop c f }
def State.modCell (c : Nat) (f : CellDiag → CellDiag) (s : State) : State := s.modBlks fun b => { b with cell := tabMod {} b.cell c f }
def State.modBdiag (k : Nat) (f : BlkDiag → BlkDiag) (s : State) : State := s.modBlks fun b => { b with diag := tabMod {} b.diag k f }
def State.modModem (k : Nat) (f : Modem → Modem) (s : State) : State := s.modBlks fun b => { b with modem := tabMod {} b.modem k f }
def State.modReg (g : Nat) (f : RegDiag → RegDiag) (s : State) : State := s.modUnt fun u => { u with regs := tabMod {} u.regs g f }
def State.modPortSt (i : Nat) (f : PortSt → PortSt) (s : State) : State := s.modPort fun p => { p with st := tabMod {} p.st i f }
def State.modSess (k : Nat) (f : Session → Session) (s : State) : State := s.modPort fun p => { p with sess := tabMod {} p.sess k f }
def State.modOwner (f : Owner → Owner) (s : State) : State := s.modPort fun p => { p with owner := f p.owner }
def State.modCtl (k : Nat) (f : CanCtl → CanCtl) (s : State) : State := s.modCan fun c => { c with ctls := tabMod {} c.ctls k f }
def State.modObj (o : Nat) (f : CanObj → CanObj) (s : State) : State := s.modCan fun c => { c with objs := tabMod {} c.objs o f }
def State.modIso (k : Nat) (f : IsoTp → IsoTp) (s : State) : State := s.modCan fun c => { c with iso := tabMod {} c.iso k f }

/-- A table with every listed entry changed by `f`, in canonical form. -/
def tabMap {α : Type} [DecidableEq α] (d : α) (f : Nat → α → α) (t : Tab α) : Tab α :=
  t.foldl (fun r e => tabSet d r e.1 (f e.1 e.2)) []

/-- The entries of a table for the keys `ks` changed by `f`. -/
def tabMods {α : Type} [DecidableEq α] (d : α) (ks : List Nat) (f : Nat → α → α) (t : Tab α) : Tab α :=
  ks.foldl (fun r k => tabMod d r k (f k)) t

/-! ## Time -/

/-- Time passes to the instant `t`; it never runs backwards. -/
def State.tick (t : Nat) (s : State) : State := { s with now := max s.now t }

/-- A happening at `t` that needs the operands to exist (`ok`), and acts by `f` where its condition `cond` holds. Where the
condition does not hold the happening has not come about, and only time passes (log 2). -/
def act (ok : Bool) (t : Nat) (cond : State → Bool) (f : State → State) (s : State) : Out :=
  if ok then
    let s1 := s.tick t
    .next (if cond s1 then f s1 else s1)
  else .fault .noSuchUnit

/-- The unit runs frames. -/
def State.live (s : State) : Bool := decide (s.mode = .running)
/-- The unit is powered: it runs, waits for its role or holds in start-up. -/
def State.awake (s : State) : Bool :=
  decide (s.mode = .running) || decide (s.mode = .deciding) || decide (s.mode = .held)
/-- The Zenith controller runs: in operation, and from the load of its firmware on (R297, R495, R503). -/
def State.zenithRuns (s : State) : Bool := decide (s.mode = .running) || decide (s.mode = .deciding)
/-- Running image. -/
def State.im (s : State) : Image := s.cfg.image
/-- The image under which block `b` runs: the one before the latest commit until the block has latched at its strobe (R93). -/
def State.bim (s : State) (b : Nat) : Image := if s.blks.behind.testBit b then s.blks.was else s.cfg.image
/-- The image under which the cell of channel `c` runs. -/
def State.cim (s : State) (c : Nat) : Image := s.bim (c / 8)
/-- Frame period P in force. -/
def State.P (s : State) : Nat := imPeriod s.cfg.image
/-- Operating milliseconds at an instant (R297). -/
def State.opMs (s : State) (t : Nat) : Nat := s.opBase + (t - s.opFrom) / 400000
/-- The module is a witness: its licence is the witness licence (R2). -/
def State.isWitness (s : State) : Bool := s.unt.ident.witness
/-- The unit is a unit of a pair (R2, R418). -/
def State.paired (s : State) : Bool := paEn s.im && !s.isWitness
/-- The unit is unit B of a pair (R343, R366, R413). -/
def State.unitB (s : State) : Bool := s.paired && s.unt.pair.unitB
/-- At least one lane of the Contrail link is up (R424). -/
def State.linkUp (s : State) : Bool := s.unt.pair.lane0.up || s.unt.pair.lane1.up
/-- Blocks leave over the Contrail link while it is up (R425). -/
def State.linkSend (l : List ContrailBlock) (s : State) : State :=
  if s.paired && s.linkUp then s.modPort fun p => { p with wire := p.wire ++ l.map .link } else s
/-- What the active sends to its standby. -/
def State.activeSends (l : List ContrailBlock) (s : State) : State := if s.unt.pair.role = 1 then s.linkSend l else s
/-- A standby that computes frames takes their inputs from the active (R428, R439). -/
def State.follows (s : State) : Bool := decide (s.unt.pair.role = 2) && decide (2 ≤ s.unt.pair.sync)
/-- An UNSYNCHRONISED standby computes no frames (R430). -/
def State.idleStandby (s : State) : Bool := decide (s.unt.pair.role = 2) && decide (s.unt.pair.sync < 2)
/-- The enable flag of the downstream symbols (R419, R435, R500, R70). -/
def State.flagOn (s : State) : Bool :=
  s.live && !s.port.replay &&
    (match s.unt.pair.role with
    | 0 => decide (1 ≤ s.fr.frameNo)
    | 1 => (match s.unt.pair.cold with
      | some n => decide (n ≤ s.fr.frameNo)
      | none => true) && decide (1 ≤ s.fr.frameNo)
    | _ => false)

/-! ## Events of the unit (R294, R299, R519) -/

/-- The stamp of a record raised at `t`. Before frame 0 opens it carries PRESTART and frame 0. -/
def State.stamp (s : State) (t : Nat) : EvRec :=
  { opS := s.opMs t / 1000, opMs := s.opMs t % 1000, standby := decide (s.unt.pair.role = 2), replay := s.port.replay
    prestart := !s.live, pwr := s.recd.pwr % 65536, frameLo := if s.live then s.fr.frameNo % 2 ^ 32 else 0 }

/-- Insertion by ascending event code, then source. -/
def evInsert (e : EvReq) : List EvReq → List EvReq
  | [] => [e]
  | x :: r => if e.code * 65536 + e.src < x.code * 65536 + x.src then e :: x :: r else x :: evInsert e r

/-- A record of an event request on a stamp. -/
def EvRec.fill (e : EvReq) (b : EvRec) : EvRec := { b with code := e.code, src := e.src, p1 := e.p1, p2 := e.p2, p3 := e.p3 }

/-- Unit events raised in one Zenith cycle are admitted in ascending code, then source (R519, R304). Nothing is recorded while the
Zenith controller does not run (R298). -/
def State.unitEvs (es : List EvReq) (s : State) : State :=
  let st := s.stamp s.now
  let sorted := es.foldl (fun l e => evInsert e l) []
  if s.zenithRuns then s.modRecd fun q => admitAll st (sorted.map fun e => EvRec.fill e { st with unit := true }) q else s

/-- Unit events of a start-up before strobe 0 (R294, R299). -/
def State.preEvs (es : List EvReq) (s : State) : State :=
  let st := { s.stamp s.now with unit := true, prestart := true, frameLo := 0 }
  s.modRecd fun q => admitAll st (es.map fun e => EvRec.fill e st) q

/-- Frame events of the open frame, stamped at its strobe (R299). -/
def State.frameEvs (es : List EvReq) (s : State) : State :=
  let st := { s.stamp s.fr.strobeAt with poisoned := decide (s.eng.poison ≠ 0) }
  s.modRecd fun q => admitAll (s.stamp s.now) (es.map fun e => EvRec.fill e st) q

/-! ## Entries of asynchronous inputs (R52 to R56) -/

/-- The unit stamps inputs of an order code: a standby takes its inputs from the active (R57), and a node in replay takes all
but command packets from the trace (R70, R326). -/
def State.stamps (s : State) (order : Nat) : Bool := decide (s.unt.pair.role ≠ 2) && (!s.port.replay || decide (order = 5))

/-- An input with order code and index is stamped now and gathers for a frame. Its SOURCE_SEQ is the count of inputs that its
source, the order code with the index, has stamped before it (log 62). -/
def State.stampEntry (order index : Nat) (body : EntryBody) (s : State) : State :=
  let k := order * 1024 + index
  if s.stamps order then
    s.modInp fun i => { i with
      gather := i.gather ++ [{ stamp := s.now, order := order, index := index, seq := tabGet 0 i.srcSeq k, body := body }]
      srcSeq := tabMod 0 i.srcSeq k fun n => wrapN 32 (n + 1) }
  else s

/-- A change-of-state edge of channel `c` is stamped `bt` block clock cycles after the latch, in place `k` of its queue; its
SOURCE_SEQ counts the stamped edges of the channel (R56, R192). -/
def State.stampEdge (c : Nat) (st : Bool) (bt k : Nat) (s : State) : State :=
  let key := 1 * 1024 + c
  s.modInp fun i => { i with
    cosNext := i.cosNext ++ [{ ch := c, state := st, off := bt, place := k, seq := tabGet 0 i.srcSeq key }]
    srcSeq := tabMod 0 i.srcSeq key fun n => wrapN 32 (n + 1) }

/-- Payload bytes of an entry. -/
def EntryBody.size : EntryBody → Nat
  | .packet _ _ _ b => b.length
  | .can _ m => m.data.length
  | .hart _ b => b.length
  | .dsc _ b => b.length
  | .rtc _ _ => 4

/-- Bytes an entry takes in the frame image (R55, R56). -/
def Entry.room (e : Entry) : Nat := 16 + 4 * ceilDiv e.body.size 4

/-- `a` comes before `b` in entry order (R54). -/
def Entry.before (a b : Entry) : Bool :=
  decide (a.stamp < b.stamp) || (decide (a.stamp = b.stamp) && (decide (a.order < b.order) ||
    (decide (a.order = b.order) && (decide (a.index < b.index) || (decide (a.index = b.index) && decide (a.seq < b.seq))))))

/-- Insertion in entry order. -/
def entryInsert (e : Entry) : List Entry → List Entry
  | [] => [e]
  | x :: r => if Entry.before e x then e :: x :: r else x :: entryInsert e r

/-- Entries in entry order. -/
def entrySort (l : List Entry) : List Entry := l.foldl (fun r e => entryInsert e r) []

/-- The longest front of a list whose entries fit `room` bytes, and the rest (R55). -/
def fitEntries : Nat → List Entry → List Entry × List Entry
  | _, [] => ([], [])
  | room, e :: r =>
    if e.room ≤ room then
      let x := fitEntries (room - e.room) r
      (e :: x.1, x.2)
    else ([], e :: r)

/-! ## CELL_STAT (R513) -/

/-- The outputs of block `b` are withheld by the enable flag (R419). -/
def State.withheldBlk (s : State) (b : Nat) : Bool := (s.blkOf b).withheld || !s.flagOn

/-- CELL_STAT of channel `c` at a latch. -/
def State.cellStat (s : State) (c : Nat) : Nat :=
  let b := c / 8
  let q := s.seqOf b
  let d := s.cellOf c
  pack [(1, b2n d.downErr), (1, b2n d.therm), (1, b2n (s.blkOf b).islandPwr), (1, b2n (blkConvFaultBit q)),
    (1, b2n (q.exc0.fault || q.exc1.fault)), (1, b2n q.mism.fault), (1, b2n (s.withheldBlk b)), (1, b2n (s.outOf c).silent)]
where
  /-- CONV_FAULT of the block (R124). -/
  blkConvFaultBit (q : BlkAcq) : Bool := q.t0.fault || q.t1.fault || q.t2.fault || q.t3.fault

/-- Place of CELL_STAT in a latched record: its last 16 bits in every mode. -/
def recStat (r : Rec) : Nat := fld r 112 16

/-- Channels of block `b`. -/
def blkChannels (b : Nat) : List Nat := (List.range 8).map (8 * b + ·)

/-- The mode is an output mode. -/
def isOutMode (m : Nat) : Bool := decide (m = 6) || decide (m = 8)

end Sys2Proof.Machine
end

