-- ==== Sys2Proof/Machine/Ports.lean ====
section
/-! DEFINITION. Ethernet and serial ports (chapter 15): ARP, IPv4 and UDP, reassembly, SER0 framing and the Modbus
RTU server. -/

namespace Sys2Proof.Machine

/-! ## Addresses and ARP (R364, R366) -/

/-- The IPv4 address a port uses (R366). -/
def portIp (im : Image) (unitB : Bool) (i : Nat) : Nat := if unitB then poIpB im i else poIpA im i

/-- Two addresses lie in the port's subnet. -/
def sameNet (im : Image) (i a b : Nat) : Bool := decide (a &&& poNetmask im i = b &&& poNetmask im i)

/-- The next hop of port `i`, at address `own`, for a destination; 0 when there is none (R366). -/
def nextHop (im : Image) (own i dst : Nat) : Nat := if sameNet im i own dst then dst else poGateway im i

/-- The MAC that an ARP cache holds for an address. -/
def arpFind (p : PortSt) (ip : Nat) : Option Nat := (p.arp.find? fun e => decide (e.ip = ip)).map (·.mac)

/-- The entry with the earliest confirmation removed. -/
def arpDropOldest (l : List ArpEntry) : List ArpEntry :=
  match l.foldl (fun (o : Option ArpEntry) e => match o with
      | none => some e
      | some x => if e.since < x.since then some e else some x) none with
  | none => l
  | some x => l.erase x

/-- An address is confirmed with a MAC; 16 entries, the oldest replaced (R366). -/
def arpLearn (now ip mac : Nat) (p : PortSt) : PortSt :=
  let rest := p.arp.filter fun e => decide (e.ip ≠ ip)
  let kept := if 16 ≤ rest.length then arpDropOldest rest else rest
  { p with arp := kept ++ [{ ip := ip, mac := mac, since := now }] }

/-! ## Datagrams (R366, R368) -/

/-- One's complement sum of 16-bit big-endian words. -/
def onesSum : List Byte → Nat → Nat
  | [], a => a
  | [x], a => let s := a + x.toNat * 256; s % 65536 + s / 65536
  | x :: y :: r, a => let s := a + x.toNat * 256 + y.toNat; onesSum r (s % 65536 + s / 65536)

/-- Big-endian bytes. -/
def beBytes (n v : Nat) : List Byte := (toBytes n v).reverse
/-- A number from big-endian bytes. -/
def beNat (b : List Byte) : Nat := ofBytes b.reverse

/-- MAC of port `i` on a base address held first octet lowest: the base address plus the port index, first octet highest (R364). -/
def macOf (base i : Nat) : Nat := (beNat (toBytes 6 base) + i) % 2 ^ 48

/-- UDP header and data of a datagram, with the checksum of RFC 768. -/
def udpBytes (src sport dst dport : Nat) (data : List Byte) : List Byte :=
  let len := data.length + 8
  let pseudo := beBytes 4 src ++ beBytes 4 dst ++ beBytes 2 17 ++ beBytes 2 len
  let sum := onesSum (pseudo ++ beBytes 2 sport ++ beBytes 2 dport ++ beBytes 2 len ++ data) 0
  let chk := if sum = 65535 then 65535 else 65535 - sum
  beBytes 2 sport ++ beBytes 2 dport ++ beBytes 2 len ++ beBytes 2 chk ++ data

/-- Fragments of an IP payload, 1,480 bytes each except the last (R368). -/
def fragmentsFrom (src dst : Nat) : Nat → Nat → List Byte → List EthOut
  | 0, _, _ => []
  | n + 1, off, b =>
    if b.length ≤ 1480 then [.fragment src dst off false b]
    else .fragment src dst off true (b.take 1480) :: fragmentsFrom src dst n (off + 1480) (b.drop 1480)

/-- The frames of a datagram: one while its data fit 1,472 bytes, and fragments otherwise (R365, R368). -/
def datagramOut (src dst : Nat) (x : IpBody) : List EthOut :=
  match x with
  | .echo _ => [.ip src dst x]
  | .udp sport dport data =>
    if data.length ≤ 1472 then [.ip src dst x] else fragmentsFrom src dst 8 0 (udpBytes src sport dst dport data)

/-- Source UDP port of a datagram from port 47200 or 47201. -/
def sourcePort (dsc : Bool) : Nat := if dsc then 47201 else 47200

/-- What a port knows of itself when it sends: its index, its address in use, its MAC, and the transmit opportunity it takes
(R363, R364, R366). -/
structure EthSelf where
  port : Nat
  ip   : Nat
  mac  : Nat
  slot : Option Nat
  deriving DecidableEq, Repr

/-- A frame of the port to a MAC. -/
def EthSelf.frame (e : EthSelf) (dst : Nat) (f : EthOut) : PortOut := .eth e.port dst e.mac e.slot f

/-- The MAC that every station hears. -/
abbrev broadcastMac : Nat := 0xFFFFFFFFFFFF

/-- Send a datagram from `src` to `dst`: at once when the MAC of the next hop is known, else it waits for ARP. A port without an
address, or without a next hop, sends none (R366). -/
def ethSend (im : Image) (e : EthSelf) (now src dst : Nat) (x : IpBody) (p : PortSt) : PortSt × List PortOut :=
  let hop := nextHop im e.ip e.port dst
  if hop = 0 ∨ e.ip = 0 then (p, [])
  else match arpFind p hop with
    | some m => (p, (datagramOut src dst x).map (e.frame m))
    | none => ({ p with waits := p.waits ++ [{ hop := hop, since := now, src := src, dst := dst, body := x }] },
               [e.frame broadcastMac (.arpRequest e.ip hop)])

/-- Datagrams that waited for an address now known at `mac`. -/
def arpFlush (e : EthSelf) (ip mac : Nat) (p : PortSt) : PortSt × List PortOut :=
  let go := p.waits.filter fun w => decide (w.hop = ip)
  ({ p with waits := p.waits.filter fun w => decide (w.hop ≠ ip) },
    go.flatMap fun w => (datagramOut w.src w.dst w.body).map (e.frame mac))

/-- Bytes of an Ethernet frame, its header and frame check counted (R362). -/
def etherSize : EthMsg → Nat
  | .bad => 64
  | .arpRequest _ _ _ => 64
  | .arpReply _ _ _ => 64
  | .echoRequest _ _ d => max 64 (46 + d.length)
  | .udp _ _ _ _ d => max 64 (46 + d.length)
  | .fragment _ _ _ _ _ d => max 64 (38 + d.length)

/-- Bytes that wait in a receive queue. -/
def rxBytes (l : List RxItem) : Nat :=
  (l.map fun x => match x with
    | .frame m => etherSize m
    | .message b => b.length).sum

/-- A speed that port `i` can come up with: 10BASE-T1S on ETH2, and on ETH0 and ETH1 what LINK selects (R362, R376). -/
def linkSpeed (im : Image) (i speed : Nat) : Bool :=
  if i = 2 then decide (speed = 1)
  else match poLink im i with
    | 0 => decide (speed = 2) || decide (speed = 3)
    | 1 => decide (speed = 2)
    | _ => decide (speed = 3)

/-- Transmit opportunity timer of ETH2 in bit times (R363). -/
def plcaTimerOf (im : Image) : Nat := if poPlcaTo im 2 = 0 then 32 else poPlcaTo im 2

/-- Node count of ETH2's segment: a coordinator sets PLCA_CNT, and a follower takes the count of the BEACON (R363). -/
def plcaCount (im : Image) (beacon : Nat) : Nat := if poPlcaId im 2 = 0 then poPlcaCnt im 2 else beacon

/-- The bytes of a reassembled IP payload, when no fragment is missing (R368). -/
def joinParts : Nat → Nat → List (Nat × Bool × List Byte) → Option (List Byte)
  | 0, _, _ => none
  | n + 1, off, ps =>
    match ps.find? fun q => decide (q.1 = off) with
    | none => none
    | some (_, more, b) => if more then (joinParts n (off + b.length) ps).map (b ++ ·) else some b

/-- A fragment arrives (R368): the port, and the whole IP payload when it is complete. One datagram per source,
at most 6 fragments. -/
def reasmAdd (now src ident off : Nat) (more : Bool) (data : List Byte) (p : PortSt) : PortSt × Option (List Byte) :=
  let old := p.reasm.find? fun r => decide (r.src = src)
  let others := p.reasm.filter fun r => decide (r.src ≠ src)
  let same := match old with
    | some r => decide (r.ident = ident)
    | none => false
  let cur := if same then old.getD {} else { src := src, ident := ident, since := now }
  let drop := old.isSome && !same
  let p1 := if drop then { p with fragDrop := inc16 p.fragDrop } else p
  if 6 ≤ cur.parts.length then ({ p1 with reasm := others, fragDrop := inc16 p1.fragDrop }, none)
  else
    let r := { cur with parts := cur.parts ++ [(off, more, data)] }
    match joinParts 7 0 r.parts with
    | some b => ({ p1 with reasm := others }, some b)
    | none => ({ p1 with reasm := others ++ [r] }, none)

/-- Reassemblies not complete 250 ms after their first fragment are discarded and counted (R368). -/
def reasmDrop (now src : Nat) (p : PortSt) : PortSt :=
  let late := p.reasm.any fun r => decide (r.src = src) && decide (r.since + msC 250 ≤ now)
  if late then { p with reasm := p.reasm.filter fun r => decide (r.src ≠ src), fragDrop := inc16 p.fragDrop } else p

/-! ## SER0 (R371, R372) -/

/-- The packet bytes between two flags; `none` for a bad escape or more than 8,192 bytes (R372). -/
def serUnstuff : List Byte → Option (List Byte)
  | [] => some []
  | x :: r =>
    if x = 0x7D#8 then
      match r with
      | y :: r' =>
        if y = 0x5E#8 then (serUnstuff r').map (0x7E#8 :: ·)
        else if y = 0x5D#8 then (serUnstuff r').map (0x7D#8 :: ·)
        else none
      | [] => none
    else (serUnstuff r).map (x :: ·)

/-- A packet as one SER0 frame (R372). -/
def serStuff (b : List Byte) : List Byte :=
  [0x7E#8] ++ (b.flatMap fun x => if x = 0x7E#8 then [0x7D#8, 0x5E#8] else if x = 0x7D#8 then [0x7D#8, 0x5D#8] else [x]) ++ [0x7E#8]

/-! ## Modbus RTU (R374, R375) -/

/-- One bit of the Modbus CRC-16. -/
def mbBit (c : Nat) : Nat := if c % 2 = 1 then (c / 2) ^^^ 0xA001 else c / 2
/-- Modbus CRC-16 of a frame. -/
def mbCrc (b : List Byte) : Nat :=
  b.foldl (fun c x => let y := c ^^^ x.toNat
                      mbBit (mbBit (mbBit (mbBit (mbBit (mbBit (mbBit (mbBit y)))))))) 0xFFFF

/-- A frame with its CRC, low byte first. -/
def mbFrame (b : List Byte) : List Byte := b ++ toBytes 2 (mbCrc b)

/-- The response to a request: its bytes, and whether it is an exception. `reg` gives the registers of the map. -/
def mbAnswer (addr : Nat) (reg : Nat → Option Nat) (b : List Byte) : Option (List Byte × Bool) :=
  let n := b.length
  if n < 4 ∨ mbCrc (b.take (n - 2)) ≠ ofBytes (b.drop (n - 2)) ∨ nth b 0 ≠ addr ∨ addr = 0 then none
  else
    let fn := nth b 1
    let exc (c : Nat) : Option (List Byte × Bool) :=
      some (mbFrame [BitVec.ofNat 8 addr, BitVec.ofNat 8 (128 + fn), BitVec.ofNat 8 c], true)
    if fn = 3 ∨ fn = 4 then
      if n ≠ 8 then none
      else
        let first := beNat ((b.drop 2).take 2)
        let q := beNat ((b.drop 4).take 2)
        if q = 0 ∨ 125 < q then exc 3
        else
          let rs := (List.range q).map fun k => reg (first + k)
          if rs.any (·.isNone) then exc 2
          else some (mbFrame ([BitVec.ofNat 8 addr, BitVec.ofNat 8 fn, BitVec.ofNat 8 (2 * q)] ++
            rs.flatMap fun r => beBytes 2 (r.getD 0)), false)
    else if fn = 8 ∧ (b.drop 2).take 2 = [0#8, 0#8] then some (b, false)
    else exc 1

/-! ## Status block (R379) -/

/-- The 32 bytes of a port's status. -/
def portBlock (tpDrop : Nat) (p : PortSt) : List Byte :=
  packBytes 32 [(16, p.rxQueueFull), (16, p.rxFrameErr), (16, p.noMatch), (16, p.hostReject), (16, p.fragDrop), (16, p.pktDiscard),
    (16, p.serAbort), (16, p.mbExcept), (16, tpDrop), (1, b2n p.linkUp), (1, b2n p.plca), (2, p.speed)]

/-- The counters of R379 cleared (R340). -/
def portClear (p : PortSt) : PortSt :=
  { p with rxQueueFull := 0, rxFrameErr := 0, noMatch := 0, hostReject := 0, fragDrop := 0, pktDiscard := 0, serAbort := 0
           mbExcept := 0, tpDrop := 0 }

end Sys2Proof.Machine
end

