-- ==== Sys2Proof/Machine/SafeFns.lean ====
section
/-! DEFINITION. Safety functions (chapter 08): the passes of a Nimbus engine over one function. Both
engines run the same rules on their own state; they meet only in the exchange records. -/

namespace Sys2Proof.Machine

/-! ## States (R226) -/

abbrev sfDisabled : Nat := 0
abbrev sfUnconfirmed : Nat := 1
abbrev sfStartTest : Nat := 2
abbrev sfDemand : Nat := 3
abbrev sfResetWait : Nat := 4
abbrev sfReleased : Nat := 5
abbrev sfFault : Nat := 6

/-- What an engine reads of one input channel's result: value, BAD, HELD and STATE (R217, R220). -/
structure SafeInput where
  v     : Int := 0
  bad   : Bool := true
  held  : Bool := true
  state : Bool := false
  deriving DecidableEq, Repr

/-- The channel result of a DI, PI or analog channel as a safety input. -/
def safeInput (mode : Nat) (res : Option Rec) : SafeInput :=
  match res with
  | none => {}
  | some r =>
    if mode = 7 then
      { v := fld r 0 1, bad := decide (fld r 2 2 = qBad), held := bit r 10, state := bit r 0 }
    else if mode = 9 then
      { v := fldI r 0 32, bad := decide (fld r 64 2 = qBad), held := bit r 73, state := bit r 66 }
    else { v := fldI r 0 32, bad := decide (fld r 64 2 = qBad), held := bit r 71 }

/-- DIR of R218 from both records and FREQ_A of frame n − 1; every δ is taken times FREQ_A, so that
Tp × FREQ_A is 1,024,000,000. -/
def safeDir (recA recB : Rec) (freqA old : Nat) : Nat :=
  let k : Int := 1024000000
  if 1 ≤ fld recA 32 32 ∧ 1 ≤ fld recB 32 32 ∧ 0 < freqA then
    let dl := (((fld recB 80 16 : Int) - fld recA 80 16) * freqA) % k
    let df := (((fld recB 64 16 : Int) - fld recA 64 16) * freqA) % k
    let within (a b x : Int) : Bool := decide (a * k ≤ 8 * x) && decide (8 * x ≤ b * k)
    if within 1 3 dl && within 1 3 df then 1
    else if within 5 7 dl && within 5 7 df then 2
    else 3
  else old

/-- d of one engine (R217). -/
def safeDemand (im : Image) (f dir : Nat) (i : SafeInput) : Bool :=
  i.bad || (match sfType im f with
    | 0 => !i.state
    | 1 => decide (sfLimitHi im f < i.v)
    | 2 => decide (i.v < sfLimitLo im f) || decide (sfLimitHi im f < i.v)
    | _ => decide (dir = (if sfAllow im f = 1 then 2 else 1)) && decide (sfLimitLo im f ≤ i.v))

/-- The discrepancy condition of R217 on both exchange records. -/
def safeDisc (im : Image) (f : Nat) (a b : Exch) : Bool :=
  if sfType im f = 0 then decide (a.d ≠ b.d)
  else decide (a.bad ≠ b.bad) || (!a.bad && !b.bad && decide ((sfDiscTol im f : Int) < (a.v - b.v).natAbs))
    || (decide (sfType im f = 3) && decide (a.dir = 3))

/-- Pass 1 of R215 for one engine: `inp` its own input, `out` the record of its own output channel when it is
judged (not STALE, not the re-initialising record), `dir` DIR of the frame. -/
def safePass1 (im : Image) (f dir : Nat) (inp : SafeInput) (out : Option Rec) (s : SafeFn) : SafeFn × Exch :=
  let tf := match out with
    | some r => runFlag (bit r 11) s.tf
    | none => s.tf
  let st := match out with
    | some r => runFlag (!bit r 0 && bit r 1) s.st
    | none => s.st
  ({ s with tf := tf, st := st, dir := dir },
    { v := inp.v, bad := inp.bad, d := safeDemand im f dir inp, dir := dir, state := s.state, sw := s.sw, cnt := s.cnt
      tf := tf.on, st := st.on, termV := (out.map fun r => fld r 32 16).getD 0 })

/-- The field in which the exchange records differ (R216): 1 state, 2 SW, 3 cnt, 4 DIR, with both values. -/
def safeMismatch (im : Image) (f : Nat) (a b : Exch) : Option (Nat × Nat × Nat) :=
  if a.state ≠ b.state then some (1, a.state, b.state)
  else if a.sw ≠ b.sw then some (2, b2n a.sw, b2n b.sw)
  else if a.cnt ≠ b.cnt then some (3, a.cnt, b.cnt)
  else if sfType im f = 3 ∧ a.dir ≠ b.dir then some (4, a.dir, b.dir)
  else none

/-- What pass 2 takes from outside the function: the confirmation, frame timing and resets of the frame. -/
structure SafeCtx where
  P         : Nat
  confirmed : Bool
  /-- L(n − 2) + L(n − 1) (R233). -/
  sum       : Nat
  /-- Reset source of the frame: 0 none, 1 opcode, 2 RESET_CH, 3 both (R219, R237). -/
  reset     : Nat
  inA       : SafeInput
  inB       : SafeInput
  safetyCrc : Nat
  confCrc   : Nat
  deriving DecidableEq, Repr

/-- N_d of R221. -/
def safeNd (im : Image) (P f : Nat) : Nat := max 1 (framesOf P (msC (sfDiscTime im f)))

/-- SAFE_TIMING of R233. -/
def safeTiming (P sum : Nat) : Bool := decide (32 * P < 10 * sum)

/-- "Cause absent" of R229 for the set of causes. -/
def safeAbsent (causes : Nat) (disc mism tf st timing : Bool) : Bool :=
  !((causes.testBit 1 || causes.testBit 6) && disc) && !(causes.testBit 2 && mism) && !(causes.testBit 3 && tf)
    && !(causes.testBit 4 && st) && !(causes.testBit 5 && timing)

/-- The causes that rows 3 to 7 of R229 give in the frame, in row order. -/
def safeHits (im : Image) (f : Nat) (reach mism tset sset timing : Bool) (dir : Nat) : List Nat :=
  (if reach then [if sfType im f = 3 ∧ dir = 3 then 6 else 1] else []) ++ (if mism then [2] else []) ++
  (if tset then [3] else []) ++ (if sset then [4] else []) ++
  (if timing && sfTimeReact im f then [5] else [])

/-- The start-up test marks and its completion (R220): OPEN_A, OPEN_B, complete. -/
def safeMarks (c : SafeCtx) (s : SafeFn) : Bool × Bool × Bool :=
  let opens (i : SafeInput) : Bool := !i.state && !i.held && !i.bad
  let closed (i : SafeInput) : Bool := i.state && !i.held && !i.bad
  let a := s.openA || opens c.inA
  let b := s.openB || opens c.inB
  (a, b, a && b && closed c.inA && closed c.inB)

/-- The entry state of R228. -/
def safeEntry (im : Image) (f : Nat) (demand : Bool) : Nat :=
  if sfType im f = 0 then sfStartTest
  else if demand then sfDemand
  else if sfRestart im f then sfReleased else sfResetWait

/-- The state table of R229 outside entry frames, for an enabled and confirmed function: the new state and
the code of 0808h (0 none, 1 acknowledge, 2 safety reset, 3 spent). -/
def safeTable (im : Image) (f state : Nat) (hit absent demand done : Bool) (reset : Nat) : Nat × Nat :=
  let after := if sfRestart im f then sfReleased else sfResetWait
  let asked := decide (reset ≠ 0)
  let spent := if asked && (decide (state = sfResetWait) || decide (state = sfFault)) then 3 else 0
  if hit then (sfFault, spent)
  else if state = sfFault then
    if asked && absent then
      (if sfType im f = 0 then sfStartTest else if demand then sfDemand else sfReleased, 2)
    else (sfFault, spent)
  else if state = sfStartTest then (if done then after else sfStartTest, 0)
  else if (state = sfResetWait ∨ state = sfReleased) ∧ demand then (sfDemand, spent)
  else if state = sfDemand ∧ !demand then (after, 0)
  else if state = sfResetWait ∧ asked then (sfReleased, 1)
  else (state, 0)

/-- Pass 2 of R215 for one engine of function `f`: `own` its state, `a` and `b` the exchange records of
Nimbus-A and Nimbus-B. The events are those of R237, which Nimbus-A requests. -/
def safePass2 (im : Image) (f : Nat) (c : SafeCtx) (a b : Exch) (own : SafeFn) :
    SafeFn × List EvReq :=
  let prev := own.state
  if !sfEn im f then
    let ev := (if prev = sfUnconfirmed then
        [{ code := 0x080A, src := f, p1 := 1, p2 := c.safetyCrc, p3 := c.confCrc : EvReq }] else []) ++
      (if prev = sfDisabled then [] else [{ code := 0x0801, src := f, p1 := sfDisabled, p2 := prev }])
    ({ started := true }, ev)
  else
    let disc := safeDisc im f a b
    let demand := a.d || b.d
    let timing := safeTiming c.P c.sum
    let upd := own.started && decide (prev ≠ sfFault) && decide (prev ≠ sfDisabled) && decide (prev ≠ sfUnconfirmed)
    let cnt := if upd then (if disc then own.cnt + 1 else 0) else own.cnt
    let reach := upd && disc && decide (safeNd im c.P f ≤ cnt)
    let mism := safeMismatch im f a b
    let tset := (a.tf && !own.tfA) || (b.tf && !own.tfB)
    let sset := (a.st && !own.stA) || (b.st && !own.stB)
    let entry := !own.started || decide (prev = sfDisabled) || decide (prev = sfUnconfirmed)
    let m := if prev = sfStartTest then safeMarks c own else (own.openA, own.openB, false)
    let hits := if entry then [] else safeHits im f reach mism.isSome tset sset (timing && !own.timing) own.dir
    let absent := safeAbsent own.causes disc mism.isSome (a.tf || b.tf) (a.st || b.st) timing
    let r := if !c.confirmed then (sfUnconfirmed, 0)
      else if entry then (safeEntry im f demand, 0)
      else safeTable im f prev (!hits.isEmpty) absent demand m.2.2 c.reset
    let new := r.1
    let cause := if c.confirmed then hits.headD own.cause else own.cause
    let causes := if new ≠ sfFault then 0
      else hits.foldl (fun x k => x ||| 2 ^ k) (if prev = sfFault then own.causes else 0)
    let s := { own with
      started := true, state := new, cause := cause, causes := causes
      cnt := if prev = sfFault ∧ new ≠ sfFault then 0 else cnt
      openA := if new = sfStartTest then m.1 else false
      openB := if new = sfStartTest then m.2.1 else false
      demand := demand, disc := disc, timing := timing, tfA := a.tf, tfB := b.tf, stA := a.st, stB := b.st
      dA := a.d, dB := b.d, vA := a.v, vB := b.v }
    let va := s32 a.v
    let vb := s32 b.v
    let oc := sfOut im f
    let ev :=
      flagEvent 0x0802 f own.demand demand va vb ++ flagEvent 0x0803 f own.disc disc va vb ++
      (match mism with
        | some (k, x, y) => [{ code := 0x0804, src := f, p1 := k, p2 := x, p3 := y }]
        | none => []) ++
      (if a.tf && !own.tfA then [{ code := 0x0805, src := f, p1 := oc, p2 := a.termV }] else []) ++
      (if b.tf && !own.tfB then [{ code := 0x0805, src := f, p1 := oc + 1, p2 := b.termV }] else []) ++
      (if a.st && !own.stA then [{ code := 0x0806, src := f, p1 := oc, p2 := a.termV }] else []) ++
      (if b.st && !own.stB then [{ code := 0x0806, src := f, p1 := oc + 1, p2 := b.termV }] else []) ++
      flagEvent 0x0807 f own.timing timing c.sum (b2n (sfTimeReact im f)) ++
      (if r.2 = 0 then [] else [{ code := 0x0808, src := f, p1 := r.2, p2 := c.reset }]) ++
      (if m.2.2 && decide (new ≠ sfStartTest) && decide (new ≠ sfFault) && c.confirmed then [{ code := 0x0809, src := f }] else []) ++
      (if (new = sfUnconfirmed) = (prev = sfUnconfirmed) then []
        else [{ code := 0x080A, src := f, p1 := b2n (decide (new ≠ sfUnconfirmed)), p2 := c.safetyCrc, p3 := c.confCrc }]) ++
      (if new ≠ prev then [{ code := 0x0801, src := f, p1 := new, p2 := prev, p3 := if new = sfFault then cause else 0 }]
        else if new = sfFault ∧ cause ≠ own.cause then [{ code := 0x0801, src := f, p1 := 6, p2 := 6, p3 := cause }]
        else [])
    (s, ev)

/-- Pass 3 of R215: SW(n) of function `f`, given the states of the region's functions in this engine. -/
def safeSwitch (im : Image) (f : Nat) (state : Nat → Nat) : Bool :=
  sfEn im f && decide (state f = sfReleased) &&
    (maskBits (sfLink im f)).all fun j => decide (state (8 * (f / 8) + j) = sfReleased)

/-- The safety result of one engine (R236); `swA` and `swB` are the two switch commands of the frame. -/
def safeResult (im : Image) (f : Nat) (swA swB : Bool) (s : SafeFn) : Rec :=
  if !sfEn im f then 0#128
  else packRec [(4, s.state), (1, b2n s.dA), (1, b2n s.dB), (1, b2n swA), (1, b2n swB), (8, s.cause), (1, b2n s.disc),
    (1, b2n s.timing), (1, b2n s.openA), (1, b2n s.openB), (2, if sfType im f = 3 then s.dir else 0),
    (1, b2n s.tf.on), (1, b2n s.st.on), (8, 0), (32, s32 s.vA), (32, s32 s.vB), (16, satN 16 s.cnt)]

/-- The reset button of R219 in one frame: the release counts, and the button after the frame. -/
def buttonStep (P : Nat) (state held : Bool) (b : Button) : Bool × Button :=
  let counts := !state && b.state && !held && !b.held && decide (framesOf P (msC 100) ≤ b.run)
    && decide (b.run ≤ framesOf P (msC 5000))
  (counts, { state := state, held := held, run := if state && !held then b.run + 1 else 0 })

end Sys2Proof.Machine
end

