-- ==== Sys2Proof/Machine/Reads.lean ====
section
/-! DEFINITION. What commands read of the state: block fault bits, the status summary, detail blocks, and the status blocks of
the chapters. -/

namespace Sys2Proof.Machine

/-- 16 bytes of a record. -/
def recBytes (r : Rec) : List Byte := toBytes 16 r.toNat

/-! ## Common fault bit of a block (R512) -/

/-- Flags of R124, R183 and R212 that stand for channel `c` in the open frame. -/
def State.chanFault (s : State) (c : Nat) : Bool :=
  let r := tabGet 0#128 s.inp.recs c
  match chMode s.im c with
  | 0 => false
  | 6 => let a := tabGet {} s.eng.ao c
         a.loopOpen.on || a.compl.on || a.dev.on || a.foldEv || bit r 100
  | 7 => let a := tabGet {} s.eng.di c
         a.openW.on || a.short.on || a.csup.on || a.line.on || bit r 6
  | 8 => let a := tabGet {} s.eng.dout c
         a.overload.on || a.openLoad.on || a.shortSup.on || a.backfeed.on || a.thermal.on || a.testFail.on || bit r 7 || bit r 8 ||
           bit r 9
  | 9 => let a := tabGet {} s.eng.pi c
         a.openW.on || a.short.on || a.csup.on || a.isOver || bit r 6
  | _ => let a := tabGet {} s.eng.ana c
         a.evConv || a.evExc || a.evMism || a.evUnst || a.evBlank

/-- The common fault bit of block `b` in the open frame (R512). A STALE record was not latched at the strobe of this frame. -/
def State.blockFault (s : State) (b : Nat) : Bool :=
  (s.blkOf b).clkFault || (blkChannels b).any fun c =>
    (s.cellOf c).standing || s.chanFault c ||
      (decide (chMode s.im c ≠ 0) && !s.inp.stale.testBit c && decide (recStat (tabGet 0#128 s.inp.recs c) % 64 ≠ 0))

/-! ## Summary (R516, R517) -/

/-- Some enabled safety function of region `g` is in state `st`. -/
def State.regionFn (s : State) (g st : Nat) : Bool :=
  (List.range 8).any fun j => sfEn s.im (8 * g + j) && decide ((tabGet {} s.safe.fnA (8 * g + j)).state = st)

/-- Some enabled connection of region `g` is in FAILSAFE (R257). -/
def State.regionDsc (s : State) (g : Nat) : Bool :=
  (List.range 8).any fun j => dscEn s.im (8 * g + j) && decide ((tabGet {} s.safe.dscA (8 * g + j)).state = dscFailsafe)

/-- The region fault word (R517). -/
def State.regionWord (s : State) (g : Nat) : Nat :=
  let r := s.regOf g
  pack [(1, b2n ((List.range 16).any fun k => (s.bdiagOf (16 * g + k)).fault)), (1, b2n (s.eng.fsLow.testBit g)),
    (1, b2n (s.eng.fsOff.testBit g)), (1, b2n (s.regionFn g sfFault)), (1, b2n (s.regionFn g sfDemand)), (1, b2n (s.regionDsc g)),
    (1, b2n r.clkFault), (1, 0), (4, r.bist), (4, r.hznSeq), (4, r.silent)]

/-- Role code as status blocks show it (R418). -/
def State.roleCode (s : State) : Nat := if s.isWitness then 3 else s.unt.pair.role
/-- Role as PING shows it: FAILED and DECIDING are 02h (R418). -/
def State.pingRole (s : State) : Nat := if s.roleCode = 4 ∨ s.roleCode = 5 then 2 else s.roleCode
/-- Owner code, FFh for vacant (R343). -/
def State.ownerCode (s : State) : Nat := s.port.owner.owner.getD 0xFF
/-- Target of a standing offer, FFh for none (R354). -/
def State.offerCode (s : State) : Nat := (s.port.owner.offer.map (·.1)).getD 0xFF
/-- Some listed memory satisfies `p`. -/
def State.anyMem (s : State) (p : MemSt → Bool) : Bool := s.unt.mem.any fun e => p e.2
/-- The partner's hold level (R441). -/
def State.partnerHold (s : State) : Nat := if s.unt.pair.unitB then s.unt.pair.holdA else s.unt.pair.holdB
/-- Own hold level. -/
def State.ownHold (s : State) : Nat := if s.unt.pair.unitB then s.unt.pair.holdB else s.unt.pair.holdA

/-- The status summary (R516). -/
def State.summary (s : State) : List Byte :=
  let p := s.unt.power
  let d := s.unt.mdiag
  let blocks := (List.range 64).foldl (fun m b => if (s.bdiagOf b).fault then m + 2 ^ b else m) 0
  let words := (List.range 4).map s.regionWord
  let bad (f : Feed) (a b : Nat) : Bool := decide (f.state = a) || decide (f.state = b)
  let w0 := pack [(8, s.roleCode), (1, b2n s.port.replay), (1, b2n p.cfgEmpty), (1, b2n p.fwFallback), (1, b2n p.rstStuck),
    (1, b2n p.identBad), (1, b2n (decide (blocks ≠ 0))), (1, b2n (words.any fun w => w.testBit 3 || w.testBit 5)), (1, 0),
    (8, s.ownerCode), (8, s.offerCode)]
  let w1 := pack [(1, b2n s.fr.longLive), (1, b2n s.fr.overrun), (1, b2n (decide (s.eng.poison ≠ 0))), (1, b2n d.lockstep)]
  let w8 := pack [(1, b2n d.memUncorr), (1, b2n (s.anyMem (·.wear))), (1, b2n d.memCollide), (1, b2n d.memMarch),
    (1, b2n (s.anyMem (·.slow))), (1, b2n (decide (0 < lostPending s.recd))), (1, b2n s.recd.sealBroken),
    (1, b2n (d.eth.fault || d.can.fault || d.zen.fault))]
  let w9 := pack ([(1, b2n (bad p.feedA 1 2)), (1, b2n (bad p.feedB 1 2))] ++
    (List.range 4).flatMap fun g => [(1, b2n (bad (s.regOf g).feedA 1 3)), (1, b2n (bad (s.regOf g).feedB 1 3))])
  let w10 := pack (((List.range 4).flatMap fun k =>
      let c := s.ctlOf k
      [(1, b2n (decide (c.state = 1))), (1, b2n (decide (c.state = 2))), (1, b2n c.noAck)]) ++
    (List.range 3).map fun i =>
      (1, b2n ((decide (poIpA s.im i ≠ 0) || decide (poIpB s.im i ≠ 0)) && !(s.portOf i).linkUp)))
  let pr := s.unt.pair
  let w11 := pack [(1, b2n (s.paired && bad { state := s.partnerHold } 0 3)), (1, b2n (s.paired && decide (pr.token = 0))),
    (1, b2n (s.paired && !pr.lane0.up)), (1, b2n (s.paired && !pr.lane1.up)), (1, b2n (s.paired && decide (pr.sync = 0))),
    (1, b2n (decide (pr.shadow ≠ 0))), (1, b2n p.haloFault)]
  let w12 := pack [(1, b2n s.twi.valid), (1, b2n s.twi.bakLow), (1, b2n s.twi.bakLost), (1, b2n s.twi.wrapped)]
  packBytes 128 ([(32, w0), (32, w1), (64, blocks)] ++ words.map (fun w => (32, w)) ++
    [(32, w8), (32, w9), (32, w10), (32, w11), (32, w12), (32, s.cfg.hdr.cfgCrc), (32, s.cfg.hdr.safeCrc), (32, s.cfg.hdr.confirmed),
      (48, s.fr.frameNo)])

/-! ## Blocks read at once -/

/-- The frame status block (R72). -/
def State.frameStatus (s : State) : List Byte :=
  let f := s.fr
  packBytes 40 [(48, f.frameNo), (32, f.lastLen), (32, f.lag), (32, f.maxLag), (32, f.maxLen), (32, f.nStretched), (32, f.nShortened),
    (16, f.nLong), (16, f.nOverrun), (32, f.nDeferred), (1, b2n f.overrun)]

/-- Bits set in a mask over channels. -/
def popCount (m : Nat) : Nat := ((List.range 512).filter m.testBit).length

/-- The pair status block (R441). -/
def State.pairBlock (s : State) : List Byte :=
  let p := s.unt.pair
  if s.isWitness then packBytes 32 [(8, 3), (8, 0), (2, p.holdA), (2, p.holdB), (2, p.token)]
  else packBytes 32 [(8, p.role), (1, b2n p.unitB), (2, p.sync), (1, 0), (1, b2n p.lane0.up), (1, b2n p.lane1.up),
    (1, b2n (p.lane0.up || p.lane1.up)), (1, 0), (2, p.holdA), (2, p.holdB), (2, p.token), (2, 0),
    (4, if p.sync = 3 then 0 else p.cause), (4, satN 4 p.tries), (48, p.syncFrame), (16, satN 16 p.takeovers), (16, satN 16 p.lane0.errs),
    (16, satN 16 p.lane1.errs), (16, satN 16 p.digestFail), (16, popCount p.shadow), (32, p.partnerCfg), (32, p.partnerFw)]

/-- Firmware CRC of the running slot (R506). -/
def State.fwCrc (s : State) : Nat := if s.unt.runSlot = 2 then s.unt.fw2.crc else s.unt.fw1.crc

/-- The records latched by the unit's own blocks. -/
def State.ownRec (s : State) (c : Nat) : Rec :=
  if s.follows then tabGet 0#128 s.inp.own c else tabGet 0#128 s.inp.recs c

/-- Cell detail block (R518). -/
def State.cellDetail (s : State) (c : Nat) : List Byte :=
  let d := s.cellOf c
  recBytes (s.ownRec c) ++ packBytes 16 [(16, d.statAcc), (16, satN 16 d.couplers), (16, satN 16 (s.acqOf c).nEdge),
    (16, satN 16 d.restarts), (8, ofSigned 8 d.temp)]

/-- Block detail block (R518). -/
def State.blockDetail (s : State) (b : Nat) : List Byte :=
  let d := s.bdiagOf b
  let k := s.blkOf b
  packBytes 32 [(1, b2n d.fault), (1, b2n k.clkFault), (1, b2n k.islandPwr), (1, b2n k.powered), (4, d.stFail), (24, 0),
    (32, k.clkCount), (16, d.islandMv), (16, d.fsMv), (32, (s.seqOf b).i0.getD 0), (32, (s.seqOf b).i1.getD 0), (16, d.tCyc)]

/-- Region detail block (R518). -/
def State.regionDetail (s : State) (g : Nat) : List Byte :=
  let r := s.regOf g
  packBytes 32 [(32, s.regionWord g), (16, r.feedA.mv), (16, r.feedB.mv), (16, ofSigned 16 r.clkDev), (16, satN 16 r.upErrs),
    (16, satN 16 r.hartFail)]

/-- Transport drops of a port: those of its ISO 15765-2 transport on CAN0 and CAN1 (R379). -/
def State.tpDrops (s : State) (i : Nat) : Nat := (s.portOf i).tpDrop

/-- Module detail block (R518). -/
def State.moduleDetail (s : State) : List Byte :=
  let d := s.unt.mdiag
  packBytes 32 [(16, s.unt.power.feedA.mv), (16, s.unt.power.feedB.mv), (16, ofSigned 16 d.eth.dev), (16, ofSigned 16 d.can.dev),
      (16, ofSigned 16 d.zen.dev), (8, ofSigned 8 d.boardTemp)] ++
    (List.range 6).flatMap fun i => portBlock (s.tpDrops i) (s.portOf i)

/-- READ_DIAG (R518); none for an index out of range. -/
def State.diagBody (s : State) (level index : Nat) : Option (List Byte) :=
  match level with
  | 0 => some (s.cellDetail index)
  | 1 => if index < 64 then some (s.blockDetail index) else none
  | 2 => if index < 4 then some (s.regionDetail index) else none
  | _ => if index = 0 then some s.moduleDetail else none

/-- The controller is in restricted operation (R401, R407). -/
def State.restricted (s : State) (k : Nat) : Bool := ctlRestrict s.im k || decide (s.unt.pair.role = 2) || s.port.replay

/-- Status of controller `k` and its 128 transmit entries (R409). -/
def State.canBody (s : State) (k : Nat) : List Byte :=
  canBlock (s.restricted k) (s.ctlOf k) ++ (List.range 128).flatMap fun j => canTxEntry (s.objOf (128 * k + j))

/-- The identity block (R521). -/
def State.identBody (s : State) : List Byte := identBlock s.unt.ident s.fwCrc s.cfg.hdr.cfgCrc s.cfg.hdr.safeCrc

/-- The firmware slot block (R506). -/
def State.fwBody (s : State) : List Byte :=
  fwBlock s.unt.runSlot s.unt.power.fwFallback s.unt.fw1 s.unt.fw2 s.unt.power.cause s.unt.power.ended

/-! ## Reads of a frame -/

/-- Results of a run of channels (R336). -/
def State.resultsBody (s : State) (first count : Nat) : List Byte :=
  (List.range count).flatMap fun k => recBytes (tabGet 0#128 s.eng.res (first + k))

/-- Latched records of a run of channels. -/
def State.recordsBody (s : State) (first count : Nat) : List Byte :=
  (List.range count).flatMap fun k => recBytes (tabGet 0#128 s.inp.recs (first + k))

/-- The 16 CJC records. -/
def State.cjcBody (s : State) : List Byte := (List.range 16).flatMap fun k => toBytes 4 (cjcWord (tabGet {} s.inp.cjc k))

/-- The point is FO_POINT of its group. -/
def State.isFirst (s : State) (p : Nat) : Bool := decide ((tabGet {} s.alm.grps (alGroup s.im p)).fo = some p)

/-- Point status blocks (R277). -/
def State.pointsBody (s : State) (first count : Nat) : List Byte :=
  (List.range count).flatMap fun k => recBytes (pointBlock (s.isFirst (first + k)) (tabGet {} s.alm.pts (first + k)))

/-- Group status blocks (R275). -/
def State.groupsBody (s : State) (first count : Nat) : List Byte :=
  (List.range count).flatMap fun k => toBytes 8 (tabGet {} s.alm.grps (first + k)).block

/-- Safety results (R236). -/
def State.safetyBody (s : State) (first count : Nat) : List Byte :=
  (List.range count).flatMap fun k => recBytes (tabGet 0#128 s.safe.resA (first + k)) ++ recBytes (tabGet 0#128 s.safe.resB (first + k))

/-- Connection status blocks (R256). -/
def State.dscBody (s : State) (first count : Nat) : List Byte :=
  (List.range count).flatMap fun k => dscBlock s.im (first + k) (tabGet {} s.safe.dscA (first + k))

/-- Device table entries (R181). -/
def State.hartBody (s : State) (ch addr count : Nat) : List Byte :=
  (List.range count).flatMap fun k => hartBytes (addr + k) (hartDev (tabGet [] s.eng.hdev ch) (addr + k))

/-- A CAN object's header and its SIZE payload bytes (R393); the bytes past LEN are free once a message is held. -/
def State.canobjBody (s : State) (o : Nat) : List Byte :=
  let x := s.objOf o
  let n := x.app.data.length
  canHeader x ++ (x.app.data.take (coSize s.im o)) ++ (List.range (coSize s.im o - n)).map fun k =>
    if x.count = 0 then 0#8 else Config.canTail o x.frame (n + k)

/-- READ_CRC (R335). -/
def State.crcBody (s : State) : List Byte :=
  let c := configCrc s.cfg.staging
  packBytes 17 [(32, s.cfg.hdr.cfgCrc), (32, s.cfg.hdr.safeCrc), (32, s.cfg.hdr.confirmed), (32, c), (1, b2n (decide (c ≠ s.cfg.hdr.cfgCrc)))]

/-- READ_OBJECT (R328): bytes of a class that lie end to end. -/
def State.objectBody (s : State) (staging : Bool) (cls ix off len : Nat) : List Byte :=
  imageBytes (instOf (if staging then s.cfg.staging else s.cfg.image) s.cfg.hdr) (clsOffset cls + ix * clsBytes cls + off) len

/-- The result digest (R427): CRC-32C over the output image, the result image, the safety results, the point, group and call
status blocks, the DSC status blocks and the event requests. -/
def State.frameDigest (s : State) (reqs : List EvReq) : Nat :=
  crc32c 0xFFFFFFFF (Config.outBytes s.eng.out.dos s.eng.out.aos ++ s.resultsBody 0 512 ++ s.safetyBody 0 32 ++ s.pointsBody 0 2048 ++
    s.groupsBody 0 64 ++ toBytes 8 (callBlock s.P s.alm.call) ++ s.dscBody 0 32 ++
    Config.reqBytes (reqs.map fun e => [e.code, e.src, e.p1, e.p2, e.p3]))

end Sys2Proof.Machine
end

