-- ==== Sys2Proof/Machine/Sessions.lean ====
section
/-! DEFINITION. Replies and the ports they leave through (R316, R318, R323), the stores of the sessions (R321, R322), and
ownership (R343 to R361). -/

namespace Sys2Proof.Machine

/-! ## Sending -/

/-- Owner code of port `i` of this unit (R343). -/
def State.codeOf (s : State) (i : Nat) : Nat := i + 8 * b2n s.unitB

/-- The code names a port of this unit. -/
def State.isLocal (s : State) (code : Nat) : Bool := decide (code / 8 = b2n s.unitB)

/-- The base MAC address in use: the locally administered base 02h 50h 59h 00h 00h 00h while IDENT_BAD is set (R523). -/
def State.macBase (s : State) : Nat := if s.unt.power.identBad then 0x595002 else s.unt.ident.mac

/-- Ethernet port `i` as it sends: under PLCA it takes transmit opportunity PLCA_ID while the PLCA status is true (R363). -/
def State.ethSelf (s : State) (i : Nat) : EthSelf :=
  { port := i, ip := portIp s.im s.unitB i, mac := macOf s.macBase i
    slot := if i = 2 ∧ poPlcaEn s.im 2 ∧ (s.portOf 2).plca then some (poPlcaId s.im 2) else none }

/-- A datagram leaves Ethernet port `i` from address `src` (R366). -/
def State.sendIp (i src dst : Nat) (x : IpBody) (s : State) : State :=
  let r := ethSend s.im (s.ethSelf i) s.now src dst x (s.portOf i)
  (s.modPortSt i fun _ => r.1).modPort fun p => { p with wire := p.wire ++ r.2 }

/-- A UDP datagram leaves Ethernet port `i`. -/
def State.sendDatagram (i src dst dport : Nat) (dsc : Bool) (data : List Byte) (s : State) : State :=
  s.sendIp i src dst (.udp (sourcePort dsc) dport data)

/-- A packet leaves through its port and unit. A packet for a port of the partner goes over the Contrail link (R324). -/
def State.emit (r : Reply) (s : State) : State :=
  let s1 := s.modPort fun p => { p with outbox := p.outbox ++ [r] }
  let i := r.code % 8
  if !s1.isLocal r.code then s1
  else if (s1.portOf i).txBad then s1.modPortSt i fun p => { p with txBad := false }
  else if i < 3 then s1.sendDatagram i (portIp s1.im s1.unitB i) r.ip r.udp false (replyBytes r)
  else if i < 5 then s1.modIso (i - 3) (isoSend s1.now (replyBytes r))
  else s1.modPort fun p => { p with wire := p.wire ++ [.serial (serStuff (replyBytes r))] }

/-- A packet is sent. A standby that processes the entries of its active sends nothing on their account: the active
returns the replies of its ports (R324, R428). Nothing is sent on account of an input of a trace (log 63). -/
def State.sendReply (r : Reply) (s : State) : State := if s.unt.pair.role = 2 ∨ s.port.replayIn.within then s else s.emit r

/-- The command that a reply answers: its port and source, the fields a reply copies, and the session that stores the
reply. -/
structure Caller where
  code    : Nat := 0
  ip      : Nat := 0
  udp     : Nat := 0
  session : Nat := 0
  sid     : Nat := 0
  seq     : Nat := 0
  opcode  : Nat := 0
  deriving DecidableEq, Repr

/-- The reply to a command. -/
def Caller.reply (c : Caller) (st : Nat) (body : List Byte) : Reply :=
  { code := c.code, ip := c.ip, udp := c.udp, session := c.session, seq := c.seq, opcode := c.opcode, status := st, body := body }

/-- The caller of a pending command. -/
def Pending.caller (p : Pending) : Caller :=
  { code := p.code, ip := p.ip, udp := p.udp, session := p.session, sid := p.sid, seq := p.seq, opcode := p.opcode }

/-- A command whose reply is pending. -/
def State.pendReply (c : Caller) (due : Option Nat) (op : Op) (done : Option (Nat × List Byte)) (s : State) : State :=
  s.modPort fun p => { p with pend := p.pend ++ [{
    code := c.code, ip := c.ip, udp := c.udp, session := c.session, sid := c.sid, seq := c.seq, opcode := c.opcode
    due := due, op := op, done := done }] }

/-! ## The trace stream (R69, R334) -/

/-- A TRACE_DATA packet to the owner's port. -/
def State.sendTrace (st : Nat) (data : List Byte) (s : State) : State :=
  match s.port.trace, s.port.owner.owner with
  | some t, some code =>
    let x := s.sessOf code
    (s.modPort fun p => { p with trace := some { t with segment := t.segment + 1 } }).sendReply
      { code := code, ip := x.ip, udp := x.udp, kind := 2, session := x.id, seq := Config.traceSeq t.segment, opcode := 0x000A
        status := st, body := toBytes 4 t.segment ++ data }
  | _, _ => s

/-- One segment of the trace on the owner's SER0 (R373). -/
def State.serialTrace (s : State) : State :=
  match s.port.trace with
  | none => s
  | some t =>
    match t.out with
    | [] => s
    | x :: r =>
      let t1 := if x.2.length ≤ 1024 then { t with out := r, last := x.1 } else { t with out := (x.1, x.2.drop 1024) :: r }
      (s.modPort fun p => { p with trace := some t1 }).sendTrace stOk (x.2.take 1024)

/-- A reply leaves on its port; on the owner's SER0 a waiting segment of the trace follows it (R373). -/
def State.sendAnswer (r : Reply) (s : State) : State :=
  let s1 := s.sendReply r
  if r.code % 8 = 5 ∧ s1.port.owner.owner = some r.code then s1.serialTrace else s1

/-- A reply that no session stores (steps 1 to 4 of R320). -/
def State.refuse (c : Caller) (st : Nat) (body : List Byte) (s : State) : State := s.sendAnswer (c.reply st body)

/-- A reply that the session stores as the last one (R320, R322). -/
def State.answer (c : Caller) (st : Nat) (body : List Byte) (s : State) : State :=
  (s.modSess c.code fun x =>
    if x.id = c.sid ∧ x.lastSeq = c.seq ∧ c.sid ≠ 0 then { x with busy := false, reply := some (c.reply st body) } else x).sendAnswer
      (c.reply st body)

/-- The trace stream ends; its final segment carries TRACE_OVERFLOW when the node ends it (R356). -/
def State.endTrace (overflow : Bool) (s : State) : State :=
  let s1 := if overflow && s.port.trace.isSome then s.sendTrace stTraceOverflow [] else s
  s1.modPort fun p => { p with trace := none }

/-! ## Ownership (R343 to R361) -/

/-- An ownership event of the open frame (R361). -/
def State.ownerEv (code p1 p2 p3 : Nat) (s : State) : State :=
  s.modOwner fun o => { o with ev := o.ev ++ [{ code := code, src := 0xFF, p1 := p1, p2 := p2, p3 := p3 }] }

/-- A standing offer ends without a change of owner (R354). -/
def State.endOffer (why : Nat) (s : State) : State :=
  match s.port.owner.offer with
  | some x => (s.modOwner fun o => { o with offer := none }).ownerEv 0x0D02 x.1 0 why
  | none => s

/-- What follows every change of owner (R356): the staging image is copied again, and a trace ends. -/
def State.ownerMoved (s : State) : State := (s.endTrace true).modCfg fun c => { c with restage := true }

/-- Ownership becomes vacant (R355). -/
def State.vacate (reason : Nat) (s : State) : State :=
  match s.port.owner.owner with
  | some old => ((s.ownerMoved.modOwner fun o => { o with owner := none }).ownerEv 0x0D01 0xFF old reason).endOffer 3
  | none => s

/-- Port `code` becomes owner; its lease starts in the open frame (R348, R353). -/
def State.newOwner (code reason : Nat) (s : State) : State :=
  let old := s.ownerCode
  (s.ownerMoved.modOwner fun o => { o with owner := some code, lease := s.fr.total, offer := none }).ownerEv 0x0D01 code old reason

/-- A packet from the owner renews the lease (R350). -/
def State.renewLease (code : Nat) (s : State) : State :=
  if s.port.owner.owner = some code then s.modOwner fun o => { o with lease := s.fr.total } else s

/-- Two seconds and 250 ms of frame length (R345). -/
abbrev leaseCycles : Nat := 800000000
abbrev windowCycles : Nat := 100000000

/-- The lease has lapsed in the open frame (R351). -/
def State.leaseOver (s : State) : Bool := s.port.owner.owner.isSome && decide (s.port.owner.lease + leaseCycles < s.fr.total)

/-- The offer has lapsed in the open frame (R354). -/
def State.offerOver (s : State) : Bool :=
  match s.port.owner.offer with
  | some x => decide (x.2 + leaseCycles < s.fr.total)
  | none => false

/-- The lease lapses when its time is over (R351). -/
def State.lapseLease (s : State) : State := if s.leaseOver then s.vacate 4 else s

/-- The offer lapses when its time is over (R354). -/
def State.lapseOffer (s : State) : State := if s.offerOver then s.endOffer 1 else s

/-- Step 1 of R346. -/
def State.ownerStep1 (s : State) : State := s.lapseLease.lapseOffer

/-- A claim leaves the collection without a reply (R348). -/
def State.dropClaim (code : Nat) (s : State) : State :=
  ((s.modOwner fun o => { o with claims := o.claims.filter fun x => decide (x.code ≠ code) }).modPort fun p =>
    { p with pend := p.pend.filter fun x => !(decide (x.code = code) && decide (x.op = .claim) && x.due.isNone) }).modSess code fun x =>
      if x.lastOp = 0x0101 ∧ x.busy then { x with busy := false } else x

/-- A port's session closes (R321). Ownership that it holds ends first, so that a final trace segment still goes to the partner of
the session (R355, R368). -/
def State.closeSession (code : Nat) (s : State) : State :=
  if (s.sessOf code).id = 0 then s
  else
    let s1 := s.dropClaim code
    (if s1.port.owner.owner = some code then s1.vacate 5 else s1).modSess code fun _ => {}

/-- The owner code names a port of this node (R343). -/
def State.hasPort (s : State) (code : Nat) : Bool :=
  decide (code < 16) && decide (code % 8 < 6) && (s.paired || decide (code < 8))

/-- Rank of a port among claimants of one priority: the lowest port index, and of two the one of unit A (R348). -/
def claimRank (code : Nat) : Nat := 2 * (code % 8) + code / 8

/-- The claim that wins against another (R348). -/
def claimWins (im : Image) (a b : Nat) : Bool :=
  let pa := poClaimPrio im (a % 8)
  let pb := poClaimPrio im (b % 8)
  decide (pb < pa) || (decide (pa = pb) && decide (claimRank a < claimRank b))

/-- The claimant that becomes owner. -/
def claimWinner (im : Image) (l : List Claim) : Option Nat :=
  l.foldl (fun b x => match b with
    | some y => if claimWins im x.code y then some x.code else some y
    | none => some x.code) none

/-- Step 3 of R346: the claim window closes when its time has come (R348). -/
def State.closeWindow (s : State) : State :=
  match s.port.owner.window with
  | none => s
  | some c =>
    if s.fr.total < c + windowCycles then s
    else
      let s1 := s.modOwner fun o => { o with window := none, claims := [] }
      match claimWinner s.im s.port.owner.claims with
      | none => s1
      | some w =>
        (s1.newOwner w 1).modPort fun p => { p with pend := p.pend.map fun x =>
          if x.op = .claim ∧ x.due = none then
            { x with due := some s1.fr.frameNo, done := some (if x.code = w then stOk else stClaimLost, [BitVec.ofNat 8 w]) }
          else x }

end Sys2Proof.Machine
end

