-- ==== Sys2Proof/Machine/PairOps.lean ====
section
/-! DEFINITION. Shared operations of the redundant pair (chapter 17): the synchronisation state and resynchronisation. -/

namespace Sys2Proof.Machine

/-- The conditions of R438. -/
def State.resyncReady (s : State) : Bool :=
  let p := s.unt.pair
  s.paired && decide (p.sync = 0) && s.linkUp && decide (p.partnerSerial = paSerialBcd s.im) && decide (p.partnerFw = s.fwCrc) &&
    ((decide (p.role = 1) && decide (s.ownHold = 2)) || (decide (p.role = 2) && decide (s.partnerHold = 2)))

/-- The conditions of R438 have held without a break since an instant, or do not hold. -/
def State.noteReady (s : State) : State :=
  if s.resyncReady then (if s.unt.pair.readyFrom.isSome then s else s.modPair fun p => { p with readyFrom := some s.now })
  else s.modPair fun p => { p with readyFrom := none }

/-- SYNC takes a new value (R441, R442). -/
def State.setSync (v cause : Nat) (s : State) : State :=
  let p := s.unt.pair
  if p.sync = v then s
  else
    (s.modPair fun q => { q with sync := v, cause := if v = 3 then 0 else cause, syncFrame := s.fr.frameNo }).unitEvs
      [{ code := 0x0F02, p1 := v, p2 := p.sync, p3 := if v = 3 then 0 else cause }]

/-- The standby becomes UNSYNCHRONISED (R430). A resynchronisation in progress has failed; the third failure in a row
gives cause 8h (R440). -/
def State.unsync (cause : Nat) (s : State) : State :=
  let p := s.unt.pair
  if p.sync = 0 then s
  else if p.sync = 3 then ((s.setSync 0 cause).modPair fun q => { q with agreed := 0, readyFrom := none }).noteReady
  else
    let tries := p.tries + 1
    (((s.setSync 0 (if 3 ≤ tries then 8 else cause)).modPair fun q =>
      { q with agreed := 0, tries := min 15 tries, readyFrom := none }).unitEvs [{ code := 0x0F08, p1 := 4, p2 := p.attempt }]).noteReady

/-- A resynchronisation starts (R438): the active sends its configuration image (R439). -/
def State.resyncStart (s : State) : State :=
  let s1 := (s.setSync 1 s.unt.pair.cause).modPair fun q => { q with attempt := q.attempt + 1, agreed := 0, readyFrom := none }
  (s1.unitEvs [{ code := 0x0F08, p1 := 1, p2 := s.unt.pair.attempt + 1 }]).activeSends [.image s.im s.cfg.hdr.confirmed]

/-! ## Digests (R427, R440) -/

/-- Both digests of frame `frame`. A difference unsynchronises the standby; an agreement counts in the compare phase. -/
def State.judgeDigest (frame own partner : Nat) (s : State) : State :=
  if s.unt.pair.sync < 2 then s
  else if own = partner then
    if s.unt.pair.sync = 2 then s.modPair fun p => { p with agreed := min 16 (p.agreed + 1) } else s
  else
    ((s.unitEvs [{ code := 0x0F06, p1 := frame % 2 ^ 32, p2 := own, p3 := partner }]).modPair fun p =>
      { p with digestFail := satN 16 (p.digestFail + 1) }).unsync 5

/-- The partner's digest of a frame is held against the own one, at once when this unit has completed the frame, and otherwise at
its close. -/
def State.partnerDigest (frame value : Nat) (s : State) : State :=
  match s.unt.pair.digest with
  | some d => if d.1 = frame then s.judgeDigest frame d.2 value else s.modPair fun p => { p with heard := some (frame, value) }
  | none => s.modPair fun p => { p with heard := some (frame, value) }

/-- This unit's digest of the frame it has completed. -/
def State.ownDigest (value : Nat) (s : State) : State :=
  let n := s.fr.frameNo
  let s1 := s.modPair fun p => { p with digest := some (n, value), heard := none }
  match s.unt.pair.heard with
  | some h => if h.1 = n then s1.judgeDigest n value h.2 else s1
  | none => s1

/-- Code of this unit in TOKEN (R441). -/
def State.ownToken (s : State) : Nat := if s.unt.pair.unitB then 2 else 1
/-- Code of the partner in TOKEN. -/
def State.partnerToken (s : State) : Nat := if s.unt.pair.unitB then 1 else 2

/-- The conditions of R436, as the active and its synchronised standby see them. -/
def State.switchoverReady (s : State) : Bool :=
  let p := s.unt.pair
  decide (p.sync = 3) &&
    ((decide (p.role = 1) && decide (p.token = s.ownToken) && decide (s.partnerHold = 1)) ||
      (decide (p.role = 2) && decide (p.token = s.partnerToken) && decide (s.ownHold = 1)))

/-- The hold that this unit drives (R418); a unit with IDENT_BAD drives none (R523). -/
def State.driveHold (level : Nat) (s : State) : State :=
  let v := if s.unt.power.identBad then 0 else level
  s.modPair fun p => if p.unitB then { p with holdB := v } else { p with holdA := v }

end Sys2Proof.Machine
end

