-- ==== Sys2Proof/Machine/Stores.lean ====
section
/-! DEFINITION. Storing the running image in MRAM (R548 to R550), configuration events (R554) and the links to the
calendar (R301). -/

namespace Sys2Proof.Machine

/-- A configuration event of the open frame (R554). -/
def State.cfgEv (e : EvReq) (s : State) : State := s.modPort fun p => { p with cfgEv := p.cfgEv ++ [e] }

/-- Slot `k` of the configuration images. -/
def CfgPart.slot (c : CfgPart) (k : Nat) : Option Slot := if k = 0 then c.slotA else c.slotB
/-- Replace it. -/
def CfgPart.setSlot (k : Nat) (v : Option Slot) (c : CfgPart) : CfgPart :=
  if k = 0 then { c with slotA := v } else { c with slotB := v }

/-- A store of the running image starts (R548, R549). A store in progress stops and the new one takes its slot and its
GENERATION (R550). The slot holds no whole image until the store is complete. -/
def State.storeStart (s : State) : State :=
  let c := s.cfg
  let slot := match c.store with
    | some x => x.slot
    | none => storeTarget c.slotA c.slotB
  let gen := match c.store with
    | some x => x.content.hdr.generation
    | none => storeGeneration c.slotA c.slotB
  let content := makeSlot c.image { c.hdr with generation := gen, pwr := s.recd.pwr % 65536 }
  let s1 := if c.store.isSome then s.unitEvs [{ code := 0x0311, src := slot, p1 := gen }] else s
  s1.modCfg fun d => ({ d with store := some { slot := slot, content := content }, hdr := content.hdr }).setSlot slot
    (some { content with torn := true })

/-- The TIME_LINK record (R300, R301): 1 clock set, 2 start-up, 3 daily. -/
def State.timeLink (reason : Nat) (s : State) : EvReq :=
  let w := s.twi
  { code := 0x0C02, p1 := pack [(16, 2000 + w.year), (8, w.month), (8, w.day)]
    p2 := pack [(27, msOfDay s.now w), (3, w.wday)], p3 := pack [(8, reason), (1, b2n (w.valid && !w.bakLost))] }

end Sys2Proof.Machine
end

