-- ==== Sys2Proof/Machine/OpSystem.lean ====
section
/-! DEFINITION. The system and ownership opcodes (R334): what each does in its frame of effect and when it answers. -/

namespace Sys2Proof.Machine

/-- When and how an opcode answers (R323). -/
inductive Ans where
  /-- When it is processed. -/
  | now (st : Nat) (body : List Byte)
  /-- When the frame with this number is complete, with status and body already decided. -/
  | sent (frame st : Nat) (body : List Byte)
  /-- When the open frame is complete, with the values of that frame. -/
  | form
  /-- As its chapter says: an election, a trim. -/
  | hold
  deriving DecidableEq, Repr

/-- State and answer of an opcode. -/
abbrev Run : Type := State × Ans

/-- An opcode refused at its own checks (step 9 of R320). -/
def deny (st : Nat) (s : State) : Run := (s, .now st [])
/-- An opcode done, with a reply when the open frame is complete. -/
def State.done (s : State) : Run := (s, .sent s.fr.frameNo stOk [])
/-- A read of the unit's state as it stands. -/
def State.show (body : List Byte) (s : State) : Run := (s, .now stOk body)
/-- A read of the open frame when `ok`, refused with BAD_VALUE otherwise. -/
def State.readFrame (ok : Bool) (s : State) : Run := if ok then (s, .form) else deny stBadValue s

/-- A run of `count` items from `first` on, 1 to `top` of them, lies within `n` items. -/
def runOk (first count top n : Nat) : Bool := decide (1 ≤ count) && decide (count ≤ top) && decide (first + count ≤ n)

/-- PING (R334). -/
def opPing (s : State) : Run :=
  s.show (packBytes 8 [(48, s.fr.frameNo), (8, s.pingRole), (1, b2n s.port.replay)])

/-- SESSION of a session opened in frame `n` (R321). -/
def sessionId (n : Nat) : Nat := if n % 65536 = 0 then 1 else n % 65536

/-- OPEN_SESSION (R321): the body names the session and the largest body. -/
def opOpenSession (s : State) : Run := (s, .sent s.fr.frameNo stOk (packBytes 4 [(16, sessionId s.fr.frameNo), (16, 8172)]))

/-- CLOSE_SESSION (R321). -/
def opCloseSession (c : Caller) (s : State) : Run := (s.closeSession c.code).done

/-- READ_FRAME_STATUS (R72). -/
def opReadFrameStatus (s : State) : Run := s.show s.frameStatus

/-- CLEAR_FRAME_STATUS (R72): CLR acts at the next strobe. -/
def opClearFrameStatus (s : State) : Run := (s.modFr fun f => { f with clr := true }).done

/-- TRACE_OPEN (R69): the snapshot is taken at strobe n + 1. -/
def opTraceOpen (s : State) : Run :=
  if !imTraceEn s.im then deny stTraceOff s
  else if s.port.trace.isSome then deny stBusy s
  else
    let n := s.fr.frameNo
    (s.modPort fun p => { p with trace := some { first := n + 1, last := n, segment := 0 } },
      .sent n stOk (packBytes 6 [(48, n + 1)]))

/-- TRACE_CLOSE (R334): the last frame sent. -/
def opTraceClose (s : State) : Run :=
  let last := (s.port.trace.map (·.last)).getD 0
  (s.endTrace false, .sent s.fr.frameNo stOk (packBytes 6 [(48, last)]))

/-- Every time master stops (R406, R407). -/
def State.haltMasters (s : State) : State := s.modCan fun c => { c with ctls := tabMap {} (fun _ x => ctlHalt x) c.ctls }

/-- REPLAY_START (R70). -/
def opReplayStart (s : State) : Run := (s.modPort fun p => { p with replay := true }).haltMasters.done

/-- CLAIM (R347). -/
def opClaim (c : Caller) (s : State) : Run :=
  if !poClaimEn s.im (c.code % 8) then (s, .now stBadValue [BitVec.ofNat 8 s.ownerCode])
  else match s.port.owner.owner with
    | some k => (s, .now (if k = c.code then stOk else stOwnerHeld) [BitVec.ofNat 8 k])
    | none =>
      (s.modOwner fun o => { o with window := some (o.window.getD s.fr.total), claims := o.claims ++ [{ code := c.code }] }, .hold)

/-- HANDOVER (R352). -/
def opHandover (target : Nat) (c : Caller) (s : State) : Run :=
  if !s.hasPort target || decide (target = c.code) || !poClaimEn s.im (target % 8) then deny stBadValue s
  else
    (((s.endOffer 2).modOwner fun o => { o with offer := some (target, s.fr.total) }).ownerEv 0x0D02 target 1 0).show []

/-- ACCEPT (R353). A port whose CLAIM_EN a commit has cleared since the offer is always read-only, and takes none (R342, R357). -/
def opAccept (c : Caller) (s : State) : Run :=
  match s.port.owner.offer with
  | some x => if x.1 = c.code ∧ poClaimEn s.im (c.code % 8) then (s.newOwner c.code 2).show [] else deny stNoHandover s
  | none => deny stNoHandover s

/-- RELEASE (R355). -/
def opRelease (s : State) : Run := (s.vacate 3).show []

/-- READ_OWNER (R334, R354). -/
def opReadOwner (s : State) : Run := s.show [BitVec.ofNat 8 s.ownerCode, BitVec.ofNat 8 s.offerCode]

end Sys2Proof.Machine
end

