-- ==== Sys2Proof/Machine/OpData.lean ====
section
/-! DEFINITION. The channel data, alarm, call, event, calendar and backup opcodes (R336 to R338). -/

namespace Sys2Proof.Machine

/-! ## Channel data (R336) -/

/-- Some configuration object names the output channel (R186). -/
def outNamed (im : Image) (ch : Nat) : Bool := (outClaims im).any fun x => decide (x.1 = ch)

/-- WRITE_DO (R186). -/
def opWriteDo (ch : Nat) (st : Bool) (s : State) : Run :=
  if chMode s.im ch ≠ 8 ∨ outNamed s.im ch then deny stBadValue s
  else (s.modEng fun e => { e with dout := tabMod {} e.dout ch fun d => { d with host := st } }).done

/-- WRITE_AO (R165). -/
def opWriteAo (ch : Nat) (v : Int) (s : State) : Run :=
  if chMode s.im ch ≠ 6 ∨ aoSrc s.im ch = 1 then deny stBadValue s
  else (s.modEng fun e => { e with ao := tabMod {} e.ao ch fun a => { a with host := some v } }).done

/-- TRIM_ZERO and TRIM_SPAN (R140, R141): the records of frames n + 1 to n + 16 count. -/
def opTrim (span : Bool) (ch : Nat) (ref : Int) (c : Caller) (s : State) : Run :=
  if !isAnalogIn (chMode s.im ch) || isPairedPart s.im ch then deny stBadValue s
  else if chSafeOwned s.im ch then deny stSafeOwned s
  else if !s.cfg.trims.isEmpty then deny stBusy s
  else
    (s.modCfg fun d => { d with trims := [{ ch := ch, span := span, ref := ref, frame := s.fr.frameNo, port := c.code }] }, .hold)

/-- CLEAR_TOTAL (R199). -/
def opClearTotal (ch : Nat) (s : State) : Run :=
  if chMode s.im ch ≠ 9 then deny stBadValue s
  else (s.modEng fun e => { e with clear := setBit e.clear ch true }).done

/-! ## Alarms and the engineer call (R268, R284) -/

/-- Status of an alarm request. -/
def almStatus : AlmReply → Nat
  | .ok => stOk
  | .badValue => stBadValue
  | .notAllowed => stAlmNotAllowed
  | .wrongState => stAlmState

/-- ACK from location 0 (R268). -/
def opAck (scope target : Nat) (s : State) : Run :=
  let im := s.im
  let go (ps : List Nat) : Run :=
    let r := ackAll 0 ps s.alm.pts
    (s.modAlm fun a => { a with pts := r.1 }, .sent s.fr.frameNo stOk (packBytes 2 [(16, r.2)]))
  match scope with
  | 0 => if !alEn im target then deny stBadValue s
         else if !ackAllowed im 0 target then deny stAlmNotAllowed s
         else go [target]
  | 1 => if 64 ≤ target then deny stBadValue s else go (ackScope im 0 (some target))
  | 2 => go (ackScope im 0 none)
  | _ => deny stBadValue s

/-- A request that names one point: its outcome and the new entry. -/
def opPoint (p : Nat) (r : AlmReply × AlmPt) (s : State) : Run :=
  match r.1 with
  | .ok => (s.modAlm fun a => { a with pts := tabSet {} a.pts p r.2 }).done
  | e => deny (almStatus e) s

/-- SHELVE (R268). -/
def opShelve (p d : Nat) (s : State) : Run := opPoint p (shelvePoint s.im s.P p d (tabGet {} s.alm.pts p)) s
/-- UNSHELVE (R268). -/
def opUnshelve (p : Nat) (s : State) : Run := opPoint p (unshelvePoint s.im p (tabGet {} s.alm.pts p)) s
/-- REMOVE (R268). -/
def opRemove (p : Nat) (s : State) : Run := opPoint p (removePoint s.im p (tabGet {} s.alm.pts p)) s
/-- RETURN (R268). -/
def opReturn (p : Nat) (s : State) : Run := opPoint p (returnPoint s.im p (tabGet {} s.alm.pts p)) s

/-- SELECT_DUTY (R284): the owner's request of location 0. -/
def opSelectDuty (k : Nat) (s : State) : Run :=
  if k = 0xFF ∨ isCabin s.im k then
    (s.modAlm fun a => { a with call := { a.call with reqs := a.call.reqs ++ [{ loc := 0, req := 4, arg := k }] } }).done
  else deny stBadValue s

/-! ## Events (R310 to R313) -/

/-- READ_EVENTS (R310, R311). -/
def opReadEvents (sealLog : Bool) (rsv maxN fromSeq : Nat) (s : State) : Run :=
  if rsv ≠ 0 ∨ maxN = 0 ∨ 64 < maxN then deny stBadValue s
  else
    let r := readEvents sealLog maxN fromSeq s.recd
    (s, .now (if r.1 then stOverwritten else stOk) r.2)

/-- READ_RECORDER (R313). -/
def opReadRecorder (s : State) : Run := s.show (recorderBlock s.recd)

/-! ## Clock, calendar and backup RAM (R338) -/

/-- A write to the Twilight domain, which a locked interface refuses (R445). -/
def State.twiDo (f : Twi → Twi) (s : State) : State := if s.twi.locked then s else s.modTwi f

/-- An access to the Twilight domain: a locked interface refuses it, and no reply to the command is sent (R445). -/
def State.twiRun (r : Run) (s : State) : Run := if s.twi.locked then (s, .hold) else r

/-- READ_TIME (R450): a read that ends torn records 0C14h with its three attempts. -/
def opReadTime (torn : Bool) (s : State) : Run :=
  let s1 := if torn then s.unitEvs [{ code := 0x0C14, p1 := 3 }] else s
  s.twiRun (s1.show (toBytes 16 (timeBlock s.now torn s.twi)))

/-- STAGE_TIME (R454). -/
def opStageTime (set : List Byte) (s : State) : Run :=
  let v := ofBytes set
  if stReserved v then deny stBadValue s else s.twiRun ((s.twiDo fun w => { w with stage := v % 2 ^ 96 }).show [])

/-- COMMIT_TIME (R455, R456): the clock is set and a TIME_LINK written. A locked interface refuses the commit, no link is written
and no reply is sent (R301, R445). -/
def opCommitTime (s : State) : Run :=
  if !stValid s.twi.stage then deny stBadDate s
  else
    let s1 := s.twiDo (timeCommit s.now)
    s.twiRun (s1.unitEvs [s1.timeLink 1]).done

/-- SET_WEEKDAY (R452). -/
def opSetWeekday (w : Nat) (s : State) : Run :=
  if 6 < w then deny stBadValue s else s.twiRun (s.twiDo (setWeekday s.now w)).done

/-- READ_BACKUP (R338). -/
def opReadBackup (off len : Nat) (s : State) : Run :=
  if len = 0 ∨ 128 < len ∨ 128 < off + len then deny stBadValue s else s.twiRun (s.show (bramRead off len s.twi))

/-- WRITE_BACKUP (R463). -/
def opWriteBackup (off len : Nat) (data : List Byte) (s : State) : Run :=
  if 128 < off + len ∨ data.length ≠ len then deny stBadValue s
  else s.twiRun ((s.twiDo fun w => bramCommit (fillBuffer off data w)).show [])

end Sys2Proof.Machine
end

