-- ==== Sys2Proof/Machine/Calendar.lean ====
section
/-! DEFINITION. Commands of the event recorder and of the Twilight domain: the writer, operating time, the domain's supply,
its seconds and its registers (chapters 12 and 18). -/

namespace Sys2Proof.Machine

/-! ## Recorder (R296 to R308) -/

/-- EVENT_RECORD_WRITE (R308). The writer writes a queued record, its slot check and NEXT_SEQ into MRAM, and into the sealed log
for a sealed record. -/
def execEventRecordWrite (t : Nat) (s : State) : Out :=
  act true t (fun s => s.zenithRuns && !s.recd.queue.isEmpty) (State.modRecd writeRecord) s

/-- LOST_RECORD_ADMIT (R305). When a place becomes free after records were counted, a LOST record takes it first. -/
def execLostRecordAdmit (t : Nat) (s : State) : Out :=
  act true t (fun s => s.zenithRuns && decide (0 < s.recd.lost) && decide (s.recd.queue.length < queuePlaces)) (fun s =>
    s.modRecd (admitLost (s.stamp s.now))) s

/-- Whole operating seconds at the present instant (R297). -/
def State.wholeSeconds (s : State) : Nat := s.opMs s.now / 1000

/-- OPERATING_SECOND (R297). At each whole operating second the operating seconds are written to MRAM. The daily TIME_LINK
follows R301. -/
def execOperatingSecond (t : Nat) (s : State) : Out :=
  act true t (fun s => s.zenithRuns && decide (s.recd.opS < s.wholeSeconds)) (fun s =>
    let s1 := s.modRecd fun q => { q with opS := s.wholeSeconds }
    if s.recd.opS / 86400 ≠ s.wholeSeconds / 86400 then s1.unitEvs [s1.timeLink 3] else s1) s

/-! ## Supply of the domain (R444 to R447) -/

/-- The interface locks, and a write buffer that has not been committed is discarded. -/
def twiLock (w : Twi) : Twi := { w with locked := true, wbuf := [] }

/-- TWILIGHT_LOCK (R444). A logic rail below 3.00 V locks the Twilight interface and discards an uncommitted write buffer. -/
def execTwilightLock (t mv : Nat) (s : State) : Out :=
  act true t (fun _ => decide (mv < 3000)) (State.modTwi twiLock) s

/-- TWILIGHT_TO_BACKUP (R444). A logic rail below 2.90 V switches the domain to VBAK; it is below 3.00 V too. -/
def execTwilightToBackup (t mv : Nat) (s : State) : Out :=
  act true t (fun _ => decide (mv < 2900)) (State.modTwi fun w => { twiLock w with onBackup := true }) s

/-- TWILIGHT_TO_RAIL (R444). A logic rail above 3.00 V switches the domain back to the rail. -/
def execTwilightToRail (t mv : Nat) (s : State) : Out :=
  act true t (fun _ => decide (3000 < mv)) (State.modTwi fun w => { w with onBackup := false }) s

/-- TWILIGHT_UNLOCK (R444). A logic rail above 3.10 V for 10 ms unlocks the Twilight interface; it is above 3.00 V too. -/
def execTwilightUnlock (t mv heldUs : Nat) (s : State) : Out :=
  act true t (fun _ => decide (3100 < mv) && decide (10000 ≤ heldUs)) (State.modTwi fun w => { w with locked := false, onBackup := false }) s

/-- TWILIGHT_CONTENT_LOST (R446). VBAK below 1.8 V without the rail loses the domain's contents, which restart at their reset
values. -/
def execTwilightContentLost (t mv : Nat) (s : State) : Out :=
  act true t (fun s => s.twi.onBackup && decide (mv < 1800)) (fun s => s.modTwi (twiLost s.now)) s

/-- BAK_LOW_CHECK (R447). Every 60 s the domain measures VBAK, sets or clears BAK_LOW, and corrects its crystal by temperature. -/
def execBakLowCheck (t mv : Nat) (_temp : Int) (s : State) : Out :=
  act true t (fun _ => true) (fun s =>
    let low := decide (mv < 2400)
    let s1 := s.modTwi fun w => { w with bakLow := low }
    if low ≠ s.twi.bakLow then s1.unitEvs [{ code := 0x0C12, p1 := b2n low, p2 := mv }] else s1) s

/-! ## Seconds, reading and the registers (R448 to R463) -/

/-- RTC_SECOND (R459). At each second increment the clock advances the calendar and weekday, wraps, and fires matching alarms. -/
def execRtcSecond (t : Nat) (s : State) : Out := act true t (fun _ => true) (fun s => s.modTwi (rtcSecond s.now)) s

/-- RTC_FREEZE (R450). A read of offset 00h copies and freezes the time block. -/
def execRtcFreeze (t : Nat) (s : State) : Out := act true t (fun _ => true) (fun s => s.twiDo (rtcFreeze s.now)) s

/-- RTC_RELEASE (R450). A read of offset 0Ch returns the shadow and releases the freeze. -/
def execRtcRelease (t : Nat) (s : State) : Out := act true t (fun _ => true) (State.twiDo rtcRelease) s

/-- RTC_FREEZE_TIMEOUT (R450). A freeze not released within 2 ms ends and sets TORN. -/
def execRtcFreezeTimeout (t : Nat) (s : State) : Out :=
  act true t (fun _ => true) (fun s => s.modTwi (rtcFreezeTimeout s.now)) s

/-- TWILIGHT_TIME_COMMIT (R456). The CTRL COMMIT bit sets the clock from the staging set and fires skip firings or re-arms alarms.
A staging set that R455 refuses is never committed. -/
def execTwilightTimeCommit (t : Nat) (s : State) : Out :=
  act true t (fun s => !s.twi.locked && stValid s.twi.stage) (fun s =>
    let s1 := s.twiDo (timeCommit s.now)
    s1.unitEvs [s1.timeLink 1]) s

/-- TWILIGHT_SET_WDAY (R452). The CTRL SET_WDAY bit sets the weekday counter. -/
def execTwilightSetWday (t w : Nat) (s : State) : Out :=
  act true t (fun _ => decide (w ≤ 6)) (fun s => s.twiDo (setWeekday s.now w)) s

/-- TWILIGHT_LOAD_ALARMS (R457). The CTRL LOAD_ALARMS bit loads the alarm settings from the RTC class. -/
def execTwilightLoadAlarms (t : Nat) (s : State) : Out :=
  act true t (fun _ => true) (fun s => s.twiDo (loadAlarms (rtcBits s.im))) s

/-- TWILIGHT_BRAM_COMMIT (R463). The CTRL BRAM_COMMIT bit applies the backup RAM write buffer whole. -/
def execTwilightBramCommit (t : Nat) (s : State) : Out := act true t (fun _ => true) (State.twiDo bramCommit) s

/-- TWILIGHT_REGISTER_WRITE (R448). A write to a Twilight register without an action of its own, such as the staging set or the
write buffer. -/
def execTwilightRegisterWrite (t off v : Nat) (s : State) : Out := act true t (fun _ => true) (State.twiDo (twiWrite off v)) s

/-- Clear FIRED of alarm `k`. -/
def clearFired (k : Nat) (w : Twi) : Twi := setAlarmSt k { alarmSt k w with fired := false } w

/-- RTC_ALARM_STAMP (R462). On a firing, the Zenith controller reads TS_STAT, clears FIRED and stamps the alarm entry. A standby, and
a node in replay, clear their own FIRED bits without stamping. -/
def execRtcAlarmStamp (t alarm : Nat) (s : State) : Out :=
  act (decide (alarm < 2)) t (fun s => s.live && !s.twi.locked && (alarmSt alarm s.twi).fired) (fun s =>
    let cause := b2n (alarmSt alarm s.twi).skipped + 2 * b2n (s.unt.power.late.testBit alarm)
    let s1 := (s.modTwi (clearFired alarm)).modPower fun p => { p with late := setBit p.late alarm false }
    if s.port.replay || decide (s.unt.pair.role = 2) then s1 else s1.stampEntry 6 alarm (.rtc alarm cause)) s

end Sys2Proof.Machine
end

