-- ==== Sys2Proof/Machine/Loops.lean ====
section
/-! DEFINITION. Current outputs (R163 to R172): the serving engine's command and judgements, and the
cell's target with thermal foldback. -/

namespace Sys2Proof.Machine

/-- The band of NE43 in nA (R157, R163). -/
def aoBand (im : Image) (c : Nat) : Int × Int :=
  if aoNe43 im c then (3800000, 20500000) else (0, 24000000)

/-- The mapping of R165 in nA. -/
def aoMap (im : Image) (c : Nat) (v : Int) : Int :=
  rdiv (1000 * aoOutLo im c * (aoEngHi im c - aoEngLo im c)
      + (v - aoEngLo im c) * 1000 * (aoOutHi im c - aoOutLo im c))
    (aoEngHi im c - aoEngLo im c)

/-- The commanded current of one frame: value in nA, CLAMPED, FAILED (R165). `pv` is SRC_CH in frame
n − 1. -/
def aoCommand (im : Image) (c : Nat) (pv : PrevVal) (a : AoCh) : Int × Bool × Bool :=
  let b := aoBand im c
  let lim (v : Int) : Int × Bool := (clampI b.1 b.2 v, decide (clampI b.1 b.2 v ≠ v))
  if aoSrc im c = 0 then
    match a.host with
    | some v => let r := lim (aoMap im c v); (r.1, r.2, false)
    | none => let r := lim (1000 * aoInitI im c); (r.1, r.2, false)
  else if pv.quality = qBad then
    match aoFail im c with
    | 1 => (3500000, false, true)
    | 2 => (21500000, false, true)
    | _ => match a.lastCmd with
      | some v => (v, false, true)
      | none => let r := lim (1000 * aoInitI im c); (r.1, r.2, true)
  else let r := lim (aoMap im c pv.eng); (r.1, r.2, false)

/-- The conditions of R170 that a record shows: LOOP_OPEN, COMPLIANCE, DEVIATE. -/
def aoShown (rec : Rec) : Bool × Bool × Bool :=
  let rb := fldI rec 0 32
  let tg := fldI rec 64 32
  let sat := bit rec 96
  let lo := decide (3000000 ≤ tg) && sat && decide (rb < 500000)
  (lo, sat && decide (rb < tg - 50000) && !lo, !sat && !bit rec 97 && decide (100000 < (rb - tg).natAbs))

/-- Frames before DEVIATE is judged and before INIT clears: ceil(20 ms / P) (R170, R172). -/
def aoDelay (P : Nat) : Nat := framesOf P (msC 20)

/-- The engine's outcome for an AO-I channel: state, result and events; the command is in the state. -/
structure AoOut where
  st  : AoCh
  res : Rec
  ev  : List EvReq
  deriving DecidableEq, Repr

/-- One frame `n` of an AO-I channel (R165, R170). The Reset values of R172 are its result in the first frame after re-initialisation. -/
def aoEval (im : Image) (P c n : Nat) (rec0 : Rec) (stale : Bool) (pv : PrevVal) (hart : HartCh)
    (a : AoCh) : AoOut :=
  let first := decide (a.k = 0)
  let rc := if first then 0#128 else rec0
  let judge := !first && !stale
  let sh := aoShown rc
  let tg := fldI rc 64 32
  let a1 := if judge then
      { a with loopOpen := if 3000000 ≤ tg then runFlag sh.1 a.loopOpen else a.loopOpen
               compl := runFlag sh.2.1 a.compl
               dev := if a.changeAt + aoDelay P ≤ n then runFlag sh.2.2 a.dev else a.dev
               foldEv := bit rc 97 }
    else a
  let init := match a1.firstAt with
    | some s => decide (n < s + aoDelay P)
    | none => true
  let cmd := aoCommand im c pv a1
  let a2 := { a1 with
    k := a.k + 1, cmd := cmd.1
    lastCmd := if cmd.2.2 then a1.lastCmd else some cmd.1
    changeAt := if first || decide (cmd.1 ≠ a.cmd) then n + 1 else a.changeAt
    firstAt := if first then some (n + 1) else a.firstAt
    init := init }
  let q := if init || a2.loopOpen.on then qBad
    else if a2.compl.on || a2.dev.on || bit rc 97 || bit rc 98 || stale then qUncertain else qGood
  let ut := s32 (rdiv tg 1000)
  let ub := s32 (rdiv (fldI rc 0 32) 1000)
  { st := a2
    res := if first then packRec [(64, 0), (2, qBad), (5, 0), (1, b2n stale), (1, 1)] else packRec [(32, fld rc 0 32), (32, s32 cmd.1), (2, q), (1, b2n a2.loopOpen.on), (1, b2n a2.compl.on),
      (1, b2n a2.dev.on), (1, b2n (bit rc 97)), (1, b2n (bit rc 98)), (1, b2n stale), (1, b2n init),
      (1, b2n cmd.2.1), (1, b2n cmd.2.2), (1, b2n hart.comm), (1, b2n hart.dev), (1, b2n hart.mismatch),
      (18, 0), (32, fld rc 64 32)]
    ev := flagEvent 0x0610 c a.loopOpen.on a2.loopOpen.on ut ub ++
      flagEvent 0x0611 c a.compl.on a2.compl.on ut ub ++ flagEvent 0x0612 c a.dev.on a2.dev.on ut ub ++
      flagEvent 0x0613 c a.foldEv a2.foldEv ut ub }

/-! ## The cell (R166, R167, R207, R209) -/

/-- The current of the AO-I safe state (R163, R209): 0 mA, the current of the last strobe, or FAIL. -/
def aoSafeCurrent (im : Image) (c : Nat) (l : LoopCell) : Int :=
  match aoSafe im c with
  | 1 => l.cmd
  | 2 => if aoFail im c = 1 then 3500000 else 21500000
  | _ => 0

/-- The target: `base`, what the first condition of R211 that holds gives, or less while FOLDBACK has lowered it (R167). -/
def loopTarget (base : Int) (l : LoopCell) : Int :=
  match l.limit with
  | some v => min v base
  | none => base

/-- A strobe applies commanded current `cmd`. A foldback goes on until the target equals the commanded current (R167), which it does
not while a protection holds it (`held`). -/
def loopApply (cmd : Int) (held : Bool) (l : LoopCell) : LoopCell :=
  match l.limit with
  | some v => if held || decide (v < cmd) then { l with cmd := cmd } else { l with cmd := cmd, limit := none, ramp := false }
  | none => { l with cmd := cmd }

/-- R167: dissipation above 1.2 W for 1 ms lowers the target to `i`, the current that gives 1.0 W. -/
def loopFold (i target : Int) (l : LoopCell) : LoopCell := { l with limit := some (min i target), ramp := false }

/-- R167: one ramp step of 1 mA towards the commanded current. -/
def loopRamp (held : Bool) (l : LoopCell) : LoopCell :=
  match l.limit with
  | some v =>
    if !held && decide (l.cmd ≤ v + 1000000) then { l with limit := none, ramp := false }
    else { l with limit := some (max v (min (v + 1000000) l.cmd)) }
  | none => l

/-- The supply that keeps the headroom at 3.0 V, between 8.0 and 28.0 V (R166); mV. -/
def aoSupplyWant (termV : Nat) : Nat := max 8000 (min 28000 (termV + 3000))

/-- The adaptive supply at `now` as measured, `mv`, held to R166: it goes where the headroom asks, and rises by no less than
8 V/ms. -/
def aoSupply (now termV mv : Nat) (l : LoopCell) : Nat :=
  let want := aoSupplyWant termV
  max (min want (l.supply + (now - l.supplyAt) * 8 / 400)) (min want mv)

/-- The AO-I record at a latch (R169), with the supply voltage, the target, and the marks of a block protection and of the safe state.
SATURATED needs the supply at its highest voltage (R166). -/
def aoRecord (m : CellMeas) (supply : Nat) (target : Int) (blkOff safeSeen : Bool) (cellStat : Nat) (l : LoopCell) : Rec :=
  packRec [(32, s32 m.readback), (16, m.termV.toNat), (16, supply), (32, s32 target),
    (1, b2n (m.saturated && decide (supply = 28000))), (1, b2n l.limit.isSome), (1, b2n blkOff), (1, b2n (m.tone || l.tone)),
    (1, b2n safeSeen), (11, 0), (16, cellStat)]

end Sys2Proof.Machine
end

