-- ==== Sys2Proof/Machine/OpConfig.lean ====
section
/-! DEFINITION. The configuration opcodes (R328 to R335, R541 to R545). -/

namespace Sys2Proof.Machine

/-- The range of an object access lies within its class (R328). -/
def objRangeOk (cls ix off len : Nat) : Bool :=
  decide (1 ≤ len) && decide (len ≤ 4096) && decide (cls ≤ 14) && decide (ix * clsBytes cls + off + len ≤ clsCount cls * clsBytes cls)

/-- Image offset of an object access. -/
def objOffset (cls ix off : Nat) : Nat := clsOffset cls + ix * clsBytes cls + off

/-- READ_OBJECT (R328). -/
def opReadObject (staging : Bool) (cls ix off len : Nat) (s : State) : Run :=
  if !objRangeOk cls ix off len then deny stBadValue s
  else if staging then s.show (s.objectBody true cls ix off len)
  else (s, .form)

/-- WRITE_OBJECT (R328, R329). -/
def opWriteObject (cls ix off len : Nat) (data mask : List Byte) (s : State) : Run :=
  if !objRangeOk cls ix off len then deny stBadValue s
  else if masksRo (objOffset cls ix off) mask then deny stReadOnly s
  else (s.modCfg fun c => { c with staging := imageWrite (objOffset cls ix off) data mask c.staging }).show []

/-- Serial whose UID16 counts in this unit (R245). -/
def State.serialBcd (s : State) : Nat := s.unt.ident.serial

/-- What the commit rules ask about this unit. -/
def State.facts (s : State) : UnitFacts :=
  { witness := s.isWitness || s.unt.ident.witness, identBad := s.unt.power.identBad, unitB := s.unt.pair.unitB
    serial := s.unt.ident.serial, partner := decide (s.partnerHold = 1) || decide (s.partnerHold = 2)
    pairWas := paEn s.im, fwCrc := s.fwCrc }

/-- The OK body of a commit (R331). -/
def commitBody (cfg safe first : Nat) (changed : Bool) : List Byte :=
  packBytes 16 [(32, cfg), (32, safe), (48, first), (1, b2n changed)]

/-- COMMIT (R331, R332): the new image runs from the strobe that opens frame n + 1. -/
def opCommit (c : Caller) (s : State) : Run :=
  let n := s.fr.frameNo
  let im := s.cfg.staging
  match commitCheck im s.facts with
  | some (st, body) =>
    let q := refusalParams st body
    (s.cfgEv { code := 0x0302, src := c.code, p1 := st, p2 := q.1, p3 := q.2 }, .now st body)
  | none =>
    if sameSettings im s.im then
      (s.modCfg fun d => { d with restage := true },
        .sent (n + 1) stOk (commitBody s.cfg.hdr.cfgCrc s.cfg.hdr.safeCrc (n + 1) false))
    else
      let new := finishImage im s.serialBcd
      let nx : NextCfg := { image := new, cfgCrc := configCrc new, safeCrc := safetyCrc new, source := c.code }
      (s.modCfg fun d => { d with next := some nx }, .sent (n + 1) stOk (commitBody nx.cfgCrc nx.safeCrc (n + 1) true))

/-- DISCARD (R330). -/
def opDiscard (s : State) : Run := (s.modCfg fun c => { c with staging := c.image }).show []

/-- READ_IMAGE (R335): bytes of a stored slot of 512 KB (R484). -/
def opReadImage (slot off len : Nat) (s : State) : Run :=
  if 1 < slot ∨ len = 0 ∨ 4096 < len ∨ 524288 < off + len then deny stBadValue s
  else
    let inBody := min len (imageLength - off)
    s.show (slotBytes slot (s.cfg.slot slot) off inBody ++
      (List.range (len - inBody)).map fun k => Config.slotByte slot (off + inBody + k))

/-- LOAD_IMAGE (R335, R541): RO bits of the staging image keep their values. -/
def opLoadImage (off : Nat) (data : List Byte) (s : State) : Run :=
  if imageLength < off + data.length then deny stBadValue s
  else (s.modCfg fun c => { c with staging := imageWrite off data (List.replicate data.length 0xFF#8) c.staging }).show []

/-- CONFIRM (R545). -/
def opConfirm (crc : Nat) (c : Caller) (s : State) : Run :=
  let h := s.cfg.hdr
  if crc ≠ h.safeCrc then (s.cfgEv { code := 0x0304, src := c.code, p1 := crc, p2 := h.safeCrc }, .now stSafetyCrc [])
  else if h.confirmed = crc then s.done
  else
    (((s.modCfg fun d => { d with hdr := { d.hdr with confirmed := crc } }).storeStart).cfgEv
      { code := 0x0303, src := c.code, p1 := crc, p2 := h.confirmed }).done

end Sys2Proof.Machine
end

