-- ==== Sys2Proof/Machine/OpUnit.lean ====
section
/-! DEFINITION. The safety, pair, diagnostic, CAN, FSK and identity opcodes (R339, R340). -/

namespace Sys2Proof.Machine

/-! ## Safety (R219, R250) -/

/-- SAFETY_RESET (R219): bit 0 of the resets of the frame. -/
def opSafetyReset (f : Nat) (s : State) : Run :=
  (s.modSafe fun a => { a with resets := tabMod 0 a.resets f fun m => setBit m 0 true }).done

/-- DSC_RESET (R250). -/
def opDscReset (i : Nat) (s : State) : Run := (s.modSafe fun a => { a with dscResets := setBit a.dscResets i true }).done

/-! ## The pair (R436, R438) -/

/-- RESYNC (R438): refused when its conditions do not hold. -/
def opResync (s : State) : Run := if s.resyncReady then s.resyncStart.done else (s, .sent s.fr.frameNo stPartnerUnsync [])

/-- SWITCHOVER (R436): the reply is sent when frame n + 1 is complete. -/
def opSwitchover (s : State) : Run :=
  if s.switchoverReady then
    (s.modPair fun p => { p with switchAt := some s.fr.frameNo }, .sent (s.fr.frameNo + 1) stOk [])
  else deny stPartnerUnsync s

/-! ## Diagnostics (R340, R486, R518) -/

/-- READ_DIAG (R518). -/
def opReadDiag (level index : Nat) (s : State) : Run :=
  match s.diagBody level index with
  | some b => s.show b
  | none => deny stBadValue s

/-- CLEAR_COUNTERS on the counters and held bits of the unit (R340, R379, R409, R486, R513, R516, R517, R518). -/
def State.clearCounters (s : State) : State :=
  let b := s.blks
  let u := s.unt
  { s with
    blks := { b with
      acq := tabMap {} (fun _ a => { a with nEdge := 0 }) b.acq
      cell := tabMap {} (fun _ d => { d with statAcc := 0, couplers := 0, restarts := 0 }) b.cell }
    can := { s.can with
      ctls := tabMap {} (fun _ c => { c with busOff := 0, rxNoMatch := 0, rxReject := 0, rxFormat := 0, rxLocked := 0, msgLost := 0
                                             rxRemote := 0, protoExc := 0, txOk := 0, txRetry := 0, ttMiss := 0 }) s.can.ctls }
    port := { s.port with st := tabMap {} (fun _ p => portClear p) s.port.st }
    unt := { u with
      mem := tabMap {} (fun _ m => memClear m) u.mem
      regs := tabMap {} (fun _ r => { r with upErrs := 0, hartFail := 0, hznSeq := 0 }) u.regs
      mdiag := { u.mdiag with lockstep := false, memUncorr := false, memCollide := false, memMarch := false, collide := 0
                              nPoisoned := 0 } } }

/-! ## CAN and FSK (R181, R340, R393, R394) -/

/-- READ_CANOBJ (R393). An object that is not enabled shows its content as it stands. -/
def opReadCanobj (o : Nat) (s : State) : Run := s.readFrame (decide (o < 512))

/-- A configuration object sources the transmit object (R340, R394). -/
def objNamedTx (im : Image) (o : Nat) : Bool := (objClaims im).any fun x => decide (x.1 = o)

/-- WRITE_CANOBJ (R394): the load enters message RAM when frame n is closed. -/
def opWriteCanobj (o : Nat) (data : List Byte) (s : State) : Run :=
  if !coEn s.im o || !coTx s.im o || objNamedTx s.im o || decide (data.length ≠ coSize s.im o) then deny stBadValue s
  else (s.modCan fun c => { c with loads := c.loads ++ [(o, data)] }).done

/-- READ_HART (R181). -/
def opReadHart (ch addr count : Nat) (s : State) : Run :=
  s.readFrame (decide (1 ≤ count) && decide (count ≤ 16) && decide (addr + count ≤ 16) && decide (chModemCell s.im ch ≠ 0))

end Sys2Proof.Machine
end

