-- ==== Sys2Proof/Machine/Operands.lean ====
section
/-! DEFINITION. Which operands name something that the node has (R9 to R12, R343, R487). A command with any other operand ends
in the fault `noSuchUnit`. -/

namespace Sys2Proof.Machine

/-- A channel (R9). -/
def isCh (c : Nat) : Bool := decide (c < 512)
/-- A block (R9). -/
def isBlk (b : Nat) : Bool := decide (b < 64)
/-- A region (R9). -/
def isRegion (g : Nat) : Bool := decide (g < 4)
/-- A modem cell, 8 × region + cell (R10). -/
def isModem (m : Nat) : Bool := decide (m < 32)
/-- A CAN controller. -/
def isCtl (k : Nat) : Bool := decide (k < 4)
/-- A message object. -/
def isObj (o : Nat) : Bool := decide (o < 512)
/-- An Ethernet port (R11). -/
def isEth (i : Nat) : Bool := decide (i < 3)
/-- An owner code that names a port (R343). -/
def isCode (c : Nat) : Bool := decide (c < 16) && decide (c % 8 < 6)
/-- A signed 32-bit parameter. -/
def isI32 (v : Int) : Bool := decide (-2147483648 ≤ v) && decide (v < 2147483648)

end Sys2Proof.Machine
end

