-- ==== Sys2Proof/Machine/Traces.lean ====
section
/-! DEFINITION. The frame record (R50), asynchronous entries as bytes (R56), the trace of a frame (R69) and its reading in
replay (R70). -/

namespace Sys2Proof.Machine

/-- The frame record of the open frame (R50); POISONED as the collector writes it at the close. -/
def State.frameRecord (s : State) : Nat :=
  let f := s.fr
  pack [(48, f.frameNo), (32, f.prevLen), (32, f.lag), (32, s.cfg.hdr.cfgCrc), (16, f.asyncCount), (16, f.deferCount),
    (2, imPeriodCode s.im), (1, b2n f.stretched), (1, b2n f.shortened), (1, b2n f.longRec), (1, b2n f.overrun),
    (1, b2n (decide (s.eng.poison ≠ 0))), (1, b2n s.port.replay)]

/-- Payload of an entry. -/
def EntryBody.payload : EntryBody → List Byte
  | .packet _ _ _ b => b
  | .can _ m => m.data
  | .hart _ b => b
  | .dsc _ b => b
  | .rtc _ cause => toBytes 4 cause

/-- An entry header (R56) and its payload, padded to whole 32-bit words (R55). -/
def entryRow (order index seq off : Nat) (deferred : Bool) (b : List Byte) : List Byte :=
  packBytes 16 [(8, order), (1, b2n deferred), (7, 0), (16, index), (16, b.length), (16, 0), (32, off), (32, seq)] ++ b ++
    List.replicate (4 * ceilDiv b.length 4 - b.length) 0#8

/-- An entry of a frame. -/
def Entry.bytes (e : Entry) : List Byte := entryRow e.order e.index e.seq e.off e.deferred e.body.payload

/-- A change-of-state entry (R193). -/
def CosEntry.bytes (e : CosEntry) : List Byte :=
  entryRow 1 e.ch e.seq e.off false (toBytes 4 (b2n e.state + 2 * e.place))

/-- The bytes of the open frame in a trace (R69, R334). -/
def State.traceFrame (s : State) : List Byte :=
  toBytes 32 s.frameRecord ++ s.recordsBody 0 512 ++ s.cjcBody ++ s.inp.cosNow.flatMap CosEntry.bytes ++
    s.inp.entries.flatMap Entry.bytes

/-- TRIM_ZERO or TRIM_SPAN. -/
def isTrimOp (o : Op) : Bool :=
  match o with
  | .trimZero _ _ => true
  | .trimSpan _ _ => true
  | _ => false

/-- The replies to trims that `due` selects are decided: status `st` leaves when frame `n` is complete. -/
def settleTrims (due : Pending → Bool) (n st : Nat) (l : List Pending) : List Pending :=
  l.map fun x => if isTrimOp x.op && due x then { x with due := some n, done := some (st, []) } else x

/-! ## State of a frame (R65, R69, R439) -/

/-- The state from which the frames after this instant are computed. -/
def State.snap (s : State) : Snap :=
  { fr := s.fr, staging := s.cfg.staging, next := s.cfg.next, restage := s.cfg.restage, trims := s.cfg.trims
    confirmed := s.cfg.hdr.confirmed, recs := s.inp.recs, stale := s.inp.stale, cjc := s.inp.cjc, eng := s.eng, safe := s.safe
    alm := s.alm, objs := s.can.objs, shown := s.shown
    hosts := { sess := s.port.sess, pend := s.port.pend, owner := s.port.owner, trace := s.port.trace } }

/-- The frame record fields of `x` that frames are computed from; strobe instants, lag and counters are this unit's own (R67). -/
def clkTake (x own : FrameClk) : FrameClk :=
  { own with frameNo := x.frameNo, prevLen := x.prevLen, prevLen2 := x.prevLen2, total := own.total + x.total
             asyncCount := x.asyncCount, deferCount := x.deferCount }

/-- Everything of a copied state but the host side of the ports. -/
def State.takeSnap (x : Snap) (s : State) : State :=
  let s1 := (s.modFr (clkTake x.fr)).modCfg fun c => { c with
    staging := x.staging, next := x.next, restage := x.restage, trims := x.trims, hdr := { c.hdr with confirmed := x.confirmed } }
  let s2 := s1.modInp fun i => { i with
    recs := x.recs, stale := x.stale
    cjc := tabMods {} (List.range 16) (fun k c =>
      let y := tabGet {} x.cjc k
      { c with recTemp := y.recTemp, recNew := y.recNew, recFault := y.recFault }) i.cjc }
  { s2 with eng := x.eng, safe := x.safe, alm := x.alm, can := { s2.can with objs := x.objs }, shown := x.shown }

/-- The reference times of ownership on a time axis whose zero lies `d` cycles earlier (R345). -/
def Owner.shift (d : Nat) (o : Owner) : Owner :=
  { o with lease := o.lease + d, offer := o.offer.map fun x => (x.1, x.2 + d), window := o.window.map (· + d) }

/-- The host side of a copied state. -/
def State.takeHosts (h : Hosts) (s : State) : State :=
  s.modPort fun p => { p with sess := h.sess, pend := h.pend, owner := h.owner, trace := h.trace }

/-- The host side in place. -/
def State.hosts (s : State) : Hosts :=
  { sess := s.port.sess, pend := s.port.pend, owner := s.port.owner, trace := s.port.trace }

/-- `f` acts on the host side of the recorded run; the live sessions, replies and ownership are not touched by inputs of a
trace, and nothing is sent on their account (R70, log 63). -/
def State.withinTrace (f : State → State) (s : State) : State :=
  if s.port.replay && s.port.replayIn.begun then
    let s1 := f ((s.takeHosts s.port.replayIn.hosts).modPort fun p => { p with
      replayIn := { p.replayIn with hosts := s.hosts, within := true } })
    (s1.takeHosts s1.port.replayIn.hosts).modPort fun p => { p with replayIn := { p.replayIn with hosts := s1.hosts, within := false } }
  else s

/-- `f` acts on the live host side, and on that of the recorded run in a replay. -/
def State.bothSides (f : State → State) (s : State) : State := (f s).withinTrace f

/-- `f` acts where the frames are computed from: on the host side of the recorded run in a replay. -/
def State.frameSide (f : State → State) (s : State) : State :=
  if s.port.replay && s.port.replayIn.begun then s.withinTrace f else f s

/-- A replay takes the state of its snapshot, and its frames from then on (R69, R70). Ownership on either side keeps the time that
has passed for it. -/
def State.takeReplay (x : Snap) (s : State) : State :=
  (s.takeSnap x).modPort fun p => { p with
    owner := p.owner.shift x.fr.total
    replayIn := { p.replayIn with hosts := { x.hosts with owner := x.hosts.owner.shift s.fr.total } } }

/-! ## The trace (R69) -/

/-- Bytes in pieces of at most `n`. -/
def cutBytes (n : Nat) : Nat → List Byte → List (List Byte)
  | 0, _ => []
  | _ + 1, [] => []
  | fuel + 1, b => b.take n :: cutBytes n fuel (b.drop n)

/-- Trace bytes leave in segments of the largest body, and the last frame sent is `n` (log 40). -/
def State.sendTraceBytes (s : State) (x : Nat × List Byte) : State :=
  ((cutBytes 8168 (x.2.length + 1) x.2).foldl (fun y d => y.sendTrace stOk d) s).modPort fun p =>
    { p with trace := p.trace.map fun t => { t with last := x.1 } }

/-- Trace bytes join those that wait to be sent; once they have left, frame `n` is sent whole. -/
def State.queueTrace (n : Nat) (b : List Byte) (s : State) : State :=
  s.modPort fun p => { p with trace := p.trace.map fun x => { x with out := x.out ++ [(n, b)] } }

/-- The trace bytes that wait leave, but on SER0, where one segment follows each reply (R373). -/
def State.flushTrace (s : State) : State :=
  match s.port.trace with
  | none => s
  | some t =>
    if s.ownerCode % 8 = 5 then s
    else t.out.foldl State.sendTraceBytes (s.modPort fun p => { p with trace := some { t with out := [] } })

/-- At the strobe of its first frame a trace begins with the state snapshot (R69, R334). -/
def State.traceBegin (s : State) : State :=
  match s.port.trace with
  | some t =>
    if t.first = s.fr.frameNo then
      let b := Config.snapshot s.snap
      s.queueTrace (t.first - 1) (toBytes 4 b.length ++ b)
    else s
  | none => s

/-- Step of an open trace when a frame is complete: its bytes are sent while TRACE_EN is 1. `late` tells that the stream has not
kept pace with the frames; the trace then ends at the last frame sent, with 0206h (R69). -/
def State.traceStep (late : Bool) (s : State) : State :=
  match s.port.trace with
  | none => s
  | some t =>
    let n := s.fr.frameNo
    if n < t.first ∨ !imTraceEn s.im then s
    else if late then (s.unitEvs [{ code := 0x0206, p1 := t.last % 2 ^ 32 }]).endTrace true
    else
      (s.queueTrace n s.traceFrame).flushTrace

/-! ## Replay (R70, R334) -/

/-- A frame of a loaded trace. -/
structure TraceFrame where
  frame   : Nat := 0
  prevLen : Nat := 0
  stale   : Nat := 0
  recs    : Tab Rec := []
  cjc     : List Nat := []
  cos     : List CosEntry := []
  entries : List Entry := []
  deriving DecidableEq, Repr

/-- The snapshot block at the front of a trace, once it is whole: its content and the bytes after it. -/
def snapshotSplit (b : List Byte) : Option (List Byte × List Byte) :=
  let n := ofBytes (b.take 4)
  if 4 ≤ b.length ∧ 4 + n ≤ b.length then some ((b.drop 4).take n, b.drop (4 + n)) else none

/-- Connection that a PDU on Ethernet port `i` names (R244); `src` tells whether the peer's address is to match. -/
def dscOfPdu (im : Image) (i : Nat) (src : Option Nat) (b : List Byte) : Option Nat :=
  (List.range 32).find? fun k => dscEn im k && decide (dscTransport im k = 1) && decide (dscEth im k = i) &&
    decide (dscConnId im k = ofBytes (b.take 2)) && src.all fun a => decide (dscPeerIp im k = a)

/-- Body of an entry read from a trace. -/
def entryRead (im : Image) (order index : Nat) (b : List Byte) : EntryBody :=
  match order with
  | 2 => .hart index b
  | 3 => .can index { Config.canRead index b with data := b }
  | 4 => .dsc ((dscOfPdu im index none b).getD 32) b
  | 5 => .packet index 0 0 b
  | _ => .rtc index (ofBytes (b.take 4))

/-- `n` entries at the front of the bytes of a trace: change-of-state entries, other entries, and the rest. -/
def entriesRead (im : Image) : Nat → List Byte → Option (List CosEntry × List Entry × List Byte)
  | 0, b => some ([], [], b)
  | n + 1, b =>
    let f (lo len : Nat) : Nat := ofBytes (b.take 16) / 2 ^ lo % 2 ^ len
    let len := f 32 16
    let room := 16 + 4 * ceilDiv len 4
    if b.length < room then none
    else
      let pay := (b.drop 16).take len
      match entriesRead im n (b.drop room) with
      | none => none
      | some (c, e, r) =>
        if f 0 8 = 1 then
          let v := ofBytes pay
          some ({ ch := f 16 16, state := decide (v % 2 = 1), off := f 64 32, place := v / 2 % 8, seq := f 96 32 } :: c, e, r)
        else
          some (c, { stamp := f 64 32, order := f 0 8, index := f 16 16, deferred := decide (f 8 1 = 1), off := f 64 32
                     seq := f 96 32, traced := true, body := entryRead im (f 0 8) (f 16 16) pay } :: e, r)

/-- The frame at the front of the bytes of a trace, once it is whole, and the rest. -/
def frameRead (im : Image) (b : List Byte) : Option (TraceFrame × List Byte) :=
  if b.length < 8288 then none
  else
    let h := ofBytes (b.take 32)
    let recs := (List.range 512).foldl (fun t c => tabSet 0#128 t c (BitVec.ofNat 128 (ofBytes ((b.drop (32 + 16 * c)).take 16)))) []
    let cjc := (List.range 16).map fun k => ofBytes ((b.drop (8224 + 4 * k)).take 4)
    match entriesRead im (h / 2 ^ 144 % 65536) (b.drop 8288) with
    | none => none
    | some (c, e, r) =>
      some ({ frame := h % 2 ^ 48, prevLen := h / 2 ^ 48 % 2 ^ 32, stale := Config.traceStale ((b.drop 32).take 8192)
              recs := recs, cjc := cjc, cos := c, entries := e }, r)

/-- Whole frames in the bytes of a trace. -/
def framesHeld (im : Image) : Nat → List Byte → Nat
  | 0, _ => 0
  | fuel + 1, b =>
    match frameRead im b with
    | some x => 1 + framesHeld im fuel x.2
    | none => 0

/-- Frames held and not yet replayed. -/
def State.replayHeld (s : State) (r : Replay) : Nat :=
  if r.begun then framesHeld s.im (r.bytes.length / 8288 + 1) r.bytes
  else match snapshotSplit r.bytes with
    | some x => framesHeld s.im (x.2.length / 8288 + 1) x.2
    | none => 0

/-- A segment is added to what has been received; none when it is out of order or its snapshot comes from another
firmware (R334). -/
def replayAdd (fwCrc segment : Nat) (b : List Byte) (r : Replay) : Option Replay :=
  let r1 : Replay := { next := r.next + 1, bytes := r.bytes ++ b, begun := r.begun }
  if segment ≠ r.next then none
  else if r.begun || (snapshotSplit r.bytes).isSome then some r1
  else match snapshotSplit r1.bytes with
    | some x => if Config.snapshotFw x.1 = fwCrc then some r1 else none
    | none => some r1

end Sys2Proof.Machine
end

