-- ==== Sys2Proof/Machine/Opcodes.lean ====
section
/-! DEFINITION. Command packets as a whole: the checks of R320 in order, the opcode itself, its reply (R322, R323), and the
part of a standby (R324, R360). -/

namespace Sys2Proof.Machine

/-- Body and status of an opcode that reads the open frame, formed when the frame is complete (R323). -/
def State.formBody (op : Op) (s : State) : Nat × List Byte :=
  (stOk, match op with
    | .readSummary => s.summary
    | .readObject _ cls ix off len => s.objectBody false cls ix off len
    | .readCrc => s.crcBody
    | .readResults first count => s.resultsBody first count
    | .readRecords first count => s.recordsBody first count
    | .readCjc => s.cjcBody
    | .readPoints first count => s.pointsBody first count
    | .readGroups first count => s.groupsBody first count
    | .readCall => toBytes 8 (callBlock s.P s.alm.call)
    | .readSafety first count => s.safetyBody first count
    | .readDsc first count => s.dscBody first count
    | .readCanobj o => s.canobjBody o
    | .readHart ch addr count => s.hartBody ch addr count
    | _ => [])

/-- REPLAY_DATA (R334). -/
def opReplayData (segment : Nat) (b : List Byte) (s : State) : Run :=
  match replayAdd s.fwCrc segment b s.port.replayIn with
  | some r => (s.modPort fun p => { p with replayIn := r }).show (toBytes 4 (s.replayHeld r))
  | none => deny stBadValue s

/-- The opcode itself: step 9 of R320 and its effect (R334 to R340). -/
def runOp (op : Op) (torn : Bool) (c : Caller) (s : State) : Run :=
  match op with
  | .ping => opPing s
  | .openSession => opOpenSession s
  | .closeSession => opCloseSession c s
  | .readSummary => (s, .form)
  | .readFrameStatus => opReadFrameStatus s
  | .clearFrameStatus => opClearFrameStatus s
  | .warmRestart => s.done
  | .traceOpen => opTraceOpen s
  | .traceClose => opTraceClose s
  | .replayStart => opReplayStart s
  | .replayData segment b => opReplayData segment b s
  | .claim => opClaim c s
  | .renew => s.show []
  | .handover target => opHandover target c s
  | .accept => opAccept c s
  | .release => opRelease s
  | .readOwner => opReadOwner s
  | .readObject staging cls ix off len => opReadObject staging cls ix off len s
  | .writeObject cls ix off len data mask => opWriteObject cls ix off len data mask s
  | .commit => opCommit c s
  | .discard => opDiscard s
  | .readCrc => (s, .form)
  | .readImage slot off len => opReadImage slot off len s
  | .loadImage off data => opLoadImage off data s
  | .readResults first count => s.readFrame (runOk first count 64 512)
  | .readRecords first count => s.readFrame (runOk first count 64 512)
  | .readCjc => (s, .form)
  | .writeDo ch st => opWriteDo ch st s
  | .writeAo ch v => opWriteAo ch v s
  | .trimZero ch ref => opTrim false ch ref c s
  | .trimSpan ch ref => opTrim true ch ref c s
  | .clearTotal ch => opClearTotal ch s
  | .readPoints first count => s.readFrame (runOk first count 128 2048)
  | .readGroups first count => s.readFrame (runOk first count 64 64)
  | .ack scope target => opAck scope target s
  | .shelve p d => opShelve p d s
  | .unshelve p => opUnshelve p s
  | .remove p => opRemove p s
  | .return_ p => opReturn p s
  | .readCall => (s, .form)
  | .selectDuty k => opSelectDuty k s
  | .readEvents sealLog rsv maxN fromSeq => opReadEvents sealLog rsv maxN fromSeq s
  | .readRecorder => opReadRecorder s
  | .readTime => opReadTime torn s
  | .stageTime set => opStageTime set s
  | .commitTime => opCommitTime s
  | .setWeekday w => opSetWeekday w s
  | .readBackup off len => opReadBackup off len s
  | .writeBackup off len data => opWriteBackup off len data s
  | .readSafety first count => s.readFrame (runOk first count 32 32)
  | .safetyReset f => opSafetyReset f s
  | .confirm crc => opConfirm crc c s
  | .readDsc first count => s.readFrame (runOk first count 32 32)
  | .dscReset i => opDscReset i s
  | .readPair => s.show s.pairBlock
  | .resync => opResync s
  | .switchover => opSwitchover s
  | .readDiag level index => opReadDiag level index s
  | .readMemory => s.show (memBlock s.unt.mdiag s.unt.mem)
  | .clearCounters => s.clearCounters.show []
  | .readCan k => s.show (s.canBody k)
  | .readCanobj o => opReadCanobj o s
  | .writeCanobj o data => opWriteCanobj o data s
  | .readHart ch addr count => opReadHart ch addr count s
  | .readIdentity => s.show s.identBody
  | .readFirmware => s.show s.fwBody

/-! ## Replies -/

/-- A reply leaves. Once the reply of a WARM_RESTART has left, the restart is due (R501). -/
def State.deliver (c : Caller) (op : Op) (st : Nat) (body : List Byte) (s : State) : State :=
  let s1 := s.answer c st body
  if op = .warmRestart ∧ st = stOk ∧ !s.port.replayIn.within then s1.modPower fun p => { p with restartDue := true } else s1

/-- The reply of an opcode: at once, or when its frame is complete (R323). A frame that is already complete keeps no reply
back. -/
def State.settle (c : Caller) (op : Op) (r : Run) : State :=
  let s := r.1
  let done := decide (s.phase = .complete)
  match r.2 with
  | .now st b => s.deliver c op st b
  | .sent n st b => if done && decide (n ≤ s.fr.frameNo) then s.deliver c op st b else s.pendReply c (some n) op (some (st, b))
  | .form =>
    if done then let f := s.formBody op; s.deliver c op f.1 f.2
    else s.pendReply c (some s.fr.frameNo) op none
  | .hold => s.pendReply c none op none

/-! ## The checks of R320 -/

/-- Steps 1 and 2. -/
def headStatus (h : PktHead) : Nat :=
  if h.version ≠ 1 then stBadVersion else if h.flags ≠ 0 ∨ h.status ≠ 0 then stBadValue else stOk

/-- Outcome of steps 3 and 4 (R321, R322). -/
inductive Verdict where
  /-- Refused with a status and a body. -/
  | refuse (st : Nat) (body : List Byte)
  /-- A repeated packet whose reply is pending: ignored. -/
  | ignore
  /-- A repeated packet: the stored reply is sent again. -/
  | again (r : Reply)
  | go
  deriving DecidableEq, Repr

/-- Steps 3 and 4 for a packet of a session. -/
def sessionCheck (x : Session) (session seq opcode : Nat) : Verdict :=
  if x.id = 0 ∨ session ≠ x.id then .refuse stBadSession []
  else if seq = (x.lastSeq + 1) % 2 ^ 32 then (if x.busy then .refuse stBusy [] else .go)
  else if seq = x.lastSeq ∧ opcode = x.lastOp then
    (if x.busy then .ignore else match x.reply with
      | some r => .again r
      | none => .ignore)
  else .refuse stSequence (toBytes 4 ((x.lastSeq + 1) % 2 ^ 32))

/-- Steps 5 to 8; `traced` tells that the packet is an input of a loaded trace, which R326 does not restrict. -/
def opStatus (s : State) (code opcode : Nat) (op : Option Op) (traced : Bool) : Nat :=
  if !opListed opcode then stBadOpcode
  else if op.isNone then stBadLength
  else if opOwnerOnly opcode && decide (s.port.owner.owner ≠ some code) then stNotOwner
  else opModeStatus opcode (s.port.replay && !traced) s.paired s.isWitness

/-- The packet counts as one from its port in this frame (R321), and one of its session names the partner's address (R368). -/
def State.heardFrom (code : Nat) (h : PktHead) (s : State) : State :=
  s.modSess code fun x =>
    if x.id = 0 then x
    else if h.session = x.id then { x with heard := true, ip := h.ip, udp := h.udp } else { x with heard := true }

/-- The caller of a packet from port `code`. -/
def makeCaller (code sid opcode : Nat) (h : PktHead) : Caller :=
  { code := code, ip := h.ip, udp := h.udp, session := h.session, sid := sid, seq := h.seq, opcode := opcode }

/-- OPEN_SESSION (R321): a session on the port closes, and a new one begins with this packet as its last. -/
def State.beginSession (code opcode : Nat) (h : PktHead) (s : State) : State :=
  (s.closeSession code).modSess code fun _ =>
    { id := sessionId s.fr.frameNo, lastSeq := h.seq, lastOp := opcode, busy := true, heard := true, ip := h.ip, udp := h.udp }

/-- SEQ becomes the last sequence number of the session (R320). -/
def State.advance (code opcode : Nat) (h : PktHead) (s : State) : State :=
  s.modSess code fun x => { x with lastSeq := h.seq, lastOp := opcode, busy := true, reply := none }

/-- A forwarded packet that the active hands back to the standby (R324). -/
def State.handsBack (c : Caller) (o : Op) (s : State) : Bool :=
  decide (s.unt.pair.role = 1) && !s.isLocal c.code && opImmediate o && !opOwnerOnly c.opcode

/-- The staging instances that differ between two images. -/
def stagingChanges (old new : Image) : List ContrailBlock :=
  ((old.map (·.1) ++ (new.map (·.1)).filter fun k => !(old.map (·.1)).contains k).filter fun k =>
    inst old (k / 4096) (k % 4096) != inst new (k / 4096) (k % 4096)).map fun k => .staging (k / 4096) (k % 4096) (inst new (k / 4096) (k % 4096))

/-- What the active sends of the opcode that has taken it from `s` to `u`: staging changes, a committed time, and backup RAM
writes (R425, R428). -/
def opMirror (o : Op) (s u : State) : List ContrailBlock :=
  match o with
  | .writeObject _ _ _ _ _ _ | .loadImage _ _ | .discard => stagingChanges s.cfg.staging u.cfg.staging
  | .commitTime => if stValid s.twi.stage && !s.twi.locked then [.time s.twi.stage] else []
  | .writeBackup off len data => if decide (off + len ≤ 128 ∧ data.length = len) && !s.twi.locked then [.backup off data] else []
  | _ => []

/-- The opcode runs and its reply is settled. One that is handed back waits for the standby's reply. -/
def State.runReply (c : Caller) (o : Op) (torn : Bool) (s : State) : State :=
  if s.handsBack c o then s.pendReply c none o none
  else
    let r := runOp o torn c s
    (State.settle c o r).activeSends (opMirror o s r.1)

/-- A packet of the open frame, through all steps of R320. `op` is none when the length of its body is wrong. An OPEN_SESSION whose
SESSION is not 0000h fails step 3 (log 42). -/
def State.runCmd (traced torn : Bool) (code opcode : Nat) (h : PktHead) (op : Option Op) (s0 : State) : State :=
  let s := s0.heardFrom code h
  let c0 := makeCaller code 0 opcode h
  if headStatus h ≠ stOk then s.refuse c0 (headStatus h) []
  else if opcode = 0x0002 ∧ h.session = 0 then
    let s1 := s.renewLease code
    match op with
    | none => s1.refuse c0 stBadLength []
    | some o =>
      let st := opStatus s1 code opcode op traced
      if st ≠ stOk then s1.refuse c0 st []
      else (s1.beginSession code opcode h).runReply (makeCaller code (sessionId s.fr.frameNo) opcode h) o torn
  else if opcode = 0x0002 then s.refuse c0 stBadSession []
  else
    match sessionCheck (s.sessOf code) h.session h.seq opcode with
    | .refuse st b => s.refuse c0 st b
    | .ignore => s
    | .again r => (s.renewLease code).sendAnswer r
    | .go =>
      let s1 := (s.renewLease code).advance code opcode h
      let c := makeCaller code h.session opcode h
      let st := opStatus s1 code opcode op traced
      if st ≠ stOk then s1.answer c st []
      else match op with
        | some o => s1.runReply c o torn
        | none => s1

/-! ## The standby (R324, R360) -/

/-- Packets pass from the standby to the active: the link is up and the standby is not UNSYNCHRONISED (R360). -/
def State.forwards (s : State) : Bool := s.linkUp && decide (s.unt.pair.sync ≠ 0)

/-- A packet that reaches the standby. It answers a failure of steps 1 and 2, and PARTNER_UNSYNC while it cannot forward. Every
other packet goes to the active, which runs steps 3 to 8 on it (R324). -/
def State.standbyCmd (code opcode : Nat) (h : PktHead) (s : State) : State :=
  let c := makeCaller code 0 opcode h
  if headStatus h ≠ stOk then s.emit (c.reply (headStatus h) [])
  else if !s.forwards then s.emit (c.reply stPartnerUnsync [])
  else s

/-- A packet that the active hands back: the standby runs step 9, executes the opcode on its own state, and the reply leaves
through its own port (R324). -/
def State.handedBack (torn : Bool) (code opcode : Nat) (h : PktHead) (op : Option Op) (s : State) : State :=
  match op with
  | some o =>
    let c := makeCaller code 0 opcode h
    let r := runOp o torn c s
    match r.2 with
    | .now st b => r.1.emit (c.reply st b)
    | _ => s
  | none => s

/-! ## Packets -/

/-- A packet waits for the reply of the standby that it was handed back to. -/
def State.awaitsBack (s : State) (code opcode seq : Nat) : Bool :=
  s.port.pend.any fun p => decide (p.code = code) && decide (p.seq = seq) && decide (p.opcode = opcode) && p.due.isNone

/-- A command packet that R319 does not discard, as an entry of the open frame. One that the active hands back goes to the standby
with its bytes (R324). -/
def State.runPacket (traced : Bool) (code ip udp : Nat) (bytes : List Byte) (s : State) : State :=
  match parsePacket (code % 8) ip udp bytes with
  | some p =>
    let s1 := s.runCmd traced false code p.code p.head (decodeOp p.code p.body)
    if s1.awaitsBack code p.code p.head.seq && !s.awaitsBack code p.code p.head.seq && !s.isLocal code then
      s1.activeSends [.handBack code false ip udp bytes]
    else s1
  | none => s

/-- A request on an alarm point (R268). -/
def opAlarm : Op → Bool
  | .ack _ _ | .shelve _ _ | .unshelve _ | .remove _ | .return_ _ => true
  | _ => false

/-- A packet given by its header and opcode, as the next entry of the open frame of a running unit: ownership as the frame
begins (step 1 of R346), then the packet. `fits` tells that the parameters have a place in the body, `okLen` that the
LENGTH of the body agrees with them. A request on an alarm point acts on what the point showed at the end of the frame before: one
that comes after step 2 of R267 has begun is an entry of the next frame. -/
def runRow (h : PktHead) (fits okLen torn : Bool) (op : Op) (s : State) : Out :=
  if !fits || decide (6 ≤ h.port) then .fault .noSuchUnit
  else if !s.live then .next s
  else
    let code := s.codeOf h.port
    let o := if okLen then some op else none
    if s.unt.pair.role = 2 then .next (s.standbyCmd code (opCode op) h)
    else if opAlarm op && decide (s.alm.next ≠ 0) then .next (s.modAlm fun a => { a with waiting := a.waiting ++ [(h, op)] })
    else .next (s.ownerStep1.runCmd false torn code (opCode op) h o)

end Sys2Proof.Machine
end

