-- ==== Sys2Proof/Machine/Evaluate.lean ====
section
/-! DEFINITION. The evaluation of a frame: its entries in order, the channels in their serving engines, the events of the
regions, and the passes of the Nimbus engines (R37, R54, R127, R215). -/

namespace Sys2Proof.Machine

/-! ## Engines (R24, R61) -/

/-- The channel lies in the input or output pair of an enabled safety function. -/
def pairOfSafe (im : Image) (c : Nat) : Bool :=
  (listedInst im clsSAFEFN).any fun f => sfEn im f && (decide (c / 2 = sfIn im f / 2) || decide (c / 2 = sfOut im f / 2))

/-- Engine code of the engine that serves a channel (R24): Cumulus by region block, Nimbus for a safety-owned channel. -/
def engineOf (im : Image) (c : Nat) : Nat :=
  4 * (c / 128) + (if chSafeOwned im c then (if decide (c % 2 = 1) && pairOfSafe im c then 3 else 2) else c % 128 / 64)

/-- Key of event slot `item` of engine `e`: slots ascend by (REGION, ENGINE, ITEM). -/
def evSlot (e item : Nat) : Nat := e * 65536 + item

/-- The first slot of engine `e` behind every slot that it has used in the frame. -/
def nextItem (e : Nat) (t : Tab (Option EvReq)) : Nat :=
  t.foldl (fun n x => if x.1 / 65536 = e then x.1 % 65536 + 1 else n) 0

/-- Event requests of an engine in the open frame take its next slots. -/
def State.engEvs (e : Nat) (l : List EvReq) (s : State) : State :=
  if l.isEmpty then s else s.modEng fun g => { g with
    ev := l.foldl (fun t x => tabSet none t (evSlot e (nextItem e t)) (some x)) g.ev }

/-- Record of channel `c` in the open frame. -/
def State.recOf (s : State) (c : Nat) : Rec := tabGet 0#128 s.inp.recs c
/-- STALE mark of channel `c` in the open frame (R59). -/
def State.staleOf (s : State) (c : Nat) : Bool := s.inp.stale.testBit c
/-- The result of channel `c` in the open frame; a channel that is OFF has none. -/
def State.resOf (s : State) (c : Nat) : Option Rec := if chMode s.im c = 0 then none else some (tabGet 0#128 s.eng.res c)
/-- A channel result enters the result image. -/
def State.setRes (c : Nat) (r : Rec) (s : State) : State := s.modEng fun g => { g with res := tabSet 0#128 g.res c r }

/-! ## Entries (R54, R179, R181, R268, R282, R393, R464) -/

/-- A request of a station: an acknowledgement acts at once (step 1 of R267), and every request waits for step 5 (R284). -/
def State.stationRequest (r : CallReq) (s : State) : State :=
  let s1 := s.modAlm fun a => { a with call := { a.call with reqs := a.call.reqs ++ [r] } }
  if r.req = 2 then s1.modAlm fun a => { a with pts := (ackAll r.loc (ackScope s.im r.loc none) a.pts).1 }
  else if r.req = 3 then s1.modAlm fun a => { a with pts := (ackAll r.loc (ackScope s.im r.loc (some r.arg)) a.pts).1 }
  else s1

/-- A message on the RX_OBJ of station `k` (R282); `was` is REQ_SEQ of the message before. -/
def State.stationHears (m : CanMsg) (was : Option Nat) (s : State) (k : Nat) : State :=
  let r := stationMessage k was (nth m.data 0) (nth m.data 1) (nth m.data 2) (tabGet {} s.alm.stations k)
  let s1 := s.modAlm fun a => { a with stations := tabSet {} a.stations k r.1 }
  match r.2 with
  | some q => s1.stationRequest q
  | none => s1

/-- A CAN message of the frame: its object shows it (R393), and every station whose RX_OBJ it is takes it
(R282). -/
def State.canEntry (o : Nat) (m : CanMsg) (s : State) : State :=
  let s1 := s.modObj o fun x =>
    { x with app := m, frame := s.fr.frameNo, count := wrapN 16 (x.count + 1), reqSeq := some (nth m.data 0) }
  if csEn s.im then
    ((callStations s.im).filter fun k => caCanEn s.im k && decide (caRxObj s.im k = o)).foldl (State.stationHears m (s.objOf o).reqSeq) s1
  else s1

/-- The channel that modem cell `m` is granted to (R10, R80). -/
def modemChannel (im : Image) (m : Nat) : Option Nat :=
  ((List.range 128).map (128 * (m / 8) + ·)).find? fun c => decide (chModemCell im c = m % 8 + 1)

/-- An FSK frame of the frame's entries updates the device table of its channel (R181); a burst frame sets BURST_SEEN (R177). -/
def State.hartEntry (m : Nat) (bytes : List Byte) (s : State) : State :=
  match modemChannel s.im m, hartParse bytes with
  | some c, some g =>
    let t := tabGet [] s.eng.hdev c
    match hartWhere t g with
    | none => s
    | some a =>
      let r := if g.burst then ({ hartDev t a with burst := true }, false) else hartUpdate g (hartDev t a)
      (s.modEng fun e => { e with hdev := tabSet [] e.hdev c (tabSet {} t a r.1)
                                  got3 := if !g.burst && decide (g.cmd = 3) && decide (a = 0) then setBit e.got3 c true else e.got3 }).engEvs
        (engineOf s.im c)
        ((if r.2 then [{ code := 0x0623, src := c, p1 := 1, p2 := a }] else []) ++
          (if g.burst then [{ code := 0x0624, src := c, p1 := 1, p2 := a }] else []))
  | _, _ => s

/-- One asynchronous entry of the frame. DSC entries wait for the Nimbus engines (R253). -/
def State.runEntry (e : Entry) (s : State) : State :=
  match e.body with
  | .packet code ip udp b => if e.traced then s.withinTrace (State.runPacket true code ip udp b) else s.runPacket false code ip udp b
  | .can o m => s.canEntry o m
  | .hart m b => s.hartEntry m b
  | .dsc _ _ => s
  | .rtc k cause => s.modPort fun p => { p with rtcEv := p.rtcEv ++ [{ code := 0x0C11, src := k, p1 := cause % 2, p2 := cause / 2 % 2 }] }

/-- The entries of the frame in entry order (R54). -/
def State.runEntries (s : State) : State := s.inp.entries.foldl (fun x e => x.runEntry e) s

/-! ## Channels (R127, R165, R196, R200, R206) -/

/-- The latched CJC record that serves channel `c` (R135). -/
def State.cjcOf (s : State) (c : Nat) : CjcRec :=
  let k := tabGet {} s.inp.cjc (c / 32)
  { temp := k.recTemp, fault := k.recFault }

/-- HART flags of channel `c` for current `i` in nA, with their events; none without a granted modem (R182). Modem service
begins once `begun` holds (R179). A STALE record changes no flag that is judged by it (R59). -/
def State.hartStep (c : Nat) (begun : Bool) (i : Int) (s : State) : HartCh × List EvReq :=
  if chModemCell s.im c = 0 then ({}, [])
  else
    let h := tabGet {} s.eng.hart c
    let t := tabGet [] s.eng.hdev c
    let h1 := hartFlags s.P begun (s.eng.got3.testBit c && !s.staleOf c) i t h
    (h1, hartEvents s.P c t h h1)

/-- Modem service has begun on a cell whose channel has reached it (R162, R179). -/
def State.beginService (c : Nat) (begun : Bool) (s : State) : State :=
  if begun && decide (chModemCell s.im c ≠ 0) then s.modModem (8 * (c / 128) + chModemCell s.im c - 1) fun m => { m with service := true }
  else s

/-- The HART flags of a channel enter the state. -/
def State.setHart (c : Nat) (h : HartCh) (s : State) : State :=
  if chModemCell s.im c = 0 then s else s.modEng fun e => { e with hart := tabSet {} e.hart c h }

/-- The serving engine's outcome for analog channel `c`, with its HART flags and events. -/
def State.anaOut (c : Nat) (s : State) : AnaOut × HartCh × Bool × List EvReq :=
  let im := s.im
  let a := tabGet {} s.eng.ana c
  let begun := decide (initFrames im s.P c ≤ a.k)
  let h := s.hartStep c begun (anaInput im c (s.recOf c))
  (anaEval im s.P c (s.recOf c) (s.staleOf c) (s.cjcOf c) (tabGet {} s.eng.pv (chCjcCh im c)) h.1 a, h.1, begun, h.2)

/-- An analog channel outside a redundant pair. -/
def State.evalAna (c : Nat) (s : State) : State :=
  let x := s.anaOut c
  ((((s.setHart c x.2.1).beginService c x.2.2.1).modEng fun e => { e with ana := tabSet {} e.ana c x.1.st }).setRes c x.1.base).engEvs
    (engineOf s.im c) (x.1.ev ++ x.2.2.2)

/-- The redundant pair of channels `c` and `c` + 1 (R127, R149). -/
def State.evalPair (c : Nat) (s : State) : State :=
  let x := s.anaOut c
  let y := s.anaOut (c + 1)
  let p := pairEval s.im s.P c x.1 y.1
  let s1 := (((s.setHart c x.2.1).setHart (c + 1) y.2.1).beginService c x.2.2.1).beginService (c + 1) y.2.2.1
  (((s1.modEng fun e => { e with ana := tabSet {} (tabSet {} e.ana c p.1) (c + 1) y.1.st }).setRes c p.2.1).setRes (c + 1) y.1.base).engEvs
    (engineOf s.im c) (x.1.ev ++ x.2.2.2 ++ y.1.ev ++ y.2.2.2 ++ p.2.2)

/-- An AO-I channel; its command enters the output image. -/
def State.evalAo (c : Nat) (s : State) : State :=
  let im := s.im
  let h := s.hartStep c true (fldI (s.recOf c) 0 32)
  let r := aoEval im s.P c s.fr.frameNo (s.recOf c) (s.staleOf c) (tabGet {} s.eng.pv (aoSrcCh im c)) h.1 (tabGet {} s.eng.ao c)
  ((((s.setHart c h.1).beginService c true).modEng fun e =>
      { e with ao := tabSet {} e.ao c r.st, out := { e.out with aos := tabSet 0 e.out.aos c r.st.cmd } }).setRes c r.res).engEvs
    (engineOf im c) (r.ev ++ h.2)

/-- Events 0701h for the change-of-state entries of channel `c` (R194). -/
def State.cosEvents (c : Nat) (s : State) : List EvReq :=
  if diCosEvt s.im c then
    (s.inp.cosNow.filter fun e => decide (e.ch = c)).map fun e => { code := 0x0701, src := c, p1 := b2n e.state, p2 := e.place }
  else []

/-- A DI channel. -/
def State.evalDi (c : Nat) (s : State) : State :=
  let r := diEval c (s.recOf c) (s.staleOf c) (tabGet {} s.eng.di c)
  ((s.modEng fun e => { e with di := tabSet {} e.di c r.st }).setRes c r.res).engEvs (engineOf s.im c) (s.cosEvents c ++ r.ev)

/-- A PI channel. -/
def State.evalPi (c : Nat) (s : State) : State :=
  let r := piEval s.im c s.fr.prevLen (s.eng.clear.testBit c) (s.recOf c) (s.staleOf c) (tabGet {} s.eng.pi c)
  ((s.modEng fun e => { e with pi := tabSet {} e.pi c r.st }).setRes c r.res).engEvs (engineOf s.im c) r.ev

/-- Another DO channel served by the same engine carries current (R204). -/
def State.otherCarries (s : State) (c : Nat) : Bool :=
  (List.range 128).any fun k =>
    let d := 128 * (c / 128) + k
    decide (d ≠ c) && decide (chMode s.im d = 8) && decide (engineOf s.im d = engineOf s.im c) && doCarries (s.recOf d)

/-- A DO channel with the state `cmd` written to the output image. -/
def State.evalDo (c : Nat) (cmd : Bool) (s : State) : State :=
  let r := doEval s.im s.P c (s.recOf c) (s.staleOf c) cmd (s.otherCarries c) (tabGet {} s.eng.dout c)
  ((s.modEng fun e => { e with dout := tabSet {} e.dout c r.st, out := { e.out with dos := setBit e.out.dos c cmd } }).setRes c r.res).engEvs
    (engineOf s.im c) r.ev

/-- One channel in its serving engine. DO channels of an output pair wait for pass 3 of R215. -/
def State.evalChannel (s : State) (c : Nat) : State :=
  match chMode s.im c with
  | 0 => s
  | 6 => s.evalAo c
  | 7 => s.evalDi c
  | 8 => if chSafeOwned s.im c then s else s.evalDo c (tabGet {} s.eng.dout c).host
  | 9 => s.evalPi c
  | _ =>
    if chPairFn s.im (c - c % 2) = 2 then (if c % 2 = 1 then s.evalPair (c - 1) else s)
    else s.evalAna c

/-! ## Region supply and silence (R208, R210) -/

/-- Bit of FS_LOW or FS_OFF in the record of a mode that carries it (R195, R203, R169). -/
def fsBit (mode : Nat) (off : Bool) (r : Rec) : Bool :=
  if mode = 8 then bit r (if off then 8 else 7) else if mode = 7 ∨ mode = 9 then !off && bit r 6 else false

/-- Blocks of region `g` with a record that shows the flag. -/
def State.fsBlocks (s : State) (g : Nat) (off : Bool) : Nat :=
  ((List.range 16).filter fun k => (blkChannels (16 * g + k)).any fun c => !s.staleOf c && fsBit (chMode s.im c) off (s.recOf c)).length

/-- The region has a record that is judged for the supply flags. -/
def State.fsJudged (s : State) (g : Nat) : Bool :=
  (List.range 128).any fun k => decide (chMode s.im (128 * g + k) ≠ 0) && !s.staleOf (128 * g + k)

/-- Region supply events (R208). -/
def State.supplyStep (s : State) (g : Nat) : State :=
  if !s.fsJudged g then s
  else
    let nl := s.fsBlocks g false
    let no := s.fsBlocks g true
    let low := decide (0 < nl)
    let off := decide (0 < no)
    (s.modEng fun e => { e with fsLow := setBit e.fsLow g low, fsOff := setBit e.fsOff g off }).engEvs (4 * g)
      (flagEvent 0x0720 g (s.eng.fsLow.testBit g) low nl 0 ++ flagEvent 0x0721 g (s.eng.fsOff.testBit g) off no 0)

/-- Cells of block `b` whose DO or AO-I records show SAFE_SEEN. -/
def State.seenCells (s : State) (b : Nat) : Nat :=
  ((blkChannels b).filter fun c =>
    (decide (chMode s.im c = 8) && bit (s.recOf c) 9) || (decide (chMode s.im c = 6) && bit (s.recOf c) 100)).length

/-- The event of R210 for block `b`, by the Cumulus engine of its region blocks. -/
def State.seenStep (s : State) (b : Nat) : State :=
  let n := s.seenCells b
  (s.modEng fun e => { e with seen := setBit e.seen b (decide (0 < n)) }).engEvs (4 * (b / 16) + b % 16 / 8)
    (if 0 < n ∧ !s.eng.seen.testBit b then [{ code := 0x0722, src := b, p1 := 1, p2 := n }] else [])

/-! ## Region error handler (R36, R429, R514) -/

/-- The block clock count deviates by more than 3 % from the actual frame length (R36). -/
def clkDeviates (count prevLen : Nat) : Bool :=
  let want := prevLen * 16384
  decide (3 * want < 100 * ((count * 400000 : Nat) - (want : Nat) : Int).natAbs)

/-- BLK_CLOCK of block `b` (R36). The count is held against the length that the frame had on this unit, in replay too. -/
def State.clockStep (s : State) (b : Nat) : State :=
  let k := s.blkOf b
  let len := s.fr.lastLen
  if !k.powered || k.joining || decide (len = 0) || decide (k.latched ≠ some s.fr.frameNo) then s
  else
    let run := if clkDeviates k.clkCount len then min 3 (k.clkRun + 1) else 0
    let f := decide (run = 3)
    (s.modBlk b fun x => { x with clkRun := run, clkFault := f }).unitEvs
      (flagEvent 0x1101 b k.clkFault f k.clkCount (len * 16384 / 400000))

/-- A coupler error of cell `c` stands from now on (R514); causes as in R519. -/
def State.couplerError (c cause : Nat) (s : State) : State :=
  let d := s.cellOf c
  (s.modCell c fun x => { x with couplers := x.couplers + 1, standing := true, cause := cause, clean := 0 }).unitEvs
    (flagEvent 0x1103 c d.standing true cause (satN 16 (d.couplers + 1)))

/-- One frame passes for a standing coupler error (R514). -/
def State.couplerStep (s : State) (c : Nat) : State :=
  let d := s.cellOf c
  if !d.standing then s
  else if framesOf s.P (msC 1000) < d.clean + 1 then
    (s.modCell c fun x => { x with standing := false, clean := 0 }).unitEvs
      (flagEvent 0x1103 c true false d.cause (satN 16 d.couplers))
  else s.modCell c fun x => { x with clean := x.clean + 1 }

/-- The shadow check of R429 finds a mismatch on channel `c`: own record `own` against the active's record. `commanded` is
the DO command, and `steady` tells that it has not changed for ceil(5 ms / P) frames. -/
def shadowMismatch (im : Image) (c : Nat) (commanded steady : Bool) (own active : Rec) : Bool :=
  match chMode im c with
  | 7 => bit own 0 != bit active 0
  | 9 => bit own 0 != bit active 0
  | 8 => steady && (bit own 2 != commanded)
  | m => (decide (m = 1) || decide (m = 4)) && decide (5 * lowFs m < 1000 * (fldI own 0 32 - fldI active 0 32).natAbs)

end Sys2Proof.Machine
end

