-- ==== Sys2Proof/Machine/Nimbus.lean ====
section
/-! DEFINITION. The Nimbus engines in a frame: pass 1 with the exchange records, the reset buttons, passes 2 and 3, and the
connections of the Denif Safe Channel (R215, R219, R253). -/

namespace Sys2Proof.Machine

/-- Functions, or connections, of region `g`. -/
def regionEight (g : Nat) : List Nat := (List.range 8).map (8 * g + ·)

/-- Function `f` in Nimbus-A and in Nimbus-B. -/
def State.fnA (s : State) (f : Nat) : SafeFn := tabGet {} s.safe.fnA f
def State.fnB (s : State) (f : Nat) : SafeFn := tabGet {} s.safe.fnB f

/-- What an engine reads of channel `c` as a safety input. -/
def State.fnInput (s : State) (c : Nat) : SafeInput := safeInput (chMode s.im c) (s.resOf c)

/-- DIR of function `f` in the open frame, with FREQ_A of the frame before (R218). -/
def State.fnDir (s : State) (f : Nat) : Nat :=
  let c := sfIn s.im f
  let old := (s.fnA f).dir
  let pa : PiCh := tabGet {} s.eng.pi c
  let pb : PiCh := tabGet {} s.eng.pi (c + 1)
  if pa.k = 0 ∨ pb.k = 0 then old else safeDir (s.recOf c) (s.recOf (c + 1)) pa.freq old

/-- Both engines form DIR before the channels of the frame are evaluated. -/
def State.dirStep (s : State) (f : Nat) : State :=
  if sfEn s.im f && decide (sfType s.im f = 3) then
    let d := s.fnDir f
    s.modSafe fun a => { a with fnA := tabMod {} a.fnA f fun x => { x with dir := d }, fnB := tabMod {} a.fnB f fun x => { x with dir := d } }
  else s

/-- The record of output channel `c` when it is judged (R93, R225). -/
def State.judged (s : State) (c : Nat) : Option Rec :=
  if s.staleOf c || decide ((tabGet {} s.eng.dout c).k = 0) then none else some (s.recOf c)

/-- Pass 1 of function `f` in both engines. -/
def State.fnPass1 (s : State) (f : Nat) : State :=
  if !sfEn s.im f then s
  else
    let im := s.im
    let a := safePass1 im f (s.fnA f).dir (s.fnInput (sfIn im f)) (s.judged (sfOut im f)) (s.fnA f)
    let b := safePass1 im f (s.fnB f).dir (s.fnInput (sfIn im f + 1)) (s.judged (sfOut im f + 1)) (s.fnB f)
    s.modSafe fun x => { x with fnA := tabSet {} x.fnA f a.1, fnB := tabSet {} x.fnB f b.1
                                exA := tabSet {} x.exA f a.2, exB := tabSet {} x.exB f b.2 }

/-! ## Reset buttons (R219) -/

/-- Reset channels of enabled functions, ascending. -/
def resetChannels (im : Image) : List Nat :=
  (List.range 512).filter fun c => (listedInst im clsSAFEFN).any fun f => sfEn im f && sfResetEn im f && decide (sfResetCh im f = c)

/-- The button of reset channel `c` in the frame: a release that counts resets every function that names it. -/
def State.buttonStepOf (s : State) (c : Nat) : State :=
  let r := (s.resOf c).getD 0#128
  let b := buttonStep s.P (bit r 0) (bit r 10) (tabGet {} s.safe.buttons c)
  let s1 := s.modSafe fun a => { a with buttons := tabSet {} a.buttons c b.2 }
  if b.1 then
    ((listedInst s.im clsSAFEFN).filter fun f => sfEn s.im f && sfResetEn s.im f && decide (sfResetCh s.im f = c)).foldl
      (fun x f => x.modSafe fun a => { a with resets := tabMod 0 a.resets f fun m => setBit m 1 true }) s1
  else s1

/-! ## Passes 2 and 3 (R215) -/

/-- What pass 2 of function `f` takes from outside it. -/
def State.safeCtx (s : State) (f : Nat) : SafeCtx :=
  { P := s.P, confirmed := decide (s.cfg.hdr.confirmed = s.cfg.hdr.safeCrc), sum := s.fr.prevLen2 + s.fr.prevLen
    reset := tabGet 0 s.safe.resets f, inA := s.fnInput (sfIn s.im f), inB := s.fnInput (sfIn s.im f + 1)
    safetyCrc := s.cfg.hdr.safeCrc, confCrc := s.cfg.hdr.confirmed }

/-- Pass 2 of function `f` in both engines, unless it has been done in this frame. -/
def State.fnPass2 (s : State) (f : Nat) : State :=
  if s.safe.doneFn.testBit f then s
  else
    let a := tabGet {} s.safe.exA f
    let b := tabGet {} s.safe.exB f
    let rA := safePass2 s.im f (s.safeCtx f) a b (s.fnA f)
    let rB := safePass2 s.im f (s.safeCtx f) a b (s.fnB f)
    (s.modSafe fun x => { x with
      fnA := tabSet {} x.fnA f rA.1, fnB := tabSet {} x.fnB f rB.1, doneFn := setBit x.doneFn f true
      resets := tabSet 0 x.resets f 0 }).engEvs (4 * (f / 8) + 2) rA.2

/-- Pass 3 of function `f` on the states `st` after pass 2: switch commands and safety results. -/
def State.fnPass3 (st : State) (s : State) (f : Nat) : State :=
  let swA := safeSwitch s.im f fun j => (st.fnA j).state
  let swB := safeSwitch s.im f fun j => (st.fnB j).state
  s.modSafe fun x => { x with
    fnA := tabMod {} x.fnA f fun y => { y with sw := swA }, fnB := tabMod {} x.fnB f fun y => { y with sw := swB }
    resA := tabSet 0#128 x.resA f (safeResult s.im f swA swB (st.fnA f))
    resB := tabSet 0#128 x.resB f (safeResult s.im f swA swB (st.fnB f)) }

/-- The switch command of DO channel `c` of an output pair: that of the function that names the pair (R222). -/
def State.switchOf (s : State) (c : Nat) : Bool :=
  match (regionEight (c / 128)).find? fun f => sfEn s.im f && decide (sfOut s.im f / 2 = c / 2) with
  | some f => if c % 2 = 0 then (s.fnA f).sw else (s.fnB f).sw
  | none => false

/-- The DO channels of the output pairs of region `g` after pass 3. -/
def State.safeOutputs (g : Nat) (s : State) : State :=
  (List.range 128).foldl (fun x k =>
    let c := 128 * g + k
    if chMode x.im c = 8 ∧ chSafeOwned x.im c = true then x.evalDo c (x.switchOf c) else x) s

/-- Passes 2 and 3 of the functions of region `g`. -/
def State.fnPasses (g : Nat) (s : State) : State :=
  let s2 := (regionEight g).foldl State.fnPass2 s
  (regionEight g).foldl (State.fnPass3 s2) s2

/-! ## Denif Safe Channel (R247 to R257) -/

/-- The received entries of connection `i` in the frame, in entry order. -/
def State.dscEntries (s : State) (i : Nat) : List (List Byte) :=
  s.inp.entries.filterMap fun e => match e.body with
    | .dsc k b => if k = i ∧ dscTransport s.im i = 1 then some b else none
    | .can o m => if dscTransport s.im i = 0 ∧ dscRxObj s.im i = o then some m.data else none
    | _ => none

/-- The transmit payload of connection `i` in the engine whose functions are `fn` (R254). -/
def State.dscPayload (s : State) (i : Nat) (fn : Nat → SafeFn) : List Byte :=
  (maskBits (dscTxFn s.im i)).map fun j =>
    let f := 8 * (i / 8) + j
    dscFnByte (fn f) ((s.fnA f).sw && (s.fnB f).sw)

/-- What a frame gives connection `i`; `after` holds the functions after pass 3. -/
def State.dscCtx (after s : State) (i : Nat) (engB : Bool) : DscCtx :=
  { confirmed := decide (s.cfg.hdr.confirmed = s.cfg.hdr.safeCrc), reset := s.safe.dscResets.testBit i
    payload := after.dscPayload i (if engB then after.fnB else after.fnA)
    mismatch := if dscEn s.im i then dscMismatch (tabGet {} s.safe.dscA i) (tabGet {} s.safe.dscB i) else none }

/-- Connection `i` of the frame in Nimbus-A, with its events. -/
def State.dscEvalA (after s : State) (i : Nat) : Dsc × List EvReq :=
  dscEval s.im i s.fr.prevLen (after.dscCtx s i false) (s.dscEntries i) (tabGet {} s.safe.dscA i)

/-- Connection `i` in both engines, unless it has been done in this frame. -/
def State.dscStep (after s : State) (i : Nat) : State :=
  if s.safe.doneDsc.testBit i then s
  else
    let a := after.dscEvalA s i
    let b := dscEval s.im i s.fr.prevLen (after.dscCtx s i true) (s.dscEntries i) (tabGet {} s.safe.dscB i)
    (s.modSafe fun x => { x with
      dscA := tabSet {} x.dscA i a.1, dscB := tabSet {} x.dscB i b.1, doneDsc := setBit x.doneDsc i true
      dscResets := setBit x.dscResets i false }).engEvs (4 * (i / 8) + 2) a.2

/-! ## END (R62, R515) -/

/-- The END entry of engine `e` arrives. ENG_SILENT clears (R515). -/
def State.endEngine (e : Nat) (s : State) : State :=
  let g := e / 4
  let was := (s.regOf g).silent.testBit (e % 4)
  let s1 := s.modEng fun x => { x with ends := setBit x.ends e true, silentHold := setBit x.silentHold e false }
  if was then (s1.modReg g fun r => { r with silent := setBit r.silent (e % 4) false }).unitEvs
    [{ code := 0x1112, src := e, p1 := 0, p2 := s.fr.frameNo % 2 ^ 32, p3 := (s.now - s.fr.strobeAt) % 2 ^ 32 }] else s1

/-- END of engine `e` unless it withholds it. -/
def State.endUnheld (e : Nat) (s : State) : State := if s.eng.silentHold.testBit e then s else s.endEngine e

/-- Passes 2 and 3 of region `g`, its output pairs, its connections, and END of the Nimbus engines. -/
def State.exchange (g : Nat) (s : State) : State :=
  let s1 := s.fnPasses g
  let s2 := (regionEight g).foldl (State.dscStep s1) (s1.safeOutputs g)
  ((s2.modSafe fun x => { x with passed := setBit x.passed g true }).endUnheld (4 * g + 2)).endUnheld (4 * g + 3)

end Sys2Proof.Machine
end

