-- ==== Sys2Proof/Machine/Frames.lean ====
section
/-! DEFINITION. A frame from its complete records to the END of its engines: FRAME_EVALUATION_START, the passes of the Nimbus
pairs, postings to the Horizon collector, and the diagnostics of a frame that takes long (R59 to R64, R215, R515). -/

namespace Sys2Proof.Machine

/-! ## Poisoned sources (R477) -/

/-- A source of the open frame is poisoned: bit `k` of parameter 2 of 1006h, with its cause; the first cause stands. -/
def State.poison (k cause : Nat) (s : State) : State :=
  s.modEng fun e => { e with poison := setBit e.poison k true, pcause := if e.pcause = 0 then cause else e.pcause }

/-- Bits of parameter 2 of 1006h: the engines and the Zenith controller. -/
def poisonMask (m : Nat) : Nat := m % 2 ^ 17

/-- The frame is poisoned: counters, and event 1006h (R477, R488). -/
def State.poisonReport (s : State) : State :=
  if s.eng.poison = 0 then s
  else
    ((s.modMdiag fun d => { d with nPoisoned := satN 16 (d.nPoisoned + 1), lastPoisoned := s.fr.frameNo })).unitEvs
      [{ code := 0x1006, src := 0xFF, p1 := s.eng.pcause, p2 := poisonMask s.eng.poison, p3 := s.fr.frameNo % 2 ^ 32 }]

/-- A source is poisoned in the open frame. A frame that is already complete is reported at once (R477, R68). -/
def State.poisonNow (k cause : Nat) (s : State) : State :=
  let s1 := s.poison k cause
  if s.phase = .complete ∧ s.eng.poison = 0 then
    let s2 := s1.poisonReport
    if s2.paired ∧ s2.unt.pair.role = 1 then s2.unsync 3 else s2
  else s1

/-- Engines that failed their self-test post every entry with POISON (R497). -/
def State.bistPoison (s : State) : State :=
  (List.range 16).foldl (fun x e => if (x.regOf (e / 4)).bist.testBit (e % 4) then x.poison e 1 else x) s

/-! ## Cell records (R59, R514) -/

/-- Channels whose record the frame waits for. -/
def State.waitsFor (s : State) (c : Nat) : Bool := decide (chMode s.im c ≠ 0) && !s.inp.arrived.testBit c

/-- Every record of the open frame is there. -/
def State.recordsIn (s : State) : Bool := (List.range 512).all fun c => !s.waitsFor c

/-- A record of channel `c` written as missing keeps the values of the frame before (R59). A synchronised standby does so for
its own record only. -/
def State.markMissing (c : Nat) (s : State) : State :=
  s.modInp fun i => { i with arrived := setBit i.arrived c true, stale := if s.follows then i.stale else setBit i.stale c true }

/-- CELL_RECORD_MISSING (R59). A cell record absent 200 µs after the strobe is written missing with STALE, and event 0205h is
recorded. -/
def execCellRecordMissing (t ch : Nat) (s : State) : Out :=
  act (isCh ch) t (fun s => s.live && decide (s.phase = .gather) && s.waitsFor ch && decide (s.fr.strobeAt + usC 200 ≤ t)) (fun s =>
    ((s.markMissing ch).modReg (ch / 128) fun r => { r with upErrs := r.upErrs + 1 }).unitEvs [{ code := 0x0205, src := ch / 128, p1 := ch }]
      |>.couplerError ch 4 |>.activeSends [.cells s.fr.frameNo [(ch, tabGet 0#128 s.inp.recs ch, true)]]) s

/-! ## Replay (R70) -/

/-- The frame of a loaded trace takes the place of the terminals. -/
def State.loadTrace (x : TraceFrame) (s : State) : State :=
  let cjc := (List.range 16).foldl (fun (t : Tab CjcSensor) k =>
    let w := x.cjc.getD k 0
    tabMod {} t k fun c => { c with recTemp := toSigned 16 (w % 65536), recNew := w.testBit 16, recFault := w.testBit 17 }) s.inp.cjc
  (s.modFr fun f => { f with frameNo := x.frame, prevLen := x.prevLen, total := f.total - f.prevLen + x.prevLen
                             asyncCount := x.cos.length + x.entries.length + s.inp.entries.length
                             deferCount := (x.entries.filter (·.deferred)).length }).modInp fun i =>
    { i with recs := x.recs, stale := x.stale, cjc := cjc, cosNow := x.cos, entries := x.entries ++ i.entries }

/-- The inputs of the open frame are there: from a loaded trace once a replay runs, from the active on a synchronised standby,
and from the blocks otherwise. -/
def State.inputsIn (s : State) : Bool :=
  if s.port.replay && s.port.replayIn.begun then (frameRead s.im s.port.replayIn.bytes).isSome
  else if s.follows then s.unt.pair.inputs
  else s.recordsIn

/-- The frame of a begun replay is read from the trace. -/
def State.takeInputs (s : State) : State :=
  if s.port.replay && s.port.replayIn.begun then
    match frameRead s.im s.port.replayIn.bytes with
    | some x => (s.loadTrace x.1).modPort fun p => { p with replayIn := { p.replayIn with bytes := x.2 } }
    | none => s
  else s

/-! ## Shadow check (R429) -/

/-- What 0F07h shows of a record: STATE, VALUE or OFF_VOLT (R429, R442). -/
def shadowValue (im : Image) (c : Nat) (r : Rec) : Nat :=
  match chMode im c with
  | 7 => fld r 0 1
  | 9 => fld r 0 1
  | 8 => fld r 2 1
  | _ => fld r 0 32

/-- The shadow check of channel `c` on a synchronised standby. -/
def State.shadowStep (s : State) (c : Nat) : State :=
  let d : DoCh := tabGet {} s.eng.dout c
  let cmd := s.eng.shadow.dos.testBit c
  let w := framesOf s.P (msC 5)
  let steady := decide (w ≤ d.hist.length) && (d.hist.take w).all (· == cmd)
  let on := s.unt.pair.shadow.testBit c
  let mis := !s.staleOf c && shadowMismatch s.im c cmd steady (tabGet 0#128 s.inp.own c) (s.recOf c)
  if chMode s.im c = 0 then s
  else
    let run := if mis = on then 0 else tabGet 0 s.unt.pair.shadowRun c + 1
    if 3 ≤ run then
      (s.modPair fun p => { p with shadow := setBit p.shadow c (!on), shadowRun := tabSet 0 p.shadowRun c 0 }).unitEvs
        (flagEvent 0x0F07 c on (!on) (shadowValue s.im c (tabGet 0#128 s.inp.own c)) (shadowValue s.im c (s.recOf c)))
    else s.modPair fun p => { p with shadowRun := tabSet 0 p.shadowRun c run }

/-! ## FRAME_EVALUATION_START -/

/-- Region error handlers and shadow check on the records of the frame. -/
def State.regionChecks (s : State) : State :=
  let s1 := (List.range 64).foldl State.clockStep s
  let s2 := (s1.blks.cell.map (·.1)).foldl State.couplerStep s1
  if s2.follows then (List.range 512).foldl State.shadowStep s2 else s2

/-- One frame passes for the device tables before the entries of the frame are applied (R181). -/
def State.ageDevices (s : State) : State :=
  s.modEng fun e => { e with hdev := tabMap [] (fun _ t => hartAge s.P t) e.hdev, got3 := 0 }

/-- The button of station `k` in the frame (R283). -/
def State.stationButton (s : State) (k : Nat) : State :=
  let c := caBtnCh s.im k
  match buttonRequest s.im k (s.resOf c) (tabGet {} s.eng.pv c) with
  | some q => s.stationRequest q
  | none => s

/-- One alarm request that waited for this frame (R267). -/
def State.runWaited (s : State) (w : PktHead × Op) : State :=
  let code := s.codeOf w.1.port
  if s.unt.pair.role = 2 then s.standbyCmd code (opCode w.2) w.1 else s.runCmd false false code (opCode w.2) w.1 (some w.2)

/-- The alarm requests that waited for this frame. -/
def State.runWaiting (s : State) : State := s.alm.waiting.foldl State.runWaited (s.modAlm fun a => { a with waiting := [] })

/-- The record of the frame counts for a trim in progress (R140, R141). -/
def State.trimGather (s : State) : State :=
  s.modCfg fun c => { c with trims := c.trims.map fun x =>
    if x.frame < s.fr.frameNo ∧ s.fr.frameNo ≤ x.frame + 16 then
      let r := s.recOf x.ch
      let q := tabGet 0#128 s.eng.res x.ch
      let new := bit r 32 && !s.staleOf x.ch
      { x with sum := if new then x.sum + fldI r 0 32 else x.sum, count := if new then x.count + 1 else x.count
               unstable := x.unstable || bit r 34 || bit r 35 || bit q 66 || bit q 67 || bit q 71 }
    else x }

/-- The Cumulus engines evaluate their channels, and the Nimbus engines their channels and pass 1. -/
def State.evaluate (s : State) : State :=
  let s1 := (List.range 32).foldl State.dirStep s
  let s2 := (List.range 512).foldl State.evalChannel s1
  let s3 := (resetChannels s.im).foldl State.buttonStepOf s2
  let s4 := (List.range 32).foldl State.fnPass1 s3
  let s5 := (List.range 64).foldl State.seenStep ((List.range 4).foldl State.supplyStep s4)
  let s6 := if csEn s.im then (callStations s.im).foldl State.stationButton s5 else s5
  (s6.modEng fun e => { e with clear := 0 }).trimGather

/-- Engines 0 and 1 of every region post END unless they withhold it. -/
def State.endCumulus (s : State) : State :=
  (List.range 4).foldl (fun x g => (x.endUnheld (4 * g)).endUnheld (4 * g + 1)) s

/-- The engines begin frame n, `held` being those that will withhold END. -/
def State.startEvaluation (held : Nat) (s : State) : State :=
  let s1 := (((s.takeInputs.setPhase .evaluate).modEng fun e => { e with silentHold := held % 65536 }).activeSends
    [.inputsDone s.fr.frameNo]).regionChecks
  (s1.bothSides State.ownerStep1).ageDevices.runEntries.runWaiting.evaluate.bistPoison.endCumulus

/-! ## NIMBUS_EXCHANGE and what comes about within it -/

/-- The pair of region `g` is at its barrier with both exchange records written. -/
def State.atBarrier (s : State) (g : Nat) : Bool :=
  s.live && !s.idleStandby && decide (s.phase = .evaluate) && !s.safe.passed.testBit g && !s.eng.silentHold.testBit (4 * g + 2) &&
    !s.eng.silentHold.testBit (4 * g + 3)

/-- NIMBUS_EXCHANGE (R215). When the partner's exchange records of frame n are all present, a Nimbus engine passes the barrier
and runs passes 2 and 3. -/
def execNimbusExchange (t g : Nat) (s : State) : Out := act (isRegion g) t (fun s => s.atBarrier g) (State.exchange g) s

/-- Function `f` goes to FAULT in the open frame by its discrepancy counter. -/
def State.discFaults (s : State) (f : Nat) : Bool :=
  let r := safePass2 s.im f (s.safeCtx f) (tabGet {} s.safe.exA f) (tabGet {} s.safe.exB f) (s.fnA f)
  decide (r.1.state = sfFault) && decide ((s.fnA f).state ≠ sfFault) && (decide (r.1.cause = 1) || decide (r.1.cause = 6))

/-- DISCREPANCY_FAULT (R221). When the discrepancy counter reaches N_d, the safety function goes to FAULT with cause 01h, or 06h
for an SDI phase fault. -/
def execDiscrepancyFault (t f : Nat) (s : State) : Out :=
  act (decide (f < 32)) t (fun s => s.atBarrier (f / 8) && !s.safe.doneFn.testBit f && s.discFaults f) (fun s => s.fnPass2 f) s

/-- Connection `i` is to be evaluated in the open frame, and its outcome in Nimbus-A satisfies `p`. -/
def State.dscWould (s : State) (i : Nat) (p : Dsc → Dsc → Bool) : Bool :=
  s.atBarrier (i / 8) && !s.safe.doneDsc.testBit i && p (tabGet {} s.safe.dscA i) ((s.fnPasses (i / 8)).dscEvalA s i).1

/-- Connection `i` is evaluated with the functions as pass 3 gives them. -/
def State.dscNow (i : Nat) (s : State) : State := State.dscStep (s.fnPasses (i / 8)) s i

/-- DSC_WATCHDOG_EXPIRY (R248). When the elapsed frame time since the reference exceeds W, the connection goes to FAILSAFE with
cause 01h. -/
def execDscWatchdogExpiry (t i : Nat) (s : State) : Out :=
  act (decide (i < 32)) t (fun s => s.dscWould i fun a b =>
    decide (a.state ≠ dscFailsafe) && decide (b.state = dscFailsafe) && decide (b.cause = 1)) (State.dscNow i) s

/-- DSC_FAILSAFE_RECOVERY (R250). When W has elapsed since entry to FAILSAFE and the other conditions of row 5 hold, the
connection goes to CONNECTING. -/
def execDscFailsafeRecovery (t i : Nat) (s : State) : Out :=
  act (decide (i < 32)) t (fun s => s.dscWould i fun a b => decide (a.state = dscFailsafe) && decide (b.state = dscConnecting))
    (State.dscNow i) s

/-- DSC_REPEAT (R240). After CYCLE frames without an accepted answer, or without a change of payload, the master sends its PDU
again or sends a new request. -/
def execDscRepeat (t i : Nat) (s : State) : Out :=
  act (decide (i < 32)) t (fun s => !dscSlave s.im i && s.dscWould i fun a b =>
    b.pdu.isSome && decide (a.state = b.state) && decide (dscCycle s.im i ≤ a.sinceTx + 1)) (State.dscNow i) s

/-- DSC_ERR_DECAY (R247). ERR_CNT falls by 1 each time 3,600 s of frame length passes while it is above 0. -/
def execDscErrDecay (t i : Nat) (s : State) : Out :=
  act (decide (i < 32)) t (fun s => s.dscWould i fun a _ => decide ((dscElapse s.fr.prevLen a).errCnt < a.errCnt)) (State.dscNow i) s

/-- The collector has the END entries of all 16 engines and the frame is not yet closed. -/
def State.zenithReady (s : State) : Bool := s.live && !s.idleStandby && decide (s.phase = .evaluate) && decide (s.eng.ends = 65535)

/-! ## HORIZON_POSTING (R60 to R62) -/

/-- Engine code of a posting. -/
def postEngine (p : Posting) : Nat := 4 * p.region + p.engine

/-- Key of the slot of a posting that no rule reads. -/
def straySlot (p : Posting) : Nat := (8 * postEngine p + p.kind) * 512 + p.item

/-- A posting enters a slot that no rule reads (R61). -/
def State.postStray (p : Posting) (s : State) : State := s.modEng fun g => { g with stray := tabSet .fin g.stray (straySlot p) p.body }

/-- A posting whose FRAME_LO differs from the open frame is rejected (R62). -/
def State.rejectPosting (p : Posting) (s : State) : State :=
  let e := postEngine p
  ((s.modReg p.region fun r => { r with hznSeq := setBit r.hznSeq p.engine true }).unitEvs
    [{ code := 0x1111, src := e, p1 := s.fr.frameNo % 65536, p2 := p.frameLo, p3 := p.item + p.kind * 65536 }]).poisonNow e 3

/-- END of an engine that withheld it. A Nimbus engine then has its exchange records written; its END follows passes 2 and 3. -/
def State.lateEnd (e : Nat) (s : State) : State :=
  if 2 ≤ e % 4 ∧ !s.safe.passed.testBit (e / 4) then s.modEng fun x => { x with silentHold := setBit x.silentHold e false }
  else s.endEngine e

/-- The engine serves the channel that the posting names (R19, R24). -/
def State.serves (s : State) (p : Posting) : Bool := decide (postEngine p = engineOf s.im p.item)

/-- A posted entry enters its slot, fixed by REGION, ENGINE, KIND and ITEM (R61, R64). The result image takes a channel's result
and command from the slots of the engine that serves it, and a safety result from those of the function's Nimbus engines. -/
def State.post (p : Posting) (s : State) : State :=
  let e := postEngine p
  let s1 := if p.poison then s.poison e 1 else s
  match p.body with
  | .result r => if s.serves p then s1.setRes p.item r else s1.postStray p
  | .doState on =>
    if s.serves p then s1.modEng fun g => { g with out := { g.out with dos := setBit g.out.dos p.item on } } else s1.postStray p
  | .current i =>
    if s.serves p then s1.modEng fun g => { g with out := { g.out with aos := tabSet 0 g.out.aos p.item i } } else s1.postStray p
  | .safety r =>
    if p.item / 8 ≠ p.region ∨ p.engine < 2 then s1.postStray p
    else s1.modSafe fun a => if p.engine = 3 then { a with resB := tabSet 0#128 a.resB p.item r } else { a with resA := tabSet 0#128 a.resA p.item r }
  | .event code src p1 p2 p3 => s1.modEng fun g => { g with
      ev := tabSet none g.ev (evSlot e p.item) (some { code := code, src := src, p1 := p1, p2 := p2, p3 := p3 }) }
  | .words _ => s1.postStray p
  | .fin => s1.lateEnd e

/-- HORIZON_POSTING (R61). The Horizon collector writes a posted entry into its fixed slot of the frame result image. An entry of
another frame is rejected whenever it comes (R62); one of the open frame comes while the engines evaluate it (log 60). -/
def execHorizonPosting (t : Nat) (p : Posting) (s : State) : Out :=
  act p.fits t (fun s => s.live && !s.idleStandby && (decide (p.frameLo ≠ s.fr.frameNo % 65536) || decide (s.phase = .evaluate))) (fun s =>
    if p.frameLo = s.fr.frameNo % 65536 then s.post p else s.rejectPosting p) s

/-! ## Long frames (R47, R515) -/

/-- FRAME_LONG (R47). A frame that is not complete 1.5 P after its strobe raises FRAME_LONG and records event 0201h. -/
def execFrameLong (t : Nat) (s : State) : Out :=
  act true t (fun s => s.live && decide (s.phase ≠ .complete) && !s.fr.longNow && decide (2 * s.fr.strobeAt + 3 * s.P ≤ 2 * t)) (fun s =>
    (s.modFr fun f => { f with longNow := true, longLive := true }).unitEvs
      [{ code := 0x0201, p1 := s.fr.frameNo % 2 ^ 32 }]) s

/-- Engine `e` has not posted END, and is not held at the barrier by its partner. -/
def State.isSilent (s : State) (e : Nat) : Bool :=
  !s.eng.ends.testBit e && (s.eng.silentHold.testBit e || decide (e % 4 < 2) || s.safe.passed.testBit (e / 4) ||
    !s.eng.silentHold.testBit (if e % 4 = 2 then e + 1 else e - 1))

/-- ENG_SILENT (R515). An engine that has not posted END 8 P after the strobe is marked ENG_SILENT. -/
def execEngSilent (t e : Nat) (s : State) : Out :=
  act (decide (e < 16)) t (fun s => s.live && decide (s.phase = .evaluate) && s.isSilent e && !(s.regOf (e / 4)).silent.testBit (e % 4) &&
      decide (s.fr.strobeAt + 8 * s.P ≤ t)) (fun s =>
    (s.modReg (e / 4) fun r => { r with silent := setBit r.silent (e % 4) true }).unitEvs [{ code := 0x1112, src := e, p1 := 1, p2 := s.fr.frameNo % 2 ^ 32, p3 := (t - s.fr.strobeAt) % 2 ^ 32 }]) s

end Sys2Proof.Machine
end

