-- ==== Sys2Proof/Machine/Trims.lean ====
section
/-! DEFINITION. Trim commands in progress (R140 to R142). -/

namespace Sys2Proof.Machine

/-- Mean of the records gathered by a trim (R128, R140). -/
def trimMean (x : Trim) : Int := rdiv x.sum (x.count : Int)

/-- Status with which trim `x` fails, or the new field value (R140, R141). -/
def trimOutcome (im : Image) (x : Trim) : Nat × Int :=
  if x.count < 8 || x.unstable then (stTrimUnstable, 0)
  else match trimResult im x.ch x.span x.ref (trimMean x) with
    | some v => (stOk, v)
    | none => (stTrimRange, 0)

/-- First bit of the trim field in CHCFG (R153). -/
def trimLo (span : Bool) : Nat := if span then 976 else 960

/-- The image with the trim of `x` written. -/
def trimImage (im : Image) (x : Trim) (v : Int) : Image :=
  setInst im clsCHCFG x.ch (setFld (inst im clsCHCFG x.ch) (trimLo x.span) 16 (ofSigned 16 v))

/-- The reply to the trim in progress is decided: it leaves when frame `n` is complete. -/
def State.trimReply (n st : Nat) (s : State) : State :=
  s.frameSide (State.modPort fun p => { p with pend := settleTrims (·.due.isNone) n st p.pend })

/-- The 16 frames of trim `x` are over in the open frame. A commit accepted for the next strobe aborts the trim there. -/
def State.trimFinish (x : Trim) (s : State) : State :=
  let r := trimOutcome s.im x
  let n := s.fr.frameNo
  if r.1 ≠ stOk then (s.trimReply n r.1).modCfg fun c => { c with trims := [] }
  else if s.cfg.next.isSome then s
  else
    let im := trimImage s.im x r.2
    (s.trimReply (n + 1) stOk).modCfg fun c => { c with next := some { image := im, cfgCrc := configCrc im, safeCrc := safetyCrc im, source := 0xFF } }

/-- The trim in progress whose last frame is the open one and whose value has not been decided. -/
def State.trimEnding (s : State) : Option Trim :=
  s.cfg.trims.find? fun x => decide (s.fr.frameNo = x.frame + 16) && !(match s.cfg.next with
    | some nx => decide (nx.source = 0xFF)
    | none => false)

/-- TRIM_COMPLETE (R142). After 16 frames of records the trim is computed, checked and made part of the running configuration at
frame n+17. -/
def execTrimComplete (t ch : Nat) (s : State) : Out :=
  act (isCh ch) t (fun s => s.zenithReady && (match s.trimEnding with
    | some x => decide (x.ch = ch)
    | none => false)) (fun s => match s.trimEnding with
      | some x => s.trimFinish x
      | none => s) s

end Sys2Proof.Machine
end

