-- ==== Sys2Proof/Machine/Close.lean ====
section
/-! DEFINITION. The Zenith controller's part of a frame: alarms, groups and the engineer call, outputs, loads, DSC
transmission, replies, and FRAME_CLOSE with the rows of the table that come about within it (R62, R253, R267, R394, R477). -/

namespace Sys2Proof.Machine

/-! ## Alarm points (R267) -/

/-- What the alarm engine reads of the frame. -/
def State.almEnv (s : State) : AlmEnv :=
  { res := s.resOf, fsLow := fun g => s.eng.fsLow.testBit g, fsOff := fun g => s.eng.fsOff.testBit g
    safe := fun f => (s.fnA f).state, dsc := fun i => (tabGet {} s.safe.dscA i : Dsc).state }

/-- Point `p` of the frame. -/
def State.pointOf (s : State) (p : Nat) : AlmPt := tabGet {} s.alm.pts p

/-- Step 2 of R267 for the points below `k` that have not been evaluated. -/
def State.pointsTo (k : Nat) (s : State) : State :=
  if k ≤ s.alm.next then s
  else
    let ps := (listedInst s.im clsALMPT).filter fun p => decide (s.alm.next ≤ p) && decide (p < k)
    s.modAlm fun a => { a with pts := ps.foldl (almTableStep s.im s.P s.almEnv) a.pts, next := k }

/-- A row that names point `p` comes about in the frame: the points below it and the point itself are evaluated, and `happens`
judges the point before and after. -/
def State.pointWould (s : State) (p : Nat) (happens : AlmPt → AlmPt → Bool) : Bool :=
  s.zenithReady && alEn s.im p && decide (s.alm.next ≤ p) && happens ((s.pointsTo p).pointOf p) ((s.pointsTo (p + 1)).pointOf p)

/-- A row of the table about an alarm point. -/
def pointRow (t p : Nat) (happens : AlmPt → AlmPt → Bool) (s : State) : Out :=
  act (decide (p < 2048)) t (fun s => s.pointWould p happens) (State.pointsTo (p + 1)) s

/-- ALARM_DELAY_EXPIRY (R264). When an alarm point's delay counter passes N_on or N_off, its condition C takes the source value. -/
def execAlarmDelayExpiry (t p : Nat) (s : State) : Out := pointRow t p (fun a b => a.c != b.c) s

/-- SUPPRESSION_HOLD_END (R270). When the hold counter h reaches 0, the suppression of an alarm point ends. -/
def execSuppressionHoldEnd (t p : Nat) (s : State) : Out := pointRow t p (fun a b => a.supp && !b.supp) s

/-- SHELF_EXPIRY (R271). When the shelf timer of a shelved point reaches 0, the point leaves SHELVED. -/
def execShelfExpiry (t p : Nat) (s : State) : Out :=
  pointRow t p (fun a b => decide (a.state = almShelved) && b.trig.testBit 4 && !a.trig.testBit 4) s

/-! ## First-out and groups (R272 to R275) -/

/-- A load of the open frame (R394). -/
def State.load (o : Nat) (data : List Byte) (s : State) : State := s.modCan fun c => { c with loads := c.loads ++ [(o, data)] }

/-- Step 3 of R267, once all points are evaluated. -/
def State.firstOutStep (s : State) (g : Nat) : State :=
  let r := firstOut s.im s.alm.pts g (tabGet {} s.alm.grps g)
  s.modAlm fun a => { a with grps := tabSet {} a.grps g r.1, firstOuts := a.firstOuts ++ r.2 }

/-- Step 4 of R267 for group `g`. -/
def State.groupOne (s : State) (g : Nat) : State :=
  let r := groupStep s.im s.P s.fr.frameNo s.alm.pts g (tabGet {} s.alm.grps g)
  let s1 := s.modAlm fun a => { a with grps := tabSet {} a.grps g r.1, grpNext := g + 1 }
  match r.2 with
  | some b => s1.load (grOutObj s.im g) (toBytes 8 b)
  | none => s1

/-- Every point, the first-outs, and the groups below `k`. -/
def State.groupsTo (k : Nat) (s : State) : State :=
  let s1 := s.pointsTo 2048
  let s2 := if s1.alm.grpNext = 0 then (List.range 64).foldl State.firstOutStep s1 else s1
  ((List.range k).filter (s2.alm.grpNext ≤ ·)).foldl State.groupOne s2

/-- GROUP_OBJECT_CYCLE (R275). When OBJ_CYCLE frames have passed since the last transmission, a group loads its CAN object again. -/
def execGroupObjectCycle (t g : Nat) (s : State) : Out :=
  act (decide (g < 64)) t (fun s => s.zenithReady && decide (s.alm.grpNext ≤ g) && grObjEn s.im g &&
    (let x : Grp := tabGet {} (s.groupsTo g).alm.grps g
     decide (grObjCycle s.im g ≤ x.since + 1) &&
       decide (x.sent = some (groupPayload s.im (s.groupsTo g).alm.pts g (tabGet {} (s.groupsTo (g + 1)).alm.grps g).out x.fo))))
    (State.groupsTo (g + 1)) s

/-! ## Engineer call (R284 to R293) -/

/-- The engineer call with its stations. -/
def State.callPart (s : State) : CallPart := (s.alm.call, s.alm.stations)

/-- Step 5 of R267, once in the frame. -/
def State.callNow (s0 : State) : State :=
  let s := s0.groupsTo 64
  if s.alm.callDone then s
  else
    let r := callStep s.im s.P s.fr.frameNo s.alm.pts s.callPart
    let s1 := s.modAlm fun a => { a with call := r.1.1, stations := r.1.2, callDone := true, callEv := r.2.2 }
    r.2.1.foldl (fun x e => x.load (caTxObj s.im e.1) (toBytes 8 e.2)) s1

/-- A row of the table about the engineer call: step 5 is done at once when it brings the happening about. -/
def callRow (ok : Bool) (t : Nat) (happens : State → State → Bool) (s : State) : Out :=
  act ok t (fun s => s.zenithReady && !s.alm.callDone && happens s s.callNow) State.callNow s

/-- CALL_ESCALATION (R285). When the escalation counter reaches 0 during a duty call, the call state becomes ALL. -/
def execCallEscalation (t : Nat) (s : State) : Out :=
  callRow true t (fun a b => decide (a.alm.call.cs = 1) && decide (b.alm.call.cs = 2) && decide (b.alm.call.esc = 0)) s

/-- DEAD_MAN_PRE (R288). When the dead-man counter falls to N_pre, DM goes from RUN to PRE. -/
def execDeadManPre (t : Nat) (s : State) : Out :=
  callRow true t (fun a b => decide (a.alm.call.dmState = 1) && decide (b.alm.call.dmState = 2)) s

/-- DEAD_MAN_EXPIRY (R288). When the dead-man counter reaches 0, DM goes to ALARM and every station is called. -/
def execDeadManExpiry (t : Nat) (s : State) : Out :=
  callRow true t (fun a b => decide (a.alm.call.dmState ≠ 3) && decide (b.alm.call.dmState = 3)) s

/-- CALL_LINK_LOST (R291). A CAN station with no message on RX_OBJ for ceil(3 s / P) frames sets LINK_LOST. -/
def execCallLinkLost (t k : Nat) (s : State) : Out :=
  callRow (decide (k < 16)) t (fun a b => !(tabGet {} a.alm.stations k : Station).lost && (tabGet {} b.alm.stations k : Station).lost) s

/-- CALL_OBJECT_CYCLE (R290). When OBJ_CYCLE frames have passed since the last transmission, a CAN station loads TX_OBJ again. -/
def execCallObjectCycle (t k : Nat) (s : State) : Out :=
  callRow (decide (k < 16)) t (fun a b =>
    let x : Station := tabGet {} a.alm.stations k
    let y : Station := tabGet {} b.alm.stations k
    decide (caObjCycle s.im k ≤ x.since + 1) && decide (x.sent.isSome) && decide (y.sent = x.sent) && decide (y.tx ≠ x.tx)) s

/-! ## Outputs (R38, R274, R289, R477) -/

/-- A DO channel that a group or a station drives, with the state the Zenith controller gives it. -/
def State.zenithOut (s : State) (c : Nat) : Option Bool :=
  match (listedInst s.im clsGRP).find? fun g => grOutEn s.im g && decide (grOutCh s.im g = c) with
  | some g => some (tabGet {} s.alm.grps g : Grp).out
  | none =>
    match (callStations s.im).find? fun k => caDoEn s.im k && decide (caOutCh s.im k = c) with
    | some k => some (csEn s.im && (tabGet {} s.alm.stations k : Station).out)
    | none => none

/-- A Zenith controller's output enters the output image, and COMMANDED of the channel shows it (R38). -/
def State.zenithOutput (s : State) (c : Nat) : State :=
  if chMode s.im c = 8 then
    match s.zenithOut c with
    | some v => (s.modEng fun e => { e with out := { e.out with dos := setBit e.out.dos c v } }).setRes c
        (setFld (tabGet 0#128 s.eng.res c) 0 1 (b2n v))
    | none => s
  else s

/-- The Zenith controller's outputs, channel by channel. -/
def State.zenithOutputs (s : State) : State := (List.range 512).foldl State.zenithOutput s

/-- The source of channel `c`'s output command (R477): an engine code, or 16 for the Zenith controller. -/
def State.outSource (s : State) (c : Nat) : Nat := if (s.zenithOut c).isSome then 16 else engineOf s.im c

/-- Outputs of poisoned sources keep their commands of the frame before (R477); channels that are no outputs have none. -/
def State.keptOutputs (s : State) : OutImg :=
  (List.range 512).foldl (fun (o : OutImg) c =>
    let m := chMode s.im c
    let bad := s.eng.poison.testBit (s.outSource c)
    if m = 8 then { o with dos := setBit o.dos c (if bad then s.eng.outWas.dos.testBit c else s.eng.out.dos.testBit c) }
    else if m = 6 then { o with aos := tabSet 0 o.aos c (if bad then tabGet 0 s.eng.outWas.aos c else tabGet 0 s.eng.out.aos c) }
    else o) {}

/-- The shadows after the distribution of the image `o`: a cell that is sent a no-update symbol keeps its own (R475). -/
def shadowAfter (noUpd : Nat) (was o : OutImg) : OutImg :=
  ((List.range 512).filter noUpd.testBit).foldl (fun x c =>
    { x with dos := setBit x.dos c (was.dos.testBit c), aos := tabSet 0 x.aos c (tabGet 0 was.aos c) }) o

/-- The output image is final and is distributed into the shadows of the blocks (R37); it is the whole shadow that a cell in its
safe state waits for once a strobe has come (R210). -/
def State.distribute (s : State) : State :=
  let o := s.keptOutputs
  let keep := s.eng.noUpd
  (s.modEng fun e => { e with out := o, outWas := o, shadow := shadowAfter keep e.shadow o, noUpd := 0 }).modBlks fun b => { b with
    out := tabMap {} (fun c x => if x.resumed ∧ !keep.testBit c then { x with shadowed := true } else x) b.out }

/-! ## DSC transmission (R253, R370) -/

/-- Source address of DSC datagrams of port `i` (R370). -/
def State.dscSource (s : State) (i : Nat) : Nat := if s.paired ∧ poSvcIp s.im i ≠ 0 then poSvcIp s.im i else portIp s.im s.unitB i

/-- DSC_TX_COMPARE of connection `i` (R253). A standby and a node in replay send nothing. -/
def State.dscSendStep (s : State) (i : Nat) : State :=
  let a : Dsc := tabGet {} s.safe.dscA i
  let b : Dsc := tabGet {} s.safe.dscB i
  if !dscEn s.im i || (a.pdu.isNone && b.pdu.isNone) then s
  else if a.pdu ≠ b.pdu then s.unitEvs [{ code := 0x0904, src := i }]
  else
    let data := a.pdu.getD []
    if dscTransport s.im i = 0 then s.load (dscTxObj s.im i) data
    else if s.unt.pair.role = 2 ∨ s.port.replay then s
    else s.sendDatagram (dscEth s.im i) (s.dscSource (dscEth s.im i)) (dscPeerIp s.im i) 47201 true data

/-- The loads of the frame enter message RAM (R394). -/
def State.enterLoads (s : State) : State :=
  (s.can.loads.foldl (fun x l => x.modObj l.1 (canLoad s.im s.now s.fr.frameNo l.1 l.2)) s).modCan fun c => { c with loads := [] }

/-! ## Sessions and replies (R321, R323) -/

/-- One frame of the session of port `code` (R321). -/
def State.sessionStep (s : State) (code : Nat) : State :=
  let x := s.sessOf code
  if x.id = 0 then s
  else if x.heard then s.modSess code fun y => { y with heard := false, quiet := 0 }
  else if framesOf s.P (msC 30000) ≤ x.quiet + 1 then s.closeSession code
  else s.modSess code fun y => { y with quiet := y.quiet + 1 }

/-- A reply that is due leaves, in the order of the commands. -/
def State.replyDue (s : State) (p : Pending) : State :=
  let body := match p.done with
    | some d => d
    | none => s.formBody p.op
  s.deliver p.caller p.op body.1 body.2

/-- The replies due when the open frame is complete (R323). -/
def State.replies (s : State) : State :=
  let isDue (p : Pending) : Bool := match p.due with
    | some n => decide (n ≤ s.fr.frameNo)
    | none => false
  (s.port.pend.filter isDue).foldl State.replyDue (s.modPort fun p => { p with pend := p.pend.filter fun x => !isDue x })

/-! ## Events of the frame (R63) -/

/-- Engine requests in ascending (REGION, ENGINE, ITEM). -/
def engineOrder (t : Tab (Option EvReq)) : List EvReq := t.filterMap (·.2)

/-- Insertion by event code, behind equal ones. -/
def codeInsert (e : EvReq) : List EvReq → List EvReq
  | [] => [e]
  | x :: r => if e.code < x.code then e :: x :: r else x :: codeInsert e r

/-- The event requests of the frame in the order of R63. -/
def State.frameRequests (s : State) : List EvReq :=
  engineOrder s.eng.ev ++ (s.port.cfgEv.foldl (fun l e => codeInsert e l) []) ++
    s.port.replayIn.hosts.owner.ev ++ s.port.owner.ev ++ s.port.rtcEv ++
    ((s.alm.pts.flatMap fun e => almEvent e.1 e.2)) ++ s.alm.firstOuts ++ s.alm.callEv

/-- The event records of the frame are admitted. -/
def State.recordEvents (l : List EvReq) (s : State) : State :=
  ((s.frameEvs l).modPort fun p => { p with
      cfgEv := [], rtcEv := [], owner := { p.owner with ev := [] }
      replayIn := { p.replayIn with hosts := { p.replayIn.hosts with owner := { p.replayIn.hosts.owner with ev := [] } } } }).modAlm fun a =>
    { a with pts := tabMap {} (fun _ x => almClose x) a.pts, firstOuts := [], callEv := [] }

/-! ## FRAME_CLOSE -/

/-- The trim whose last frame this is ends (R140). -/
def State.trimStep (s : State) : State :=
  match s.trimEnding with
  | some x => s.trimFinish x
  | none => s

/-- One frame of every session (R321). -/
def State.sessionsStep (s : State) : State := (List.range 16).foldl State.sessionStep s

/-- Steps of the Zenith controller up to the final output image. -/
def State.zenithFrame (s : State) : State :=
  ((s.trimStep.callNow.bothSides State.sessionsStep).bothSides State.closeWindow).zenithOutputs.distribute.poisonReport

/-- Transmission: DSC PDUs and the loads of the frame. -/
def State.transmit (s : State) : State := ((List.range 32).foldl State.dscSendStep s).enterLoads

/-- What readers see of the complete frame, the common fault bits of the blocks, and the frame's own marks. -/
def State.publish (t : Nat) (s : State) : State :=
  let s1 := s.modBlks fun b => { b with diag := tabMods {} (List.range 64) (fun k d => { d with fault := s.blockFault k }) b.diag }
  let s2 := { s1 with shown :=
    { frame := s.fr.frameNo, res := s.eng.res, points := s.alm.pts, groups := s.alm.grps, call := callBlock s.P s.alm.call
      safe := s.safe.resA, image := s.im } }
  (s2.setPhase .complete).modFr fun f => { f with doneAt := t, longLive := f.longLive && f.longNow }

/-- A poisoned frame of a pair (R68, R430), and the digest of a complete frame, which both units send: a standby with its
completion notice (R425, R427). -/
def State.pairClose (reqs : List EvReq) (s : State) : State :=
  if !s.paired then s
  else
    let n := s.fr.frameNo
    let d := s.frameDigest reqs
    let s1 := (s.ownDigest d).linkSend [if s.unt.pair.role = 2 then .notice n d else .digest n d]
    if s1.eng.poison ≠ 0 ∧ s1.unt.pair.role = 1 then s1.unsync 3 else s1

/-- The frame is closed at `t`; `late` tells that an open trace stream has not kept pace with the frames (R69). -/
def State.closeFrame (t : Nat) (late : Bool) (s : State) : State :=
  let s1 := s.zenithFrame.transmit
  let reqs := s1.frameRequests
  ((((s1.recordEvents reqs).publish t).pairClose reqs).traceStep late).bothSides State.replies

/-- FRAME_CLOSE (R62). The collector closes frame n when the END entries of all 16 engines have arrived. -/
def execFrameClose (e : FrameEnd) (s : State) : Out := act true e.t State.zenithReady (State.closeFrame e.t e.late) s

/-- SESSION_TIMEOUT (R321). A session with no packet assigned to ceil(30 s / P) consecutive frames closes. -/
def execSessionTimeout (t code : Nat) (s : State) : Out :=
  act (isCode code) t (fun s => s.live && decide (s.phase = .evaluate) && decide ((s.sessOf code).id ≠ 0) && !(s.sessOf code).heard &&
    decide (framesOf s.P (msC 30000) ≤ (s.sessOf code).quiet + 1)) (State.closeSession code) s

/-- LEASE_LAPSE (R351). When more than 2 s of elapsed time passes since the last renewal, ownership lapses, and 0D01h is recorded
with reason 4. -/
def execLeaseLapse (t : Nat) (s : State) : Out :=
  act true t (fun s => s.live && decide (s.phase ≠ .complete) && s.leaseOver) State.lapseLease s

/-- OFFER_LAPSE (R354). A handover offer that has not been accepted within 2 s ends, and 0D02h is recorded. -/
def execOfferLapse (t : Nat) (s : State) : Out :=
  act true t (fun s => s.live && decide (s.phase ≠ .complete) && s.offerOver) State.lapseOffer s

/-- CLAIM_WINDOW_CLOSE (R348). When 250 ms have passed since the window opened, the claim window closes, and the claimant with
the highest priority becomes owner. -/
def execClaimWindowClose (t : Nat) (s : State) : Out :=
  act true t (fun s => s.zenithReady && (match s.port.owner.window with
    | some c => decide (c + windowCycles ≤ s.fr.total)
    | none => false)) State.closeWindow s

end Sys2Proof.Machine
end

