-- ==== Sys2Proof/Machine/Apply.lean ====
section
/-! DEFINITION. A new configuration takes effect at a strobe: what is re-initialised, restarted, closed and stored (R43, R93,
R120, R142, R152, R331, R355, R378, R386, R408, R457, R546, R548). -/

namespace Sys2Proof.Machine

/-! ## Channels -/

/-- The commit re-initialises channel `c` (R93). -/
def reinitsChannel (old new : Image) (c : Nat) : Bool :=
  decide (chMode old c ≠ chMode new c) || decide (chSub old c ≠ chSub new c) || decide (chPairFn old c ≠ chPairFn new c)

/-- The linearisation fields of R152. -/
def linKey (im : Image) (c : Nat) : List Int :=
  [chCurve im c, chDec im c, chCjcSrc im c, chCjcCh im c, chCparam im c, chInLo im c, chInHi im c, chEngLo im c, chEngHi im c,
    imF im clsCHCFG c 1152 896]

/-- A test pulse on channel `c` ends (R93). -/
def pulseOff (c : Nat) (k : Blk) : Blk :=
  match k.pulse with
  | some p => if p.ch = c then { k with pulse := none } else k
  | none => k

/-- A converter entry in progress for channel `c` gives no result any more. -/
def ownerOff (c : Nat) (q : BlkAcq) : BlkAcq := if q.owner = some c then { q with owner := none } else q

/-- The cell of channel `c` is re-initialised: its switch opens, its loop source goes to 0 mA, its supplies switch off and its test
pulse ends (R93). The count of RANGE_EDGE conversions is a diagnostic counter and stays (R518). -/
def State.reinitCell (c : Nat) (s : State) : State :=
  s.modBlks fun b => { b with
    acq := tabMod {} b.acq c fun a => { nEdge := a.nEdge }, acqWas := tabSet {} b.acqWas c {}, dig := tabSet {} b.dig c {}, out := tabSet {} b.out c {}
    loop := tabSet {} b.loop c {}, blk := tabMod {} b.blk (c / 8) (pulseOff c), seqr := tabMod {} b.seqr (c / 8) (ownerOff c) }

/-- A comparison that goes on over a re-initialisation of channel 2n: it restarts only as R149 says. -/
def keepPair (keep : Bool) (a : AnaCh) : AnaCh :=
  if keep then { base := a.base, cnt := a.cnt, verdict := a.verdict, chosen := a.chosen } else {}

/-- The serving engine of channel `c` starts anew, and its output command is off (R93, R165, R186). STATE of a DI channel and FREQ
and ENG of a PI channel hold their last values (R196, R198). -/
def State.reinitEngine (keep : Bool) (c : Nat) (s : State) : State :=
  s.modEng fun e => { e with
    ana := tabMod {} e.ana c (keepPair keep), ao := tabSet {} e.ao c {}
    di := tabMod {} e.di c fun a => { state := a.state }
    pi := tabMod {} e.pi c fun a => { freq := a.freq, eng := a.eng }
    dout := tabSet {} e.dout c {}
    outWas := { dos := setBit e.outWas.dos c false, aos := tabSet 0 e.outWas.aos c 0 }
    shadow := { dos := setBit e.shadow.dos c false, aos := tabSet 0 e.shadow.aos c 0 } }

/-- Channel `c` is re-initialised in its cell and in its serving engine. -/
def State.reinitChannel (c : Nat) (s : State) : State := (s.reinitCell c).reinitEngine false c

/-- The modem of channel `c` starts anew (R179). -/
def State.resetModem (c : Nat) (old new : Nat) (s : State) : State :=
  (s.modBlks fun b =>
    let m1 := if old = 0 then b.modem else tabSet {} b.modem (8 * (c / 128) + old - 1) {}
    { b with modem := if new = 0 then m1 else tabSet {} m1 (8 * (c / 128) + new - 1) {} }).modEng fun e => { e with
      hart := tabSet {} e.hart c {}, hdev := tabSet [] e.hdev c [] }

/-- The engine and the modem of channel `c` under the new configuration (R93, R152, R179). -/
def applyChannel (old new : Image) (s : State) (c : Nat) : State :=
  let re := reinitsChannel old new c
  let s1 := if re then s.reinitEngine (decide (chPairFn old c = 2) && decide (chPairFn new c = 2)) c else s
  let s2 := if decide (chModemCell old c ≠ chModemCell new c) || (re && decide (chModemCell new c ≠ 0)) then
      s1.resetModem c (chModemCell old c) (chModemCell new c) else s1
  if decide (linKey old c ≠ linKey new c) then
    let h := c - c % 2
    s2.modEng fun e =>
      let a := if re then e.ana else tabMod {} e.ana c anaRestart
      { e with ana := if chPairFn new h = 2 then tabMod {} a h pairRestart else a }
  else s2

/-- SETTLE and NOTCH of a channel, where its fields count (R77). -/
def entryKey (im : Image) (c : Nat) : List Nat :=
  let own := !ignoresRest im c
  [chEntryFirst im c, chEntryCount im c, if own then chSettle im c else 0, if own then chNotch im c else 0]

/-- The block's entry table, or SETTLE or NOTCH of one of its channels, changes (R120). -/
def reinitsBlock (old new : Image) (b : Nat) : Bool := (blkChannels b).any fun c => decide (entryKey old c ≠ entryKey new c)

/-- The notch of channel `c` restarts in a block that starts a new cycle (R115, R120). -/
def restartsNotch (old new : Image) (c : Nat) : Bool :=
  decide (chNotch new c ≠ 0) && (decide (entryKey old c ≠ entryKey new c) || decide (chTCyc old c ≠ chTCyc new c))

/-- A channel in a block whose cycle a commit replaces: its run is cut off unless the entry in progress goes on with it. -/
def acqRecycle (old new : Image) (c : Nat) (mine : Bool) (a : AcqCh) : AcqCh :=
  let a1 := if mine then a else { a with acc := [], prev := if chSlots new c = 0 then a.prev else none }
  if restartsNotch old new c then { a1 with window := [] } else a1

/-- Block `b` is to start its new cycle once the entry or ST in progress is finished (R120). -/
def applyCycle (old new : Image) (b : Nat) (s : State) : State :=
  if !reinitsBlock old new b then s
  else (blkChannels b).foldl (fun x c => x.modAcq c (acqRecycle old new c (decide ((s.seqOf b).owner = some c))))
    (s.modSeq b fun q => { q with recycle := true })

/-- Source measurements under a new configuration of a block that changes one of its channels: those of continuous sources stand
(R99, R100). -/
def applySources (old new : Image) (b : Nat) (s : State) : State :=
  if (blkChannels b).all fun c => decide (inst old clsCHCFG c = inst new clsCHCFG c) then s
  else s.modSeq b fun q => { q with run0 := false, run1 := false }

/-! ## Blanking (R109 to R112) -/

/-- The blanking input of block `b`: the debounced state of its BLANK_SRC channel (R109, R190). -/
def State.blankIn (s : State) (b : Nat) : Bool :=
  (blkChannels b).any fun c => decide (chMode (s.bim b) c = 7) && chBlankSrc (s.bim b) c && (s.digOf c).state

/-- Channel `c` is blanked now (R109). -/
def State.blanked (s : State) (c : Nat) : Bool := blankedNow (s.cim c) c (s.blankIn (c / 8)) s.blks.blank

/-- The channel of the entry in progress, one of the block; none in the self-test slot. -/
def State.converting (s : State) (b : Nat) : Option Nat :=
  if 16 ≤ (s.seqOf b).pos then none else (s.seqOf b).owner.filter fun c => decide (c / 8 = b)

/-- The blanking states of block `b` may have changed: its channels, and the entry in progress. -/
def State.reblank (b : Nat) (s : State) : State :=
  let s1 := (blkChannels b).foldl (fun x c =>
    if isAnalogIn (chMode (s.bim b) c) then x.modAcq c (acqBlank s.now (s.blanked c)) else x) s
  match s.converting b with
  | some c => if s.blanked c then s1.modSeq b fun q => { q with tainted := true } else s1
  | none => s1

/-! ## Blocks (R93, R103, R120) -/

/-- Block `b` takes the configuration `new` in place of `old`. -/
def applyBlock (old new : Image) (s : State) (b : Nat) : State :=
  let s1 := (blkChannels b).foldl (fun x c => if reinitsChannel old new c then x.reinitCell c else x) s
  (applySources old new b (applyCycle old new b s1)).reblank b

/-- Block `b` takes the running configuration if it still runs under the one before. -/
def State.takeConfig (b : Nat) (s : State) : State :=
  if s.blks.behind.testBit b then
    applyBlock s.blks.was s.im (s.modBlks fun k => { k with behind := setBit k.behind b false }) b
  else s

/-- Every block that still runs under the image before takes the running one. -/
def State.settleBlocks (s : State) : State := (List.range 64).foldl (fun x b => x.takeConfig b) s

/-! ## Alarms, call, objects -/

/-- Instances of a class that either image lists. -/
def listedBoth (old new : Image) (k : Nat) : List Nat :=
  listedInst old k ++ (listedInst new k).filter fun i => !(listedInst old k).contains i

/-- The alarm engine and the engineer call under the new configuration (R265, R275, R292). -/
def applyAlarms (old new : Image) (s : State) : State :=
  let call := callCommit old new (s.alm.call, s.alm.stations)
  s.modAlm fun a => { a with
    pts := (listedBoth old new clsALMPT).foldl (fun t p => tabMod {} t p (almCommit old new p)) a.pts
    grps := (List.range 64).foldl (fun t g => tabMod {} t g (grpCommit old new g)) a.grps
    call := call.1, stations := call.2 }

/-- The alarm engine and the engineer call after a start-up (R265, R292). -/
def startAlarms (s : State) : State :=
  let s1 := applyAlarms [] s.im s
  s1.modAlm fun a => { a with call := callStart s1.im a.call }

/-- The connections of the Denif Safe Channel under the new configuration (R250). -/
def applyDsc (old new : Image) (s : State) : State :=
  let step (t : Tab Dsc) (i : Nat) : Tab Dsc := tabMod {} t i (dscCommit old new i)
  s.modSafe fun a => { a with dscA := (listedBoth old new clsDSC).foldl step a.dscA, dscB := (listedBoth old new clsDSC).foldl step a.dscB }

/-- The message objects and the controllers under the new configuration (R386, R408). -/
def applyCan (old new : Image) (s : State) : State :=
  let s1 := s.modCan fun c => { c with
    objs := (listedBoth old new clsCANOBJ).foldl (fun t o => tabMod {} t o (canObjCommit old new o)) c.objs }
  (List.range 4).foldl (fun x k =>
    let c := canCtlCommit old new k (x.ctlOf k)
    (x.modCtl k fun _ => c).unitEvs (ctlCommitEvents k (x.ctlOf k) c)) s1

/-! ## Ports and ownership (R355, R378) -/

/-- The commit closes the session of the port with owner code `code` (R378). -/
def closesSession (old new : Image) (code : Nat) : Bool :=
  let i := code % 8
  let b := decide (8 ≤ code)
  decide (portIp old b i ≠ portIp new b i) || (decide (i = 5) && decide (imF old clsPORT i 256 3 ≠ imF new clsPORT i 256 3))

/-- Bits of a PORT instance from LINK to the PLCA fields (R361). -/
def portLink (im : Image) (i : Nat) : Nat := imF im clsPORT i 32 32

/-- The link of Ethernet port `i` restarts: it goes down, and PLCA with it (R378, R380). -/
def restartLink (s : State) (i : Nat) : State :=
  let p := s.portOf i
  let e1 := if p.linkUp then [{ code := 0x0E01, src := i, p1 := 0, p2 := 0 }] else []
  let e2 := if p.plca then [{ code := 0x0E02, src := i, p1 := 0, p2 := poPlcaId s.im i }] else []
  (s.modPortSt i fun p => { p with linkUp := false, speed := 0, plca := false, plcaNodes := 0, plcaTimer := 0 }).unitEvs (e1 ++ e2)

/-- Links, sessions and ownership under the new configuration. -/
def applyPorts (old new : Image) (s : State) : State :=
  let codes := (List.range 16).filter fun c => decide (c % 8 < 6)
  let s0 := ((List.range 3).filter fun i => portLink old i != portLink new i).foldl restartLink s
  let s1 := (codes.filter (closesSession old new)).foldl (fun x c => x.closeSession c) s0
  let off (c : Nat) : Bool := poClaimEn old (c % 8) && !poClaimEn new (c % 8)
  let s2 := (codes.filter off).foldl (fun x c => x.dropClaim c) s1
  match s2.port.owner.owner with
  | some c => if off c then s2.vacate 6 else s2
  | none => s2

/-! ## Pair and clock -/

/-- A module becomes a unit of a pair, or ceases to be one, by its configuration (R412, R418). -/
def applyPair (old new : Image) (s : State) : State :=
  if paEn old = paEn new then s
  else if paEn new then (s.modPair fun p => { p with role := 1, sync := 0, cause := 1 }).driveHold 2
  else (s.modPair fun p => { p with role := 0, sync := 0 }).driveHold 0

/-- The alarm settings of the clock follow the RTC instance (R457). -/
def applyClock (old new : Image) (s : State) : State :=
  if rtcBits old = rtcBits new ∨ s.twi.locked then s else s.modTwi (loadAlarms (rtcBits new))

/-! ## The whole -/

/-- Trims in progress under the new configuration: a trim that takes effect records its event, and any other is aborted. -/
def applyTrims (old new : Image) (nx : NextCfg) (s : State) : State :=
  let s1 := s.modCfg fun c => { c with trims := [] }
  match s.cfg.trims with
  | [] => s1
  | x :: _ =>
    if nx.source = 0xFF then
      let v (im : Image) : Nat := s32 (if x.span then chTrimGain im x.ch else chTrimZero im x.ch)
      s1.engEvs (engineOf new x.ch) [{ code := if x.span then 0x0511 else 0x0510, src := x.ch, p1 := v old, p2 := v new, p3 := s32 (trimMean x) }]
    else s1.frameSide (State.modPort fun p => { p with pend := settleTrims (fun _ => true) s.fr.frameNo stTrimAborted p.pend })

/-- Event 0512h for every channel whose trim fields a commit changes (R142). -/
def trimSetEvents (old new : Image) (s : State) : State :=
  (listedBoth old new clsCHCFG).foldl (fun x c =>
    let f (im : Image) (lo : Nat) : Nat := imF im clsCHCFG c lo 16
    if f old 960 = f new 960 ∧ f old 976 = f new 976 then x
    else x.engEvs (engineOf new c) [{ code := 0x0512, src := c, p1 := f old 960 + 65536 * f new 960, p2 := f old 976 + 65536 * f new 976 }]) s

/-- The image `nx` becomes the running configuration at the strobe that opens the open frame. -/
def State.applyCommit (nx : NextCfg) (s0 : State) : State :=
  let s := s0.settleBlocks
  let old := s.cfg.image
  let new := nx.image
  let oldCrc := s.cfg.hdr.cfgCrc
  let h := s.cfg.hdr
  let s1 := s.modCfg fun c => { c with
    image := new, next := none, restage := c.restage || decide (nx.source ≠ 0xFF)
    hdr := { h with cfgCrc := nx.cfgCrc, safeCrc := nx.safeCrc, confirmed := newConfirmed h nx.safeCrc, firstFrame := s.fr.frameNo } }
  let s2 := ((List.range 512).foldl (applyChannel old new) s1).modBlks fun k => { k with was := old, behind := 2 ^ 64 - 1 }
  let s3 := (applyCan old new (applyDsc old new (applyAlarms old new s2))).bothSides (applyPorts old new)
  let s4 := applyTrims old new nx (applyClock old new (applyPair old new s3))
  let s5 := if nx.source = 0xFF then s4 else trimSetEvents old new s4
  (s5.storeStart).cfgEv { code := 0x0301, src := nx.source, p1 := nx.cfgCrc, p2 := oldCrc, p3 := nx.safeCrc }

/-- The staging image becomes a copy of the running one (R330, R356). -/
def State.restageNow (s : State) : State :=
  if s.cfg.restage then s.modCfg fun c => { c with staging := c.image, restage := false } else s

end Sys2Proof.Machine
end

