-- ==== Sys2Proof/Machine/Strobe.lean ====
section
/-! DEFINITION. FRAME_STROBE: timing, lag and marks, the frame record, the assignment of entries, and everything that a strobe
switches (R41 to R56, R72). -/

namespace Sys2Proof.Machine

/-! ## Timing (R45 to R50) -/

/-- The target of a frame with lag `lag` under the period `P` (R45). -/
def strobeTarget (P lag : Nat) : Nat := max (3 * P / 4) (P - lag)

/-- Λ(n+1) from Λ(n), L(n) and P (R45, R49). -/
def nextLag (P lag len : Nat) : Nat := min 4294967295 (lag + len - P)

/-- S(n+1): the target has passed and the frame is complete (R45). -/
def State.strobeDue (s : State) : Nat := max (s.fr.strobeAt + strobeTarget s.P s.fr.lag) s.fr.doneAt

/-- The frame status counters cleared (R72). -/
def clearClk (f : FrameClk) : FrameClk :=
  { f with maxLag := 0, maxLen := 0, nStretched := 0, nShortened := 0, nLong := 0, nOverrun := 0, nDeferred := 0, clr := false }

/-- The scheduler at a strobe at `at0` under the period `P` of the frame that ends: record, marks and counters (R45, R50, R72). -/
def clkStrobe (P at0 : Nat) (f0 : FrameClk) : FrameClk :=
  let f := if f0.clr then clearClk f0 else f0
  let len := at0 - f.strobeAt
  let lag := nextLag P f.lag len
  let long := P < len
  let short := len < P
  { f with
    frameNo := f.frameNo + 1, strobeAt := at0, lag := lag, prevLen2 := f.prevLen, prevLen := len, total := f.total + len, lastLen := len
    stretched := decide long, shortened := decide short, longRec := f.longNow, longNow := false
    maxLag := max f.maxLag lag, maxLen := max f.maxLen len
    nStretched := satN 32 (f.nStretched + b2n (decide long)), nShortened := satN 32 (f.nShortened + b2n (decide short))
    nLong := satN 16 (f.nLong + b2n f.longNow) }

/-- OVERRUN at a strobe under the period `P` of the frame that opens (R48): the scheduler and its events. -/
def clkOverrun (P : Nat) (f : FrameClk) : FrameClk × List EvReq :=
  if f.overrun then
    if f.lag = 0 then ({ f with overrun := false, ovrFrames := 0 }, [{ code := 0x0203, p1 := f.ovrFrames }])
    else ({ f with ovrFrames := f.ovrFrames + 1 }, [])
  else if 8 * P < f.lag then
    ({ f with overrun := true, ovrFrames := 1, nOverrun := satN 16 (f.nOverrun + 1) },
      [{ code := 0x0202, p1 := f.frameNo % 2 ^ 32, p2 := f.lag }])
  else (f, [])

/-- OVERRUN of the node; it unsynchronises a pair (R430). -/
def State.overrunStep (s : State) : State :=
  let r := clkOverrun s.P s.fr
  let s1 := (s.modFr fun _ => r.1).unitEvs r.2
  if s1.paired && r.1.overrun && !s.fr.overrun then s1.unsync 4 else s1

/-! ## Entries of the frame (R53 to R55) -/

/-- Bytes of the frame image for entries (R55). -/
abbrev entryRoom : Nat := 49152

/-- LOCKED of the receive object of a CAN entry (R392). -/
def lockEntry (v : Bool) (s : State) (e : Entry) : State :=
  match e.body with
  | .can o _ => s.modObj o fun x => { x with locked := v }
  | _ => s

/-- Zenith cycles `n` in cycles of the domain that stamps inputs of order code `order`: the region for an FSK reply (R52, R56). -/
def stampCycles (order n : Nat) : Nat := if order = 2 then n / 2 else n

/-- An input stamped in the interval that began at `from0` (S(k−1)), with its T_OFFSET. -/
def Entry.placed (from0 : Nat) (e : Entry) : Entry := { e with off := stampCycles e.order (e.stamp - from0) }

/-- The inputs stamped before the strobe become entries of the frame; those that do not fit are deferred (R53, R55). -/
def State.assignEntries (s : State) : State :=
  let mine := (s.inp.gather.filter fun e => decide (e.stamp < s.fr.strobeAt)).map (Entry.placed (s.fr.strobeAt - s.fr.lastLen))
  let rest := s.inp.gather.filter fun e => !decide (e.stamp < s.fr.strobeAt)
  let x := fitEntries entryRoom (s.inp.held ++ entrySort mine)
  let late := x.2.map fun e => { e with deferred := true }
  let s1 := s.modInp fun i => { i with gather := rest, held := late, entries := x.1, cosNow := [] }
  let s2 := late.foldl (lockEntry true) (x.1.foldl (lockEntry false) s1)
  let s3 := s2.modFr fun f => { f with
    asyncCount := x.1.length, deferCount := (x.1.filter (·.deferred)).length, nDeferred := satN 32 (f.nDeferred + late.length) }
  if late.isEmpty then s3 else s3.unitEvs [{ code := 0x0204, p1 := late.length }]

/-! ## State of frame n − 1 (R137, R165, R283) -/

/-- The value of channel `c` that the next frame reads as frame n − 1 state. -/
def prevOf (im : Image) (res : Tab Rec) (c : Nat) : PrevVal :=
  let m := chMode im c
  let r := tabGet 0#128 res c
  if isAnalogIn m || decide (m = 9) then { eng := fldI r 0 32, dec := chDec im c, quality := fld r 64 2 }
  else if m = 7 then { state := bit r 0, held := bit r 10 }
  else {}

/-- The results of the ending frame become frame n − 1 state, and the result image starts empty. -/
def State.keepResults (s : State) : State :=
  s.modEng fun e => { e with
    pv := (List.range 512).foldl (fun t c => tabSet {} t c (prevOf s.im e.res c)) []
    res := [], stray := [], ends := 0, silentHold := 0, poison := 0, pcause := 0, ev := [] }

/-- The marks of a frame that starts. The CJC records of a standby hold their values until the active's arrive (R433). -/
def State.freshFrame (s : State) : State :=
  let hold := s.follows
  ((s.modInp fun i => { i with
      arrived := 0, mirrored := 0, stale := 0
      cjc := tabMods {} (List.range 16) (fun _ c => if hold then { c with recNew := false } else cjcLatch c) i.cjc }).modSafe fun a =>
      { a with doneFn := 0, doneDsc := 0, passed := 0 }).modAlm (fun a => { a with next := 0, grpNext := 0, callDone := false })
    |>.modPair fun p => { p with noticed := false, inputs := false }

/-! ## Blocks, replay and takeover at a strobe -/

/-- A block that has come back is configured, and its channels are re-initialised at this strobe (R494). -/
def State.joinBlock (s : State) (b : Nat) : State :=
  if (s.blkOf b).joining then
    ((blkChannels b).foldl (fun x c => x.reinitChannel c) ((s.modBlk b fun k => { k with joining := false }).modBlks fun k =>
      { k with behind := setBit k.behind b false })).unitEvs
      [{ code := 0x0115, src := b, p1 := 1, p2 := (s.bdiagOf b).fsMv }]
  else s

/-- After a warm restart the blocks have kept their field power, and their cells are re-initialised at strobe 1 (R501). -/
def State.warmCells (s : State) : State :=
  if s.fr.frameNo = 1 ∧ (s.unt.power.cause = 5 ∨ s.unt.power.cause = 6) then
    (List.range 512).foldl (fun x c => if (x.blkOf (c / 8)).powered then x.reinitCell c else x) s
  else s

/-- A replay begins at the first strobe at which the snapshot is loaded (R69, R70). -/
def State.beginReplay (s : State) : State :=
  if s.port.replay && !s.port.replayIn.begun then
    match snapshotSplit s.port.replayIn.bytes with
    | some x =>
      let s1 := s.modPort fun p => { p with replayIn := { p.replayIn with bytes := x.2, begun := true } }
      match Config.snapshotRead x.1 with
      | some y => s1.takeReplay y
      | none => s1
    | none => s
  else s

/-- After a hot takeover every input record of the frame is written with the values before and STALE (R433). -/
def State.hotRecords (s : State) : State :=
  if s.unt.pair.hot = some s.fr.frameNo then
    ((List.range 512).foldl (fun x c =>
      if isAnalogIn (chMode x.im c) || decide (chMode x.im c = 7) || decide (chMode x.im c = 9) then
        x.modInp fun i => { i with arrived := setBit i.arrived c true, stale := setBit i.stale c true }
      else x) s).modPair fun p => { p with hot := none }
  else s

/-! ## FRAME_STROBE -/

/-- What a strobe at `at0` does, whoever issues it. -/
def State.openFrame (at0 : Nat) (s : State) : State :=
  let s1 := ((s.modFr (clkStrobe s.P at0)).modTwi twiNewFrame).keepResults
  let s2 := (match s1.cfg.next with
    | some nx => s1.applyCommit nx
    | none => s1).restageNow
  let s3 := s2.overrunStep.assignEntries.freshFrame
  ((List.range 64).foldl State.joinBlock s3.warmCells).beginReplay.hotRecords.traceBegin.setPhase .gather

/-- The unit issues its own strobes: a single node or an active unit whose standby, once synchronised, has given notice
(R426). -/
def State.strobesItself (s : State) : Bool :=
  decide (s.unt.pair.role ≠ 2) && !(decide (s.unt.pair.role = 1) && decide (s.unt.pair.sync = 3) && !s.unt.pair.noticed)

/-- What the active sends at its strobe (R425): the marker with the frame record, `bad` telling that the frame before was poisoned,
the CJC records, and the entries in entry order. -/
def State.sendFrame (bad : Bool) (s : State) : State :=
  let f := s.fr
  let n := f.frameNo
  let cjc := (List.range 16).map fun k => let c := tabGet {} s.inp.cjc k; (k, c.recTemp, c.recNew, c.recFault)
  s.activeSends ([.marker n f.prevLen f.lag f.deferCount bad f.overrun, .cjc n cjc] ++ s.inp.entries.map (.entry n))

/-- FRAME_STROBE (R45). The Zenith frame scheduler issues strobe n+1 once frame n is complete and its target has passed, opening
the next numbered frame. -/
def execFrameStrobe (t : Nat) (s : State) : Out :=
  act true t (fun s => s.live && decide (s.phase = .complete) && s.strobesItself && decide (s.strobeDue ≤ t)) (fun s =>
    (s.openFrame s.strobeDue).sendFrame (decide (s.eng.poison ≠ 0))) s

end Sys2Proof.Machine
end

