-- ==== Sys2Proof/Machine/Inputs.lean ====
section
/-! DEFINITION. Packets and messages from outside, up to their stamp (R52, R57, R319, R324, R515). -/

namespace Sys2Proof.Machine

/-! ## Command packets -/

/-- An engine is silent: packets are checked on arrival (R515). -/
def State.engSilentStands (s : State) : Bool := (List.range 4).any fun g => decide ((s.regOf g).silent ≠ 0)

/-- An input that reaches the standby is forwarded to the active, which stamps it (R57, R324, R425). -/
def State.forward (ok : Bool) (order index : Nat) (body : EntryBody) (s : State) : State :=
  if ok && s.forwards then s.linkSend [.entry s.fr.frameNo { order := order, index := index, body := body }] else s

/-- A packet that R319 does not discard, from the port with owner code `code`. A standby answers or forwards it (R324); while
an engine is silent, one whose opcode has frame of effect "—" is answered at once (R515); any other is stamped for a frame. -/
def State.admitPacket (code ip udp : Nat) (bytes : List Byte) (p : Packet) (s : State) : State :=
  let op := decodeOp p.code p.body
  let now := match op with
    | some o => opImmediate o
    | none => false
  if s.unt.pair.role = 2 then
    (s.standbyCmd code p.code p.head).forward (decide (headStatus p.head = stOk)) 5 (code % 8) (.packet code ip udp bytes)
  else if s.engSilentStands && now then s.runPacket false code ip udp bytes
  else s.stampEntry 5 (code % 8) (.packet code ip udp bytes)

/-- A whole transport message on port `i` (R319). -/
def State.packetIn (i ip udp : Nat) (bytes : List Byte) (s : State) : State :=
  match parsePacket i ip udp bytes with
  | none => s.modPortSt i fun p => { p with pktDiscard := inc16 p.pktDiscard }
  | some p => s.admitPacket (s.codeOf i) ip udp bytes p

/-! ## Receive queues (R32, R55) -/

/-- A deferred entry that came through port `i`: a command packet in its command buffer, or on Ethernet a DSC PDU. -/
def State.cameThrough (s : State) (i : Nat) (e : Entry) : Bool :=
  match e.body with
  | .packet code _ _ _ => decide (code = s.codeOf i)
  | .dsc _ _ => decide (e.index = i)
  | _ => false

/-- Back-pressure on port `i`: a deferred entry of the port waits, or what waits behind it has not been taken yet. -/
def State.holdsBack (s : State) (i : Nat) : Bool := s.inp.held.any (s.cameThrough i) || !(s.portOf i).rxWait.isEmpty

/-- What has arrived on port `i` waits in its receive queue. -/
def State.queueRx (i : Nat) (x : RxItem) (s : State) : State := s.modPortSt i fun p => { p with rxWait := p.rxWait ++ [x] }

/-- A whole message on CAN or SER0: it waits behind a deferred packet of the port, and is never discarded for it. -/
def State.messageIn (i : Nat) (bytes : List Byte) (s : State) : State :=
  if s.holdsBack i then s.queueRx i (.message bytes) else s.packetIn i 0 0 bytes

/-- PACKET_RECEIVE (R52). A whole command packet with its CRC checked is stamped and given to a frame, or is discarded under
R319. -/
def execPacketReceive (t port ip udp : Nat) (bytes : List Byte) (s : State) : Out :=
  act (decide (port < 6)) t State.live (fun s =>
    if port < 3 ∨ !s.holdsBack port then s.packetIn port ip udp bytes else s.queueRx port (.message bytes)) s

/-- FORWARDED_PACKET (R324). The active runs the session and ownership checks on a packet forwarded by the standby, and executes it
or hands it back. -/
def execForwardedPacket (t code ip udp : Nat) (bytes : List Byte) (s : State) : Out :=
  act (isCode code) t (fun s => s.live && decide (s.unt.pair.role = 1) && !s.isLocal code && s.forwards) (fun s =>
    match parsePacket (code % 8) ip udp bytes with
    | some p => s.admitPacket code ip udp bytes p
    | none => s) s

/-! ## CAN (R383 to R409) -/

/-- Controller `k` is on and on its bus; a unit that is FAILED or DECIDING is off it (R418). -/
def State.canOn (s : State) (k : Nat) : Bool :=
  s.live && decide (s.unt.pair.role < 4) && ctlEn s.im k && decide ((s.ctlOf k).state < 2)

/-- Controller `k` may send. -/
def State.canSends (s : State) (k : Nat) : Bool := s.canOn k && !s.restricted k

/-- Controller `k` becomes `r`, with its events. -/
def State.setCtl (k : Nat) (r : CanCtl × List EvReq) (s : State) : State := (s.modCtl k fun _ => r.1).unitEvs r.2

/-- The controller carries command packets, and the frame has its request identifier (R388). -/
def isRequest (im : Image) (k : Nat) (m : CanMsg) : Bool :=
  decide (k < 2) && poPktEn im (3 + k) && decide (m.fmt ≠ 2) && decide (m.xtd = poXtd im (3 + k)) && decide (m.id = poReqId im (3 + k))

/-- A frame of the transport of controller `k` (R318). -/
def State.tpFrame (k : Nat) (m : CanMsg) (s : State) : State :=
  let r := isoReceive s.now m.data (tabGet {} s.can.iso k)
  let s1 := (s.modIso k fun _ => r.tp).modPortSt (3 + k) fun p => { p with tpDrop := satN 16 (p.tpDrop + r.drops) }
  match r.whole with
  | some b => s1.messageIn (3 + k) b
  | none => s1

/-- A data frame that no transport takes (R388, R389). -/
def State.filterFrame (k : Nat) (m : CanMsg) (s : State) : State :=
  match canDecide s.im k m s.can.objs with
  | .store o =>
    let r := canStore m (s.objOf o)
    (s.modObj o fun _ => r.1).modCtl k fun c => if r.2 then { c with msgLost := inc16 c.msgLost } else c
  | .reject => s.modCtl k fun c => { c with rxReject := inc16 c.rxReject }
  | .format => s.modCtl k fun c => { c with rxFormat := inc16 c.rxFormat }
  | .locked => s.modCtl k fun c => { c with rxLocked := inc16 c.rxLocked }
  | .noMatch => s.modCtl k fun c => { c with rxNoMatch := inc16 c.rxNoMatch }

/-- A valid bus frame on controller `k`: its counters, then where the frame goes. -/
def State.busFrame (k : Nat) (m : CanMsg) (s : State) : State :=
  let s1 := (s.setCtl k (canValid k (s.restricted k) (s.ctlOf k))).modCtl k fun c => { c with endAt := s.now }
  if m.remote then s1.modCtl k fun c => { c with rxRemote := inc16 c.rxRemote }
  else if isRequest s.im k m then s1.tpFrame k m
  else s1.filterFrame k m

/-- CAN_FRAME_RECEIVED (R388). A valid bus frame is passed to the transport, stored in a receive object, or rejected by the
filters. -/
def execCanFrameReceived (t ctl : Nat) (m : CanMsg) (s : State) : Out :=
  act (decide (ctl < 4)) t (fun s => s.canOn ctl && decide (m.fmt ≤ ctlProto s.im ctl)) (State.busFrame ctl m) s

/-- The message of receive object `o` is taken. A standby forwards it to the active, which stamps it (R57), and in replay no
received message is stamped (R407). -/
def State.takeMessage (o : Nat) (s : State) : State :=
  let x := s.objOf o
  let s1 := s.modObj o fun y => { y with new := false, lostMsg := false }
  if s.unt.pair.role = 2 then s1.forward true 3 o (.can o x.msg)
  else if s.port.replay then s1 else s1.stampEntry 3 o (.can o x.msg)

/-- CAN_MESSAGE_TAKE (R391). The Zenith controller takes a whole message from a receive object and stamps it as an input. With
`poison` the read is uncorrectable, and the message is lost (R475). -/
def execCanMessageTake (t obj : Nat) (poison : Bool) (s : State) : Out :=
  act (decide (obj < 512)) t (fun s => s.live && coEn s.im obj && !coTx s.im obj && (s.objOf obj).new) (fun s =>
    if poison then
      (s.modObj obj fun y => { y with new := false, lostMsg := false }).modCtl (obj / 128) fun c => { c with msgLost := inc16 c.msgLost }
    else s.takeMessage obj) s

/-- Object `o` has a frame to send: its request is pending, or its window has come (R395, R405). -/
def State.objSends (s : State) (o : Nat) : Bool :=
  coEn s.im o && coTx s.im o && !(s.objOf o).blocked && (if coTt s.im o then (s.objOf o).inWindow else (s.objOf o).txPend)

/-- Bytes of a transport frame of controller `k`. -/
def tpDl (im : Image) (k : Nat) : Nat := if poFd im (3 + k) then txDlBytes (poTxDl im (3 + k)) else 8

/-- The transport of controller `k` has a frame to send. -/
def State.tpSends (s : State) (k : Nat) : Bool :=
  decide (k < 2) && poPktEn s.im (3 + k) && (isoFrame (tpDl s.im k) (tabGet {} s.can.iso k)).isSome && isoReady s.now (tabGet {} s.can.iso k)

/-- The controller has the frame that an attempt names. -/
def State.hasFrame (s : State) (k : Nat) (who : CanWho) : Bool :=
  match who with
  | .object i _ => decide (i < 128) && s.objSends (128 * k + i)
  | .transport => s.tpSends k
  | .reference => (s.ctlOf k).refPend

/-- Rank in arbitration of what an attempt of controller `k` names (R395). -/
def State.whoKey (s : State) (k : Nat) (who : CanWho) : Nat :=
  match who with
  | .object i _ => arbKey (canTxMsg s.im (128 * k + i) [])
  | .transport => arbKey { id := poRespId s.im (3 + k), xtd := poXtd s.im (3 + k) }
  | .reference => arbKey { id := ctlRefId s.im k }

/-- Instant from which it has been ready. -/
def State.whoSince (s : State) (k : Nat) (who : CanWho) : Nat :=
  match who with
  | .object i _ => (s.objOf (128 * k + i)).pendAt
  | .transport =>
    let x := tabGet {} s.can.iso k
    if x.fcDue then x.rxAt else if x.txStage = 3 then x.txAt + isoGap x.txGap else x.txAt
  | .reference => (s.ctlOf k).refAt

/-- Object `o` has its frame in its exclusive window. -/
def State.inOwnWindow (s : State) (o : Nat) : Bool := coTt s.im o && s.objSends o

/-- The mark of object `o` has passed, and its window has not been opened or missed yet. -/
def State.windowPassed (s : State) (o : Nat) : Bool :=
  let c := s.ctlOf (o / 128)
  ((ttMarkAt s.im o c).any fun m => decide (m < s.now)) && decide ((s.objOf o).ttDone ≠ c.cycleAt)

/-- The requests that controller `k` could send outside exclusive windows. -/
def State.contenders (s : State) (k : Nat) : List CanWho :=
  (((List.range 128).filter fun i => !coTt s.im (128 * k + i)).map fun i => .object i false) ++ [.transport, .reference]

/-- The attempt of `who` may have been started (R395, R405): a frame in its own window goes out by the clock; any other was the best
of the requests that were ready when the bus became free, and did not reach into an exclusive window. -/
def State.mayStart (s : State) (k : Nat) (who : CanWho) : Bool :=
  let objs := (List.range 128).map (128 * k + ·)
  (match who with
    | .object i _ => s.inOwnWindow (128 * k + i)
    | _ => false) ||
  (!objs.any (fun o => s.inOwnWindow o || s.windowPassed o) &&
    (s.contenders k).all fun w =>
      !(s.hasFrame k w && decide (s.whoSince k w ≤ (s.ctlOf k).endAt) && decide (s.whoKey k w < s.whoKey k who)))

/-- An attempt with the frame of `who` comes about. -/
def State.attempts (s : State) (k : Nat) (who : CanWho) : Bool := s.canSends k && s.hasFrame k who && s.mayStart k who

/-- Instance that the events of an attempt name (R410). -/
def whoInst (k : Nat) : CanWho → Nat
  | .object i _ => 128 * k + i
  | _ => 0xFFFF

/-- The reference message with cycle count `cycle` (R404). -/
def refMsg (im : Image) (k cycle : Nat) : CanMsg := { id := ctlRefId im k, data := [BitVec.ofNat 8 (cycle % 64)] }

/-- A frame goes out on the bus of controller `k`. -/
def State.busSent (k : Nat) (m : CanMsg) (s : State) : State := s.modPort fun p => { p with wire := p.wire ++ [.can k m] }

/-- The frame of an attempt has been sent without error. -/
def State.frameSent (k : Nat) (who : CanWho) (s : State) : State :=
  match who with
  | .object i stale =>
    let o := 128 * k + i
    (s.modObj o (objSent (coTt s.im o) stale)).busSent k (if stale then (s.objOf o).was else (s.objOf o).msg)
  | .transport =>
    let x := tabGet {} s.can.iso k
    match isoFrame (tpDl s.im k) x with
    | some f =>
      (s.modIso k fun _ => isoSent s.now (tpDl s.im k) x).busSent k
        { id := poRespId s.im (3 + k), xtd := poXtd s.im (3 + k), fmt := b2n (poFd s.im (3 + k)), data := f.1 }
    | none => s
  | .reference =>
    let c := ctlReference s.im k s.now (s.ctlOf k)
    (s.modCtl k fun _ => c).busSent k (refMsg s.im k c.cycle)

/-- CAN_TX_SUCCESS (R395). A frame sent without error clears TX_PEND, lowers TEC and resets ACKRUN. -/
def execCanTxSuccess (t ctl : Nat) (who : CanWho) (s : State) : Out :=
  act (decide (ctl < 4)) t (fun s => s.attempts ctl who) (fun s =>
    let s1 := (s.frameSent ctl who).modCtl ctl fun c => { c with endAt := s.now }
    s1.setCtl ctl (ctlSent ctl (whoInst ctl who) (s1.ctlOf ctl))) s

/-- An attempt with object `o` has ended in an error: the object, and the events when its request ended (R396). -/
def State.objError (k o : Nat) (stale : Bool) (s : State) : State × List EvReq :=
  let r := objFailed s.im o stale (s.objOf o)
  let s1 := s.modObj o fun _ => r.1
  if r.2 then
    (s1.modCtl k fun c => { c with txRetry := inc16 c.txRetry }, [{ code := 0x0E12, src := k, p1 := o, p2 := coId s.im o, p3 := r.1.errors }])
  else (s1, [])

/-- CAN_TX_ERROR (R396). An attempt ending in error raises the error counts and may end the request with RETRY_LIMIT. -/
def execCanTxError (t ctl : Nat) (who : CanWho) (err : Nat) (dominant : Bool) (s : State) : Out :=
  act (decide (ctl < 4)) t (fun s => s.attempts ctl who && decide (1 ≤ err ∧ err ≤ 6)) (fun s =>
    let r := match who with
      | .object i stale => s.objError ctl (128 * ctl + i) stale
      | _ => (s, [])
    let c := ctlFailed ctl (whoInst ctl who) err dominant { r.1.ctlOf ctl with endAt := s.now }
    r.1.setCtl ctl (c.1, c.2 ++ r.2)) s

/-- CAN_BUSOFF_RECOVERY (R399). After 128 occurrences of 11 recessive bits a bus-off controller returns to error active. -/
def execCanBusoffRecovery (t ctl seen : Nat) (s : State) : Out :=
  act (decide (ctl < 4)) t (fun s => s.live && ctlEn s.im ctl && decide ((s.ctlOf ctl).state = 2) && decide (128 ≤ seen)) (fun s =>
    s.setCtl ctl (ctlRecover ctl (s.ctlOf ctl))) s

/-- CAN_RX_ERROR (R398). An error detected by a controller while it receives a frame raises REC and can take the controller to
error passive. In restricted operation the counters keep their values (R401). -/
def execCanRxError (t ctl err : Nat) (eight : Bool) (s : State) : Out :=
  act (decide (ctl < 4)) t (fun s => s.canOn ctl && decide (1 ≤ err ∧ err ≤ 6)) (fun s =>
    if s.restricted ctl then s.modCtl ctl fun c => { c with lec := err } else s.setCtl ctl (ctlRxError ctl err eight (s.ctlOf ctl))) s

/-- CAN_PROTOCOL_EXCEPTION (R383). A controller receives an FD or XL frame its PROTO does not carry, enters the protocol exception
state, waits for bus idle and counts PROTO_EXC. -/
def execCanProtocolException (t ctl fmt : Nat) (s : State) : Out :=
  act (decide (ctl < 4)) t (fun s => s.canOn ctl && decide (ctlProto s.im ctl < fmt)) (State.modCtl ctl fun c =>
    { c with protoExc := inc16 c.protoExc }) s

/-! ## Time master (R403 to R406) -/

/-- CAN_REFERENCE_MESSAGE (R404). CYCLE_LEN after the previous cycle start, the time master makes its reference message pending. -/
def execCanReferenceMessage (t ctl : Nat) (s : State) : Out :=
  act (decide (ctl < 4)) t (fun s => s.canSends ctl && ctlTmEn s.im ctl && !(s.ctlOf ctl).refPend && (match (s.ctlOf ctl).cycleAt with
    | some a => decide (a + usC (ctlCycleLen s.im ctl) ≤ s.now)
    | none => true)) (fun s => s.modCtl ctl fun c => { c with refPend := true, refAt := s.now }) s

/-- CAN_TT_WINDOW (R405). At TT_MARK of a matching cycle the controller starts the object's frame, or counts TT_MISS. -/
def execCanTtWindow (t obj : Nat) (idle : Bool) (s : State) : Out :=
  act (decide (obj < 512)) t (fun s => s.canSends (obj / 128) && ttDue s.im obj s.now (s.ctlOf (obj / 128)) &&
      decide ((s.objOf obj).ttDone ≠ (s.ctlOf (obj / 128)).cycleAt)) (fun s =>
    let s1 := s.modObj obj fun x => { x with ttDone := (s.ctlOf (obj / 128)).cycleAt, inWindow := idle }
    if idle then s1 else s1.modCtl (obj / 128) fun c => { c with ttMiss := inc16 c.ttMiss }) s

/-- ISOTP_TIMEOUT (R318). An ISO 15765-2 transfer whose N_Bs or N_Cr of 1,000 ms expires is dropped and counted. -/
def execIsotpTimeout (t ctl : Nat) (s : State) : Out :=
  act (decide (ctl < 2)) t (fun s => s.live && decide (0 < (isoTimeout s.now (tabGet {} s.can.iso ctl)).2)) (fun s =>
    let r := isoTimeout s.now (tabGet {} s.can.iso ctl)
    (s.modIso ctl fun _ => r.1).modPortSt (3 + ctl) fun p => { p with tpDrop := satN 16 (p.tpDrop + r.2) }) s

end Sys2Proof.Machine
end

