-- ==== Sys2Proof/Machine/Latch.lean ====
section
/-! DEFINITION. The block latch and what else comes about between a block and its couplers: strobe symbols, what an output
drives, power of a block, and the diagnostics that a latch reports (R34, R35, R93, R203 to R211, R419, R494, R514). -/

namespace Sys2Proof.Machine

/-! ## What outputs drive (R211) -/

/-- Block `b` has power and its configuration. -/
def State.blkRuns (s : State) (b : Nat) : Bool := (s.blkOf b).powered && !(s.blkOf b).joining

/-- Command of AO-I channel `c` in the shadow of its block, in nA. -/
def State.shadowCurrent (s : State) (c : Nat) : Int := tabGet 0 s.eng.shadow.aos c

/-- The outputs of block `b` are off because it has no power, waits to be re-initialised, or is withheld (R211 row 1). -/
def State.outputsOff (s : State) (b : Nat) : Bool := !s.blkRuns b || s.withheldBlk b

/-- The test pulse that holds a terminal of block `b` now (R88). -/
def State.pulseNow (s : State) (b : Nat) : Option Pulse := (s.blkOf b).pulse.filter fun p => !pulseOver s.now p

/-- What the switch of DO channel `c` drives, by the first condition of R211 that holds. An unpowered block drives nothing. -/
def State.drives (s : State) (c : Nat) : Bool :=
  doDrive (s.cim c) c (s.outputsOff (c / 8)) (s.blkOf (c / 8)).fsOff (s.pulseNow (c / 8)) (s.outOf c).applied (s.outOf c)

/-- The output pairs of block `b` that an enabled safety function names, as a mask over its four pairs (R222). -/
def pairLinks (im : Image) (b : Nat) : Nat :=
  ((List.range 4).filter fun m => (listedInst im clsSAFEFN).any fun f => sfEn im f && decide (sfOut im f / 2 = 4 * b + m)).foldl
    (fun x m => setBit x m true) 0

/-- The switch of DO channel `c` has a supply: that of switch B of a linked pair is terminal 2m.A, behind switch A (R222). -/
def State.fed (s : State) (c : Nat) : Bool :=
  decide (c % 2 = 0) || !(s.blkOf (c / 8)).link.testBit (c % 8 / 2) || s.drives (c - 1)

/-- The contact or sensor supply of channel `c` is on: one is configured, its mode has latched since it was re-initialised, and no
line test holds it off (R93, R184, R191). -/
def State.supplyOn (s : State) (c : Nat) : Bool :=
  (s.digOf c).supply && decide (diCsup (s.cim c) c ≠ 0) && s.blkRuns (c / 8) &&
    !(match s.pulseNow (c / 8) with
      | some p => decide (p.ch = c) && decide (p.kind = 3)
      | none => false)

/-- A protection of the block holds the target of AO-I channel `c`: FS_OFF or the safe state (BLK_OFF of R169). -/
def State.aoBlkOff (s : State) (c : Nat) : Bool := (s.blkOf (c / 8)).fsOff || (s.outOf c).silent

/-- The target of AO-I channel `c` is not its commanded current (R211 rows 1 to 3). -/
def State.aoHeld (s : State) (c : Nat) : Bool := s.outputsOff (c / 8) || s.aoBlkOff c

/-- Target of AO-I channel `c` in nA by the first condition of R211 that holds, within which FOLDBACK acts. -/
def State.targetOf (s : State) (c : Nat) : Int :=
  let l := s.loopOf c
  loopTarget (if s.outputsOff (c / 8) || (s.blkOf (c / 8)).fsOff then 0
    else if (s.outOf c).silent then aoSafeCurrent (s.cim c) c l else l.cmd) l

/-! ## The records of a latch -/

/-- Debounce of channel `c` is frozen by a line test (R191). -/
def State.frozenNow (s : State) (c : Nat) : Bool := (s.digOf c).frozen || decide (s.now < (s.digOf c).thawAt)

/-- The safe state of cell `c` goes on over a strobe: it ends at the first strobe that follows a whole shadow written after a resumed
strobe, with a valid stream on the cell's own coupler (R210). -/
def staysSafe (o : OutCell) (stream : Bool) : Bool := o.silent && !(o.resumed && o.shadowed && stream)

/-- The state of channel `c` that the record of this latch shows: a result that completed in the same block clock cycle, which
lasts at most 25 Zenith cycles, waits for the next latch (R101). -/
def State.acqShown (c : Nat) (m : CellMeas) (s : State) : AcqCh :=
  if m.sameCycle && decide (s.now < (s.acqOf c).formedAt + 25) && (s.acqOf c).fresh then tabGet {} s.blks.acqWas c else s.acqOf c

/-- The record of channel `c` at the latch of its block with measurement `m`, and the cell after it. -/
def State.latchCell (c : Nat) (m : CellMeas) (s : State) : Rec × State :=
  let im := s.cim c
  let k := s.blkOf (c / 8)
  let st := s.cellStat c
  let o := s.outOf c
  match chMode im c with
  | 0 => (0#128, s)
  | 6 =>
    let v := aoSupply s.now m.termV.toNat m.supplyV (s.loopOf c)
    (aoRecord m v (s.targetOf c) (s.aoBlkOff c) (o.safe || o.silent) st (s.loopOf c),
      (s.modLoop c fun l => { l with tone := false, supply := v, supplyAt := s.now }).modOut c fun x => { x with safe := false })
  | 7 => let r := digRecord im c m k.fsLow (s.frozenNow c) st (s.digOf c); (r.1, s.modDig c fun _ => r.2)
  | 9 => let r := digRecord im c m k.fsLow (s.frozenNow c) st (s.digOf c); (r.1, s.modDig c fun _ => r.2)
  | 8 =>
    let r := doRecord m (if staysSafe o m.stream then o.applied else s.eng.shadow.dos.testBit c) k.fsLow k.fsOff st o
    (r.1, s.modOut c fun _ => r.2)
  | _ => (acqRecord im c s.now (s.seqOf (c / 8)) (s.blanked c) st (s.acqShown c m),
      s.modAcq c fun a => { a with fresh := a.fresh && decide (s.acqShown c m ≠ a) })

/-- A record enters the region input image unless it was written as missing (R59). A synchronised standby keeps it for its shadow
check (R429). -/
def State.putRecord (c : Nat) (r : Rec) (s : State) : State :=
  if s.inp.arrived.testBit c then s
  else s.modInp fun i => { i with
    arrived := setBit i.arrived c true
    own := if s.follows then tabSet 0#128 i.own c r else i.own
    recs := if s.follows then i.recs else tabSet 0#128 i.recs c r }

/-- The latch of one channel: its record, and the diagnostics that the record carries (R513, R518). -/
def State.latchChannel (s : State) (x : Nat × CellMeas) : State :=
  let c := x.1
  let r := s.latchCell c x.2
  (r.2.modCell c fun d => { d with statAcc := d.statAcc ||| s.cellStat c }).putRecord c r.1

/-! ## Outputs at a strobe (R207, R209, R210) -/

/-- Cell `c` applies its part of the shadow at a strobe, unless it stays in its safe state; a strobe counts as resumed for a cell
whose own stream is valid (R210). -/
def State.applyShadow (s : State) (x : Nat × CellMeas) : State :=
  let c := x.1
  let m := chMode s.im c
  let o := s.outOf c
  if !isOutMode m then s
  else if staysSafe o x.2.stream then
    s.modOut c fun y => { y with resumed := x.2.stream, shadowed := y.shadowed && x.2.stream }
  else
    let s1 := s.modOut c fun y => { y with silent := false, resumed := false, shadowed := false }
    if m = 6 then s1.modLoop c (loopApply (s.shadowCurrent c) (s1.aoHeld c)) else s1

/-- A test pulse whose end was not reported is over at the latch (R87, R191); its cell is one of the block. -/
def State.pulseGone (b : Nat) (s : State) : State :=
  match (s.blkOf b).pulse with
  | some p =>
    if pulseOver s.now p then
      (s.modBlk b fun k => { k with pulse := none }).modDig (8 * b + p.ch % 8) fun d =>
        if d.frozen then { d with frozen := false, thawAt := p.since + blkMost (10 * p.width + 100) } else d
    else s
  | none => s

/-- A field supply recovery that has been accepted ends FS_OFF at a strobe (R207). -/
def State.supplyBack (b : Nat) (s : State) : State :=
  s.modBlk b fun k => if k.fsBack then { k with fsOff := false, fsBack := false } else k

/-! ## What the region reads from CELL_STAT (R514) -/

/-- ISLAND_PWR, downstream coupler errors and CELL_THERM of the block's cells, as the latch brings them to the region. -/
def State.latchFaults (b : Nat) (s : State) : State :=
  let k := s.blkOf b
  let s1 := (s.unitEvs (flagEvent 0x1102 b k.pwrSeen k.islandPwr (s.bdiagOf b).islandMv (s.bdiagOf b).fsMv)).modBlk b fun x =>
    { x with pwrSeen := x.islandPwr }
  let s2 := ((blkChannels b).filter fun c => (s.cellOf c).downErr).foldl (fun x c =>
    (x.couplerError c 2).modCell c fun d => { d with downErr := false }) s1
  (blkChannels b).foldl (fun x c =>
    let d := x.cellOf c
    (x.unitEvs (flagEvent 0x1104 c d.thermSeen d.therm (s32 d.temp) 0)).modCell c fun d => { d with thermSeen := d.therm }) s2

/-! ## Change-of-state entries (R192, R193) -/

/-- Insertion by channel, behind entries of the same channel (R54). -/
def cosInsert (e : CosEntry) : List CosEntry → List CosEntry
  | [] => [e]
  | x :: r => if e.ch < x.ch then e :: x :: r else x :: cosInsert e r

/-- The edge queues of block `b` are emptied into the region input image. A standby takes the entries of the active (R57). -/
def State.takeEdges (b : Nat) (s : State) : State :=
  let mine := s.inp.cosNext.filter fun e => decide (e.ch / 8 = b)
  let l := if s.follows then [] else mine
  (s.modInp fun i => { i with
    cosNext := i.cosNext.filter fun e => !decide (e.ch / 8 = b)
    cosNow := l.foldl (fun r e => cosInsert e r) i.cosNow }).modFr fun f => { f with asyncCount := f.asyncCount + l.length }

/-! ## BLOCK_LATCH -/

/-- Block `b` has not yet latched at the strobe of the open frame. -/
def State.awaitsLatch (s : State) (b : Nat) : Bool := s.live && s.blkRuns b && decide ((s.blkOf b).latched ≠ some s.fr.frameNo)

/-- The cells of block `b` with their measurements. -/
def cellsOf (b : Nat) (meas : List CellMeas) : List (Nat × CellMeas) := (blkChannels b).zip (meas ++ List.replicate 8 ({} : CellMeas))

/-- Block `b` latches its cells, takes a new configuration, and applies its shadow; `clk` is its clock count since the strobe before
(R36). -/
def State.latchBlock (b : Nat) (meas : List CellMeas) (clk : Nat) (s : State) : State :=
  let s1 := ((cellsOf b meas).foldl State.latchChannel (s.pulseGone b)).takeConfig b
  let s2 := ((cellsOf b meas).foldl State.applyShadow (s1.supplyBack b)).takeEdges b
  (s2.latchFaults b).modBlk b fun k => { k with
    latchAt := s.now, latched := some s.fr.frameNo, clkCount := clk, link := pairLinks (s2.bim b) b }

/-- The records and change-of-state entries of block `b` go to the standby (R425). -/
def State.sendBlock (b : Nat) (s : State) : State :=
  let n := s.fr.frameNo
  let cs := (blkChannels b).filter fun c => decide (chMode s.im c ≠ 0)
  s.activeSends (.cells n (cs.map fun c => (c, tabGet 0#128 s.inp.recs c, s.inp.stale.testBit c)) ::
    (s.inp.cosNow.filter fun e => decide (e.ch / 8 = b)).map (.cosEntry n))

/-- BLOCK_LATCH (R35). A block latches its cells' values on the first strobe symbol to arrive and applies its output shadow. -/
def execBlockLatch (t blk : Nat) (meas : List CellMeas) (clk : Nat) (s : State) : Out :=
  act (isBlk blk) t (fun s => s.awaitsLatch blk) (fun s => (s.latchBlock blk meas clk).sendBlock blk) s

/-- STROBE_COUPLER_ERROR (R34). A strobe symbol that arrives on another coupler of the block more than 1 µs after the first, or not
within 20 µs, is reported as a coupler frame error for that cell. -/
def execStrobeCouplerError (t ch : Nat) (s : State) : Out :=
  act (isCh ch) t (fun s => s.live && s.blkRuns (ch / 8) && decide ((s.blkOf (ch / 8)).latched = some s.fr.frameNo) &&
      decide ((s.blkOf (ch / 8)).latchAt + usC 1 < s.now)) (State.modCell ch fun d => { d with downErr := true }) s

/-! ## Silence and the enable flag (R209, R419) -/

/-- Cell `c` enters its safe state, in which it runs no test pulse. -/
def State.enterSafe (c : Nat) (s : State) : State :=
  (s.modOut c fun o => { o with silent := true, safe := true, resumed := false, shadowed := false }).modBlk (c / 8) (pulseOff c)

/-- The silence has lasted long enough: SILENCE on the cell's own coupler, or max(SILENCE, 10 P) without a strobe. -/
def State.silenceOver (s : State) (c us : Nat) (strobe : Bool) : Bool :=
  let w := msC (diSilence (s.cim c) c)
  decide ((if strobe then max w (10 * s.P) else w) ≤ usC us)

/-- LOGIC_SILENCE (R209). A DO or AO-I cell without a valid symbol for SILENCE, or without a strobe, enters its safe state. -/
def execLogicSilence (t ch silentUs : Nat) (strobe : Bool) (s : State) : Out :=
  act (isCh ch) t (fun s => s.blkRuns (ch / 8) && isOutMode (chMode (s.cim ch) ch) && !(s.outOf ch).silent && s.silenceOver ch silentUs strobe)
    (State.enterSafe ch) s

/-- ENABLE_FLAG_LOSS (R419). A block of a pair unit withholds its outputs 4 µs after a symbol with the flag at 0, or after 4 µs
without any valid symbol. -/
def execEnableFlagLoss (t blk : Nat) (s : State) : Out :=
  act (isBlk blk) t (fun s => s.blkRuns blk && (s.paired || !s.flagOn)) (State.modBlk blk fun k => { k with withheld := true }) s

/-- ENABLE_FLAG_SET (R419). A symbol with the enable flag at 1 releases the block's outputs. -/
def execEnableFlagSet (t blk : Nat) (s : State) : Out :=
  act (isBlk blk) t (fun s => s.blkRuns blk && s.flagOn) (State.modBlk blk fun k => { k with withheld := false }) s

/-! ## Field supply (R207) -/

/-- Block `b` reads `mv` at its input. -/
def State.supplyRead (b mv : Nat) (s : State) : State := s.modBdiag b fun d => { d with fsMv := mv }

/-- FS_LOW_SET (R207). A field supply below 19.2 V for 1 ms sets FS_LOW. -/
def execFsLowSet (t blk mv heldUs : Nat) (s : State) : Out :=
  act (isBlk blk) t (fun s => s.blkRuns blk && decide (mv < 19200) && decide (1000 ≤ heldUs)) (fun s =>
    (s.supplyRead blk mv).modBlk blk fun k => { k with fsLow := true }) s

/-- FS_LOW_CLEAR (R207). A field supply at 19.6 V or above for 10 ms clears FS_LOW. -/
def execFsLowClear (t blk mv heldUs : Nat) (s : State) : Out :=
  act (isBlk blk) t (fun s => s.blkRuns blk && decide (19600 ≤ mv) && decide (10000 ≤ heldUs)) (fun s =>
    (s.supplyRead blk mv).modBlk blk fun k => { k with fsLow := false }) s

/-- FS_OFF of block `b`: a pulse in progress on a DO cell ends, and its DO cells record FS_OFF. -/
def State.supplyOff (b : Nat) (s : State) : State :=
  ((blkChannels b).filter fun c => decide (chMode (s.bim b) c = 8)).foldl (fun x c =>
    (x.modOut c fun o => { o with fsOff := true }).modBlk b (pulseOff c)) (s.modBlk b fun k => { k with fsOff := true, fsBack := false })

/-- FS_OFF_SET (R207). A field supply below 16.0 V for 200 µs switches DO off and sets AO-I targets to 0 mA. -/
def execFsOffSet (t blk mv heldUs : Nat) (s : State) : Out :=
  act (isBlk blk) t (fun s => s.blkRuns blk && decide (mv < 16000) && decide (200 ≤ heldUs)) (fun s =>
    (s.supplyRead blk mv).supplyOff blk) s

/-- FS_OFF_END (R207). A field supply at 18.0 V or above for 10 ms is accepted, and the outputs take their shadow at the next
strobe. -/
def execFsOffEnd (t blk mv heldUs : Nat) (s : State) : Out :=
  act (isBlk blk) t (fun s => s.blkRuns blk && (s.blkOf blk).fsOff && decide (18000 ≤ mv) && decide (10000 ≤ heldUs)) (fun s =>
    (s.supplyRead blk mv).modBlk blk fun k => { k with fsBack := true }) s

/-- BLOCK_POWER_LOST (R207). Below the 14.0 V lockout the block loses island power, and its outputs become unpowered. -/
def execBlockPowerLost (t blk mv : Nat) (s : State) : Out :=
  act (isBlk blk) t (fun s => (s.blkOf blk).powered && decide (mv < 14000)) (fun s =>
    let s1 := (s.supplyRead blk mv).modBlk blk fun _ => {}
    (s1.modSeq blk fun _ => {}).unitEvs [{ code := 0x0115, src := blk, p2 := mv }]) s

/-- BLOCK_POWER_RESTORE (R494). Field supply at 16.5 V or above for 10 ms powers the block up, and it is configured and
re-initialised. The blocks of a witness stay unpowered (R3). -/
def execBlockPowerRestore (t blk mv heldUs : Nat) (s : State) : Out :=
  act (isBlk blk) t (fun s => !s.isWitness && !(s.blkOf blk).powered && decide (16500 ≤ mv) && decide (10000 ≤ heldUs)) (fun s =>
    (s.supplyRead blk mv).modBlk blk fun _ => { powered := true, joining := true }) s

/-! ## Protections and diagnostics of cells (R167, R201, R514) -/

/-- SWITCH_CURRENT_LIMIT (R201). The switch current limit or the block output rail limit acts on an overloaded DO output, setting
ILIM or RAIL_LIM for the next record. A switch without a supply carries no current (R222). -/
def execSwitchCurrentLimit (t ch : Nat) (rail : Bool) (s : State) : Out :=
  act (isCh ch) t (fun s => s.blkRuns (ch / 8) && decide (chMode (s.cim ch) ch = 8) && s.fed ch) (State.modOut ch fun o =>
    if rail then { o with rail := true } else { o with ilim := true }) s

/-- THERMAL_SHUTDOWN (R201). A DO switch's own thermal shutdown acts and later restarts by itself, setting THERM for the next
record. -/
def execThermalShutdown (t ch : Nat) (s : State) : Out :=
  act (isCh ch) t (fun s => s.blkRuns (ch / 8) && decide (chMode (s.cim ch) ch = 8)) (State.modOut ch fun o => { o with therm := true }) s

/-- FOLDBACK (R167). A dissipation above 1.2 W for 1 ms lowers the AO-I target to the current that gives 1.0 W. -/
def execFoldback (t ch : Nat) (i : Int) (mw heldUs : Nat) (s : State) : Out :=
  act (isCh ch) t (fun s => s.blkRuns (ch / 8) && decide (chMode (s.cim ch) ch = 6) && decide (1200 < mw) && decide (1000 ≤ heldUs)) (fun s =>
    s.modLoop ch fun l => { loopFold i (s.targetOf ch) l with foldAt := s.now }) s

/-- FOLDBACK_HOLD_END (R167). After 1 s of foldback the cell starts to raise the target again. -/
def execFoldbackHoldEnd (t ch : Nat) (s : State) : Out :=
  act (isCh ch) t (fun s => s.blkRuns (ch / 8) && (s.loopOf ch).limit.isSome && !(s.loopOf ch).ramp &&
      decide ((s.loopOf ch).foldAt + msC 1000 ≤ s.now)) (fun s =>
    s.modLoop ch fun l => { l with ramp := true, foldAt := s.now }) s

/-- FOLDBACK_RAMP_STEP (R167). Every 100 ms the target rises by 1 mA until it equals the commanded current, and then FOLDBACK
clears. -/
def execFoldbackRampStep (t ch : Nat) (s : State) : Out :=
  act (isCh ch) t (fun s => s.blkRuns (ch / 8) && (s.loopOf ch).limit.isSome && (s.loopOf ch).ramp &&
      decide ((s.loopOf ch).foldAt + msC 100 ≤ s.now)) (fun s =>
    s.modLoop ch fun l => { loopRamp (s.aoHeld ch) l with foldAt := s.now }) s

/-- CELL_THERM (R514). A cell temperature above 150 °C for 1 ms sets CELL_THERM, which clears below 135 °C. -/
def execCellTherm (t ch : Nat) (temp : Int) (heldUs : Nat) (s : State) : Out :=
  act (isCh ch) t (fun s => s.blkRuns (ch / 8)) (State.modCell ch fun d => { d with
    temp := temp
    therm := if 150 < temp ∧ 1000 ≤ heldUs then true else if temp < 135 then false else d.therm }) s

/-- ISLAND_PWR (R514). An island converter output outside ±5 % for 1 ms sets ISLAND_PWR. -/
def execIslandPwr (t blk islandMv fsMv nominalMv heldUs : Nat) (s : State) : Out :=
  act (isBlk blk) t (fun s => s.blkRuns blk) (fun s =>
    let off := 100 * (islandMv - nominalMv : Int).natAbs
    (s.modBdiag blk fun d => { d with islandMv := islandMv, fsMv := fsMv }).modBlk blk fun k => { k with
      islandPwr := if 5 * nominalMv < off ∧ 1000 ≤ heldUs then true
        else if off ≤ 4 * nominalMv ∧ 10000 ≤ heldUs then false else k.islandPwr }) s

/-! ## Clocks (R514) -/

/-- One second of a clock comparison: a deviation above 150 ppm is a fault, which 10 s within 100 ppm clear. Deviations are in
0.1 ppm. -/
def clkJudge (dev : Int) (k : ClkChk) : ClkChk :=
  let good := if dev.natAbs ≤ 1000 then min 10 (k.good + 1) else 0
  { dev := clampI (-32768) 32767 dev, good := good, fault := decide (1500 < dev.natAbs) || (k.fault && decide (good < 10)) }

/-- The comparison of clock `dom`: 0 to 3 a region clock, 4 Ethernet, 5 CAN kernel, 6 Zenith against Twilight. -/
def State.clkCheck (dom : Nat) (dev : Int) (s : State) : State :=
  let d := s.unt.mdiag
  if dom < 4 then
    let r := s.regOf dom
    let k := clkJudge dev { dev := r.clkDev, good := r.clkGood, fault := r.clkFault }
    (s.modReg dom fun x => { x with clkDev := k.dev, clkGood := k.good, clkFault := k.fault }).unitEvs
      (flagEvent 0x1113 dom r.clkFault k.fault (s32 k.dev) 0)
  else if dom = 4 then
    let k := clkJudge dev d.eth
    (s.modMdiag fun x => { x with eth := k }).unitEvs (flagEvent 0x1114 5 d.eth.fault k.fault (s32 k.dev) 0)
  else if dom = 5 then
    let k := clkJudge dev d.can
    (s.modMdiag fun x => { x with can := k }).unitEvs (flagEvent 0x1114 6 d.can.fault k.fault (s32 k.dev) 0)
  else
    let k := clkJudge dev d.zen
    (s.modMdiag fun x => { x with zen := k }).unitEvs (flagEvent 0x1114 0 d.zen.fault k.fault (s32 k.dev) 0)

/-- CLOCK_CHECK (R514). Each second the region and module clocks are compared with the Zenith clock, raising REG_CLOCK or
CLK_FAULT. -/
def execClockCheck (t dom : Nat) (dev : Int) (s : State) : Out :=
  act (decide (dom < 7)) t State.live (State.clkCheck dom dev) s

end Sys2Proof.Machine
end

