-- ==== Sys2Proof/Machine/Health.lean ====
section
/-! DEFINITION. Memories and stored images while the node runs: corrected and uncorrectable reads with the reaction of their
requester, the Haze background test, and the store of the running image (R474 to R488, R549). -/

namespace Sys2Proof.Machine

/-- Memory `k` (R486). -/
def State.memOf (s : State) (k : Nat) : MemSt := tabGet {} s.unt.mem k

/-- A change of memory `k` with the events it raises. -/
def State.putMem (k : Nat) (x : MemSt × List EvReq) (s : State) : State :=
  (s.modUnt fun u => { u with mem := tabSet {} u.mem k x.1 }).unitEvs x.2

/-- The requester reaches the memory (R20, R21, R26, R27, R466): an engine its own memory and its scratchpad, the start-up loader
an engine-local memory only while the engine is held (`run` false). No table names the requesters of MRAM. -/
def memReach (run : Bool) (mem req : Nat) : Bool :=
  if mem < 0x10 then decide (req = 0x10 + mem % 4) || decide (req = 0x01) || (!run && decide (req = 0x0D))
  else if mem < 0x14 then
    [0x01, 0x02, 0x03, 0x04, 0x05, 0x06, 0x0B, 0x10, 0x11, 0x12, 0x13].contains req
  else if mem = 0x14 then (decide (0x04 ≤ req) && decide (req ≤ 0x0C)) || decide (req = 0x01)
  else if mem = 0x15 then decide (req = 0x0B) || decide (req = 0x01)
  else decide (req < 0x0E)

/-- Memory, bank and codeword exist (R466, R486). -/
def memHas (mem bank cw : Nat) : Bool :=
  if mem < 0x10 then (decide (bank = 0) && decide (cw < 4096)) || (decide (bank = 1) && decide (cw < 1024))
  else if mem < 0x14 then decide (bank < 8) && decide (cw < 1024)
  else if mem = 0x14 then decide (bank < 32) && decide (cw < 2048)
  else if mem = 0x15 then decide (bank < 4) && decide (cw < 4096)
  else decide (mem = 0x16) && decide (bank < 8) && decide (cw < 65536)

/-! ## Uncorrectable reads (R475) -/

/-- The read fetched a command buffer in chip shared SRAM (R468): the port whose buffer it is. -/
def commandBuffer (mem bank cw : Nat) : Option Nat :=
  if mem = 0x14 ∧ bank = 0x0C ∧ 512 ≤ cw ∧ (cw - 512) / 256 < 6 then some ((cw - 512) / 256) else none

/-- The read fetched CAN message RAM (R468). -/
def messageRam (mem bank : Nat) : Bool := decide (mem = 0x14) && (decide (bank = 4) || decide (bank = 5))

/-- The source that the read poisons and its cause: an engine by its own memory or scratchpad, the Zenith controller, or the
output distribution. A command buffer and a receive object have reactions of their own. -/
def readPoisons (mem bank cw req : Nat) : Option (Nat × Nat) :=
  if (commandBuffer mem bank cw).isSome ∧ req = 0x0B then none
  else if messageRam mem bank ∧ req = 0x0B then none
  else if 0x14 ≤ mem ∧ 0x10 ≤ req then none
  else memPoison mem req

/-- The front record of the event queue is counted as not stored (R475, R305). -/
def loseFront (q : Recorder) : Recorder :=
  match q.queue with
  | [] => q
  | r :: rest => countRec r { q with queue := rest }

/-- First byte of the payload of object `o` in the pool of its controller: buffers are allocated in ascending object order, each
rounded up to a multiple of 4 (R386). -/
def payloadAt (im : Image) (o : Nat) : Nat :=
  ((List.range (o % 128)).map fun i =>
    let x := o - o % 128 + i
    if coEn im x then ceilDiv (coSize im x) 4 * 4 else 0).sum

/-- The payload of transmit object `o` lies in codeword `cw` of bank 04h or 05h, controller k standing at k × 8000h (R384, R468). -/
def payloadIn (im : Image) (bank cw o : Nat) : Bool :=
  let lo := 0x8000 * (o / 128 % 2) + 0x2000 + payloadAt im o
  coEn im o && coTx im o && decide (o / 256 = bank - 4) && decide (lo < 32 * cw + 32) && decide (32 * cw < lo + coSize im o)

/-- The transmit objects whose payload a controller has read beyond correction make no attempt until their next load. -/
def State.blockPayloads (bank cw : Nat) (s : State) : State :=
  ((List.range 512).filter (payloadIn s.im bank cw)).foldl (fun x o => x.modObj o fun y => { y with blocked := true }) s

/-- The reaction of the requester to an uncorrectable access (R475, R476). `cells` are the cells whose output words lie in the
codeword. -/
def State.readFails (mem bank cw req : Nat) (cells : List Nat) (s : State) : State :=
  match readPoisons mem bank cw req with
  | some x =>
    if !s.live then s
    else if req = 0x06 then
      (s.modEng fun e => { e with noUpd := cells.foldl (fun m c => setBit m c true) e.noUpd }).poisonNow x.1 x.2
    else s.poisonNow x.1 x.2
  | none =>
    if req = 0x0B then
      match commandBuffer mem bank cw with
      | some p => s.modPortSt p fun x => { x with pktDiscard := satN 16 (x.pktDiscard + 1) }
      | none => s
    else if req = 0x03 then s.modReg (memRegion mem) fun r => { r with hartFail := satN 16 (r.hartFail + 1) }
    else if req = 0x09 ∧ messageRam mem bank then s.blockPayloads bank cw
    else if req = 0x0A then
      match commandBuffer mem bank cw with
      | some p => s.modPortSt p fun x => { x with txBad := true }
      | none => s
    else if req = 0x0C then s.modRecd loseFront
    else s

/-- The frame that an uncorrectable read poisons, as parameter 3 of 1001h. -/
def State.poisonedFrame (s : State) (mem bank cw req : Nat) : Nat :=
  if s.live ∧ (readPoisons mem bank cw req).isSome then s.fr.frameNo % 2 ^ 32 else 0xFFFFFFFF

/-! ## Accesses (R467 to R476) -/

/-- Memory `k` changes without an event. -/
def State.modMem (k : Nat) (f : MemSt → MemSt) (s : State) : State := s.putMem k (f (s.memOf k), [])

/-- What a decode by requester `req` counts, reports and brings about. -/
def State.accessBy (mem bank cw req : Nat) (cells : List Nat) (d : RsOut) (s : State) : State :=
  match d with
  | .clean => s
  | .corrected _ => s.putMem mem (memCorrected mem bank cw req (s.opMs s.now) (s.memOf mem))
  | .uncorrectable =>
    ((s.putMem mem (memUncorrectable mem bank cw req (s.poisonedFrame mem bank cw req) (s.memOf mem))).modMdiag fun d =>
      { d with memUncorr := true }).readFails mem bank cw req cells

/-- One port's part of an access: a write of all 32 bytes reads nothing. -/
def State.portAccess (mem bank cw req : Nat) (cells : List Nat) (d : RsOut) (a : MemAccess) (s : State) : State :=
  if accWhole a then s else s.accessBy mem bank cw req cells d

/-- The mailbox has discarded bytes of port 1 (R471). -/
def State.collide (cw mask : Nat) (s : State) : State :=
  if mask = 0 then s
  else (s.modMdiag fun d => { d with collide := satN 16 (d.collide + 1), memCollide := true }).unitEvs
    [{ code := 0x1003, src := 0x14, p1 := 32 * cw, p2 := mask }]

/-- An access of one cycle to a codeword in which the bits `flip` have flipped; `port1` is what the mirror engine presents through
port 1 of the mailbox (R469). -/
def State.access (mem bank cw req flip : Nat) (a : MemAccess) (port1 : Option MemAccess) (cells : List Nat) (s : State) : State :=
  let raw := memWord bank cw (s.memOf mem) ^^^ flip
  let d := rawDecode raw
  let w := wordAfter raw d a (port1.getD .read)
  let s1 := (s.modMem mem (memPut bank cw w.1)).portAccess mem bank cw req cells d a
  let s2 := match port1 with
    | some b => s1.portAccess mem bank cw 8 [] d b
    | none => s1
  s2.collide cw w.2

/-- A read of an MRAM word in whose 72 bits `flip` have flipped (R485). -/
def State.mramAccess (bank cw req flip : Nat) (s : State) : State :=
  let raw := memWord bank cw (s.memOf 0x16) ^^^ flip
  let n := ((List.range 72).filter raw.testBit).length
  let kind := if n = 0 then 2 else if n = 1 then 0 else if n = 2 then 1 else Config.mramMany raw % 3
  let fixed := if n = 1 then 0 else raw ^^^ 2 ^ (Config.mramMany raw / 3 % 72)
  let s1 := s.modMem 0x16 (memPut bank cw (if kind = 0 then fixed else raw))
  if kind = 0 then s1.putMem 0x16 (memCorrected 0x16 bank cw req (s.opMs s.now) (s1.memOf 0x16))
  else if kind = 1 then
    ((s1.modMem 0x16 (memMark bank 2 cw req)).modMdiag fun d => { d with memUncorr := true }).unitEvs
      [{ code := 0x1008, src := 0x16, p1 := 8 * (65536 * bank + cw) }]
  else s1

/-- CORRECTION_WRITEBACK (R474). A corrected codeword is written back in the next idle cycle of its bank. The command stands for one
access of requester `req` to a codeword, with the bits that have flipped in it since it was written: the access is corrected,
refused or performed (R473 to R476), in the mirror mailbox with an access of the same cycle through port 1 (R470). A word of MRAM
is read under the code of R485. -/
def execCorrectionWriteback (t mem bank cw req : Nat) (a : MemCycle) (s : State) : Out :=
  act (memHas mem bank cw && accFits a.acc && (a.port1.map accFits).getD true && (a.port1.isNone || (decide (mem = 0x14) && decide (bank = 8)))) t
    (fun s => s.awake && memReach s.live mem req) (fun s =>
      if mem = 0x16 then s.mramAccess bank cw req a.flip else s.access mem bank cw req a.flip a.acc a.port1 a.cells) s

/-! ## Haze (R479 to R483) -/

/-- A step repeated from its first codeword is no longer marked for repeat (R480). -/
def hazeAgain (bank cw : Nat) (march : Bool) (m : MemSt) : MemSt :=
  if m.again = some (bank, cw, march) then { m with again := none } else m

/-- The held bits of the summary after a Haze step. -/
def hazeHeld (old new : MemSt) (d : ModDiag) : ModDiag :=
  { d with memUncorr := d.memUncorr || decide (old.uncorr ≠ new.uncorr), memMarch := d.memMarch || decide (old.marchFail ≠ new.marchFail) }

/-- HAZE_STEP (R480). Haze borrows a bank idle for 16 cycles and runs a scrub or march step over up to 16 codewords, of which
`cw` is the lowest. `words` holds the bits that have flipped in each codeword of a scrub step, or the failing byte lanes of each
codeword of a march step, in the order in which they are visited. -/
def execHazeStep (t mem bank cw : Nat) (march : Bool) (words : List Nat) (s : State) : Out :=
  act (decide (mem < 0x16) && memHas mem bank cw && decide (words.length ≤ 16) && memHas mem bank (cw + words.length - 1)) t State.awake (fun s =>
    let m := hazeAgain bank cw march (s.memOf mem)
    let r := if march then hazeMarch mem bank m.marchDown cw words m else hazeScrub mem bank s.unt.runSlot (s.opMs s.now) cw words m
    (s.putMem mem r).modMdiag (hazeHeld (s.memOf mem) r.1)) s

/-- HAZE_YIELD (R480). A request to a borrowed bank makes Haze restore the codeword, release the bank and mark the step for
repeat. -/
def execHazeYield (t mem bank cw : Nat) (march : Bool) (s : State) : Out :=
  act (decide (mem < 0x16) && memHas mem bank cw) t State.awake (fun s =>
    s.putMem mem ({ s.memOf mem with again := some (bank, cw, march) }, [])) s

/-- HAZE_PASS_END (R479). A completed scrub or march pass sets or clears SLOW. -/
def execHazePassEnd (t mem : Nat) (march : Bool) (s : State) : Out :=
  act (decide (mem < 0x16)) t State.awake (fun s => s.putMem mem (hazePass mem s.now march (s.memOf mem))) s

/-! ## CONFIG_STORE_COMPLETE (R549) -/

/-- The readback of a store, `differs` being the first byte that differs. -/
def State.storeEnd (x : Store) (differs : Option Nat) (s : State) : State :=
  let gen := x.content.hdr.generation
  match differs with
  | none =>
    (s.modCfg fun d => ({ d with store := none }).setSlot x.slot (some { x.content with torn := false })).unitEvs
      [{ code := 0x0310, src := x.slot, p1 := gen, p2 := x.content.hdr.storeCrc, p3 := x.content.hdr.cfgCrc }]
  | some off =>
    if x.retried then (s.modCfg fun d => { d with store := none }).unitEvs [{ code := 0x0312, src := x.slot, p1 := gen, p2 := off }]
    else s.modCfg fun d => { d with store := some { x with retried := true } }

/-- CONFIG_STORE_COMPLETE (R549). A store of the running image into MRAM completes its readback and records 0310h, or retries and
records 0312h. -/
def execConfigStoreComplete (t : Nat) (differs : Option Nat) (s : State) : Out :=
  act true t (fun s => s.awake && s.cfg.store.isSome) (fun s =>
    match s.cfg.store with
    | some x => s.storeEnd x differs
    | none => s) s

end Sys2Proof.Machine
end

