-- ==== Sys2Proof/Machine/Roles.lean ====
section
/-! DEFINITION. Roles of a pair unit: self-checks, the role table, hot and cold takeover, and the witness (R417 to R437). -/

namespace Sys2Proof.Machine

/-! ## The role latch (R418, R419) -/

/-- Hold level that a role drives. -/
def roleHold (role : Nat) : Nat := if role = 1 then 2 else if role = 2 then 1 else 0

/-- The role changes, with its hold, and 0F01h is raised. Before strobe 0 the record carries PRESTART. -/
def State.setRole (role cause : Nat) (s : State) : State :=
  let old := s.unt.pair.role
  let e : List EvReq := [{ code := 0x0F01, p1 := role, p2 := old, p3 := cause }]
  let s1 := (s.modPair fun p => { p with
    role := role, takeovers := if role = 1 then satN 16 (p.takeovers + 1) else p.takeovers }).driveHold (roleHold role)
  s1.unitEvs e

/-- A new active announces SVC_IP on every Ethernet port (R370). -/
def State.announce (s : State) : State :=
  (List.range 3).foldl (fun x i => x.modPortSt i fun p => { p with announce := 3, announceAt := s.now }) s

/-- The unit fails a self-check: FAILED at once, off the bus (R417, R418). -/
def State.failRole (s : State) : State :=
  if s.paired ∧ (s.unt.pair.role = 1 ∨ s.unt.pair.role = 2) then (s.setRole 4 3).haltMasters else s

/-! ## Takeover (R431 to R435) -/

/-- The block hold value of channel `c` becomes the value of its latest record; it carries SETTLING until its first valid result,
and its notch restarts (R433). -/
def State.hotLoad (s : State) (c : Nat) : State :=
  let m := chMode s.im c
  if m = 2 ∨ m = 3 ∨ m = 5 then
    s.modAcq c fun a => { a with value := fldI (s.recOf c) 0 32, settling := true, acc := [], prev := none, window := [] }
  else if m = 7 ∨ m = 9 then s.modDig c fun d => { d with thawAt := s.now + usC 100 }
  else s

/-- A record of the open frame that the old active had not sent is written missing (R433). -/
def State.fillRecord (s : State) (c : Nat) : State :=
  if chMode s.im c = 0 ∨ s.inp.mirrored.testBit c then s else s.modInp fun i => { i with stale := setBit i.stale c true }

/-- A synchronised standby becomes active: it completes the frame image of the open frame and goes on from it (R431, R433). -/
def State.hotTakeover (s : State) : State :=
  let j := s.unt.pair.marker
  let s1 := if s.phase = .gather then
      ((List.range 512).foldl State.fillRecord s).modInp fun i => { i with arrived := 2 ^ 512 - 1 }
    else s
  ((List.range 512).foldl State.hotLoad s1).modPair fun p => { p with hot := some (j + 1), inputs := true }

/-- Channels, functions, alarms and ownership start as after a start-up (R435). -/
def State.freshRun (s : State) : State :=
  let s1 := (List.range 512).foldl (fun x c => x.reinitChannel c) s
  let s2 := { s1 with eng := {}, safe := {}, alm := {}, inp := { gather := s.inp.gather, held := s.inp.held, srcSeq := s.inp.srcSeq } }
  (startAlarms s2).modPort fun p => { p with owner := {} }

/-- The first frame number of a cold takeover at `now` (R435). -/
def State.coldFrame (s : State) : Nat := s.unt.pair.marker + ceilDiv (s.now - s.unt.pair.markerAt) s.P + 1

/-- An unsynchronised standby becomes active: it opens frame f at once with its outputs withheld until strobe f + 1. -/
def State.coldTakeover (s : State) : State :=
  let f := s.coldFrame
  let s1 := s.freshRun.modFr fun x => { x with frameNo := f, strobeAt := s.now, lag := 0, prevLen := 0, prevLen2 := 0, doneAt := 0 }
  (s1.assignEntries.freshFrame.modPair fun p => { p with cold := some (f + 1) }).setPhase .gather

/-- The standby takes ACTIVE (R431, R434, R435). Unless the roles were exchanged on command, the partner is no synchronised standby
any more. -/
def State.takeActive (cause : Nat) (s : State) : State :=
  let hot := decide (s.unt.pair.sync = 3)
  let s1 := (s.setRole 1 cause).announce
  let s2 := if hot then s1.hotTakeover else s1.coldTakeover
  if cause = 4 then s2 else s2.setSync 0 1

/-- The active becomes standby (R422): synchronised after a switchover, with the frame it has begun from the same inputs. It makes
no assignment from then on: an input not yet assigned is forwarded to the new active, which stamps it (R57). -/
def State.takeStandby (cause : Nat) (s : State) : State :=
  let s1 := (s.setRole 2 cause).haltMasters.modInp fun i => { i with gather := [], held := [] }
  if cause = 4 then s1.modPair fun p => { p with inputs := true, marker := s.fr.frameNo, markerAt := s.fr.strobeAt }
  else (s1.unsync 1).modPair fun p => { p with cause := 1 }

/-- Cause of a role change by the token: 04h while a switchover is under way (R436). -/
def State.tokenCause (s : State) (plain : Nat) : Nat := if s.unt.pair.switchAt.isSome && decide (s.unt.pair.sync = 3) then 4 else plain

/-- Rows 2 and 3 of R422. -/
def State.roleByToken (s : State) : State :=
  let p := s.unt.pair
  if p.role = 2 ∧ p.token = s.ownToken then
    (s.takeActive (s.tokenCause 1)).modPair fun q => { q with switchAt := none, lowered := false }
  else if p.role = 1 ∧ p.token = s.partnerToken then
    (s.takeStandby (s.tokenCause 2)).modPair fun q => { q with switchAt := none, lowered := false }
  else s

/-! ## The commands of a unit (R417 to R436) -/

/-- A module that is a unit of a pair and has power. -/
def State.unitUp (s : State) : Bool := s.awake && s.paired

/-- TOKEN_CHANGE (R422). A change of token at a unit changes its role by the role table, and 0F05h is recorded. -/
def execTokenChange (t token : Nat) (s : State) : Out :=
  act (decide (token < 3)) t (fun s => s.unitUp && decide (s.unt.pair.token ≠ token)) (fun s =>
    let e : List EvReq := [{ code := 0x0F05, p1 := token, p2 := s.unt.pair.token }]
    let s1 := s.modPair fun p => { p with token := token, tokenAt := s.now }
    let s2 := s1.unitEvs e
    if s.live then s2.roleByToken.noteReady else s2) s

/-- ACTIVE_YIELD_B (R422). An active unit B, with the token absent and the partner at active level for 10 µs, becomes standby. -/
def execActiveYieldB (t heldUs : Nat) (s : State) : Out :=
  act true t (fun s => s.live && s.paired && s.unt.pair.unitB && decide (s.unt.pair.role = 1) && decide (s.unt.pair.token = 0) &&
    decide (s.partnerHold = 2) && decide (10 ≤ heldUs)) (fun s => (s.takeStandby 6).noteReady) s

/-- A hold reaches a new level band: the own one, or the partner's, whose change is recorded. -/
def State.holdChange (level : Nat) (own : Bool) (s : State) : State :=
  let old := if own then s.ownHold else s.partnerHold
  let isA := own != s.unt.pair.unitB
  let s1 := s.modPair fun p => if isA then { p with holdA := level } else { p with holdB := level }
  if s.paired ∧ !own ∧ old ≠ level then
    let e : List EvReq := [{ code := 0x0F04, p1 := level, p2 := old }]
    let s2 := s1.unitEvs e
    (if s.unt.pair.role = 2 ∧ old = 2 ∧ (s.unt.pair.sync = 1 ∨ s.unt.pair.sync = 2) then s2.unsync 8 else s2).noteReady
  else s1.noteReady

/-- HALO_HOLD_CHANGE (R420). A hold current changes level band after its filter, and 0F04h is recorded for the partner's. On the
witness `own` names unit A. -/
def execHaloHoldChange (t level : Nat) (own : Bool) (s : State) : Out :=
  act (decide (level < 4)) t (fun s => s.awake && (s.paired || s.isWitness)) (State.holdChange level own) s

/-- SELF_CHECK_FAIL (R417). A failed self-check, such as no strobe for 16 P, puts the unit in FAILED and switches its hold off. -/
def execSelfCheckFail (t : Nat) (s : State) : Out :=
  act true t (fun s => s.live && s.paired && !s.idleStandby && (decide (s.unt.pair.role = 1) || decide (s.unt.pair.role = 2)) &&
    decide (s.fr.strobeAt + 16 * s.P ≤ t)) State.failRole s

/-- ZEN_LOCKSTEP (R25). A mismatch of the Zenith cores poisons the frame and fails the unit's self-check. -/
def execZenLockstep (t : Nat) (s : State) : Out :=
  act true t State.live (fun s =>
    let s1 := (s.unitEvs [{ code := 0x1110, src := 0xFF, p1 := s.fr.frameNo % 2 ^ 32 }]).modMdiag fun d => { d with lockstep := true }
    (s1.poisonNow 16 2).failRole) s

/-- SWITCHOVER_HANDOFF (R436). On the standby's acknowledgement of frame n+1 inputs, the active lowers its hold to standby level so
that the token moves. -/
def execSwitchoverHandoff (t : Nat) (s : State) : Out :=
  act true t (fun s => s.live && decide (s.unt.pair.role = 1) && !s.unt.pair.lowered && (match s.unt.pair.switchAt, s.unt.pair.acked with
    | some n, some k => decide (n + 1 ≤ k)
    | _, _ => false)) (fun s =>
    (s.driveHold 1).modPair fun p => { p with lowered := true }) s

/-! ## The witness (R421) -/

/-- The witness names unit `u`, 0 for A, and sets the polarity of the token. Without valid identity data it drives no current
(R523). -/
def State.nameHolder (u : Nat) (s : State) : State :=
  (s.modUnt fun x => { x with wit := { x.wit with holder := some u, namedAt := s.now, grace := true } }).modPair fun p =>
    { p with token := if s.unt.power.identBad then 0 else u + 1 }

/-- Hold level of unit `u` as the witness sees it. -/
def State.holdOf (s : State) (u : Nat) : Nat := if u = 0 then s.unt.pair.holdA else s.unt.pair.holdB

/-- The holder that the table of R421 names newly, if any. -/
def State.witnessChoice (s : State) : Option Nat :=
  match s.unt.wit.holder with
  | some h =>
    let o := 1 - h
    if s.unt.wit.grace ∨ s.holdOf h = 2 then none
    else if s.holdOf o = 1 ∨ s.holdOf o = 2 then some o else none
  | none =>
    if s.holdOf 0 = 2 ∧ s.holdOf 1 ≠ 2 then some 0
    else if s.holdOf 1 = 2 ∧ s.holdOf 0 ≠ 2 then some 1 else none

/-- The table of R421 applies. -/
def State.witnessDecide (s : State) : State :=
  match s.witnessChoice with
  | some u => s.nameHolder u
  | none => s

/-- WITNESS_TOKEN_DECISION (R421). The witness's Halo logic names a holder and sets the token polarity from the hold levels. -/
def execWitnessTokenDecision (t : Nat) (s : State) : Out :=
  act true t (fun s => s.awake && s.isWitness) State.witnessDecide s

/-- WITNESS_START_TIMEOUT (R421). With no holder 2 s after the witness starts, the token names unit A. -/
def execWitnessStartTimeout (t : Nat) (s : State) : Out :=
  act true t (fun s => s.awake && s.isWitness && s.unt.wit.holder.isNone && s.witnessChoice.isNone &&
    decide (s.unt.wit.startAt + msC 2000 ≤ t)) (State.nameHolder 0) s

/-- WITNESS_HOLDER_GRACE_END (R421). 100 µs after the witness names a holder, its grace ends and the token table applies again,
moving the token when the holder is not at active level. -/
def execWitnessHolderGraceEnd (t : Nat) (s : State) : Out :=
  act true t (fun s => s.awake && s.isWitness && s.unt.wit.grace && decide (s.unt.wit.namedAt + usC 100 ≤ t)) (fun s =>
    (s.modUnt fun u => { u with wit := { u.wit with grace := false } }).witnessDecide) s

end Sys2Proof.Machine
end

