-- ==== Sys2Proof/Machine/Contrail.lean ====
section
/-! DEFINITION. The Contrail link: lanes, what its blocks carry, strobes and notices of a pair, digests, and resynchronisation
(R424 to R430, R438 to R440). -/

namespace Sys2Proof.Machine

/-! ## Lanes (R424) -/

/-- Lane `i`. -/
def State.laneOf (s : State) (i : Nat) : Lane := if i = 0 then s.unt.pair.lane0 else s.unt.pair.lane1
/-- Replace it. -/
def State.putLane (i : Nat) (l : Lane) (s : State) : State :=
  s.modPair fun p => if i = 0 then { p with lane0 := l } else { p with lane1 := l }

/-- 0F03h for lane `i`, raised before or after strobe 0. -/
def State.laneEvent (i : Nat) (up : Bool) (errs : Nat) (s : State) : State :=
  s.unitEvs [{ code := 0x0F03, p1 := i, p2 := b2n up, p3 := errs }]

/-- Lane `i` goes down; without a lane the standby is UNSYNCHRONISED (R430). -/
def State.laneDown (i : Nat) (s : State) : State :=
  let l := s.laneOf i
  let s1 := (s.putLane i { l with up := false, recent := [], cleanAt := s.now }).laneEvent i false l.errs
  (if s1.linkUp then s1 else s1.unsync 2).noteReady

/-- LANE_ERROR (R424). A Contrail lane error is counted, and 8 errors in 1 ms take the lane down. -/
def execLaneError (t lane : Nat) (s : State) : Out :=
  act (decide (lane < 2)) t State.unitUp (fun s =>
    let l := s.laneOf lane
    let near := (l.recent.filter fun a => decide (s.now < a + msC 1)) ++ [s.now]
    let s1 := s.putLane lane { l with errs := satN 16 (l.errs + 1), recent := near, cleanAt := s.now }
    if l.up ∧ 8 ≤ near.length then s1.laneDown lane else s1) s

/-- LANE_SILENCE (R424). A lane without a valid symbol for 2 µs goes down. -/
def execLaneSilence (t lane : Nat) (s : State) : Out :=
  act (decide (lane < 2)) t (fun s => s.unitUp && (s.laneOf lane).up) (State.laneDown lane) s

/-- LANE_UP (R424). A lane aligned and free of errors for 100 ms comes up. -/
def execLaneUp (t lane : Nat) (s : State) : Out :=
  act (decide (lane < 2)) t (fun s => s.unitUp && !(s.laneOf lane).up && !(s.laneOf lane).broken &&
      decide ((s.laneOf lane).cleanAt + msC 100 ≤ s.now)) (fun s =>
    let l := s.laneOf lane
    ((s.putLane lane { l with up := true, recent := [] }).laneEvent lane true l.errs).noteReady) s

/-! ## Digests (R427, R440) -/

/-- DIGEST_COMPARE (R427). On receipt of the partner's digest, over a lane that is up (R424), each unit compares it with its own, and a
difference records 0F06h and unsynchronises the standby. -/
def execDigestCompare (t lane frame partner : Nat) (s : State) : Out :=
  act (decide (lane < 2)) t (fun s => s.live && s.paired && (s.laneOf lane).up) (State.partnerDigest frame partner) s

/-! ## Strobes and notices (R426) -/

/-- The standby's strobe on the latest marker, with the frame record that came with it. A strobe more than 5 µs after the marker
unsynchronises it. -/
def State.standbyOpen (t : Nat) (s : State) : State :=
  let p := s.unt.pair
  let s1 := (s.modFr fun f => { f with frameNo := p.marker - 1, strobeAt := t - p.markerLen }).openFrame t
  let s2 := s1.modFr fun f => { f with prevLen := p.markerLen, lag := p.markerLag, deferCount := p.markerDefer }
  if p.markerAt + usC 5 < t then s2.unsync 6 else s2

/-- STANDBY_STROBE (R426). The standby issues its strobe n on the active's marker once its frame n−1 is complete. -/
def execStandbyStrobe (t : Nat) (s : State) : Out :=
  act true t (fun s => s.live && s.follows && decide (s.phase = .complete) && decide (s.fr.frameNo < s.unt.pair.marker))
    (State.standbyOpen t) s

/-- The standby's completion notice counts from `done` on. -/
def State.noticeAt (done : Nat) (s : State) : State :=
  let s1 := s.modPair fun p => { p with noticed := true }
  if s.phase = .complete then s1.modFr fun f => { f with doneAt := max f.doneAt done } else s1

/-- STANDBY_NOTICE_TIMEOUT (R426). 100 µs after its own completion, the active counts the frame complete without the standby's
notice. -/
def execStandbyNoticeTimeout (t : Nat) (s : State) : Out :=
  act true t (fun s => s.live && decide (s.unt.pair.role = 1) && decide (s.unt.pair.sync = 3) && decide (s.phase = .complete) &&
      !s.unt.pair.noticed && decide (s.fr.doneAt + usC 100 ≤ t)) (fun s => s.noticeAt (s.fr.doneAt + usC 100)) s

/-! ## CONTRAIL_BLOCK_RECEIVE (R425, R428) -/

/-- An entry as the active has stamped and assigned it joins the open frame (R57). -/
def State.mirrorEntry (e : Entry) (s : State) : State :=
  (s.modInp fun i => { i with entries := i.entries ++ [e] }).modFr fun f => { f with asyncCount := f.asyncCount + 1 }

/-- An input that the standby forwards: the active stamps a command packet, a CAN message or a DSC PDU on arrival (R57), while the
standby forwards at all (R360). -/
def State.forwardedInput (e : Entry) (s : State) : State :=
  if s.forwards ∧ 3 ≤ e.order ∧ e.order ≤ 5 then s.stampEntry e.order e.index e.body else s

/-- One record of the active for the open frame; a STALE one keeps its values (R59). -/
def State.mirrorRecord (s : State) (x : Nat × Rec × Bool) : State :=
  if 512 ≤ x.1 then s
  else s.modInp fun i => { i with
    recs := if x.2.2 then i.recs else tabSet 0#128 i.recs x.1 x.2.1
    stale := setBit i.stale x.1 x.2.2, mirrored := setBit i.mirrored x.1 true }

/-- One CJC record of the active. -/
def State.mirrorCjc (s : State) (x : Nat × Int × Bool × Bool) : State :=
  if 16 ≤ x.1 then s
  else s.modInp fun i => { i with
    cjc := tabMod {} i.cjc x.1 fun c => { c with recTemp := x.2.1, recNew := x.2.2.1, recFault := x.2.2.2 } }

/-- The configuration image of a resynchronisation: the standby stores it and runs it, with CONFIRMED (R439, R553). -/
def State.takeImage (l : List (Nat × Inst)) (confirmed : Nat) (s0 : State) : State :=
  let s := s0.settleBlocks
  let old := s.im
  let new := l.foldl (fun im x => setInst im (x.1 / 4096) (x.1 % 4096) x.2) []
  let h := s.cfg.hdr
  let s1 := s.modCfg fun c => { c with
    image := new, staging := new, next := none, restage := false, trims := []
    hdr := { h with cfgCrc := configCrc new, safeCrc := safetyCrc new, confirmed := confirmed, firstFrame := s.fr.frameNo } }
  let s2 := (List.range 64).foldl (applyBlock old new) ((List.range 512).foldl (applyChannel old new) s1)
  (applyClock old new (applyPorts old new (applyCan old new (applyDsc old new (applyAlarms old new s2))))).storeStart

/-- The reply to a forwarded packet: the standby sends it, and the active stores the reply of a packet that it handed back
(R324). -/
def State.linkReply (code ip udp session seq opcode status : Nat) (body : List Byte) (s : State) : State :=
  let is (p : Pending) : Bool := decide (p.code = code) && decide (p.seq = seq) && decide (p.opcode = opcode) && p.due.isNone
  if s.unt.pair.role = 1 then
    match s.port.pend.find? is with
    | some p => (s.modPort fun x => { x with pend := x.pend.filter fun y => !is y }).modSess code fun y =>
        if y.id = p.sid ∧ y.lastSeq = seq ∧ p.sid ≠ 0 then { y with busy := false, reply := some (p.caller.reply status body) } else y
    | none => s
  else if s.unt.pair.role = 2 ∧ s.isLocal code then
    s.emit { code := code, ip := ip, udp := udp, session := session, seq := seq, opcode := opcode, status := status, body := body }
  else s

/-- The unit status of the partner (R425, R430). -/
def State.linkStatus (cfg fw serial : Nat) (s : State) : State :=
  let s1 := s.modPair fun p => { p with partnerCfg := cfg, partnerFw := fw, partnerSerial := serial }
  if serial = paSerialBcd s.im ∧ fw = s.fwCrc then s1 else s1.unsync 9

/-- What a block that has arrived intact does. -/
def State.linkBlock (b : ContrailBlock) (s : State) : State :=
  let standby := decide (s.unt.pair.role = 2)
  let open0 (frame : Nat) : Bool := s.follows && decide (frame = s.fr.frameNo) && decide (s.phase = .gather)
  match b with
  | .marker frame prevLen lag deferred poisoned overrun =>
    if !standby then s
    else
      let s1 := s.modPair fun p => { p with
        marker := frame, markerAt := s.now, markerLen := prevLen, markerLag := lag, markerDefer := deferred }
      if poisoned then s1.unsync 3 else if overrun then s1.unsync 4 else s1
  | .cells frame recs => if open0 frame then recs.foldl State.mirrorRecord s else s
  | .cjc frame recs => if open0 frame then recs.foldl State.mirrorCjc s else s
  | .entry frame e => if s.unt.pair.role = 1 then s.forwardedInput e else if open0 frame then s.mirrorEntry e else s
  | .cosEntry frame e =>
    if open0 frame then
      (s.modInp fun i => { i with cosNow := cosInsert e i.cosNow }).modFr fun f => { f with asyncCount := f.asyncCount + 1 }
    else s
  | .inputsDone frame => if open0 frame then (s.modPair fun p => { p with inputs := true }).linkSend [.ack frame] else s
  | .digest frame value => s.partnerDigest frame value
  | .ack frame => if s.unt.pair.role = 1 then s.modPair fun p => { p with acked := some frame } else s
  | .notice frame value =>
    if s.unt.pair.role = 1 ∧ frame = s.fr.frameNo then
      (if s.unt.pair.noticed then s else s.noticeAt s.now).partnerDigest frame value
    else s
  | .staging cls ix v => if s.follows then s.modCfg fun c => { c with staging := setInst c.staging cls ix v } else s
  | .time set =>
    if s.follows ∧ !s.twi.locked ∧ stValid (set % 2 ^ 96) then
      let s1 := s.modTwi fun w => timeCommit s.now { w with stage := set % 2 ^ 96 }
      s1.unitEvs [s1.timeLink 1]
    else s
  | .backup off data => if s.follows ∧ off + data.length ≤ 128 then s.twiDo fun w => bramCommit (fillBuffer off data w) else s
  | .handBack code torn ip udp bytes =>
    match parsePacket (code % 8) ip udp bytes with
    | some p => if standby ∧ s.isLocal code then s.handedBack torn code p.code p.head (decodeOp p.code p.body) else s
    | none => s
  | .reply code ip udp session seq opcode status body => s.linkReply code ip udp session seq opcode status body
  | .status cfg fw serial => s.linkStatus cfg fw serial
  | .image im confirmed =>
    if standby ∧ s.unt.pair.sync < 2 then (if s.unt.pair.sync = 0 then s.resyncStart else s).takeImage im confirmed else s
  | .missing => s.unsync 7

/-- Bytes from offset `at0` on, cut at the codewords they fall into: codeword, first byte, bytes. The first number bounds the
pieces. -/
def mailPieces : Nat → Nat → List Byte → List (Nat × Nat × List Byte)
  | 0, _, _ => []
  | n + 1, at0, l => if l.isEmpty then [] else
      (at0 / 32, at0 % 32, l.take (32 - at0 % 32)) :: mailPieces n (at0 - at0 % 32 + 32) (l.drop (32 - at0 % 32))

/-- The mirror engine writes one piece through port 1 of the mailbox (R469). -/
def State.mailWrite (s : State) (x : Nat × Nat × List Byte) : State :=
  s.access 0x14 8 x.1 8 0 (.write x.2.1 x.2.2) none []

/-- The write of a piece is refused: its codeword is beyond correction and it is not written whole (R476). -/
def State.mailRefused (s : State) (x : Nat × Nat × List Byte) : Bool :=
  !accWhole (.write x.2.1 x.2.2) && decide (rawDecode (memWord 8 x.1 (s.memOf 0x14)) = .uncorrectable)

/-- CONTRAIL_BLOCK_RECEIVE (R424). A Contrail block arrives intact on either lane, the mirror engine writes its bytes into the
receive half of the mailbox (R469), and its content is taken. A block missing from both lanes, or one that could not be
written (R475, R476), unsynchronises the standby. -/
def execContrailBlockReceive (t : Nat) (r : LinkReceipt) (s : State) : Out :=
  act (decide (r.at0 + r.raw.length ≤ 0x8000)) t (fun s => s.live && s.paired && s.linkUp) (fun s =>
    let l := mailPieces r.raw.length r.at0 r.raw
    let s1 := l.foldl State.mailWrite s
    (s1.linkBlock (if l.any s.mailRefused then .missing else r.block)).noteReady) s

/-! ## Resynchronisation (R438 to R440) -/

/-- RESYNC_AUTO_START (R438). With AUTO_RESYNC = 1, resynchronisation starts after its conditions have held for RESYNC_HOLD
seconds. -/
def execResyncAutoStart (t : Nat) (s : State) : Out :=
  act true t (fun s => s.live && paAuto s.im && s.resyncReady && decide (s.unt.pair.tries < 3) && (match s.unt.pair.readyFrom with
    | some a => decide (a + msC (1000 * paHold s.im) ≤ t)
    | none => false)) State.resyncStart s

/-- RESYNC_COPY_DONE (R439). When the last state slice has been sent, the standby holds the active's state after that frame,
and computes from the next frame on; it has the active's sessions, owner, lease and offer (R324, R358). A copy in which a port owns or
claims without a session is none that an active can send. -/
def execResyncCopyDone (e : ResyncEnd) (s : State) : Out :=
  act e.copy.hosts.sessioned e.t (fun s => s.live && s.paired && decide (s.unt.pair.sync = 1)) (fun s =>
    let s1 := (s.setSync 2 s.unt.pair.cause).unitEvs [{ code := 0x0F08, p1 := 2, p2 := s.unt.pair.attempt }]
    if s.unt.pair.role = 2 then (((s1.modFr fun f => { f with total := 0 }).takeSnap e.copy).takeHosts e.copy.hosts).setPhase .complete
    else s1) s

/-- RESYNC_COMPARE_DONE (R440). After 16 agreeing digests the standby becomes SYNCHRONISED, or a failed attempt is counted. -/
def execResyncCompareDone (t : Nat) (ok : Bool) (s : State) : Out :=
  act true t (fun s => s.live && s.paired && decide (s.unt.pair.sync = 2) && (!ok || decide (16 ≤ s.unt.pair.agreed))) (fun s =>
    if ok then
      ((s.setSync 3 0).modPair fun p => { p with tries := 0, agreed := 0 }).unitEvs [{ code := 0x0F08, p1 := 3, p2 := s.unt.pair.attempt }]
    else s.unsync 8) s

end Sys2Proof.Machine
end

