-- ==== Sys2Proof/Machine/Convert.lean ====
section
/-! DEFINITION. What blocks do between latches: conversions, self-test, excitation events, blanking, connector sensors, debounced
edges and test pulses (R87, R97 to R112, R136, R190 to R193, R202). -/

namespace Sys2Proof.Machine

/-! ## Conversions (R97, R100, R106) -/

/-- The sequencer of block `b` goes on with its next entry. -/
def State.nextSlot (b : Nat) (s : State) : State := s.modSeq b fun q => blkAdvance (s.bim b) b q s.blanked

/-- The window of channel `c` closes with its two path results. -/
def State.convert (c : Nat) (lo hi tone : Int) (ovLo ovHi compl : Bool) (s : State) : State :=
  ((s.modBlks fun k => { k with acqWas := tabSet {} k.acqWas c (s.acqOf c) }).modAcq c
    (blkConvert (s.cim c) c s.now (s.seqOf (c / 8)) (s.blanked c) lo hi tone ovLo ovHi compl)).nextSlot (c / 8)

/-- CONVERSION_COMPLETE (R97). A converter window closes, and the block selects the path and applies the notch filter to the new
result. `tone` is what the modem path measured over the window (R175). An entry whose channel was re-initialised within it gives no
result. -/
def execConversionComplete (t blk : Nat) (lo hi tone : Int) (ov : PathOver) (compl : Bool) (s : State) : Out :=
  act (isBlk blk) t (fun s => s.blkRuns blk && decide ((s.seqOf blk).pos < 16)) (fun s =>
    match s.converting blk with
    | some c => s.convert c lo hi tone ov.lo ov.hi compl
    | none => s.nextSlot blk) s

/-- The ST slot of block `b`: its step, the failing steps and the cycle time (R100, R518). -/
def State.selfTest (b : Nat) (lo hi : Int) (s : State) : State :=
  let q := s.seqOf b
  let k := stStep (s.bim b) b q
  let r := blkSelfTest (s.bim b) b q lo hi
  let passed := decide ((match k with
    | 0 => r.t0
    | 1 => r.t1
    | 2 => r.t2
    | _ => r.t3).fails = 0)
  (((s.modSeq b fun _ => r).nextSlot b).modBdiag b fun d => { d with
    stFail := setBit d.stFail k (!passed), tCyc := satN 16 ((s.now - d.cycFrom) / 400), cycFrom := s.now })

/-- SELF_TEST_SLOT (R100). The ST slot runs one step of the converter and source self-test rotation. -/
def execSelfTestSlot (t blk : Nat) (lo hi : Int) (s : State) : Out :=
  act (isBlk blk) t (fun s => s.blkRuns blk && decide (16 ≤ (s.seqOf blk).pos)) (State.selfTest blk lo hi) s

/-- The conversion of channel `c` is abandoned and its settling restarts (R106, R107). -/
def State.restartEntry (c : Nat) (opened : Bool) (s : State) : State :=
  ((s.modAcq c fun a => { acqDiscard a with settling := true }).modSeq (c / 8) fun q =>
    { q with starts := q.starts + 1, early := !opened }).modCell c fun d => { d with restarts := d.restarts + 1 }

/-- The entry of channel `c` ends without a result (R107). -/
def State.dropEntry (c : Nat) (s : State) : State :=
  (s.modAcq c fun a => acqClose (s.cim c) c s.now (s.seqOf (c / 8)) (s.blanked c) { acqDiscard a with settling := true }).nextSlot (c / 8)

/-- EXCITATION_EVENT (R106). A source change or compliance change during an entry abandons the conversion and restarts settling.
`opened` tells that the window was open. With `compl` the event is of a source serving the entry (rows 2 and 3 of R105) and acts
on an entry that uses one; else a continuous source of the block changed, which acts on every entry. -/
def execExcitationEvent (t blk : Nat) (opened compl : Bool) (s : State) : Out :=
  act (isBlk blk) t (fun s => s.blkRuns blk && (match s.converting blk with
    | some c => !compl || usesExc (s.cim c) c
    | none => false)) (fun s =>
    match s.converting blk with
    | none => s
    | some c => match excAct (s.seqOf blk) (s.blanked c) opened with
      | .nothing => s
      | .restart => s.restartEntry c opened
      | .finish => s.dropEntry c) s

/-! ## Blanking (R109 to R112) -/

/-- BLANK_LINE_CHANGE (R111). A BLANK level stable for 50 µs is accepted and blanks or unblanks the channels of every block. -/
def execBlankLineChange (t heldUs : Nat) (level : Bool) (s : State) : Out :=
  act true t (fun s => s.live && decide (50 ≤ heldUs) && decide (s.blks.blank ≠ level)) (fun s =>
    (List.range 64).foldl (fun x b => x.reblank b) (s.modBlks fun b => { b with blank := level })) s

/-- BLANK_LONG (R112). A blank that lasts longer than BLANK_MAX sets BLANK_LONG. -/
def execBlankLong (t ch : Nat) (s : State) : Out :=
  act (isCh ch) t (fun s => s.blkRuns (ch / 8)) (fun s => s.modAcq ch (acqBlankLong (s.cim ch) ch s.now)) s

/-- CJC_READING (R136). Every 10 ms the region reads a connector sensor and judges its validity and CJC_FAULT. -/
def execCjcReading (t conn : Nat) (reading : Option Int) (s : State) : Out :=
  act (decide (conn < 16)) t State.live (State.modInp fun i => { i with cjc := tabMod {} i.cjc conn (cjcReading reading) }) s

/-! ## Debounced edges (R190 to R193) -/

/-- A debounced edge of channel `c` completes, after samples that left the cell as `d`. -/
def State.edge (c bt : Nat) (d : DigCell) (s : State) : State :=
  let r := cellEdge (s.cim c) c bt d
  let s1 := s.modDig c fun _ => r.1
  let s2 := match r.2 with
    | some e => s1.stampEdge c e.1 bt e.2
    | none => s1
  if chBlankSrc (s.cim c) c then s2.reblank (c / 8) else s2

/-- DEBOUNCED_EDGE (R190). When the samples have differed for the debounce count, STATE changes. The levels since the cell
was observed last are those outside a freeze. -/
def execDebouncedEdge (t ch : Nat) (e : EdgeSeen) (s : State) : Out :=
  act (isCh ch) t (fun s => s.blkRuns (ch / 8) && (decide (chMode (s.cim ch) ch = 7) || decide (chMode (s.cim ch) ch = 9)) &&
    !s.frozenNow ch && (samplesEdge (s.cim ch) ch e.levels (s.digOf ch)).isSome) (fun s =>
      match samplesEdge (s.cim ch) ch e.levels (s.digOf ch) with
      | some d => s.edge ch e.bt d
      | none => s) s

/-! ## Test pulses (R87, R191, R202) -/

/-- The safety function that owns the output pair of channel `c` (R80). -/
def testOwner (im : Image) (c : Nat) : Option Nat :=
  (listedInst im clsSAFEFN).find? fun f => sfEn im f && (decide (c = sfOut im f) || decide (c = sfOut im f + 1))

/-- Kind of the test pulse of channel `c`: an off-pulse on a safety output (R80). -/
def testKind (im : Image) (c : Nat) : Nat :=
  match testOwner im c with
  | some _ => 1
  | none => chTpKind im c

/-- Requested interval in seconds of the test pulse of channel `c`. -/
def testInterval (im : Image) (c : Nat) : Nat :=
  match testOwner im c with
  | some f => sfTpInterval im f
  | none => chTpInterval im c

/-- Width of the test pulse of channel `c` in 10 µs steps (R78, R80). -/
def testWidth (im : Image) (c : Nat) : Nat :=
  match testOwner im c with
  | some f => sfTpWidth im f
  | none => chTpWidth im c

/-- The channel whose pulse block `b` is to run in the open frame (R87). -/
def State.pulseDue (s : State) (b : Nat) : Option Nat := scheduledPulse (s.bim b) (testInterval (s.bim b)) b s.fr.frameNo

/-- The scheduled pulse of channel `c` starts, or is skipped. `level` is the terminal level of a DI. -/
def State.startPulse (c level : Nat) (s : State) : State :=
  let im := s.cim c
  let kind := testKind im c
  let k := s.blkOf (c / 8)
  let raw := comparator im c level (s.digOf c).raw
  let blocked := k.fsOff || (decide (kind ≠ 3) && ((s.outOf c).silent || s.withheldBlk (c / 8)))
  let s1 := s.modBlk (c / 8) fun x => { x with pulseIn := some s.fr.frameNo }
  if pulseRuns kind raw blocked (s.drives c) (s.outOf c) then
    let s2 := s1.modBlk (c / 8) fun x => { x with pulse := some { ch := c, kind := kind, since := s.now, width := testWidth im c } }
    if kind = 3 then s2.modDig c fun d => { d with raw := raw, frozen := true } else s2
  else s1

/-- The instant of a test pulse in block `b`: 100 µs after its latch on the block clock (R87). -/
def State.pulseTime (s : State) (b : Nat) : Bool :=
  decide ((s.blkOf b).latchAt + blkLeast 100 ≤ s.now) && decide (s.now ≤ (s.blkOf b).latchAt + blkMost 100)

/-- TEST_PULSE_START (R87). In a scheduled frame, 100 µs after the latch, the test-pulse generator starts an off-pulse, an on-pulse
or a line test. -/
def execTestPulseStart (t blk level : Nat) (s : State) : Out :=
  act (isBlk blk) t (fun s => s.live && s.blkRuns blk && (s.blkOf blk).pulse.isNone && decide ((s.blkOf blk).latched = some s.fr.frameNo) &&
      decide ((s.blkOf blk).pulseIn ≠ some s.fr.frameNo) && s.pulseTime blk) (fun s =>
    match s.pulseDue blk with
    | some c => s.startPulse c level
    | none => s) s

/-- The pulse `p` ends with what was sampled 10 µs before: TERM_V in 10 mV, CURRENT in mA and the level of a DI. -/
def State.endPulse (p : Pulse) (termV : Int) (current : Nat) (levelOn : Bool) (s : State) : State :=
  let s1 := s.modBlk (p.ch / 8) fun k => { k with pulse := none }
  if p.kind = 3 then
    s1.modDig p.ch fun d => { d with line := levelOn, tpDone := true, frozen := false, thawAt := s.now + usC 100 }
  else s1.modOut p.ch fun o => { o with tpDone := true, tpFail := pulseFails p.kind termV current }

/-- The pulse of block `b` that comes to its end now. -/
def State.pulseEnding (s : State) (b : Nat) : Option Pulse := (s.blkOf b).pulse.filter (pulseAtEnd s.now)

/-- TEST_PULSE_END (R202). At the end of the pulse, which lasts its width on the block clock, the terminal is sampled, and TP_FAIL or
LINE_FAULT is set. -/
def execTestPulseEnd (t blk : Nat) (termV : Int) (current : Nat) (levelOn : Bool) (s : State) : Out :=
  act (isBlk blk) t (fun s => s.blkRuns blk && (s.pulseEnding blk).isSome) (fun s =>
    match s.pulseEnding blk with
    | some p => s.endPulse p termV current levelOn
    | none => s) s

end Sys2Proof.Machine
end

