-- ==== Sys2Proof/Machine/Fsk.lean ====
section
/-! DEFINITION. Transactions of the modem cells: requests, retries, replies and quiet loops (R52, R177 to R179). -/

namespace Sys2Proof.Machine

/-- Modem cell `m`. -/
def State.modemOf (s : State) (m : Nat) : Modem := tabGet {} s.blks.modem m

/-- Device table of the channel that modem cell `m` serves. -/
def State.devicesOf (s : State) (m : Nat) : HartTable :=
  match modemChannel s.im m with
  | some c => tabGet [] s.eng.hdev c
  | none => []

/-- Modem cells work: the unit runs, and a standby's modem cells are silent (R414). -/
def State.modemsRun (s : State) : Bool := s.live && decide (s.unt.pair.role ≠ 2)

/-- A tone stood on the loop of modem cell `m` (TONE of R169). -/
def State.toneSeen (m : Nat) (s : State) : State :=
  match modemChannel s.im m with
  | some c => if chMode s.im c = 6 then s.modLoop c fun l => { l with tone := true } else s
  | none => s

/-- Modem cell `m` becomes `x`; a request that it now sends puts a tone on the loop. -/
def State.setModem (m : Nat) (x : Modem) (s : State) : State :=
  let s1 := s.modModem m fun _ => x
  if x.req.isSome ∧ !x.waiting then s1.toneSeen m else s1

/-- HART_REQUEST_DUE (R179). The modem schedule makes a command 0, 3 or 48 request or a recheck due, and sends it when no carrier
stands. -/
def execHartRequestDue (t cell cmd addr : Nat) (carrier : Bool) (s : State) : Out :=
  act (decide (cell < 32) && decide (addr < 16)) t (fun s => s.modemsRun && (modemChannel s.im cell).isSome &&
      hartDue s.now (s.devicesOf cell) { cmd := cmd, addr := addr } (s.modemOf cell)) (fun s =>
    s.setModem cell (hartStart s.now (s.devicesOf cell) { cmd := cmd, addr := addr }
      { s.modemOf cell with carrier := carrier || (s.modemOf cell).carrier })) s

/-- A request to `addr` of modem cell `m` has failed (R178, R181, R518). -/
def State.hartFailed (m addr : Nat) (s : State) : State :=
  match modemChannel s.im m with
  | some c =>
    (s.modEng fun e => { e with hdev := tabMod [] e.hdev c fun t => tabMod {} t addr fun d => { d with nFail := satN 16 (d.nFail + 1) } }).modReg
      (m / 8) fun r => { r with hartFail := r.hartFail + 1 }
  | none => s

/-- HART_REPLY_TIMEOUT (R178). When no valid reply begins within 305 ms, the request is retried, and after three attempts it counts
as failed. The retry waits for the end of a carrier that stands on the loop. -/
def execHartReplyTimeout (t : Nat) (q : HartSilence) (s : State) : Out :=
  act (decide (q.cell < 32)) t (fun s => s.modemsRun && (s.modemOf q.cell).req.isSome && !(s.modemOf q.cell).waiting &&
      decide ((s.modemOf q.cell).sentAt + msC 305 ≤ s.now)) (fun s =>
    let r := hartTimeout s.now q.carrier (s.modemOf q.cell)
    match r.2 with
    | some a => (s.setModem q.cell r.1).hartFailed q.cell a
    | none => s.setModem q.cell r.1) s

/-- The characters of a frame that has ended on the loop of modem cell `cell`: a carrier has stood, and a tone. -/
def State.loopHeard (cell : Nat) (s : State) : State := (s.modModem cell fun m => { m with carrier := true }).toneSeen cell

/-- A frame on the loop of modem cell `cell` that R177 accepts: a burst frame is discarded and counted, a valid reply ends its
request, and both are inputs of a frame. Any other frame, such as one to the secondary master, is ignored. -/
def State.hears (cell : Nat) (g : HartFrame) (bytes : List Byte) (s : State) : State :=
  if g.burst then (s.modModem cell fun x => { x with nBurst := x.nBurst + 1 }).stampEntry 2 cell (.hart cell bytes)
  else if hartAnswers (s.devicesOf cell) g (s.modemOf cell) then
    (s.modModem cell hartAnswered).stampEntry 2 cell (.hart cell bytes)
  else s

/-- HART_REPLY (R52, R177). A frame from a field device ends in the modem pool. A valid reply is stamped as an input. -/
def execHartReply (t cell : Nat) (r : HartChars) (s : State) : Out :=
  act (decide (cell < 32)) t (fun s => s.modemsRun && (modemChannel s.im cell).isSome) (fun s0 =>
    let s := s0.loopHeard cell
    match hartParse r.bytes with
    | some g => if r.parity ∧ 2 ≤ r.preambles ∧ r.preambles ≤ 20 then s.hears cell g r.bytes else s
    | none => s) s

/-- HART_CARRIER_END (R178). 75 ms after a carrier on the loop ends, the modem cell may start a request that waited for the
carrier. -/
def execHartCarrierEnd (t cell : Nat) (s : State) : Out :=
  act (decide (cell < 32)) t (fun s => s.modemsRun && (s.modemOf cell).carrier) (fun s => s.setModem cell (hartQuiet s.now (s.modemOf cell))) s

end Sys2Proof.Machine
end

