-- ==== Sys2Proof/Machine/Hosts.lean ====
section
/-! DEFINITION. The Ethernet ports and SER0: frames that arrive, waits that end, links, and the Modbus RTU server (R362 to R380). -/

namespace Sys2Proof.Machine

/-- The address in use on port `i` (R366). -/
def State.ownIp (s : State) (i : Nat) : Nat := portIp s.im s.unitB i

/-- Port `i` answers for SVC_IP: an active unit of a pair (R370). -/
def State.servesSvc (s : State) (i : Nat) : Bool := s.paired && decide (s.unt.pair.role = 1) && decide (poSvcIp s.im i ≠ 0)

/-- The port puts something on its wire. -/
def State.onWire (l : List PortOut) (s : State) : State := s.modPort fun p => { p with wire := p.wire ++ l }

/-- Ethernet port `i` sends a frame to a MAC. -/
def State.sendEth (i dst : Nat) (f : EthOut) (s : State) : State := s.onWire [(s.ethSelf i).frame dst f]

/-- An address is confirmed, and the datagrams that waited for it leave (R366). -/
def State.learn (i ip mac : Nat) (s : State) : State :=
  let r := arpFlush (s.ethSelf i) ip mac (arpLearn s.now ip mac (s.portOf i))
  (s.modPortSt i fun _ => r.1).onWire r.2

/-- A counter of port `i`. -/
def State.countFrameErr (i : Nat) (s : State) : State := s.modPortSt i fun p => { p with rxFrameErr := inc16 p.rxFrameErr }
def State.countNoMatch (i : Nat) (s : State) : State := s.modPortSt i fun p => { p with noMatch := inc16 p.noMatch }

/-- A DSC PDU from `src` to `dst` (R244, R369, R370). A standby forwards what reaches its own address (R57). -/
def State.dscIn (i src dst : Nat) (data : List Byte) (s : State) : State :=
  if dst ≠ s.dscSource i ∨ (s.unt.pair.role = 2 ∧ poSvcIp s.im i ≠ 0) then s
  else match dscOfPdu s.im i (some src) data with
    | none => s.countNoMatch i
    | some k => if s.unt.pair.role = 2 then s.forward true 4 i (.dsc k data) else s.stampEntry 4 i (.dsc k data)

/-- A UDP datagram that reaches port `i`; `whole` tells that it came unfragmented. HOST_IP is held against every datagram to port
47200 (R367), and a command packet is taken at the unit's own address only (R370). -/
def State.udpIn (i src sport dst dport : Nat) (whole : Bool) (data : List Byte) (s : State) : State :=
  if dport = 47200 then
    if poHostIp s.im i ≠ 0 ∧ src ≠ poHostIp s.im i then s.modPortSt i fun p => { p with hostReject := inc16 p.hostReject }
    else if dst ≠ s.ownIp i then s
    else s.packetIn i src sport data
  else if dport = 47201 ∧ whole then s.dscIn i src dst data
  else s.countNoMatch i

/-- A fragment; the datagram acts when it is whole (R368). -/
def State.fragmentIn (i src dst ident off : Nat) (more : Bool) (data : List Byte) (s : State) : State :=
  let r := reasmAdd s.now src ident off more data (s.portOf i)
  let s1 := s.modPortSt i fun _ => r.1
  match r.2 with
  | none => s1
  | some b => s1.udpIn i src (beNat (b.take 2)) dst (beNat ((b.drop 2).take 2)) false (b.drop 8)

/-- The datagram is addressed to this unit on port `i`. -/
def State.addressed (s : State) (i dst : Nat) : Bool :=
  decide (s.ownIp i ≠ 0) && (decide (dst = s.ownIp i) || (s.servesSvc i && decide (dst = poSvcIp s.im i)))

/-- An Ethernet frame of port `i` (R362, R365 to R370). Frames of more than 1,518 bytes are none that the port handles. -/
def State.ethIn (i : Nat) (m : EthMsg) (s : State) : State :=
  if 1518 < etherSize m then s.countFrameErr i
  else match m with
    | .bad => s.countFrameErr i
    | .arpRequest sip smac tip => if s.addressed i tip then (s.learn i sip smac).sendEth i smac (.arpReply tip sip smac) else s
    | .arpReply sip smac tip => if s.addressed i tip then s.learn i sip smac else s
    | .echoRequest src dst data => if s.addressed i dst then s.sendIp i dst src (.echo data) else s
    | .udp src sport dst dport data => if s.addressed i dst then s.udpIn i src sport dst dport true data else s
    | .fragment src dst ident off more data => if s.addressed i dst then s.fragmentIn i src dst ident off more data else s

/-- ETH_FRAME_RECEIVED (R365). An Ethernet frame is handled as ARP, ICMP echo or UDP, or is discarded and counted. Behind a command
buffer that holds a deferred packet it waits in the receive queue of 4 KB, and is discarded when that is full (R31, R32, R55). -/
def execEthFrameReceived (t port : Nat) (m : EthMsg) (s : State) : Out :=
  act (isEth port) t State.live (fun s =>
    if !s.holdsBack port ∨ m = .bad ∨ 1518 < etherSize m then s.ethIn port m
    else if rxBytes (s.portOf port).rxWait + etherSize m ≤ 4096 then s.queueRx port (.frame m)
    else s.modPortSt port fun p => { p with rxQueueFull := inc16 p.rxQueueFull }) s

/-- FRAG_DROP (R368). A datagram whose fragments are not all present 250 ms after the first is discarded. -/
def execFragDrop (t port src : Nat) (s : State) : Out :=
  act (isEth port) t State.live (fun s => s.modPortSt port (reasmDrop s.now src)) s

/-- ARP_WAIT_TIMEOUT (R366). A datagram that has waited 1 s for an ARP reply is dropped. -/
def execArpWaitTimeout (t port hop : Nat) (s : State) : Out :=
  act (isEth port) t State.live (fun s => s.modPortSt port fun p => { p with
    waits := p.waits.filter fun w => !(decide (w.hop = hop) && decide (w.since + msC 1000 ≤ s.now)) }) s

/-- ARP_ENTRY_AGE_OUT (R366). An ARP entry ages out 300 s after its last confirmation. -/
def execArpEntryAgeOut (t port ip : Nat) (s : State) : Out :=
  act (isEth port) t State.live (fun s => s.modPortSt port fun p => { p with
    arp := p.arp.filter fun e => !(decide (e.ip = ip) && decide (e.since + msC 300000 ≤ s.now)) }) s

/-- GRATUITOUS_ARP (R370). A new active announces SVC_IP at 0, 100 and 200 ms after it takes the role. -/
def execGratuitousArp (t port : Nat) (s : State) : Out :=
  act (isEth port) t (fun s => s.live && s.servesSvc port && decide (0 < (s.portOf port).announce) &&
      decide ((s.portOf port).announceAt + msC (100 * (3 - (s.portOf port).announce)) ≤ s.now)) (fun s =>
    (s.modPortSt port fun p => { p with announce := p.announce - 1 }).sendEth port broadcastMac
      (.arpRequest (poSvcIp s.im port) (poSvcIp s.im port))) s

/-- PORT_LINK (R380). An Ethernet link comes up or goes down, and 0E01h is recorded. It comes up only with a speed that the port
and its LINK allow (R362). -/
def execPortLink (t port : Nat) (up : Bool) (speed : Nat) (s : State) : Out :=
  act (isEth port) t (fun s => s.live && decide ((s.portOf port).linkUp ≠ up) && (!up || linkSpeed s.im port speed)) (fun s =>
    let v := if up then speed else 0
    (s.modPortSt port fun p => { p with linkUp := up, speed := v }).unitEvs [{ code := 0x0E01, src := port, p1 := b2n up, p2 := v }]) s

/-- PLCA_STATUS (R363). The PLCA status of ETH2 changes, and 0E02h is recorded. With it the node count of the segment, which a
follower takes from the BEACON, and the transmit opportunity timer are known. -/
def execPlcaStatus (t : Nat) (x : PlcaSeen) (s : State) : Out :=
  act true t (fun s => s.live && poPlcaEn s.im 2 && decide ((s.portOf 2).plca ≠ x.up)) (fun s =>
    (s.modPortSt 2 fun p => { p with
      plca := x.up, plcaNodes := if x.up then plcaCount s.im x.beacon else 0, plcaTimer := if x.up then plcaTimerOf s.im else 0 }).unitEvs
      [{ code := 0x0E02, src := 2, p1 := b2n x.up, p2 := poPlcaId s.im 2 }]) s

/-! ## SER0 (R372) -/

/-- A frame on SER0 is aborted. -/
def State.serAborted (s : State) : State := s.modPortSt 5 fun p => { p with serAbort := inc16 p.serAbort }

/-- SER0 carries command packets. -/
def State.serPackets (s : State) : Bool := s.live && !poModbus s.im 5

/-- A frame on SER0: the bytes between its flags. -/
def State.serIn (bytes : List Byte) (s : State) : State :=
  if bytes.isEmpty then s
  else match serUnstuff bytes with
    | none => s.serAborted
    | some b => if 8192 < b.length then s.serAborted else s.messageIn 5 b

/-- SER_FRAME_RECEIVED (R372). A closing flag ends a SER0 frame, which is stamped as a packet or aborted. -/
def execSerFrameReceived (t : Nat) (bytes : List Byte) (s : State) : Out := act true t State.serPackets (State.serIn bytes) s

/-- SER_GAP_TIMEOUT (R372). A gap of more than 10 ms within a SER0 frame aborts the frame. -/
def execSerGapTimeout (t gapUs : Nat) (s : State) : Out :=
  act true t (fun s => s.serPackets && decide (10000 < gapUs)) State.serAborted s

/-- SER_ABORT (R372). A SER0 character with a parity or framing error, a bad escape, or one past 8,192 bytes aborts the frame,
which is discarded and counted. -/
def execSerAbort (t : Nat) (s : State) : Out := act true t State.serPackets State.serAborted s

/-! ## Modbus RTU (R374, R375) -/

/-- Register `a` of the map; none where nothing is mapped. -/
def State.mbReg (s : State) (a : Nat) : Option Nat :=
  let f := s.shown
  if a ≤ 2 then some (f.frame / 65536 ^ (2 - a) % 65536)
  else if a = 3 then some (pack [(2, s.pingRole), (1, b2n s.port.replay), (1, b2n s.fr.overrun)])
  else if 0x0100 ≤ a ∧ a < 0x0500 then
    let c := (a - 0x0100) / 2
    let v := fld (tabGet 0#128 f.res c) 0 32
    some (if (a - 0x0100) % 2 = 0 then v / 65536 else v % 65536)
  else if 0x0500 ≤ a ∧ a < 0x0700 then
    let c := a - 0x0500
    some (pack [(2, resQuality (chMode f.image c) (tabGet 0#128 f.res c)), (1, b2n (decide (chMode f.image c = 0)))])
  else if 0x0800 ≤ a ∧ a < 0x1000 then
    let p := a - 0x0800
    let x := tabGet {} f.points p
    let first := decide ((tabGet {} f.groups (alGroup f.image p)).fo = some p)
    some (pack [(4, x.state), (1, b2n x.c), (1, b2n first)])
  else if 0x1000 ≤ a ∧ a < 0x1040 then some ((tabGet {} f.groups (a - 0x1000)).block % 65536)
  else if a = 0x1040 then some (f.call % 65536)
  else if 0x1100 ≤ a ∧ a < 0x1120 then
    let r := tabGet 0#128 f.safe (a - 0x1100)
    some (pack [(4, fld r 0 4), (1, b2n (bit r 4 || bit r 5)), (1, b2n (bit r 6 && bit r 7))])
  else none

/-- MODBUS_REQUEST (R374). A Modbus RTU request to MB_ADDR is answered from the latest complete frame, or with an exception. A
request with a gap of more than 0.75 ms between two of its characters is discarded. -/
def execModbusRequest (t : Nat) (q : RtuRequest) (s : State) : Out :=
  act true t (fun s => s.live && poModbus s.im 5 && decide (q.gapUs ≤ 750)) (fun s =>
    match mbAnswer (poMbAddr s.im 5) s.mbReg q.bytes with
    | none => s
    | some r =>
      (s.modPortSt 5 fun p => if r.2 then { p with mbExcept := inc16 p.mbExcept } else p).onWire [.serial r.1]) s

/-! ## FRAME_EVALUATION_START and the receive queues -/

/-- What waited in the receive queue of port `i` is taken. -/
def State.takeRx (i : Nat) (s : State) : RxItem → State
  | .message b => s.packetIn i 0 0 b
  | .frame m => s.ethIn i m

/-- The receive queue of port `i` moves again once no deferred entry of the port waits (R55). -/
def State.drainPort (s : State) (i : Nat) : State :=
  if s.inp.held.any (s.cameThrough i) then s
  else (s.portOf i).rxWait.foldl (State.takeRx i) (s.modPortSt i fun p => { p with rxWait := [] })

/-- The receive queues of all ports, after the entries of the open frame are processed (R55). -/
def State.drainPorts (s : State) : State := (List.range 6).foldl State.drainPort s

/-- FRAME_EVALUATION_START (R59). The region engines begin evaluating frame n once every cell record latched at strobe n is in
the scratchpad. -/
def execFrameEvaluationStart (t held : Nat) (s : State) : Out :=
  act true t (fun s => s.live && decide (s.phase = .gather) && !s.idleStandby && s.inputsIn) (fun s =>
    (s.startEvaluation held).drainPorts) s

end Sys2Proof.Machine
end

