-- ==== Sys2Proof/Machine/OpRows.lean ====
section
/-! DEFINITION. The opcode rows of the command table: each is a packet given by its header and parameters, taken as the next
entry of the open frame. -/

namespace Sys2Proof.Machine

/-- PING (R334). Returns the open frame number, the role and the replay flag. -/
def execPing (h : PktHead) (s : State) : Out :=
  runRow h true true false .ping s

/-- OPEN_SESSION (R321). Opens a session on the port, numbered from the frame number, and closes any earlier session. -/
def execOpenSession (h : PktHead) (s : State) : Out :=
  runRow h true true false .openSession s

/-- CLOSE_SESSION (R321). Closes the port's session. -/
def execCloseSession (h : PktHead) (s : State) : Out :=
  runRow h true true false .closeSession s

/-- READ_SUMMARY (R516). Returns the 32-word status summary as it stands when the frame is complete. -/
def execReadSummary (h : PktHead) (s : State) : Out :=
  runRow h true true false .readSummary s

/-- READ_FRAME_STATUS (R72). Returns the frame status block. -/
def execReadFrameStatus (h : PktHead) (s : State) : Out :=
  runRow h true true false .readFrameStatus s

/-- CLEAR_FRAME_STATUS (R72). Requests that the frame status counters be cleared at the next strobe. -/
def execClearFrameStatus (h : PktHead) (s : State) : Out :=
  runRow h true true false .clearFrameStatus s

/-- WARM_RESTART (R501). Accepts a warm restart, which begins once its reply has left the port. -/
def execWarmRestart (h : PktHead) (s : State) : Out :=
  runRow h true true false .warmRestart s

/-- TRACE_OPEN (R69). Opens a trace stream with a state snapshot at strobe n+1. -/
def execTraceOpen (h : PktHead) (s : State) : Out :=
  runRow h true true false .traceOpen s

/-- TRACE_CLOSE (R334). Closes the trace stream and returns the last frame sent. -/
def execTraceClose (h : PktHead) (s : State) : Out :=
  runRow h true true false .traceClose s

/-- REPLAY_START (R70). Puts a single node into replay, with its outputs and transmissions off. -/
def execReplayStart (h : PktHead) (s : State) : Out :=
  runRow h true true false .replayStart s

/-- REPLAY_DATA (R334). Loads a segment of trace bytes for replay. -/
def execReplayData (h : PktHead) (segment : Nat) (bytes : List Byte) (s : State) : Out :=
  runRow h (decide (segment < 2 ^ 32)) (decide (bytes.length ≤ 8168)) false (.replayData segment bytes) s

/-- CLAIM (R347). Claims ownership, opening or joining a claim window when ownership is vacant. -/
def execClaim (h : PktHead) (s : State) : Out :=
  runRow h true true false .claim s

/-- RENEW (R350). Renews the owner's lease and does nothing else. -/
def execRenew (h : PktHead) (s : State) : Out :=
  runRow h true true false .renew s

/-- HANDOVER (R352). The owner offers ownership to another port. -/
def execHandover (h : PktHead) (target : Nat) (s : State) : Out :=
  runRow h (decide (target < 2 ^ 8)) true false (.handover target) s

/-- ACCEPT (R353). Takes a standing handover offer and makes the port the owner. -/
def execAccept (h : PktHead) (s : State) : Out :=
  runRow h true true false .accept s

/-- RELEASE (R355). The owner releases ownership, which becomes vacant. -/
def execRelease (h : PktHead) (s : State) : Out :=
  runRow h true true false .release s

/-- READ_OWNER (R334). Returns the owner code and the handover target. -/
def execReadOwner (h : PktHead) (s : State) : Out :=
  runRow h true true false .readOwner s

/-- READ_OBJECT (R328). Reads bytes of a configuration class from the running or the staging image. -/
def execReadObject (h : PktHead) (staging : Bool) (cls ix off len : Nat) (s : State) : Out :=
  runRow h (decide (cls < 2 ^ 8) && decide (ix < 2 ^ 16) && decide (off < 2 ^ 16) && decide (len < 2 ^ 16)) true false (.readObject staging cls ix off len) s

/-- WRITE_OBJECT (R329). Writes masked bytes into the staging image. -/
def execWriteObject (h : PktHead) (cls ix off len : Nat) (data mask : List Byte) (s : State) : Out :=
  runRow h (decide (cls < 2 ^ 8) && decide (ix < 2 ^ 16) && decide (off < 2 ^ 16) && decide (len < 2 ^ 16)) (decide (data.length = len) && decide (mask.length = len)) false (.writeObject cls ix off len data mask) s

/-- COMMIT (R331). Checks the staging image in stages and, when it is valid, makes it the running configuration at strobe n+1. -/
def execCommit (h : PktHead) (s : State) : Out :=
  runRow h true true false .commit s

/-- DISCARD (R330). Makes the staging image a copy of the running configuration again. -/
def execDiscard (h : PktHead) (s : State) : Out :=
  runRow h true true false .discard s

/-- READ_CRC (R542). Returns the configuration, safety, confirmed and staging CRCs. -/
def execReadCrc (h : PktHead) (s : State) : Out :=
  runRow h true true false .readCrc s

/-- READ_IMAGE (R335). Reads bytes of a stored configuration slot. -/
def execReadImage (h : PktHead) (slot off len : Nat) (s : State) : Out :=
  runRow h (decide (slot < 2 ^ 8) && decide (off < 2 ^ 32) && decide (len < 2 ^ 16)) true false (.readImage slot off len) s

/-- LOAD_IMAGE (R335). Loads image bytes into the staging image, keeping its RO bits. -/
def execLoadImage (h : PktHead) (off : Nat) (data : List Byte) (s : State) : Out :=
  runRow h (decide (off < 2 ^ 32)) (decide (data.length ≤ 8168)) false (.loadImage off data) s

/-- READ_RESULTS (R336). Returns the channel results of a run of channels. -/
def execReadResults (h : PktHead) (first count : Nat) (s : State) : Out :=
  runRow h (decide (first < 2 ^ 9) && decide (count < 2 ^ 8)) true false (.readResults first count) s

/-- READ_RECORDS (R336). Returns the latched cell records of a run of channels. -/
def execReadRecords (h : PktHead) (first count : Nat) (s : State) : Out :=
  runRow h (decide (first < 2 ^ 9) && decide (count < 2 ^ 8)) true false (.readRecords first count) s

/-- READ_CJC (R336). Returns the 16 CJC records. -/
def execReadCjc (h : PktHead) (s : State) : Out :=
  runRow h true true false .readCjc s

/-- WRITE_DO (R186). Writes the host state of a DO channel, which is applied at strobe n+1. -/
def execWriteDo (h : PktHead) (ch : Nat) (st : Bool) (s : State) : Out :=
  runRow h (isCh ch) true false (.writeDo ch st) s

/-- WRITE_AO (R165). Writes the host value of an AO-I channel, which is applied at strobe n+1. -/
def execWriteAo (h : PktHead) (ch : Nat) (v : Int) (s : State) : Out :=
  runRow h (isCh ch && isI32 v) true false (.writeAo ch v) s

/-- TRIM_ZERO (R140). Starts a zero trim of a channel against a reference over frames n+1 to n+16. -/
def execTrimZero (h : PktHead) (ch : Nat) (ref : Int) (s : State) : Out :=
  runRow h (isCh ch && isI32 ref) true false (.trimZero ch ref) s

/-- TRIM_SPAN (R140). Starts a span trim of a channel against a reference over frames n+1 to n+16. -/
def execTrimSpan (h : PktHead) (ch : Nat) (ref : Int) (s : State) : Out :=
  runRow h (isCh ch && isI32 ref) true false (.trimSpan ch ref) s

/-- CLEAR_TOTAL (R199). Clears TOTAL of a PI channel before that frame's count is added. -/
def execClearTotal (h : PktHead) (ch : Nat) (s : State) : Out :=
  runRow h (isCh ch) true false (.clearTotal ch) s

/-- READ_POINTS (R337). Returns the point status blocks of a run of points. -/
def execReadPoints (h : PktHead) (first count : Nat) (s : State) : Out :=
  runRow h (decide (first < 2 ^ 11) && decide (count < 2 ^ 8)) true false (.readPoints first count) s

/-- READ_GROUPS (R337). Returns the group status blocks of a run of groups. -/
def execReadGroups (h : PktHead) (first count : Nat) (s : State) : Out :=
  runRow h (decide (first < 2 ^ 6) && decide (count < 2 ^ 8)) true false (.readGroups first count) s

/-- ACK (R268). Acknowledges one point, one group or all points from location 0. -/
def execAck (h : PktHead) (scope target : Nat) (s : State) : Out :=
  runRow h (decide (scope < 2 ^ 2) && decide (target < 2 ^ 11)) true false (.ack scope target) s

/-- SHELVE (R268). Shelves a point for d minutes. -/
def execShelve (h : PktHead) (p d : Nat) (s : State) : Out :=
  runRow h (decide (p < 2 ^ 11) && decide (d < 2 ^ 11)) true false (.shelve p d) s

/-- UNSHELVE (R268). Ends the shelving of a point. -/
def execUnshelve (h : PktHead) (p : Nat) (s : State) : Out :=
  runRow h (decide (p < 2 ^ 11)) true false (.unshelve p) s

/-- REMOVE (R268). Takes a point out of service. -/
def execRemove (h : PktHead) (p : Nat) (s : State) : Out :=
  runRow h (decide (p < 2 ^ 11)) true false (.remove p) s

/-- RETURN (R268). Returns an out-of-service point to service. -/
def execReturn (h : PktHead) (p : Nat) (s : State) : Out :=
  runRow h (decide (p < 2 ^ 11)) true false (.return_ p) s

/-- READ_CALL (R337). Returns the call status block. -/
def execReadCall (h : PktHead) (s : State) : Out :=
  runRow h true true false .readCall s

/-- SELECT_DUTY (R284). The owner selects the duty station, or none. -/
def execSelectDuty (h : PktHead) (station : Nat) (s : State) : Out :=
  runRow h (decide (station < 2 ^ 8)) true false (.selectDuty station) s

/-- READ_EVENTS (R311). Returns records from the main log or the sealed log, starting at a sequence number. -/
def execReadEvents (h : PktHead) (sealLog : Bool) (rsv maxN fromSeq : Nat) (s : State) : Out :=
  runRow h (decide (rsv < 2 ^ 23) && decide (maxN < 2 ^ 8) && decide (fromSeq < 2 ^ 32)) true false (.readEvents sealLog rsv maxN fromSeq) s

/-- READ_RECORDER (R313). Returns the recorder status block. -/
def execReadRecorder (h : PktHead) (s : State) : Out :=
  runRow h true true false .readRecorder s

/-- READ_TIME (R450). Reads the time block coherently through freeze and release, and records 0C14h when the read is torn. -/
def execReadTime (h : PktHead) (torn : Bool) (s : State) : Out :=
  runRow h true true torn .readTime s

/-- STAGE_TIME (R454). Writes the staging set of the clock. -/
def execStageTime (h : PktHead) (set : List Byte) (s : State) : Out :=
  runRow h true (decide (set.length = 12)) false (.stageTime set) s

/-- COMMIT_TIME (R455). Checks the staging set and commits it to the clock, or refuses it with BAD_DATE. -/
def execCommitTime (h : PktHead) (s : State) : Out :=
  runRow h true true false .commitTime s

/-- SET_WEEKDAY (R452). Sets the weekday counter. -/
def execSetWeekday (h : PktHead) (w : Nat) (s : State) : Out :=
  runRow h (decide (w < 2 ^ 3)) true false (.setWeekday w) s

/-- READ_BACKUP (R338). Reads bytes of the backup RAM. -/
def execReadBackup (h : PktHead) (off len : Nat) (s : State) : Out :=
  runRow h (decide (off < 2 ^ 7) && decide (len < 2 ^ 8)) true false (.readBackup off len) s

/-- WRITE_BACKUP (R463). Fills the backup RAM write buffer and commits it whole. -/
def execWriteBackup (h : PktHead) (off len : Nat) (data : List Byte) (s : State) : Out :=
  runRow h (decide (off < 2 ^ 7) && decide (len < 2 ^ 8)) (decide (data.length = len)) false (.writeBackup off len data) s

/-- READ_SAFETY (R339). Returns the Nimbus-A and Nimbus-B safety results of a run of functions. -/
def execReadSafety (h : PktHead) (first count : Nat) (s : State) : Out :=
  runRow h (decide (first < 2 ^ 5) && decide (count < 2 ^ 6)) true false (.readSafety first count) s

/-- SAFETY_RESET (R219). Gives an acknowledge or safety reset to a safety function in its frame of effect. -/
def execSafetyReset (h : PktHead) (f : Nat) (s : State) : Out :=
  runRow h (decide (f < 32)) true false (.safetyReset f) s

/-- CONFIRM (R545). Confirms the safety CRC, or refuses it with SAFETY_CRC. -/
def execConfirm (h : PktHead) (crc : Nat) (s : State) : Out :=
  runRow h (decide (crc < 2 ^ 32)) true false (.confirm crc) s

/-- READ_DSC (R339). Returns the connection status blocks of a run of connections. -/
def execReadDsc (h : PktHead) (first count : Nat) (s : State) : Out :=
  runRow h (decide (first < 2 ^ 5) && decide (count < 2 ^ 6)) true false (.readDsc first count) s

/-- DSC_RESET (R250). Gives a DSC reset that lets a connection leave FAILSAFE when ACK_REQ = 1. -/
def execDscReset (h : PktHead) (i : Nat) (s : State) : Out :=
  runRow h (decide (i < 32)) true false (.dscReset i) s

/-- READ_PAIR (R441). Returns the pair status block. -/
def execReadPair (h : PktHead) (s : State) : Out :=
  runRow h true true false .readPair s

/-- RESYNC (R438). Starts resynchronisation of the standby when its conditions hold. -/
def execResync (h : PktHead) (s : State) : Out :=
  runRow h true true false .resync s

/-- SWITCHOVER (R436). Starts a commanded exchange of roles between the active and a synchronised standby. -/
def execSwitchover (h : PktHead) (s : State) : Out :=
  runRow h true true false .switchover s

/-- READ_DIAG (R518). Returns the detail block of a cell, block, region or the module. -/
def execReadDiag (h : PktHead) (level index : Nat) (s : State) : Out :=
  runRow h (decide (level < 2 ^ 2) && decide (index < 2 ^ 9)) true false (.readDiag level index) s

/-- READ_MEMORY (R486). Returns the memory health block. -/
def execReadMemory (h : PktHead) (s : State) : Out :=
  runRow h true true false .readMemory s

/-- CLEAR_COUNTERS (R340). Clears the diagnostic counters and the held status bits. -/
def execClearCounters (h : PktHead) (s : State) : Out :=
  runRow h true true false .clearCounters s

/-- READ_CAN (R409). Returns the controller status and the object transmit entries. -/
def execReadCan (h : PktHead) (ctl : Nat) (s : State) : Out :=
  runRow h (decide (ctl < 4)) true false (.readCan ctl) s

/-- READ_CANOBJ (R393). Returns a CAN object's header and payload as they stand at the end of frame n. -/
def execReadCanobj (h : PktHead) (obj : Nat) (s : State) : Out :=
  runRow h (decide (obj < 512)) true false (.readCanobj obj) s

/-- WRITE_CANOBJ (R394). The owner loads the payload of a transmit object. -/
def execWriteCanobj (h : PktHead) (obj : Nat) (data : List Byte) (s : State) : Out :=
  runRow h (decide (obj < 512)) (decide (data.length ≤ 8170)) false (.writeCanobj obj data) s

/-- READ_HART (R181). Returns entries of a channel's HART device table. -/
def execReadHart (h : PktHead) (ch addr count : Nat) (s : State) : Out :=
  runRow h (isCh ch && decide (addr < 2 ^ 4) && decide (count < 2 ^ 5)) true false (.readHart ch addr count) s

/-- READ_IDENTITY (R521). Returns the identity block. -/
def execReadIdentity (h : PktHead) (s : State) : Out :=
  runRow h true true false .readIdentity s

/-- READ_FIRMWARE (R506). Returns the firmware slot block. -/
def execReadFirmware (h : PktHead) (s : State) : Out :=
  runRow h true true false .readFirmware s

end Sys2Proof.Machine
end

