-- ==== Sys2Proof/Machine/Startup.lean ====
section
/-! DEFINITION. The start-up sequence (R495 to R500): what is cleared, firmware, self-test, configuration slot, blocks, role and
strobe 0. -/

namespace Sys2Proof.Machine

/-! ## Step 1: clear (R478) -/

/-- Blocks of a start-up: those in `mask` are powered and configured (R499); one that stays powered keeps its supply flags. -/
def bootBlocks (mask : Nat) (b : BlkPart) : BlkPart :=
  { blk := (List.range 64).foldl (fun t k =>
      if mask.testBit k then
        let o := tabGet {} b.blk k
        tabSet {} t k { powered := true, fsLow := o.powered && o.fsLow, fsOff := o.powered && o.fsOff, islandPwr := o.powered && o.islandPwr }
      else t) [] }

/-- The pair at a start-up: what its lines carry stands, its own hold is off. -/
def bootPair (now : Nat) (p : Pair) : Pair :=
  { unitB := p.unitB, holdA := if p.unitB then p.holdA else 0, holdB := if p.unitB then 0 else p.holdB
    token := p.token, tokenAt := now, cause := 1, markerAt := now, lane0 := { cleanAt := now }, lane1 := { cleanAt := now } }

/-- Every SRAM is cleared; MRAM, flash and the Twilight domain keep their contents. -/
def State.sramClear (s : State) : State :=
  let u := s.unt
  let w := u.ident.witness
  { s with
    phase := .gather, fr := { strobeAt := s.now }
    cfg := { hdr := { cfgCrc := emptyCfgCrc, safeCrc := emptySafeCrc, confirmed := 2 ^ 32 - 1 - emptySafeCrc }
             slotA := s.cfg.slotA, slotB := s.cfg.slotB }
    inp := {}, blks := bootBlocks 0 s.blks, eng := {}, safe := {}, alm := {}, can := {}
    recd := { s.recd with queue := [], queueMax := 0, lost := 0, lostCode := 0, lostFrame := 0, lostLast := 0, lostLastFrame := 0 }
    port := { outbox := s.port.outbox, wire := s.port.wire }
    unt := { u with
      mem := (List.range 22).foldl (fun t k => tabSet {} t k { scrubFrom := s.now, marchFrom := s.now })
        (tabSet {} [] 0x16 { words := (tabGet {} u.mem 0x16).words })
      mdiag := {}, regs := []
      pair := if w then { role := 3, holdA := u.pair.holdA, holdB := u.pair.holdB, token := u.pair.token } else bootPair s.now u.pair
      power := { cause := u.power.cause, ended := u.power.ended, endNext := u.power.endNext
                 enable := u.power.enable, enableSeen := u.power.enableSeen } }
    shown := {} }

/-! ## Step 2: firmware, start-up count and self-test (R496 to R498) -/

/-- The slot the loader takes, and the slot it skipped with its failure count (R496). -/
def fwTake (a b : Firmware) : Option (Nat × Option (Nat × Nat)) :=
  let best := if a.valid && b.valid then (if a.gen < b.gen then 2 else 1) else if a.valid then 1 else 2
  let f (k : Nat) : Firmware := if k = 1 then a else b
  if (f best).valid && decide ((f best).fails < 3) then some (best, none)
  else if (f best).valid && (f (3 - best)).valid && decide ((f (3 - best)).fails < 3) then some (3 - best, some (best, (f best).fails))
  else none

/-- The boot failure count of slot `k` changes. -/
def State.modFails (k : Nat) (f : Nat → Nat) (s : State) : State :=
  s.modUnt fun u => if k = 2 then { u with fw2 := { u.fw2 with fails := f u.fw2.fails } } else { u with fw1 := { u.fw1 with fails := f u.fw1.fails } }

/-- The Zenith controller starts: the start-up count rises, operating time resumes, and the last write is judged (R297, R298,
R309). -/
def State.zenithStarts (s : State) : State :=
  let q := recoverNext { s.recd with opS := s.recd.opS + 1, pwr := wrapN 32 (s.recd.pwr + 1) }
  { s with recd := { q with sealBroken := (sealCheck q).isSome }, opBase := 1000 * q.opS, opFrom := s.now }

/-- Steps 1 and 2 up to the self-test, with the slot skipped; none when no slot can be taken. -/
def State.loadOnce (s : State) : Option (State × Option (Nat × Nat)) :=
  let s1 := s.sramClear
  match fwTake s1.unt.fw1 s1.unt.fw2 with
  | none => none
  | some x =>
    let s2 := (s1.modUnt fun u => { u with runSlot := x.1 }).modFails x.1 fun n => min 3 (n + 1)
    some ((s2.modPower fun p => { p with fwFallback := x.2.isSome }).zenithStarts, x.2)

/-- 0114h for an item of the self-test (R507). -/
def bistEvent (item p1 : Nat) : EvReq := { code := 0x0114, src := item, p1 := p1, p2 := Config.bistStep item p1 }

/-- Events of the self-test, in the order of its items (R497). -/
def bistEvents (b : Bist) : List EvReq :=
  (if b.lockstep = 0 then [] else [bistEvent 0 0, { code := 0x1110, src := 0xFF }]) ++
    (((List.range 16).filter b.engines.testBit).map fun e => bistEvent (0x10 + e) 0) ++
    (b.couplers.flatMap fun c => [bistEvent 0x20 c, { code := 0x1103, src := c, p1 := 1, p2 := 1, p3 := 1 }]) ++
    (if b.halo then [bistEvent 0x21 0] else []) ++ (b.lanes.map fun l => bistEvent 0x22 l) ++
    (match b.mram with
    | some off => [bistEvent 0x23 0, { code := 0x1008, src := 0x16, p1 := off }]
    | none => [])

/-- What the self-test leaves in the state. -/
def State.bistMarks (b : Bist) (s : State) : State :=
  let s1 := (List.range 16).foldl (fun x e =>
    if b.engines.testBit e then x.modReg (e / 4) fun r => { r with bist := setBit r.bist (e % 4) true } else x) s
  let s2 := b.couplers.foldl (fun x c => x.modCell c fun d => { d with couplers := 1, standing := true, cause := 1 }) s1
  let s3 := b.lanes.foldl (fun x l => x.modPair fun p =>
    if l = 0 then { p with lane0 := { p.lane0 with broken := true } } else { p with lane1 := { p.lane1 with broken := true } }) s2
  let s4 := match b.mram with
    | some off => s3.modUnt fun u => { u with
        mem := tabMod {} u.mem 0x16 fun m => { memMark (off / 8 / 65536) 2 (off / 8 % 65536) 0x0B m with uncorr := 1 } }
    | none => s3
  (s4.modMdiag fun d => { d with lockstep := decide (b.lockstep ≠ 0) }).modPower fun p => { p with haloFault := b.halo }

/-- The failures of the start-up clear (R478). -/
def State.clearMarks (l : List (Nat × Nat × Nat × Nat)) (s : State) : State × List EvReq :=
  l.foldl (fun x c =>
    let r := memMarch c.1 c.2.1 c.2.2.1 0 c.2.2.2 (tabGet {} x.1.unt.mem c.1)
    ((x.1.modUnt fun u => { u with mem := tabSet {} u.mem c.1 r.1 }).modMdiag fun d => { d with memMarch := true }, x.2 ++ r.2)) (s, [])

/-! ## Step 3: configuration slot (R498, R551) -/

/-- 0112h for slot `k`: stored and computed STORE_CRC and the stored generation. -/
def slotEvent (k : Nat) (o : Option Slot) : EvReq :=
  { code := 0x0112, src := k, p1 := ofBytes (slotBytes k o 4 4), p2 := (crc32 (slotBytes k o 8 (imageLength - 8))).toNat
    p3 := ofBytes (slotBytes k o 12 4) }

/-- Valid slots, the newest first. -/
def slotOrder (a b : Option Slot) : List Nat :=
  match slotValid a, slotValid b with
  | true, true =>
    let d := ((b.getD {}).hdr.generation + 2 ^ 32 - (a.getD {}).hdr.generation) % 2 ^ 32
    if 0 < d ∧ d < 2 ^ 31 then [1, 0] else [0, 1]
  | true, false => [0]
  | false, true => [1]
  | false, false => []

/-- The commit rules accept the image of a slot. -/
def State.slotAccepted (k : Nat) (s : State) : Bool :=
  match s.cfg.slot k with
  | some x => (commitCheck x.image { s.facts with pairWas := paEn x.image }).isNone
  | none => false

/-- The first of the slots whose image the commit rules accept, and the refused ones before it. -/
def State.slotPick (s : State) : List Nat → Option Nat × List Nat
  | [] => (none, [])
  | k :: r => if s.slotAccepted k then (some k, []) else let x := s.slotPick r; (x.1, k :: x.2)

/-- The marks of the slots that the start-up refuses. -/
def State.markRefused (l : List Nat) (s : State) : State :=
  [0, 1].foldl (fun x k => x.modCfg fun c => c.setSlot k ((c.slot k).map fun v => { v with refused := l.contains k })) s

/-- The configuration of a start-up enters the running and staging images, with its events. -/
def State.loadConfig (s0 : State) : State × List EvReq :=
  let bad := [0, 1].filter fun k => !slotValid (s0.cfg.slot k)
  let pick := s0.slotPick (slotOrder s0.cfg.slotA s0.cfg.slotB)
  let s := s0.markRefused pick.2
  let ev := (bad ++ pick.2).map fun k => slotEvent k (s.cfg.slot k)
  match pick.1 with
  | some k =>
    let x := (s.cfg.slot k).getD {}
    let im := finishImage x.image s.serialBcd
    ((s.modCfg fun c => { c with image := im, staging := im, hdr := { x.hdr with cfgCrc := configCrc im, safeCrc := safetyCrc im } }).modPower
      fun p => { p with cfgSlot := k, cfgEmpty := false }, ev)
  | none => (s.modPower fun p => { p with cfgSlot := 0xFF, cfgEmpty := true }, ev)

/-! ## Steps 4 to 6 (R499, R500) -/

/-- Blocks, engines, alarms, objects and the calendar alarms take the configuration; a witness powers no block (R3). -/
def State.configure (mask : Nat) (was : BlkPart) (s : State) : State :=
  let im := s.im
  let s1 := { s with blks := { s.blks with blk := (bootBlocks (if s.isWitness then 0 else mask) was).blk } }
  let s2 := (List.range 64).foldl (applyBlock [] im) ((List.range 512).foldl (applyChannel [] im) s1)
  (applyCan [] im (startAlarms s2)).twiDo (loadAlarms (rtcBits im))

/-- Strobe 0 opens frame 0: the boot failure count returns to 0, and 0110h is raised (R496, R500, R507). -/
def State.strobeZero (s : State) : State :=
  let p := s.unt.power
  let w := s.twi
  let s1 := ((s.setMode .running).modFr fun f => { f with strobeAt := s.now }).modTwi twiNewFrame
  let s2 := (s1.modFails s.unt.runSlot fun _ => 0).modPower fun x => { x with
    ended := x.endNext, endNext := 0, late := b2n w.a0.fired + 2 * b2n w.a1.fired }
  s2.unitEvs [{ code := 0x0110, p1 := p.cause, p2 := s.unt.runSlot + 256 * p.cfgSlot + 65536 * p.endNext, p3 := s.cfg.hdr.cfgCrc }]

/-- The role at step 5: a single node and the witness go on at once, a unit of a pair begins to decide (R423, R500). -/
def State.beginRole (s : State) : State :=
  if s.isWitness then s.strobeZero
  else if paEn s.im then
    ((s.modPair fun p => { p with role := 5 }).setMode .deciding).driveHold (if s.unt.power.haloFault then 0 else 1)
  else s.strobeZero

/-- Events that start-up finds outside the self-test: the sealed chain, the identity data, the clock, and the calendar links, a
daily one among them when the operating seconds have passed a whole day as they rose by 1 s (R297, R301, R303, R464, R523). -/
def State.findings (s : State) : List EvReq :=
  let d := s.unt.ident
  (match sealCheck s.recd with
    | some x => [{ code := 0x0C03, p1 := x.1, p2 := x.2.1, p3 := x.2.2 }]
    | none => []) ++
    (if s.unt.power.identBad then [{ code := 0x1115, p1 := d.crc, p2 := identCrc d }] else []) ++
    (if s.twi.bakLost then [{ code := 0x0C13, p1 := 1 }] else if s.twi.wrapped then [{ code := 0x0C13, p1 := 2 }] else []) ++
    [s.timeLink 2] ++ (if s.recd.opS % 86400 = 0 then [s.timeLink 3] else [])

/-- From the self-test on: `was` are the blocks before, `skip` the firmware slot skipped. -/
def State.bootRest (b : Bist) (cause : Nat) (stuck : Bool) (was : BlkPart) (skip : Option (Nat × Nat)) (s : State) : State :=
  let s1 := s.bistMarks b
  let s2 := (s1.modPower fun p => { p with
    cause := cause, rstStuck := stuck, rstIgnored := stuck, identBad := decide (identCrc s.unt.ident ≠ s.unt.ident.crc) })
  let c := s2.clearMarks b.clear
  let first : List EvReq := (if stuck then [{ code := 0x0111 }] else []) ++ c.2 ++
    (match skip with
    | some x => [{ code := 0x0113, src := x.1, p1 := x.2, p2 := s.unt.runSlot }]
    | none => []) ++ bistEvents b ++ c.1.findings
  let k := (c.1.preEvs first).loadConfig
  ((k.1.preEvs k.2).configure b.blocks was).beginRole

/-! ## The sequence -/

/-- The unit stops after step 1 or 2: it runs no firmware and drives no hold (R496, R497). -/
def State.bootDead (s : State) : State := (s.setMode .dead).driveHold 0

/-- The witness's Halo logic starts with its power (R421); a warm restart does not touch it. -/
def State.witnessStart (cause : Nat) (s : State) : State :=
  if s.isWitness ∧ cause < 5 then
    (s.modUnt fun u => { u with wit := { startAt := s.now } }).modPair fun p => { p with token := 0 }
  else s

/-- The stored configuration that would run makes the module a unit of a pair. -/
def State.storedPair (s : State) : Bool := paEn s.loadConfig.1.im && !s.isWitness

/-- A start-up with its self-test (R495, R497): after one lockstep failure it is repeated once, after two the unit stops. -/
def State.boot (b : Bist) (cause : Nat) (stuck : Bool) (s0 : State) : State :=
  let s := s0.witnessStart cause
  match s.loadOnce with
  | none => s.sramClear.bootDead
  | some x =>
    if b.lockstep = 0 then x.1.bootRest b cause stuck s.blks x.2
    else match x.1.loadOnce with
      | none => x.1.sramClear.bootDead
      | some y =>
        if b.lockstep = 1 then y.1.bootRest b cause stuck s.blks y.2
        else
          let z := (y.1.modPower fun p => { p with endNext := 5 }).bootDead
          if y.1.storedPair then z.modPair fun p => { p with role := 4 } else z

end Sys2Proof.Machine
end

