-- ==== Sys2Proof/Machine/Supply.lean ====
section
/-! DEFINITION. Feeds, the orderly stop, and the commands that start the unit, stop it or switch it off (R491 to R505). -/

namespace Sys2Proof.Machine

/-! ## Feeds (R491) -/

/-- State of a logic feed that has read `mv` for `us` microseconds. -/
def feedJudge (old mv us : Nat) : Nat :=
  if mv < 18000 ∧ 10000 ≤ us then 1
  else if 32500 < mv ∧ 10000 ≤ us then 2
  else if old = 1 ∧ 18500 ≤ mv ∧ 100000 ≤ us then 0
  else if old = 2 ∧ mv ≤ 32000 ∧ 100000 ≤ us then 0
  else old

/-- State of a field feed. -/
def fieldJudge (old mv us : Nat) : Nat :=
  if mv < 5000 ∧ 10000 ≤ us then 3
  else if old = 3 then (if 5000 ≤ mv ∧ 100000 ≤ us then (if mv < 19200 then 1 else 0) else 3)
  else if mv < 19200 ∧ 10000 ≤ us then 1
  else if old = 1 ∧ 19600 ≤ mv ∧ 100000 ≤ us then 0
  else old

/-- A feed after a reading, with the event of a change. -/
def feedRead (code src new mv : Nat) (f : Feed) : Feed × List EvReq :=
  ({ state := new, mv := mv }, if f.state = new then [] else [{ code := code, src := src, p1 := new, p2 := mv }])

/-- FEED_STATE (R491). A logic feed enters or leaves LOW or HIGH after its filter time, and 0101h is recorded. -/
def execFeedState (t feed mv heldUs : Nat) (s : State) : Out :=
  act (decide (feed < 2)) t State.awake (fun s =>
    let f := if feed = 0 then s.unt.power.feedA else s.unt.power.feedB
    let r := feedRead 0x0101 feed (feedJudge f.state mv heldUs) mv f
    let s1 := s.modPower fun p => if feed = 0 then { p with feedA := r.1 } else { p with feedB := r.1 }
    s1.unitEvs r.2) s

/-- FS_FEED (R491). A field feed enters or leaves LOW or ABSENT after its filter time, and 0102h is recorded. -/
def execFsFeed (t feed mv heldUs : Nat) (s : State) : Out :=
  act (decide (feed < 8)) t State.awake (fun s =>
    let g := s.regOf (feed / 2)
    let f := if feed % 2 = 0 then g.feedA else g.feedB
    let r := feedRead 0x0102 feed (fieldJudge f.state mv heldUs) mv f
    let s1 := s.modReg (feed / 2) fun x => if feed % 2 = 0 then { x with feedA := r.1 } else { x with feedB := r.1 }
    s1.unitEvs r.2) s

/-! ## The orderly stop (R493) -/

/-- The unit withdraws its outputs and its hold, stops the event writer and any store, writes its operating seconds and the end
reason, and halts. -/
def State.orderlyStop (reason : Nat) (s : State) : State :=
  let s1 := s.modRecd fun q => { q with opS := if s.zenithRuns then max q.opS s.wholeSeconds else q.opS }
  let s2 := (s1.modCfg fun c => { c with store := none }).modPower fun p => { p with endNext := reason, restartDue := false }
  let s3 := if s.paired && decide (s.unt.pair.role ≠ 4) then s2.setRole 4 3 else s2
  (if s.isWitness then s3 else s3.driveHold 0).setMode .stopped

/-- SUPPLY_DECLINE (R493). An ORed logic feed below 16.0 V for 50 µs triggers the orderly stop. -/
def execSupplyDecline (t mv heldUs : Nat) (s : State) : Out :=
  act true t (fun s => s.awake && decide (mv < 16000) && decide (50 ≤ heldUs)) (State.orderlyStop 1) s

/-- SUPPLY_RECOVERY (R493). An ORed feed at 18.5 V or above for 100 ms with ENABLE closed restarts a stopped unit. -/
def execSupplyRecovery (t mv heldUs : Nat) (bist : Bist) (s : State) : Out :=
  act true t (fun s => decide (s.mode = .stopped) && s.unt.power.enable && decide (18500 ≤ mv) && decide (100000 ≤ heldUs))
    (State.boot bist 2 false) s

/-! ## Power-on, role decision and restarts (R495 to R503) -/

/-- Start-up holds after step 1 because RST_BTN is closed. -/
def State.bootHeld (b : Bist) (s : State) : State :=
  (((s.witnessStart 1).sramClear.setMode .held).modPower fun p => { p with heldAt := s.now, heldClear := b.clear }).driveHold 0

/-- POWER_ON (R495). With the logic rail good for 10 ms, the start-up sequence of clear, load, self-test and configuration runs.
With ENABLE open the node goes to OFF after step 1. -/
def execPowerOn (t : Nat) (held : Bool) (bist : Bist) (s : State) : Out :=
  act true t (fun _ => true) (fun s =>
    if !s.unt.power.enable then s.sramClear.setMode .off
    else if held then s.bootHeld bist
    else s.boot bist 1 false) s

/-- A held start-up continues from step 2. -/
def State.bootOn (b : Bist) (stuck : Bool) (s : State) : State :=
  s.boot { b with clear := s.unt.power.heldClear ++ b.clear } 1 stuck

/-- The token of a deciding unit has been absent for 2 s (R423). -/
def State.tokenAway (s : State) : Bool :=
  decide (s.unt.pair.token = 0) && decide (max s.unt.pair.tokenAt s.opFrom + msC 2000 ≤ s.now)

/-- ROLE_DECISION (R423). A pair unit decides its role from the token, or after 2 s of token absence, and strobe 0 follows. A unit
with a Halo fault stays in DECIDING (R497). -/
def execRoleDecision (t : Nat) (s : State) : Out :=
  act true t (fun s => decide (s.mode = .deciding) && !s.unt.power.haloFault && (decide (s.unt.pair.token ≠ 0) || s.tokenAway)) (fun s =>
    let active := if s.unt.pair.token = 0 then !s.unt.pair.unitB else decide (s.unt.pair.token = s.ownToken)
    if active then (s.setRole 1 5).announce.strobeZero else (s.setRole 2 5).strobeZero) s

/-- WARM_RESTART_BEGIN (R501). Once the reply has left, or on release of RST_BTN, the unit stops in order and runs the start-up
sequence. -/
def execWarmRestartBegin (t : Nat) (bist : Bist) (s : State) : Out :=
  act true t (fun s => s.awake && s.unt.power.restartDue) (fun s => (s.orderlyStop 3).boot bist 5 false) s

/-- RESET_BUTTON_RELEASE (R502). A closure of RST_BTN of at least 50 ms followed by 20 ms open begins a warm restart. -/
def execResetButtonRelease (t closedMs openMs : Nat) (bist : Bist) (s : State) : Out :=
  act true t (fun s => (s.live || decide (s.mode = .deciding) || decide (s.mode = .dead)) && !s.unt.power.rstIgnored &&
    decide (50 ≤ closedMs) && decide (20 ≤ openMs)) (fun s => (s.orderlyStop 4).boot bist 6 false) s

/-- RESET_INPUT_STUCK (R503). RST_BTN still closed 10 s after power-on lets start-up continue, and sets RST_STUCK. -/
def execResetInputStuck (t : Nat) (bist : Bist) (s : State) : Out :=
  act true t (fun s => decide (s.mode = .held) && decide (s.unt.power.heldAt + msC 10000 ≤ s.now)) (State.bootOn bist true) s

/-- RESET_INPUT_FREED (R503). The reset contact seen open for 50 ms clears RST_STUCK, or lets a held start-up continue. -/
def execResetInputFreed (t openMs : Nat) (bist : Bist) (s : State) : Out :=
  act true t (fun s => decide (s.mode = .held) || decide (50 ≤ openMs)) (fun s =>
    if s.mode = .held then s.bootOn bist false else s.modPower fun p => { p with rstStuck := false, rstIgnored := false }) s

/-! ## The OFF standby state (R504, R505) -/

/-- The blocks lose their island power. -/
def State.blocksOff (s : State) : State := s.modBlks fun b => { b with blk := [], seqr := [] }

/-- OFF_ENTRY (R504). ENABLE open for 100 ms stops the node and enters the OFF standby state. -/
def execOffEntry (t openMs : Nat) (s : State) : Out :=
  act true t (fun s => (s.awake || decide (s.mode = .dead)) && s.unt.power.enableSeen && decide (100 ≤ openMs)) (fun s =>
    ((s.orderlyStop 2).blocksOff.modPower fun p => { p with enable := false, enableSeen := false }).setMode .off) s

/-- An RTC alarm that wakes the node has fired (R505). -/
def State.alarmWakes (s : State) (k : Nat) : Bool := alarmEn k s.twi && alarmWake k s.twi && (alarmSt k s.twi).fired

/-- WAKE (R505). ENABLE closed for 100 ms, or an RTC alarm with WAKE = 1, wakes the node from OFF. A node woken by an alarm runs on
until ENABLE has been closed and opened again. -/
def execWake (t closedMs : Nat) (alarm : Option Nat) (bist : Bist) (s : State) : Out :=
  act (alarm.all (· < 2)) t (fun s => decide (100 ≤ closedMs) || (match alarm with
      | some k => decide (s.mode = .off) && s.alarmWakes k
      | none => false)) (fun s =>
    let shut := decide (100 ≤ closedMs)
    let s1 := if shut then s.modPower fun p => { p with enable := true, enableSeen := true } else s
    if s.mode = .off then s1.boot bist (if shut then 3 else 4) false else s1) s

end Sys2Proof.Machine
end

