-- ==== Sys2Proof/Machine/Dispatch.lean ====
section
/-! DEFINITION. One arm for each command. -/

namespace Sys2Proof.Machine

def exec (i : Instr) (s : State) : Host.Outcome State Fault Refusal :=
  match i with
  | .frameStrobe t => Sys2Proof.Machine.execFrameStrobe t s
  | .blockLatch t blk meas clk => Sys2Proof.Machine.execBlockLatch t blk meas clk s
  | .strobeCouplerError t ch => Sys2Proof.Machine.execStrobeCouplerError t ch s
  | .cellRecordMissing t ch => Sys2Proof.Machine.execCellRecordMissing t ch s
  | .frameEvaluationStart t held => Sys2Proof.Machine.execFrameEvaluationStart t held s
  | .nimbusExchange t g => Sys2Proof.Machine.execNimbusExchange t g s
  | .discrepancyFault t f => Sys2Proof.Machine.execDiscrepancyFault t f s
  | .horizonPosting t p => Sys2Proof.Machine.execHorizonPosting t p s
  | .frameClose e => Sys2Proof.Machine.execFrameClose e s
  | .alarmDelayExpiry t p => Sys2Proof.Machine.execAlarmDelayExpiry t p s
  | .suppressionHoldEnd t p => Sys2Proof.Machine.execSuppressionHoldEnd t p s
  | .shelfExpiry t p => Sys2Proof.Machine.execShelfExpiry t p s
  | .groupObjectCycle t g => Sys2Proof.Machine.execGroupObjectCycle t g s
  | .callEscalation t => Sys2Proof.Machine.execCallEscalation t s
  | .deadManPre t => Sys2Proof.Machine.execDeadManPre t s
  | .deadManExpiry t => Sys2Proof.Machine.execDeadManExpiry t s
  | .callLinkLost t k => Sys2Proof.Machine.execCallLinkLost t k s
  | .callObjectCycle t k => Sys2Proof.Machine.execCallObjectCycle t k s
  | .frameLong t => Sys2Proof.Machine.execFrameLong t s
  | .engSilent t e => Sys2Proof.Machine.execEngSilent t e s
  | .dscWatchdogExpiry t ix => Sys2Proof.Machine.execDscWatchdogExpiry t ix s
  | .dscFailsafeRecovery t ix => Sys2Proof.Machine.execDscFailsafeRecovery t ix s
  | .dscRepeat t ix => Sys2Proof.Machine.execDscRepeat t ix s
  | .dscErrDecay t ix => Sys2Proof.Machine.execDscErrDecay t ix s
  | .sessionTimeout t code => Sys2Proof.Machine.execSessionTimeout t code s
  | .leaseLapse t => Sys2Proof.Machine.execLeaseLapse t s
  | .offerLapse t => Sys2Proof.Machine.execOfferLapse t s
  | .claimWindowClose t => Sys2Proof.Machine.execClaimWindowClose t s
  | .packetReceive t port ip udp bytes => Sys2Proof.Machine.execPacketReceive t port ip udp bytes s
  | .forwardedPacket t code ip udp bytes => Sys2Proof.Machine.execForwardedPacket t code ip udp bytes s
  | .ping h => Sys2Proof.Machine.execPing h s
  | .openSession h => Sys2Proof.Machine.execOpenSession h s
  | .closeSession h => Sys2Proof.Machine.execCloseSession h s
  | .readSummary h => Sys2Proof.Machine.execReadSummary h s
  | .readFrameStatus h => Sys2Proof.Machine.execReadFrameStatus h s
  | .clearFrameStatus h => Sys2Proof.Machine.execClearFrameStatus h s
  | .warmRestart h => Sys2Proof.Machine.execWarmRestart h s
  | .warmRestartBegin t bist => Sys2Proof.Machine.execWarmRestartBegin t bist s
  | .traceOpen h => Sys2Proof.Machine.execTraceOpen h s
  | .traceClose h => Sys2Proof.Machine.execTraceClose h s
  | .replayStart h => Sys2Proof.Machine.execReplayStart h s
  | .replayData h segment bytes => Sys2Proof.Machine.execReplayData h segment bytes s
  | .claim h => Sys2Proof.Machine.execClaim h s
  | .renew h => Sys2Proof.Machine.execRenew h s
  | .handover h target => Sys2Proof.Machine.execHandover h target s
  | .accept h => Sys2Proof.Machine.execAccept h s
  | .release h => Sys2Proof.Machine.execRelease h s
  | .readOwner h => Sys2Proof.Machine.execReadOwner h s
  | .readObject h staging cls ix off len => Sys2Proof.Machine.execReadObject h staging cls ix off len s
  | .writeObject h cls ix off len data mask => Sys2Proof.Machine.execWriteObject h cls ix off len data mask s
  | .commit h => Sys2Proof.Machine.execCommit h s
  | .discard h => Sys2Proof.Machine.execDiscard h s
  | .readCrc h => Sys2Proof.Machine.execReadCrc h s
  | .readImage h slot off len => Sys2Proof.Machine.execReadImage h slot off len s
  | .loadImage h off data => Sys2Proof.Machine.execLoadImage h off data s
  | .readResults h first count => Sys2Proof.Machine.execReadResults h first count s
  | .readRecords h first count => Sys2Proof.Machine.execReadRecords h first count s
  | .readCjc h => Sys2Proof.Machine.execReadCjc h s
  | .writeDo h ch st => Sys2Proof.Machine.execWriteDo h ch st s
  | .writeAo h ch v => Sys2Proof.Machine.execWriteAo h ch v s
  | .trimZero h ch ref => Sys2Proof.Machine.execTrimZero h ch ref s
  | .trimSpan h ch ref => Sys2Proof.Machine.execTrimSpan h ch ref s
  | .trimComplete t ch => Sys2Proof.Machine.execTrimComplete t ch s
  | .clearTotal h ch => Sys2Proof.Machine.execClearTotal h ch s
  | .readPoints h first count => Sys2Proof.Machine.execReadPoints h first count s
  | .readGroups h first count => Sys2Proof.Machine.execReadGroups h first count s
  | .ack h scope target => Sys2Proof.Machine.execAck h scope target s
  | .shelve h p d => Sys2Proof.Machine.execShelve h p d s
  | .unshelve h p => Sys2Proof.Machine.execUnshelve h p s
  | .remove h p => Sys2Proof.Machine.execRemove h p s
  | .return_ h p => Sys2Proof.Machine.execReturn h p s
  | .readCall h => Sys2Proof.Machine.execReadCall h s
  | .selectDuty h station => Sys2Proof.Machine.execSelectDuty h station s
  | .readEvents h sealLog rsv maxN fromSeq => Sys2Proof.Machine.execReadEvents h sealLog rsv maxN fromSeq s
  | .readRecorder h => Sys2Proof.Machine.execReadRecorder h s
  | .readTime h torn => Sys2Proof.Machine.execReadTime h torn s
  | .stageTime h set => Sys2Proof.Machine.execStageTime h set s
  | .commitTime h => Sys2Proof.Machine.execCommitTime h s
  | .setWeekday h w => Sys2Proof.Machine.execSetWeekday h w s
  | .readBackup h off len => Sys2Proof.Machine.execReadBackup h off len s
  | .writeBackup h off len data => Sys2Proof.Machine.execWriteBackup h off len data s
  | .readSafety h first count => Sys2Proof.Machine.execReadSafety h first count s
  | .safetyReset h f => Sys2Proof.Machine.execSafetyReset h f s
  | .confirm h crc => Sys2Proof.Machine.execConfirm h crc s
  | .readDsc h first count => Sys2Proof.Machine.execReadDsc h first count s
  | .dscReset h ix => Sys2Proof.Machine.execDscReset h ix s
  | .readPair h => Sys2Proof.Machine.execReadPair h s
  | .resync h => Sys2Proof.Machine.execResync h s
  | .switchover h => Sys2Proof.Machine.execSwitchover h s
  | .switchoverHandoff t => Sys2Proof.Machine.execSwitchoverHandoff t s
  | .readDiag h level index => Sys2Proof.Machine.execReadDiag h level index s
  | .readMemory h => Sys2Proof.Machine.execReadMemory h s
  | .clearCounters h => Sys2Proof.Machine.execClearCounters h s
  | .readCan h ctl => Sys2Proof.Machine.execReadCan h ctl s
  | .readCanobj h obj => Sys2Proof.Machine.execReadCanobj h obj s
  | .writeCanobj h obj data => Sys2Proof.Machine.execWriteCanobj h obj data s
  | .readHart h ch addr count => Sys2Proof.Machine.execReadHart h ch addr count s
  | .readIdentity h => Sys2Proof.Machine.execReadIdentity h s
  | .readFirmware h => Sys2Proof.Machine.execReadFirmware h s
  | .conversionComplete t blk lo hi tone ov compl => Sys2Proof.Machine.execConversionComplete t blk lo hi tone ov compl s
  | .selfTestSlot t blk lo hi => Sys2Proof.Machine.execSelfTestSlot t blk lo hi s
  | .excitationEvent t blk opened compl => Sys2Proof.Machine.execExcitationEvent t blk opened compl s
  | .blankLineChange t heldUs level => Sys2Proof.Machine.execBlankLineChange t heldUs level s
  | .blankLong t ch => Sys2Proof.Machine.execBlankLong t ch s
  | .cjcReading t conn reading => Sys2Proof.Machine.execCjcReading t conn reading s
  | .debouncedEdge t ch e => Sys2Proof.Machine.execDebouncedEdge t ch e s
  | .testPulseStart t blk level => Sys2Proof.Machine.execTestPulseStart t blk level s
  | .testPulseEnd t blk termV current levelOn => Sys2Proof.Machine.execTestPulseEnd t blk termV current levelOn s
  | .fsLowSet t blk mv heldUs => Sys2Proof.Machine.execFsLowSet t blk mv heldUs s
  | .fsLowClear t blk mv heldUs => Sys2Proof.Machine.execFsLowClear t blk mv heldUs s
  | .fsOffSet t blk mv heldUs => Sys2Proof.Machine.execFsOffSet t blk mv heldUs s
  | .fsOffEnd t blk mv heldUs => Sys2Proof.Machine.execFsOffEnd t blk mv heldUs s
  | .logicSilence t ch silentUs strobe => Sys2Proof.Machine.execLogicSilence t ch silentUs strobe s
  | .foldback t ch ix mw heldUs => Sys2Proof.Machine.execFoldback t ch ix mw heldUs s
  | .foldbackHoldEnd t ch => Sys2Proof.Machine.execFoldbackHoldEnd t ch s
  | .foldbackRampStep t ch => Sys2Proof.Machine.execFoldbackRampStep t ch s
  | .enableFlagLoss t blk => Sys2Proof.Machine.execEnableFlagLoss t blk s
  | .enableFlagSet t blk => Sys2Proof.Machine.execEnableFlagSet t blk s
  | .blockPowerLost t blk mv => Sys2Proof.Machine.execBlockPowerLost t blk mv s
  | .blockPowerRestore t blk mv heldUs => Sys2Proof.Machine.execBlockPowerRestore t blk mv heldUs s
  | .cellTherm t ch temp heldUs => Sys2Proof.Machine.execCellTherm t ch temp heldUs s
  | .islandPwr t blk islandMv fsMv nominalMv heldUs => Sys2Proof.Machine.execIslandPwr t blk islandMv fsMv nominalMv heldUs s
  | .clockCheck t dom dev => Sys2Proof.Machine.execClockCheck t dom dev s
  | .zenLockstep t => Sys2Proof.Machine.execZenLockstep t s
  | .hartRequestDue t cell cmd addr carrier => Sys2Proof.Machine.execHartRequestDue t cell cmd addr carrier s
  | .hartReplyTimeout t q => Sys2Proof.Machine.execHartReplyTimeout t q s
  | .hartReply t cell r => Sys2Proof.Machine.execHartReply t cell r s
  | .canFrameReceived t ctl m => Sys2Proof.Machine.execCanFrameReceived t ctl m s
  | .canMessageTake t obj poison => Sys2Proof.Machine.execCanMessageTake t obj poison s
  | .canTxSuccess t ctl who => Sys2Proof.Machine.execCanTxSuccess t ctl who s
  | .canTxError t ctl who err dominant => Sys2Proof.Machine.execCanTxError t ctl who err dominant s
  | .canBusoffRecovery t ctl seen => Sys2Proof.Machine.execCanBusoffRecovery t ctl seen s
  | .canReferenceMessage t ctl => Sys2Proof.Machine.execCanReferenceMessage t ctl s
  | .canTtWindow t obj idle => Sys2Proof.Machine.execCanTtWindow t obj idle s
  | .isotpTimeout t ctl => Sys2Proof.Machine.execIsotpTimeout t ctl s
  | .ethFrameReceived t port m => Sys2Proof.Machine.execEthFrameReceived t port m s
  | .fragDrop t port src => Sys2Proof.Machine.execFragDrop t port src s
  | .arpWaitTimeout t port hop => Sys2Proof.Machine.execArpWaitTimeout t port hop s
  | .arpEntryAgeOut t port ip => Sys2Proof.Machine.execArpEntryAgeOut t port ip s
  | .gratuitousArp t port => Sys2Proof.Machine.execGratuitousArp t port s
  | .portLink t port up speed => Sys2Proof.Machine.execPortLink t port up speed s
  | .plcaStatus t p => Sys2Proof.Machine.execPlcaStatus t p s
  | .serFrameReceived t bytes => Sys2Proof.Machine.execSerFrameReceived t bytes s
  | .serGapTimeout t gapUs => Sys2Proof.Machine.execSerGapTimeout t gapUs s
  | .modbusRequest t r => Sys2Proof.Machine.execModbusRequest t r s
  | .eventRecordWrite t => Sys2Proof.Machine.execEventRecordWrite t s
  | .lostRecordAdmit t => Sys2Proof.Machine.execLostRecordAdmit t s
  | .operatingSecond t => Sys2Proof.Machine.execOperatingSecond t s
  | .twilightLock t mv => Sys2Proof.Machine.execTwilightLock t mv s
  | .twilightToBackup t mv => Sys2Proof.Machine.execTwilightToBackup t mv s
  | .twilightToRail t mv => Sys2Proof.Machine.execTwilightToRail t mv s
  | .twilightUnlock t mv heldUs => Sys2Proof.Machine.execTwilightUnlock t mv heldUs s
  | .twilightContentLost t mv => Sys2Proof.Machine.execTwilightContentLost t mv s
  | .rtcSecond t => Sys2Proof.Machine.execRtcSecond t s
  | .bakLowCheck t mv temp => Sys2Proof.Machine.execBakLowCheck t mv temp s
  | .rtcFreeze t => Sys2Proof.Machine.execRtcFreeze t s
  | .rtcRelease t => Sys2Proof.Machine.execRtcRelease t s
  | .rtcFreezeTimeout t => Sys2Proof.Machine.execRtcFreezeTimeout t s
  | .twilightTimeCommit t => Sys2Proof.Machine.execTwilightTimeCommit t s
  | .twilightSetWday t w => Sys2Proof.Machine.execTwilightSetWday t w s
  | .twilightLoadAlarms t => Sys2Proof.Machine.execTwilightLoadAlarms t s
  | .twilightBramCommit t => Sys2Proof.Machine.execTwilightBramCommit t s
  | .twilightRegisterWrite t off v => Sys2Proof.Machine.execTwilightRegisterWrite t off v s
  | .rtcAlarmStamp t alarm => Sys2Proof.Machine.execRtcAlarmStamp t alarm s
  | .feedState t feed mv heldUs => Sys2Proof.Machine.execFeedState t feed mv heldUs s
  | .fsFeed t feed mv heldUs => Sys2Proof.Machine.execFsFeed t feed mv heldUs s
  | .supplyDecline t mv heldUs => Sys2Proof.Machine.execSupplyDecline t mv heldUs s
  | .supplyRecovery t mv heldUs bist => Sys2Proof.Machine.execSupplyRecovery t mv heldUs bist s
  | .powerOn t held bist => Sys2Proof.Machine.execPowerOn t held bist s
  | .roleDecision t => Sys2Proof.Machine.execRoleDecision t s
  | .resetButtonRelease t closedMs openMs bist => Sys2Proof.Machine.execResetButtonRelease t closedMs openMs bist s
  | .resetInputStuck t bist => Sys2Proof.Machine.execResetInputStuck t bist s
  | .resetInputFreed t openMs bist => Sys2Proof.Machine.execResetInputFreed t openMs bist s
  | .offEntry t openMs => Sys2Proof.Machine.execOffEntry t openMs s
  | .wake t closedMs alarm bist => Sys2Proof.Machine.execWake t closedMs alarm bist s
  | .correctionWriteback t mem bank cw req a => Sys2Proof.Machine.execCorrectionWriteback t mem bank cw req a s
  | .hazeStep t mem bank cw march words => Sys2Proof.Machine.execHazeStep t mem bank cw march words s
  | .hazeYield t mem bank cw march => Sys2Proof.Machine.execHazeYield t mem bank cw march s
  | .hazePassEnd t mem march => Sys2Proof.Machine.execHazePassEnd t mem march s
  | .configStoreComplete t differs => Sys2Proof.Machine.execConfigStoreComplete t differs s
  | .haloHoldChange t level own => Sys2Proof.Machine.execHaloHoldChange t level own s
  | .witnessTokenDecision t => Sys2Proof.Machine.execWitnessTokenDecision t s
  | .witnessStartTimeout t => Sys2Proof.Machine.execWitnessStartTimeout t s
  | .tokenChange t token => Sys2Proof.Machine.execTokenChange t token s
  | .activeYieldB t heldUs => Sys2Proof.Machine.execActiveYieldB t heldUs s
  | .selfCheckFail t => Sys2Proof.Machine.execSelfCheckFail t s
  | .laneError t lane => Sys2Proof.Machine.execLaneError t lane s
  | .laneSilence t lane => Sys2Proof.Machine.execLaneSilence t lane s
  | .laneUp t lane => Sys2Proof.Machine.execLaneUp t lane s
  | .contrailBlockReceive t r => Sys2Proof.Machine.execContrailBlockReceive t r s
  | .standbyStrobe t => Sys2Proof.Machine.execStandbyStrobe t s
  | .standbyNoticeTimeout t => Sys2Proof.Machine.execStandbyNoticeTimeout t s
  | .digestCompare t lane frame partner => Sys2Proof.Machine.execDigestCompare t lane frame partner s
  | .resyncAutoStart t => Sys2Proof.Machine.execResyncAutoStart t s
  | .resyncCopyDone e => Sys2Proof.Machine.execResyncCopyDone e s
  | .resyncCompareDone t ok => Sys2Proof.Machine.execResyncCompareDone t ok s
  | .canRxError t ctl err eight => Sys2Proof.Machine.execCanRxError t ctl err eight s
  | .canProtocolException t ctl fmt => Sys2Proof.Machine.execCanProtocolException t ctl fmt s
  | .witnessHolderGraceEnd t => Sys2Proof.Machine.execWitnessHolderGraceEnd t s
  | .hartCarrierEnd t cell => Sys2Proof.Machine.execHartCarrierEnd t cell s
  | .switchCurrentLimit t ch rail => Sys2Proof.Machine.execSwitchCurrentLimit t ch rail s
  | .thermalShutdown t ch => Sys2Proof.Machine.execThermalShutdown t ch s
  | .serAbort t => Sys2Proof.Machine.execSerAbort t s

end Sys2Proof.Machine
end

