-- ==== Sys2Proof/Safety.lean ====
section
/-! DEFINITION. The terms that claims use: the parts of the state, what each command may write, packets that pass the first
checks, their replies, and the safe states. -/

namespace Sys2Proof.Machine

/-- A part of the state. The queue and the identity data are no parts: no command writes them. -/
inductive Part where
  | now | mode | phase | fr | inp | blks | eng | safety | alm | recd | can | twi | shown | clock | power
  | fw1 | fw2 | runSlot | mem | mdiag | regs | pair | wit | sess | pend | outbox | owner | portSt | wire
  | trace | replay | replayIn | cfgEv | rtcEv | image | hdr | staging | nextCfg | restage | slotA | slotB
  | store | trims
  deriving DecidableEq, Repr

/-- The part holds in `u` what it holds in `s`. -/
def Part.same (p : Part) (s u : State) : Prop :=
  match p with
  | .now => u.now = s.now
  | .mode => u.mode = s.mode
  | .phase => u.phase = s.phase
  | .fr => u.fr = s.fr
  | .inp => u.inp = s.inp
  | .blks => u.blks = s.blks
  | .eng => u.eng = s.eng
  | .safety => u.safe = s.safe
  | .alm => u.alm = s.alm
  | .recd => u.recd = s.recd
  | .can => u.can = s.can
  | .twi => u.twi = s.twi
  | .shown => u.shown = s.shown
  | .clock => u.opBase = s.opBase ∧ u.opFrom = s.opFrom
  | .power => u.unt.power = s.unt.power
  | .fw1 => u.unt.fw1 = s.unt.fw1
  | .fw2 => u.unt.fw2 = s.unt.fw2
  | .runSlot => u.unt.runSlot = s.unt.runSlot
  | .mem => u.unt.mem = s.unt.mem
  | .mdiag => u.unt.mdiag = s.unt.mdiag
  | .regs => u.unt.regs = s.unt.regs
  | .pair => u.unt.pair = s.unt.pair
  | .wit => u.unt.wit = s.unt.wit
  | .sess => u.port.sess = s.port.sess
  | .pend => u.port.pend = s.port.pend
  | .outbox => u.port.outbox = s.port.outbox
  | .owner => u.port.owner = s.port.owner
  | .portSt => u.port.st = s.port.st
  | .wire => u.port.wire = s.port.wire
  | .trace => u.port.trace = s.port.trace
  | .replay => u.port.replay = s.port.replay
  | .replayIn => u.port.replayIn = s.port.replayIn
  | .cfgEv => u.port.cfgEv = s.port.cfgEv
  | .rtcEv => u.port.rtcEv = s.port.rtcEv
  | .image => u.cfg.image = s.cfg.image
  | .hdr => u.cfg.hdr = s.cfg.hdr
  | .staging => u.cfg.staging = s.cfg.staging
  | .nextCfg => u.cfg.next = s.cfg.next
  | .restage => u.cfg.restage = s.cfg.restage
  | .slotA => u.cfg.slotA = s.cfg.slotA
  | .slotB => u.cfg.slotB = s.cfg.slotB
  | .store => u.cfg.store = s.cfg.store
  | .trims => u.cfg.trims = s.cfg.trims

/-- `u` differs from `s` in the parts `ps` at most: the queue, the identity data and every other part are the same. -/
def State.sameBut (ps : List Part) (s u : State) : Prop :=
  u.pending = s.pending ∧ u.unt.ident = s.unt.ident ∧ ∀ p : Part, p ∉ ps → p.same s u

/-- Parts that any command packet may write: sessions and replies, the lease, and what a lapse of ownership ends. -/
def whatPackets : List Part :=
  [.can, .sess, .pend, .outbox, .owner, .portSt, .wire, .trace, .restage]

/-- Parts that a start-up writes. -/
def whatStarts : List Part :=
  [.now, .mode, .phase, .fr, .inp, .blks, .eng, .safety, .alm, .recd, .can, .twi, .shown, .clock, .power, .fw1, .fw2,
    .runSlot, .mem, .mdiag, .regs, .pair, .wit, .sess, .pend, .owner, .portSt, .trace, .replay, .replayIn, .cfgEv, .rtcEv,
    .image, .hdr, .staging, .nextCfg, .restage, .slotA, .slotB, .store, .trims]

/-- The parts that a command may write. -/
def touches : Instr → List Part
  | .warmRestartBegin _ _ | .supplyRecovery _ _ _ _ | .powerOn _ _ _ | .resetButtonRelease _ _ _ _ | .resetInputStuck _ _ |
    .resetInputFreed _ _ _ | .wake _ _ _ _ => whatStarts
  | .ping _ | .openSession _ | .closeSession _ | .readSummary _ | .readFrameStatus _ | .traceOpen _ | .traceClose _ | .claim _
    | .renew _ | .handover _ _ | .accept _ | .release _ | .readOwner _ | .readObject _ _ _ _ _ _ | .readCrc _ |
    .readImage _ _ _ _ | .readResults _ _ _ | .readRecords _ _ _ | .readCjc _ | .readPoints _ _ _ | .readGroups _ _ _ |
    .readCall _ | .readEvents _ _ _ _ _ | .readRecorder _ | .readBackup _ _ _ | .readSafety _ _ _ | .readDsc _ _ _ | .readPair _
    | .readDiag _ _ _ | .readMemory _ | .readCan _ _ | .readCanobj _ _ | .writeCanobj _ _ _ | .readHart _ _ _ _ |
    .readIdentity _ | .readFirmware _ => whatPackets
  | .alarmDelayExpiry _ _ | .suppressionHoldEnd _ _ | .shelfExpiry _ _ => [.now, .alm]
  | .canReferenceMessage _ _ | .canTtWindow _ _ _ | .canProtocolException _ _ _ => [.now, .can]
  | .cjcReading _ _ _ => [.now, .inp]
  | .twilightLock _ _ | .twilightToBackup _ _ | .twilightToRail _ _ | .twilightUnlock _ _ _ | .twilightContentLost _ _ |
    .rtcSecond _ | .rtcFreeze _ | .rtcRelease _ | .rtcFreezeTimeout _ | .twilightSetWday _ _ | .twilightLoadAlarms _ |
    .twilightBramCommit _ | .twilightRegisterWrite _ _ _ => [.now, .twi]
  | .strobeCouplerError _ _ | .conversionComplete _ _ _ _ _ _ _ | .selfTestSlot _ _ _ _ | .excitationEvent _ _ _ _ |
    .blankLineChange _ _ _ | .blankLong _ _ | .testPulseStart _ _ _ | .testPulseEnd _ _ _ _ _ | .fsLowSet _ _ _ _ |
    .fsLowClear _ _ _ _ | .fsOffSet _ _ _ _ | .fsOffEnd _ _ _ _ | .logicSilence _ _ _ _ | .foldback _ _ _ _ _ |
    .foldbackHoldEnd _ _ | .foldbackRampStep _ _ | .enableFlagLoss _ _ | .enableFlagSet _ _ | .blockPowerRestore _ _ _ _ |
    .cellTherm _ _ _ _ | .islandPwr _ _ _ _ _ _ | .hartRequestDue _ _ _ _ _ | .hartCarrierEnd _ _ | .switchCurrentLimit _ _ _ |
    .thermalShutdown _ _ => [.now, .blks]
  | .switchoverHandoff _ => [.now, .pair]
  | .eventRecordWrite _ | .lostRecordAdmit _ | .operatingSecond _ => [.now, .recd]
  | .offerLapse _ => [.now, .owner]
  | .fragDrop _ _ _ | .arpWaitTimeout _ _ _ | .arpEntryAgeOut _ _ _ | .serGapTimeout _ _ | .serAbort _ => [.now, .portSt]
  | .groupObjectCycle _ _ | .callEscalation _ | .deadManPre _ | .deadManExpiry _ | .callLinkLost _ _ | .callObjectCycle _ _ =>
    [.now, .alm, .can]
  | .standbyNoticeTimeout _ => [.now, .fr, .pair]
  | .frameLong _ => [.now, .fr, .recd]
  | .debouncedEdge _ _ _ | .hartReply _ _ _ => [.now, .inp, .blks]
  | .witnessTokenDecision _ | .witnessStartTimeout _ | .witnessHolderGraceEnd _ => [.now, .pair, .wit]
  | .canTxError _ _ _ _ _ | .canBusoffRecovery _ _ _ | .canRxError _ _ _ _ => [.now, .recd, .can]
  | .hazeYield _ _ _ _ _ | .hazePassEnd _ _ _ => [.now, .recd, .mem]
  | .bakLowCheck _ _ _ | .twilightTimeCommit _ => [.now, .recd, .twi]
  | .blockPowerLost _ _ _ => [.now, .blks, .recd]
  | .haloHoldChange _ _ _ | .laneError _ _ | .laneSilence _ _ | .laneUp _ _ | .digestCompare _ _ _ _ | .resyncCompareDone _ _ =>
    [.now, .recd, .pair]
  | .engSilent _ _ | .fsFeed _ _ _ _ => [.now, .recd, .regs]
  | .clearFrameStatus _ => whatPackets ++ [.fr]
  | .isotpTimeout _ _ => [.now, .can, .portSt]
  | .discrepancyFault _ _ | .dscWatchdogExpiry _ _ | .dscFailsafeRecovery _ _ | .dscRepeat _ _ | .dscErrDecay _ _ =>
    [.now, .eng, .safety]
  | .feedState _ _ _ _ => [.now, .recd, .power]
  | .ack _ _ _ | .shelve _ _ _ | .unshelve _ _ | .remove _ _ | .return_ _ _ | .selectDuty _ _ => whatPackets ++ [.alm]
  | .writeDo _ _ _ | .writeAo _ _ _ | .clearTotal _ _ => whatPackets ++ [.eng]
  | .sessionTimeout _ _ => whatPackets ++ [.now]
  | .stageTime _ _ | .setWeekday _ _ | .writeBackup _ _ _ _ => whatPackets ++ [.twi]
  | .gratuitousArp _ _ | .modbusRequest _ _ => [.now, .portSt, .wire]
  | .portLink _ _ _ _ | .plcaStatus _ _ => [.now, .recd, .portSt]
  | .switchover _ => whatPackets ++ [.pair]
  | .readTime _ _ => whatPackets ++ [.recd]
  | .warmRestart _ => whatPackets ++ [.power]
  | .trimZero _ _ _ | .trimSpan _ _ _ => whatPackets ++ [.trims]
  | .replayStart _ => whatPackets ++ [.replay]
  | .safetyReset _ _ | .dscReset _ _ => whatPackets ++ [.safety]
  | .canMessageTake _ _ _ => [.now, .inp, .can, .wire]
  | .writeObject _ _ _ _ _ _ _ | .discard _ | .loadImage _ _ _ => whatPackets ++ [.staging]
  | .hartReplyTimeout _ _ => [.now, .blks, .eng, .regs]
  | .rtcAlarmStamp _ _ => [.now, .inp, .twi, .power]
  | .selfCheckFail _ => [.now, .recd, .can, .pair]
  | .canTxSuccess _ _ _ => [.now, .recd, .can, .wire]
  | .replayData _ _ _ => whatPackets ++ [.replayIn]
  | .hazeStep _ _ _ _ _ _ => [.now, .recd, .mem, .mdiag]
  | .resyncAutoStart _ => [.now, .recd, .pair, .wire]
  | .clockCheck _ _ _ => [.now, .recd, .mdiag, .regs]
  | .commitTime _ => whatPackets ++ [.recd, .twi]
  | .resync _ => whatPackets ++ [.recd, .pair]
  | .activeYieldB _ _ => [.now, .inp, .recd, .can, .pair]
  | .commit _ => whatPackets ++ [.cfgEv, .nextCfg]
  | .nimbusExchange _ _ => [.now, .eng, .safety, .recd, .regs]
  | .configStoreComplete _ _ => [.now, .recd, .slotA, .slotB, .store]
  | .blockLatch _ _ _ _ => [.now, .fr, .inp, .blks, .recd, .wire]
  | .zenLockstep _ => [.now, .eng, .recd, .can, .mdiag, .pair]
  | .cellRecordMissing _ _ => [.now, .inp, .blks, .recd, .regs, .wire]
  | .supplyDecline _ _ _ => [.now, .mode, .recd, .power, .pair, .store]
  | .clearCounters _ => whatPackets ++ [.blks, .mem, .mdiag, .regs]
  | .horizonPosting _ _ => [.now, .eng, .safety, .recd, .mdiag, .regs, .pair]
  | .offEntry _ _ => [.now, .mode, .blks, .recd, .power, .pair, .store]
  | .confirm _ _ => whatPackets ++ [.recd, .cfgEv, .hdr, .slotA, .slotB, .store]
  | .correctionWriteback _ _ _ _ _ _ => [.now, .eng, .recd, .can, .mem, .mdiag, .regs, .pair, .portSt]
  | .leaseLapse _ => [.now, .can, .outbox, .owner, .portSt, .wire, .trace, .restage]
  | .trimComplete _ _ => [.now, .sess, .pend, .owner, .trace, .replayIn, .nextCfg, .trims]
  | .roleDecision _ => [.now, .mode, .fr, .recd, .twi, .power, .fw1, .fw2, .pair, .portSt]
  | .claimWindowClose _ => [.now, .can, .pend, .outbox, .owner, .portSt, .wire, .trace, .restage]
  | .tokenChange _ _ => [.now, .phase, .fr, .inp, .blks, .eng, .safety, .alm, .recd, .can, .pair, .owner, .portSt]
  | .frameClose _ => whatPackets ++ [.now, .phase, .fr, .blks, .eng, .alm, .recd, .shown, .power, .mdiag, .pair, .replayIn,
    .cfgEv, .rtcEv, .nextCfg, .trims]
  | .resyncCopyDone _ => [.now, .phase, .fr, .inp, .eng, .safety, .alm, .recd, .can, .shown, .pair, .sess, .pend, .owner,
    .trace, .hdr, .staging, .nextCfg, .restage, .trims]
  | .frameStrobe _ | .standbyStrobe _ => whatPackets ++ [.now, .phase, .fr, .inp, .blks, .eng, .safety, .alm, .recd, .twi,
    .shown, .pair, .replayIn, .cfgEv, .image, .hdr, .staging, .nextCfg, .slotA, .slotB, .store, .trims]
  | .contrailBlockReceive _ _ => whatPackets ++ [.now, .fr, .inp, .blks, .eng, .safety, .alm, .recd, .twi, .mem, .mdiag,
    .regs, .pair, .replay, .replayIn, .cfgEv, .image, .hdr, .staging, .nextCfg, .slotA, .slotB, .store, .trims]
  | .packetReceive _ _ _ _ _ | .forwardedPacket _ _ _ _ _ | .canFrameReceived _ _ _ | .ethFrameReceived _ _ _ |
    .serFrameReceived _ _ => whatPackets ++ [.now, .fr, .inp, .blks, .eng, .safety, .alm, .recd, .twi, .power, .mem, .mdiag,
    .regs, .pair, .replay, .replayIn, .cfgEv, .hdr, .staging, .nextCfg, .slotA, .slotB, .store, .trims]
  | .frameEvaluationStart _ _ => whatPackets ++ [.now, .phase, .fr, .inp, .blks, .eng, .safety, .alm, .recd, .twi, .power,
    .mem, .mdiag, .regs, .pair, .replay, .replayIn, .cfgEv, .rtcEv, .hdr, .staging, .nextCfg, .slotA, .slotB, .store, .trims]

/-! ## Command packets -/

/-- The packet that an opcode row stands for: its header, its opcode with parameters, and whether a READ_TIME is torn. -/
def packetOf : Instr → Option (PktHead × Op × Bool)
  | .ping h => some (h, .ping, false)
  | .openSession h => some (h, .openSession, false)
  | .closeSession h => some (h, .closeSession, false)
  | .readSummary h => some (h, .readSummary, false)
  | .readFrameStatus h => some (h, .readFrameStatus, false)
  | .clearFrameStatus h => some (h, .clearFrameStatus, false)
  | .warmRestart h => some (h, .warmRestart, false)
  | .traceOpen h => some (h, .traceOpen, false)
  | .traceClose h => some (h, .traceClose, false)
  | .replayStart h => some (h, .replayStart, false)
  | .replayData h segment bytes => some (h, .replayData segment bytes, false)
  | .claim h => some (h, .claim, false)
  | .renew h => some (h, .renew, false)
  | .handover h target => some (h, .handover target, false)
  | .accept h => some (h, .accept, false)
  | .release h => some (h, .release, false)
  | .readOwner h => some (h, .readOwner, false)
  | .readObject h staging cls ix off len => some (h, .readObject staging cls ix off len, false)
  | .writeObject h cls ix off len data mask => some (h, .writeObject cls ix off len data mask, false)
  | .commit h => some (h, .commit, false)
  | .discard h => some (h, .discard, false)
  | .readCrc h => some (h, .readCrc, false)
  | .readImage h slot off len => some (h, .readImage slot off len, false)
  | .loadImage h off data => some (h, .loadImage off data, false)
  | .readResults h first count => some (h, .readResults first count, false)
  | .readRecords h first count => some (h, .readRecords first count, false)
  | .readCjc h => some (h, .readCjc, false)
  | .writeDo h ch st => some (h, .writeDo ch st, false)
  | .writeAo h ch v => some (h, .writeAo ch v, false)
  | .trimZero h ch ref => some (h, .trimZero ch ref, false)
  | .trimSpan h ch ref => some (h, .trimSpan ch ref, false)
  | .clearTotal h ch => some (h, .clearTotal ch, false)
  | .readPoints h first count => some (h, .readPoints first count, false)
  | .readGroups h first count => some (h, .readGroups first count, false)
  | .ack h scope target => some (h, .ack scope target, false)
  | .shelve h p d => some (h, .shelve p d, false)
  | .unshelve h p => some (h, .unshelve p, false)
  | .remove h p => some (h, .remove p, false)
  | .return_ h p => some (h, .return_ p, false)
  | .readCall h => some (h, .readCall, false)
  | .selectDuty h station => some (h, .selectDuty station, false)
  | .readEvents h sealLog rsv maxN fromSeq => some (h, .readEvents sealLog rsv maxN fromSeq, false)
  | .readRecorder h => some (h, .readRecorder, false)
  | .readTime h torn => some (h, .readTime, torn)
  | .stageTime h set => some (h, .stageTime set, false)
  | .commitTime h => some (h, .commitTime, false)
  | .setWeekday h w => some (h, .setWeekday w, false)
  | .readBackup h off len => some (h, .readBackup off len, false)
  | .writeBackup h off len data => some (h, .writeBackup off len data, false)
  | .readSafety h first count => some (h, .readSafety first count, false)
  | .safetyReset h f => some (h, .safetyReset f, false)
  | .confirm h crc => some (h, .confirm crc, false)
  | .readDsc h first count => some (h, .readDsc first count, false)
  | .dscReset h i => some (h, .dscReset i, false)
  | .readPair h => some (h, .readPair, false)
  | .resync h => some (h, .resync, false)
  | .switchover h => some (h, .switchover, false)
  | .readDiag h level index => some (h, .readDiag level index, false)
  | .readMemory h => some (h, .readMemory, false)
  | .clearCounters h => some (h, .clearCounters, false)
  | .readCan h ctl => some (h, .readCan ctl, false)
  | .readCanobj h obj => some (h, .readCanobj obj, false)
  | .writeCanobj h obj data => some (h, .writeCanobj obj data, false)
  | .readHart h ch addr count => some (h, .readHart ch addr count, false)
  | .readIdentity h => some (h, .readIdentity, false)
  | .readFirmware h => some (h, .readFirmware, false)
  | .frameStrobe _ | .blockLatch _ _ _ _ | .strobeCouplerError _ _ | .cellRecordMissing _ _
  | .frameEvaluationStart _ _ | .nimbusExchange _ _ | .discrepancyFault _ _ | .horizonPosting _ _ | .frameClose _
  | .alarmDelayExpiry _ _ | .suppressionHoldEnd _ _ | .shelfExpiry _ _ | .groupObjectCycle _ _ | .callEscalation _
  | .deadManPre _ | .deadManExpiry _ | .callLinkLost _ _ | .callObjectCycle _ _ | .frameLong _ | .engSilent _ _
  | .dscWatchdogExpiry _ _ | .dscFailsafeRecovery _ _ | .dscRepeat _ _ | .dscErrDecay _ _ | .sessionTimeout _ _
  | .leaseLapse _ | .offerLapse _ | .claimWindowClose _ | .packetReceive _ _ _ _ _ | .forwardedPacket _ _ _ _ _
  | .warmRestartBegin _ _ | .trimComplete _ _ | .switchoverHandoff _ | .conversionComplete _ _ _ _ _ _ _
  | .selfTestSlot _ _ _ _ | .excitationEvent _ _ _ _ | .blankLineChange _ _ _ | .blankLong _ _ | .cjcReading _ _ _
  | .debouncedEdge _ _ _ | .testPulseStart _ _ _ | .testPulseEnd _ _ _ _ _ | .fsLowSet _ _ _ _ | .fsLowClear _ _ _ _
  | .fsOffSet _ _ _ _ | .fsOffEnd _ _ _ _ | .logicSilence _ _ _ _ | .foldback _ _ _ _ _ | .foldbackHoldEnd _ _
  | .foldbackRampStep _ _ | .enableFlagLoss _ _ | .enableFlagSet _ _ | .blockPowerLost _ _ _
  | .blockPowerRestore _ _ _ _ | .cellTherm _ _ _ _ | .islandPwr _ _ _ _ _ _ | .clockCheck _ _ _ | .zenLockstep _
  | .hartRequestDue _ _ _ _ _ | .hartReplyTimeout _ _ | .hartReply _ _ _ | .canFrameReceived _ _ _
  | .canMessageTake _ _ _ | .canTxSuccess _ _ _ | .canTxError _ _ _ _ _ | .canBusoffRecovery _ _ _
  | .canReferenceMessage _ _ | .canTtWindow _ _ _ | .isotpTimeout _ _ | .ethFrameReceived _ _ _ | .fragDrop _ _ _
  | .arpWaitTimeout _ _ _ | .arpEntryAgeOut _ _ _ | .gratuitousArp _ _ | .portLink _ _ _ _ | .plcaStatus _ _
  | .serFrameReceived _ _ | .serGapTimeout _ _ | .modbusRequest _ _ | .eventRecordWrite _ | .lostRecordAdmit _
  | .operatingSecond _ | .twilightLock _ _ | .twilightToBackup _ _ | .twilightToRail _ _ | .twilightUnlock _ _ _
  | .twilightContentLost _ _ | .rtcSecond _ | .bakLowCheck _ _ _ | .rtcFreeze _ | .rtcRelease _ | .rtcFreezeTimeout _
  | .twilightTimeCommit _ | .twilightSetWday _ _ | .twilightLoadAlarms _ | .twilightBramCommit _
  | .twilightRegisterWrite _ _ _ | .rtcAlarmStamp _ _ | .feedState _ _ _ _ | .fsFeed _ _ _ _ | .supplyDecline _ _ _
  | .supplyRecovery _ _ _ _ | .powerOn _ _ _ | .roleDecision _ | .resetButtonRelease _ _ _ _ | .resetInputStuck _ _
  | .resetInputFreed _ _ _ | .offEntry _ _ | .wake _ _ _ _ | .correctionWriteback _ _ _ _ _ _ | .hazeStep _ _ _ _ _ _
  | .hazeYield _ _ _ _ _ | .hazePassEnd _ _ _ | .configStoreComplete _ _ | .haloHoldChange _ _ _
  | .witnessTokenDecision _ | .witnessStartTimeout _ | .tokenChange _ _ | .activeYieldB _ _ | .selfCheckFail _
  | .laneError _ _ | .laneSilence _ _ | .laneUp _ _ | .contrailBlockReceive _ _ | .standbyStrobe _
  | .standbyNoticeTimeout _ | .digestCompare _ _ _ _ | .resyncAutoStart _ | .resyncCopyDone _
  | .resyncCompareDone _ _ | .canRxError _ _ _ _ | .canProtocolException _ _ _ | .witnessHolderGraceEnd _
  | .hartCarrierEnd _ _ | .switchCurrentLimit _ _ _ | .thermalShutdown _ _ | .serAbort _ => none

/-! ## Packets that run, and what becomes of them (R320 to R323) -/

/-- Ownership stands as it is: neither the lease nor a handover offer is over (R351, R354). -/
def State.ownerSteady (s : State) : Bool := !s.leaseOver && !s.offerOver

/-- A packet with header `h` and opcode number `opcode` passes steps 1 to 8 of R320 on a unit that runs frames and is no
standby: it is the next packet of the open session of its port, the reply to the one before has been sent, and the port, the
role and the mode may use the opcode. No input of a trace is being processed, as between any two commands
(`Obligations.OwnersHaveSessions`). -/
def State.ready (s : State) (h : PktHead) (opcode : Nat) : Prop :=
  let code := s.codeOf h.port
  let x := s.sessOf code
  s.mode = .running ∧ s.unt.pair.role ≠ 2 ∧ s.port.replayIn.within = false ∧ h.port < 6 ∧ s.ownerSteady = true ∧ h.version = 1 ∧ h.flags = 0 ∧ h.status = 0 ∧
    opcode ≠ 0x0002 ∧ x.id ≠ 0 ∧ h.session = x.id ∧ h.seq = (x.lastSeq + 1) % 2 ^ 32 ∧ x.busy = false ∧
    (opOwnerOnly opcode = true → s.port.owner.owner = some code) ∧
    opModeStatus opcode s.port.replay s.paired s.isWitness = stOk

/-- The state as the opcode of a packet that passed steps 1 to 8 finds it: the lease is renewed, and the packet is the last of
its session. -/
def State.accepted (h : PktHead) (opcode : Nat) (s : State) : State :=
  let code := s.codeOf h.port
  ((s.heardFrom code h).renewLease code).advance code opcode h

/-- The reply to a packet of this unit's port. -/
def State.replyTo (s : State) (h : PktHead) (opcode st : Nat) (body : List Byte) : Reply :=
  { code := s.codeOf h.port, ip := h.ip, udp := h.udp, session := h.session, seq := h.seq, opcode := opcode, status := st, body := body }

/-- The session of the packet's port is `x` in `u`; every other session is as before. -/
def State.oneSession (s u : State) (h : PktHead) (x : Session) : Prop :=
  u.sessOf (s.codeOf h.port) = x ∧ ∀ k, k ≠ s.codeOf h.port → u.sessOf k = s.sessOf k

/-- The packets that directly follow a reply: none, and on SER0 a segment of the trace where one waits (R373). -/
def trailing (h : PktHead) (l : List Reply) : Prop := l = [] ∨ h.port = 5 ∧ ∃ x, l = [x] ∧ x.opcode = 0x000A

/-- Reply `r` to a packet is sent in this command, the last but for what directly follows it. -/
def State.sent (s u : State) (h : PktHead) (r : Reply) : Prop :=
  ∃ m l, trailing h l ∧ u.port.outbox = s.port.outbox ++ m ++ r :: l

/-- The packet is answered in this command: its reply is sent, and its session keeps it as the last reply. -/
def State.replied (s u : State) (h : PktHead) (opcode st : Nat) (body : List Byte) : Prop :=
  let r := s.replyTo h opcode st body
  (∃ l, trailing h l ∧ u.port.outbox = s.port.outbox ++ r :: l) ∧ u.port.pend = s.port.pend ∧
    s.oneSession u h { s.sessOf (s.codeOf h.port) with
      lastSeq := h.seq, lastOp := opcode, busy := false, reply := some r, heard := true, ip := h.ip, udp := h.udp }

/-- The reply to the packet is held back until frame `due` is complete, or until another rule decides it. -/
def State.waits (s u : State) (h : PktHead) (op : Op) (due : Option Nat) (done : Option (Nat × List Byte)) : Prop :=
  u.port.outbox = s.port.outbox ∧
    u.port.pend = s.port.pend ++ [{ code := s.codeOf h.port, ip := h.ip, udp := h.udp, session := h.session, sid := h.session, seq := h.seq
                                    opcode := opCode op, due := due, op := op, done := done }] ∧
    s.oneSession u h { s.sessOf (s.codeOf h.port) with
      lastSeq := h.seq, lastOp := opCode op, busy := true, reply := none, heard := true, ip := h.ip, udp := h.udp }

/-- A reply with status `st` and body `body` that leaves when frame `due` is complete: at once where it is (R323). -/
def State.repliedAt (s u : State) (h : PktHead) (op : Op) (due st : Nat) (body : List Byte) : Prop :=
  if s.phase = .complete ∧ due ≤ s.fr.frameNo then s.replied u h (opCode op) st body else s.waits u h op (some due) (some (st, body))

/-- A reply that holds the values of the open frame: formed now where that frame is complete (R323). -/
def State.repliedFrame (s u : State) (h : PktHead) (op : Op) (body : List Byte) : Prop :=
  if s.phase = .complete then s.replied u h (opCode op) stOk body else s.waits u h op (some s.fr.frameNo) none

/-- Ownership in `u` after a packet of the port: as `o`, with the lease renewed where the port owns the node (R350). -/
def State.leased (s : State) (h : PktHead) : Owner :=
  if s.port.owner.owner = some (s.codeOf h.port) then { s.port.owner with lease := s.fr.total } else s.port.owner

/-- What serving a packet writes beside its own effect: its session and reply, what carries the reply, and the lease; on SER0 also
the trace (R373). -/
def servingParts (h : PktHead) : List Part :=
  [.can, .sess, .pend, .outbox, .owner, .portSt, .wire] ++ if h.port = 5 then [.trace] else []

/-- The packet is answered and has no effect of its own. -/
def State.onlyReplied (s u : State) (h : PktHead) (opcode st : Nat) (body : List Byte) : Prop :=
  s.replied u h opcode st body ∧ u.port.owner = s.leased h ∧ s.sameBut (servingParts h) u

/-- The packet's reply waits for the values of the open frame, and the packet has no effect of its own. -/
def State.onlyReads (s u : State) (h : PktHead) (op : Op) (body : List Byte) : Prop :=
  s.repliedFrame u h op body ∧ u.port.owner = s.leased h ∧ s.sameBut (servingParts h) u

/-- The packet, its lease and its reply aside, writes the parts `ps` at most. -/
def State.served (s u : State) (h : PktHead) (ps : List Part) : Prop :=
  u.port.owner = s.leased h ∧ s.sameBut (servingParts h ++ ps) u

/-! ## Safe states -/

/-- The calendar shows a date and a time that exist (R451). -/
def Twi.legal (w : Twi) : Prop :=
  w.sec < 60 ∧ w.min < 60 ∧ w.hour < 24 ∧ 1 ≤ w.month ∧ w.month ≤ 12 ∧ 1 ≤ w.day ∧ w.day ≤ daysIn w.year w.month ∧ w.year ≤ 199 ∧
    w.wday < 7

/-- The backup RAM and its write buffer are in canonical form and hold bytes 0 to 127 only (R463). -/
def Twi.ramWf (w : Twi) : Prop :=
  tabWf (fun _ => (0#8 : Byte)) w.bram = true ∧ tabWf (fun _ => (none : Option Byte)) w.wbuf = true ∧
    (∀ e ∈ w.bram, e.1 < 128) ∧ ∀ e ∈ w.wbuf, e.1 < 128

/-- The owner and each port with a collected claim hold an open session (R321, R343, R348). -/
def State.ownersOpen (s : State) : Prop :=
  (∀ k, s.port.owner.owner = some k → (s.sessOf k).id ≠ 0) ∧ ∀ c ∈ s.port.owner.claims, (s.sessOf c.code).id ≠ 0

/-- Everything of block `b` aside, the blocks, cells and channels are as before. -/
def BlkPart.onlyBlock (b : Nat) (x y : BlkPart) : Prop :=
  (∀ c, c / 8 ≠ b → tabGet {} y.acq c = tabGet {} x.acq c ∧ tabGet {} y.dig c = tabGet {} x.dig c ∧
    tabGet {} y.out c = tabGet {} x.out c ∧ tabGet {} y.loop c = tabGet {} x.loop c ∧ tabGet {} y.cell c = tabGet {} x.cell c) ∧
  (∀ k, k ≠ b → tabGet {} y.seqr k = tabGet {} x.seqr k ∧ tabGet {} y.blk k = tabGet {} x.blk k ∧ tabGet {} y.diag k = tabGet {} x.diag k) ∧
  y.modem = x.modem ∧ y.blank = x.blank

end Sys2Proof.Machine
end

