-- ==== Sys2Proof/Certificates/Slice0/Obligations.lean ====
section
/-! DEFINITION. The statements for the provers. Each says, of every state, what a command or the whole node does. -/

open Sys2Proof Sys2Proof.Machine

/-! ## Packets: reads (chapter 13) -/

/-- Reads that answer when they are processed, with the state of the unit as it stands (frame of effect "—", R323). Each is
answered in this command and has no effect of its own; a range that its rule does not allow is answered BAD_VALUE. A locked Twilight
interface gives no reply to a read of the backup RAM (R445, as log 74 reads it).

Immediate reads with parameters: a stored slot (R335), events (R311), backup RAM (R338), diagnostics (R518), a CAN
controller (R409) and the staging image (R328). -/
def Obligations.ImmediateReads : Prop :=
  (∀ (h : PktHead) (s : State),
    (s.ready h 0x0001 → ∃ u, exec (.ping h) s = .next u ∧
      s.onlyReplied u h 0x0001 stOk (packBytes 8 [(48, s.fr.frameNo), (8, s.pingRole), (1, b2n s.port.replay)])) ∧
    (s.ready h 0x0005 → ∃ u, exec (.readFrameStatus h) s = .next u ∧ s.onlyReplied u h 0x0005 stOk s.frameStatus) ∧
    (s.ready h 0x0106 → ∃ u, exec (.readOwner h) s = .next u ∧
      s.onlyReplied u h 0x0106 stOk [BitVec.ofNat 8 s.ownerCode, BitVec.ofNat 8 s.offerCode]) ∧
    (s.ready h 0x0502 → ∃ u, exec (.readRecorder h) s = .next u ∧ s.onlyReplied u h 0x0502 stOk (recorderBlock s.recd)) ∧
    (s.ready h 0x0801 → ∃ u, exec (.readPair h) s = .next u ∧ s.onlyReplied u h 0x0801 stOk s.pairBlock) ∧
    (s.ready h 0x0902 → ∃ u, exec (.readMemory h) s = .next u ∧ s.onlyReplied u h 0x0902 stOk (memBlock s.unt.mdiag s.unt.mem)) ∧
    (s.ready h 0x0C01 → ∃ u, exec (.readIdentity h) s = .next u ∧ s.onlyReplied u h 0x0C01 stOk s.identBody) ∧
    (s.ready h 0x0C02 → ∃ u, exec (.readFirmware h) s = .next u ∧ s.onlyReplied u h 0x0C02 stOk s.fwBody)) ∧
  ((∀ (h : PktHead) (s : State) (slot off len : Nat), s.ready h 0x0206 → slot < 2 ^ 8 → off < 2 ^ 32 → len < 2 ^ 16 →
    ∃ u, exec (.readImage h slot off len) s = .next u ∧
      ((1 < slot ∨ len = 0 ∨ 4096 < len ∨ 524288 < off + len) → s.onlyReplied u h 0x0206 stBadValue []) ∧
      (slot ≤ 1 → 0 < len → len ≤ 4096 → off + len ≤ imageLength →
        s.onlyReplied u h 0x0206 stOk (slotBytes slot (s.cfg.slot slot) off len))) ∧
  (∀ (h : PktHead) (s : State) (sealLog : Bool) (rsv maxN fromSeq : Nat), s.ready h 0x0501 → rsv < 2 ^ 23 → maxN < 2 ^ 8 →
    fromSeq < 2 ^ 32 → ∃ u, exec (.readEvents h sealLog rsv maxN fromSeq) s = .next u ∧
      ((rsv ≠ 0 ∨ maxN = 0 ∨ 64 < maxN) → s.onlyReplied u h 0x0501 stBadValue []) ∧
      (rsv = 0 → 0 < maxN → maxN ≤ 64 → s.onlyReplied u h 0x0501
        (if (readEvents sealLog maxN fromSeq s.recd).1 then stOverwritten else stOk) (readEvents sealLog maxN fromSeq s.recd).2)) ∧
  (∀ (h : PktHead) (s : State) (off len : Nat), s.ready h 0x0605 → off < 2 ^ 7 → len < 2 ^ 8 →
    ∃ u, exec (.readBackup h off len) s = .next u ∧
      ((len = 0 ∨ 128 < off + len) → s.onlyReplied u h 0x0605 stBadValue []) ∧
      (0 < len → off + len ≤ 128 → s.twi.locked = false → s.onlyReplied u h 0x0605 stOk (bramRead off len s.twi)) ∧
      (0 < len → off + len ≤ 128 → s.twi.locked = true → s.waits u h (.readBackup off len) none none ∧ s.served u h [])) ∧
  (∀ (h : PktHead) (s : State) (level index : Nat), s.ready h 0x0901 → level < 2 ^ 2 → index < 2 ^ 9 →
    ∃ u, exec (.readDiag h level index) s = .next u ∧
      (level = 0 → s.onlyReplied u h 0x0901 stOk (s.cellDetail index)) ∧
      (level = 1 → index < 64 → s.onlyReplied u h 0x0901 stOk (s.blockDetail index)) ∧
      (level = 2 → index < 4 → s.onlyReplied u h 0x0901 stOk (s.regionDetail index)) ∧
      (level = 3 → index = 0 → s.onlyReplied u h 0x0901 stOk s.moduleDetail) ∧
      (((level = 1 ∧ 64 ≤ index) ∨ (level = 2 ∧ 4 ≤ index) ∨ (level = 3 ∧ 0 < index)) → s.onlyReplied u h 0x0901 stBadValue [])) ∧
  (∀ (h : PktHead) (s : State) (ctl : Nat), s.ready h 0x0A01 → ctl < 4 →
    ∃ u, exec (.readCan h ctl) s = .next u ∧ s.onlyReplied u h 0x0A01 stOk (s.canBody ctl)) ∧
  (∀ (h : PktHead) (s : State) (cls ix off len : Nat), s.ready h 0x0201 → cls < 2 ^ 8 → ix < 2 ^ 16 → off < 2 ^ 16 → len < 2 ^ 16 →
    ∃ u, exec (.readObject h true cls ix off len) s = .next u ∧
      (objRangeOk cls ix off len = false → s.onlyReplied u h 0x0201 stBadValue []) ∧
      (objRangeOk cls ix off len = true → s.onlyReplied u h 0x0201 stOk (s.objectBody true cls ix off len))))

/-- Reads of the open frame (frame of effect n, R323): the reply holds the values of that frame. It is held back until the
frame is complete, and sent at once where it is. -/
def Obligations.ReadsOfTheFrame : Prop :=
  ∀ (h : PktHead) (s : State),
    (s.ready h 0x0004 → ∃ u, exec (.readSummary h) s = .next u ∧ s.onlyReads u h .readSummary s.summary) ∧
    (s.ready h 0x0205 → ∃ u, exec (.readCrc h) s = .next u ∧ s.onlyReads u h .readCrc s.crcBody) ∧
    (s.ready h 0x0303 → ∃ u, exec (.readCjc h) s = .next u ∧ s.onlyReads u h .readCjc s.cjcBody) ∧
    (s.ready h 0x0408 → ∃ u, exec (.readCall h) s = .next u ∧ s.onlyReads u h .readCall (toBytes 8 (callBlock s.P s.alm.call)))

/-- Reads of a run of items of the open frame (R336, R337, R339), of a CAN object (R393), of a device table (R181) and of the
running image (R328). A run that is empty, too long or past the last item is answered BAD_VALUE. -/
def Obligations.ReadsOfRuns : Prop :=
  (∀ (h : PktHead) (s : State) (first count : Nat), first < 2 ^ 9 → count < 2 ^ 8 →
    (s.ready h 0x0301 → ∃ u, exec (.readResults h first count) s = .next u ∧
      (1 ≤ count ∧ count ≤ 64 ∧ first + count ≤ 512 → s.onlyReads u h (.readResults first count) (s.resultsBody first count)) ∧
      (count = 0 ∨ 64 < count ∨ 512 < first + count → s.onlyReplied u h 0x0301 stBadValue [])) ∧
    (s.ready h 0x0302 → ∃ u, exec (.readRecords h first count) s = .next u ∧
      (1 ≤ count ∧ count ≤ 64 ∧ first + count ≤ 512 → s.onlyReads u h (.readRecords first count) (s.recordsBody first count)) ∧
      (count = 0 ∨ 64 < count ∨ 512 < first + count → s.onlyReplied u h 0x0302 stBadValue []))) ∧
  (∀ (h : PktHead) (s : State) (first count : Nat), s.ready h 0x0401 → first < 2 ^ 11 → count < 2 ^ 8 →
    ∃ u, exec (.readPoints h first count) s = .next u ∧
      (1 ≤ count ∧ count ≤ 128 ∧ first + count ≤ 2048 → s.onlyReads u h (.readPoints first count) (s.pointsBody first count)) ∧
      (count = 0 ∨ 128 < count ∨ 2048 < first + count → s.onlyReplied u h 0x0401 stBadValue [])) ∧
  (∀ (h : PktHead) (s : State) (first count : Nat), s.ready h 0x0402 → first < 2 ^ 6 → count < 2 ^ 8 →
    ∃ u, exec (.readGroups h first count) s = .next u ∧
      (1 ≤ count ∧ count ≤ 64 ∧ first + count ≤ 64 → s.onlyReads u h (.readGroups first count) (s.groupsBody first count)) ∧
      (count = 0 ∨ 64 < count ∨ 64 < first + count → s.onlyReplied u h 0x0402 stBadValue [])) ∧
  (∀ (h : PktHead) (s : State) (first count : Nat), first < 2 ^ 5 → count < 2 ^ 6 →
    (s.ready h 0x0701 → ∃ u, exec (.readSafety h first count) s = .next u ∧
      (1 ≤ count ∧ count ≤ 32 ∧ first + count ≤ 32 → s.onlyReads u h (.readSafety first count) (s.safetyBody first count)) ∧
      (count = 0 ∨ 32 < count ∨ 32 < first + count → s.onlyReplied u h 0x0701 stBadValue [])) ∧
    (s.ready h 0x0704 → ∃ u, exec (.readDsc h first count) s = .next u ∧
      (1 ≤ count ∧ count ≤ 32 ∧ first + count ≤ 32 → s.onlyReads u h (.readDsc first count) (s.dscBody first count)) ∧
      (count = 0 ∨ 32 < count ∨ 32 < first + count → s.onlyReplied u h 0x0704 stBadValue []))) ∧
  (∀ (h : PktHead) (s : State) (obj : Nat), s.ready h 0x0A02 → obj < 512 → ∃ u, exec (.readCanobj h obj) s = .next u ∧
    s.onlyReads u h (.readCanobj obj) (s.canobjBody obj)) ∧
  (∀ (h : PktHead) (s : State) (ch addr count : Nat), s.ready h 0x0B01 → ch < 512 → addr < 2 ^ 4 → count < 2 ^ 5 →
    ∃ u, exec (.readHart h ch addr count) s = .next u ∧
      (1 ≤ count ∧ addr + count ≤ 16 ∧ chModemCell s.im ch ≠ 0 → s.onlyReads u h (.readHart ch addr count) (s.hartBody ch addr count)) ∧
      (count = 0 ∨ 16 < addr + count ∨ chModemCell s.im ch = 0 → s.onlyReplied u h 0x0B01 stBadValue [])) ∧
  (∀ (h : PktHead) (s : State) (cls ix off len : Nat), s.ready h 0x0201 → cls < 2 ^ 8 → ix < 2 ^ 16 → off < 2 ^ 16 → len < 2 ^ 16 →
    ∃ u, exec (.readObject h false cls ix off len) s = .next u ∧
      (objRangeOk cls ix off len = false → s.onlyReplied u h 0x0201 stBadValue []) ∧
      (objRangeOk cls ix off len = true → s.onlyReads u h (.readObject false cls ix off len) (s.objectBody false cls ix off len)))

/-! ## Packets: sessions and ownership (chapters 13 and 14) -/

/-- OPEN_SESSION and CLOSE_SESSION (R321). A new session takes its number from the open frame and the packet as its last
sequence number; a session that the port held before is closed, and a port that owned the node in it loses ownership. -/
def Obligations.SessionsOpenAndClose : Prop :=
  (∀ (h : PktHead) (s : State), s.mode = .running → s.unt.pair.role ≠ 2 → s.port.replayIn.within = false → h.port < 6 →
    s.ownerSteady = true → h.version = 1 → h.flags = 0 → h.status = 0 → h.session = 0 →
    ∃ u, exec (.openSession h) s = .next u ∧
      (u.sessOf (s.codeOf h.port)).id = sessionId s.fr.frameNo ∧ (u.sessOf (s.codeOf h.port)).lastSeq = h.seq ∧
      (u.sessOf (s.codeOf h.port)).lastOp = 0x0002 ∧ (∀ k, k ≠ s.codeOf h.port → u.sessOf k = s.sessOf k) ∧
      (u.port.owner.owner = if (s.sessOf (s.codeOf h.port)).id ≠ 0 ∧ s.port.owner.owner = some (s.codeOf h.port) then none
        else s.port.owner.owner) ∧
      (if s.phase = .complete then
        s.sent u h (s.replyTo h 0x0002 stOk (packBytes 4 [(16, sessionId s.fr.frameNo), (16, 8172)]))
      else u.port.pend.getLast? = some { code := s.codeOf h.port, ip := h.ip, udp := h.udp, session := 0, sid := sessionId s.fr.frameNo
                                         seq := h.seq, opcode := 0x0002, due := some s.fr.frameNo, op := .openSession
                                         done := some (stOk, packBytes 4 [(16, sessionId s.fr.frameNo), (16, 8172)]) }) ∧
      s.sameBut whatPackets u) ∧
  (∀ (h : PktHead) (s : State), s.ready h 0x0003 → tabWf (fun _ => ({} : Session)) s.port.sess = true →
    ∃ u, exec (.closeSession h) s = .next u ∧ u.sessOf (s.codeOf h.port) = {} ∧ (∀ k, k ≠ s.codeOf h.port → u.sessOf k = s.sessOf k) ∧
      (u.port.owner.owner = if s.port.owner.owner = some (s.codeOf h.port) then none else s.port.owner.owner) ∧
      (if s.phase = .complete then s.sent u h (s.replyTo h 0x0003 stOk [])
      else u.port.pend.getLast? = some { code := s.codeOf h.port, ip := h.ip, udp := h.udp, session := h.session, sid := h.session
                                         seq := h.seq, opcode := 0x0003, due := some s.fr.frameNo, op := .closeSession
                                         done := some (stOk, []) }) ∧
      s.sameBut whatPackets u)

/-- CLAIM by the ownership state it finds (R347): refused with CLAIM_EN = 0, answered at once while the node is owned, and
collected in the claim window, which it opens if need be, while ownership is vacant.

HANDOVER, ACCEPT and RELEASE (R352, R353, R355). An offer is refused when its code names no port, the owner itself or a port
with CLAIM_EN = 0; an ACCEPT needs an offer to its own port, with CLAIM_EN = 1 still; a RELEASE leaves ownership vacant. The staging image is copied
again after a change of owner, and a trace ends (R356). -/
def Obligations.OwnershipRequests : Prop :=
  (∀ (h : PktHead) (s : State), s.ready h 0x0101 → ∃ u, exec (.claim h) s = .next u ∧
    (poClaimEn s.im h.port = false → s.onlyReplied u h 0x0101 stBadValue [BitVec.ofNat 8 s.ownerCode]) ∧
    (poClaimEn s.im h.port = true → ∀ k, s.port.owner.owner = some k →
      s.onlyReplied u h 0x0101 (if k = s.codeOf h.port then stOk else stOwnerHeld) [BitVec.ofNat 8 k]) ∧
    (poClaimEn s.im h.port = true → s.port.owner.owner = none →
      s.waits u h .claim none none ∧
      u.port.owner = { s.port.owner with
        window := some (s.port.owner.window.getD s.fr.total), claims := s.port.owner.claims ++ [{ code := s.codeOf h.port }] } ∧
      s.sameBut (servingParts h) u)) ∧
  ((∀ (h : PktHead) (s : State) (target : Nat), s.ready h 0x0103 → target < 2 ^ 8 → ∃ u, exec (.handover h target) s = .next u ∧
    ((s.hasPort target = false ∨ target = s.codeOf h.port ∨ poClaimEn s.im (target % 8) = false) →
      s.onlyReplied u h 0x0103 stBadValue []) ∧
    (s.hasPort target = true → target ≠ s.codeOf h.port → poClaimEn s.im (target % 8) = true →
      s.replied u h 0x0103 stOk [] ∧ s.sameBut (servingParts h) u ∧ u.port.owner.owner = s.port.owner.owner ∧
      u.port.owner.lease = s.fr.total ∧ u.port.owner.offer = some (target, s.fr.total) ∧
      u.port.owner.ev.getLast? = some { code := 0x0D02, src := 0xFF, p1 := target, p2 := 1, p3 := 0 })) ∧
  (∀ (h : PktHead) (s : State), s.ready h 0x0104 → ∃ u, exec (.accept h) s = .next u ∧
    ((∀ t, s.port.owner.offer ≠ some (s.codeOf h.port, t)) ∨ poClaimEn s.im h.port = false → s.onlyReplied u h 0x0104 stNoHandover []) ∧
    (∀ t, s.port.owner.offer = some (s.codeOf h.port, t) → poClaimEn s.im h.port = true →
      u.port.owner.owner = some (s.codeOf h.port) ∧ u.port.owner.lease = s.fr.total ∧ u.port.owner.offer = none ∧
      u.port.owner.ev = s.port.owner.ev ++ [{ code := 0x0D01, src := 0xFF, p1 := s.codeOf h.port, p2 := s.ownerCode, p3 := 2 }] ∧
      u.cfg = { s.cfg with restage := true } ∧ u.port.trace = none ∧
      u.port.outbox.getLast? = some (s.replyTo h 0x0104 stOk []) ∧ (s.port.trace = none → s.replied u h 0x0104 stOk []) ∧
      s.sameBut whatPackets u)) ∧
  (∀ (h : PktHead) (s : State), s.ready h 0x0105 → ∃ u, exec (.release h) s = .next u ∧
    u.port.owner.owner = none ∧ u.port.owner.offer = none ∧ u.cfg = { s.cfg with restage := true } ∧ u.port.trace = none ∧
    { code := 0x0D01, src := 0xFF, p1 := 0xFF, p2 := s.codeOf h.port, p3 := 3 } ∈ u.port.owner.ev ∧
    u.port.outbox.getLast? = some (s.replyTo h 0x0105 stOk []) ∧ (s.port.trace = none → s.replied u h 0x0105 stOk []) ∧
    s.sameBut whatPackets u))

/-- R350. Every packet from the owner's port that passes steps 1 to 4 of R320 renews the lease with the open frame as reference, whatever
its opcode and its outcome, and so does a repeated packet that is answered with its stored reply; RENEW does this alone. (A packet that
ends the port's ownership leaves no lease to speak of.) -/
def Obligations.PacketsRenewTheLease : Prop :=
  (∀ (i : Instr) (h : PktHead) (op : Op) (torn : Bool) (s : State), packetOf i = some (h, op, torn) → i.wellFormed = true →
    opCode op ≠ 0x0002 → (opAlarm op = true → s.alm.next = 0) → s.mode = .running → s.unt.pair.role ≠ 2 → s.ownerSteady = true →
    h.version = 1 → h.flags = 0 → h.status = 0 → s.port.owner.owner = some (s.codeOf h.port) →
    let x := s.sessOf (s.codeOf h.port)
    x.id ≠ 0 → h.session = x.id → x.busy = false →
    (h.seq = (x.lastSeq + 1) % 2 ^ 32 ∨ h.seq = x.lastSeq ∧ opCode op = x.lastOp ∧ x.reply.isSome = true) →
    ∃ u, exec i s = .next u ∧ (u.port.owner.owner = some (s.codeOf h.port) → u.port.owner.lease = s.fr.total)) ∧
  (∀ (h : PktHead) (s : State), s.ready h 0x0102 → ∃ u, exec (.renew h) s = .next u ∧ s.replied u h 0x0102 stOk [] ∧
    u.port.owner = { s.port.owner with lease := s.fr.total } ∧ s.sameBut (servingParts h) u)

/-! ## Packets: the unit and its configuration (R328 to R335, R542 to R545) -/

/-- CLEAR_FRAME_STATUS (R72), WARM_RESTART (R501), TRACE_OPEN and TRACE_CLOSE (R69, R334), REPLAY_START (R70) and REPLAY_DATA
(R334). A warm restart becomes due only once its reply has left. -/
def Obligations.UnitRequests : Prop :=
  (∀ (h : PktHead) (s : State), s.ready h 0x0006 → ∃ u, exec (.clearFrameStatus h) s = .next u ∧
    s.repliedAt u h .clearFrameStatus s.fr.frameNo stOk [] ∧ u.fr = { s.fr with clr := true } ∧ s.served u h [.fr]) ∧
  (∀ (h : PktHead) (s : State), s.ready h 0x0007 → ∃ u, exec (.warmRestart h) s = .next u ∧
    s.repliedAt u h .warmRestart s.fr.frameNo stOk [] ∧
    u.unt.power = { s.unt.power with restartDue := if s.phase = .complete then true else s.unt.power.restartDue } ∧
    s.served u h [.power]) ∧
  (∀ (h : PktHead) (s : State), s.ready h 0x0008 → ∃ u, exec (.traceOpen h) s = .next u ∧
    (imTraceEn s.im = false → s.onlyReplied u h 0x0008 stTraceOff []) ∧
    (imTraceEn s.im = true → s.port.trace.isSome = true → s.onlyReplied u h 0x0008 stBusy []) ∧
    (imTraceEn s.im = true → s.port.trace = none →
      s.repliedAt u h .traceOpen s.fr.frameNo stOk (packBytes 6 [(48, s.fr.frameNo + 1)]) ∧
      u.port.trace = some { first := s.fr.frameNo + 1, last := s.fr.frameNo, segment := 0 } ∧ s.served u h [.trace])) ∧
  (∀ (h : PktHead) (s : State), s.ready h 0x0009 → ∃ u, exec (.traceClose h) s = .next u ∧
    s.repliedAt u h .traceClose s.fr.frameNo stOk (packBytes 6 [(48, (s.port.trace.map (·.last)).getD 0)]) ∧
    u.port.trace = none ∧ s.served u h [.trace]) ∧
  (∀ (h : PktHead) (s : State), s.ready h 0x000B → ∃ u, exec (.replayStart h) s = .next u ∧
    s.repliedAt u h .replayStart s.fr.frameNo stOk [] ∧ u.port.replay = true ∧ u.flagOn = false ∧
    (∀ k, u.restricted k = true) ∧ s.served u h [.replay]) ∧
  (∀ (h : PktHead) (s : State) (segment : Nat) (bytes : List Byte), s.ready h 0x000C → segment < 2 ^ 32 → bytes.length ≤ 8168 →
    ∃ u, exec (.replayData h segment bytes) s = .next u ∧
      (replayAdd s.fwCrc segment bytes s.port.replayIn = none → s.onlyReplied u h 0x000C stBadValue []) ∧
      (∀ r, replayAdd s.fwCrc segment bytes s.port.replayIn = some r →
        s.replied u h 0x000C stOk (toBytes 4 (s.replayHeld r)) ∧ u.port.replayIn = r ∧ s.served u h [.replayIn]))

/-- WRITE_OBJECT (R329), DISCARD (R330) and LOAD_IMAGE (R335) act on the staging image alone: masked bytes are written unless the
mask takes in a read-only bit, the staging image becomes a copy of the running one, or bytes are loaded with the read-only bits
kept. -/
def Obligations.StagingImage : Prop :=
  (∀ (h : PktHead) (s : State) (cls ix off len : Nat) (data mask : List Byte), s.ready h 0x0202 → cls < 2 ^ 8 → ix < 2 ^ 16 →
    off < 2 ^ 16 → len < 2 ^ 16 → data.length = len → mask.length = len →
    ∃ u, exec (.writeObject h cls ix off len data mask) s = .next u ∧
      (objRangeOk cls ix off len = false → s.onlyReplied u h 0x0202 stBadValue []) ∧
      (objRangeOk cls ix off len = true → masksRo (objOffset cls ix off) mask = true → s.onlyReplied u h 0x0202 stReadOnly []) ∧
      (objRangeOk cls ix off len = true → masksRo (objOffset cls ix off) mask = false →
        s.replied u h 0x0202 stOk [] ∧ u.cfg = { s.cfg with staging := imageWrite (objOffset cls ix off) data mask s.cfg.staging } ∧
        s.served u h [.staging])) ∧
  (∀ (h : PktHead) (s : State), s.ready h 0x0204 → ∃ u, exec (.discard h) s = .next u ∧ s.replied u h 0x0204 stOk [] ∧
    u.cfg = { s.cfg with staging := s.cfg.image } ∧ s.served u h [.staging]) ∧
  (∀ (h : PktHead) (s : State) (off : Nat) (data : List Byte), s.ready h 0x0207 → off < 2 ^ 32 → data.length ≤ 8168 →
    ∃ u, exec (.loadImage h off data) s = .next u ∧
      (imageLength < off + data.length → s.onlyReplied u h 0x0207 stBadValue []) ∧
      (off + data.length ≤ imageLength →
        s.replied u h 0x0207 stOk [] ∧
        u.cfg = { s.cfg with staging := imageWrite off data (List.replicate data.length 0xFF#8) s.cfg.staging } ∧
        s.served u h [.staging]))

/-- R92. A refused commit changes no running configuration field, no allocation, no output and no channel state: the first stage of R331
that finds a fault gives status and body of the reply, and beside its session the packet writes the record of the refusal alone. -/
def Obligations.RefusedCommitsChangeNothing : Prop :=
  ∀ (h : PktHead) (s : State) (st : Nat) (body : List Byte), s.ready h 0x0203 → commitCheck s.cfg.staging s.facts = some (st, body) →
    ∃ u, exec (.commit h) s = .next u ∧ s.replied u h 0x0203 st body ∧ u.cfg = s.cfg ∧ u.eng = s.eng ∧ u.blks = s.blks ∧ u.inp = s.inp ∧
      u.port.cfgEv = s.port.cfgEv ++ [{ code := 0x0302, src := s.codeOf h.port, p1 := st, p2 := (refusalParams st body).1
                                        p3 := (refusalParams st body).2 }] ∧ s.served u h [.cfgEv]

/-- COMMIT (R331) without a fault: a staging image with the running settings is accepted unchanged; any other becomes the configuration
of the next strobe, with its read-only fields written. The running image stays in force until then.

CONFIRM (R545): a value other than the safety CRC in force is refused with SAFETY_CRC; the value already confirmed is
acknowledged; the safety CRC becomes CONFIRMED, and a store of the running image starts. -/
def Obligations.ConfigurationRequests : Prop :=
  (∀ (h : PktHead) (s : State), s.ready h 0x0203 → commitCheck s.cfg.staging s.facts = none →
    ∃ u, exec (.commit h) s = .next u ∧ u.cfg.image = s.cfg.image ∧ u.cfg.staging = s.cfg.staging ∧
    (sameSettings s.cfg.staging s.im = true →
      s.repliedAt u h .commit (s.fr.frameNo + 1) stOk (commitBody s.cfg.hdr.cfgCrc s.cfg.hdr.safeCrc (s.fr.frameNo + 1) false) ∧
      u.cfg = { s.cfg with restage := true } ∧ s.served u h [.restage]) ∧
    (sameSettings s.cfg.staging s.im = false →
      let new := finishImage s.cfg.staging s.serialBcd
      s.repliedAt u h .commit (s.fr.frameNo + 1) stOk (commitBody (configCrc new) (safetyCrc new) (s.fr.frameNo + 1) true) ∧
      u.cfg = { s.cfg with
        next := some { image := new, cfgCrc := configCrc new, safeCrc := safetyCrc new, source := s.codeOf h.port } } ∧
      s.served u h [.nextCfg])) ∧
  (∀ (h : PktHead) (s : State) (crc : Nat), s.ready h 0x0703 → crc < 2 ^ 32 → ∃ u, exec (.confirm h crc) s = .next u ∧
    (crc ≠ s.cfg.hdr.safeCrc → s.replied u h 0x0703 stSafetyCrc [] ∧ u.cfg = s.cfg ∧
      u.port.cfgEv = s.port.cfgEv ++ [{ code := 0x0304, src := s.codeOf h.port, p1 := crc, p2 := s.cfg.hdr.safeCrc }] ∧
      s.served u h [.cfgEv]) ∧
    (crc = s.cfg.hdr.safeCrc → s.cfg.hdr.confirmed = crc →
      s.repliedAt u h (.confirm crc) s.fr.frameNo stOk [] ∧ s.served u h []) ∧
    (crc = s.cfg.hdr.safeCrc → s.cfg.hdr.confirmed ≠ crc →
      s.repliedAt u h (.confirm crc) s.fr.frameNo stOk [] ∧ u.cfg.hdr.confirmed = crc ∧ u.cfg.store.isSome = true ∧
      u.cfg.image = s.cfg.image ∧
      u.port.cfgEv = s.port.cfgEv ++ [{ code := 0x0303, src := s.codeOf h.port, p1 := crc, p2 := s.cfg.hdr.confirmed }] ∧
      s.served u h [.recd, .cfgEv, .hdr, .slotA, .slotB, .store]))

/-! ## Packets: channels, alarms and the engineer call (R136 to R199, R268, R284) -/

/-- WRITE_DO (R186), WRITE_AO (R165) and CLEAR_TOTAL (R199): the host value or the request is noted for the open frame, unless the
channel has another mode or another source. No other channel and no other engine table is written. -/
def Obligations.ChannelWrites : Prop :=
  (∀ (h : PktHead) (s : State) (ch : Nat) (st : Bool), s.ready h 0x0304 → ch < 512 → ∃ u, exec (.writeDo h ch st) s = .next u ∧
    ((chMode s.im ch ≠ 8 ∨ outNamed s.im ch = true) → s.onlyReplied u h 0x0304 stBadValue []) ∧
    (chMode s.im ch = 8 → outNamed s.im ch = false →
      s.repliedAt u h (.writeDo ch st) s.fr.frameNo stOk [] ∧
      u.eng = { s.eng with dout := tabMod {} s.eng.dout ch fun d => { d with host := st } } ∧ s.served u h [.eng])) ∧
  (∀ (h : PktHead) (s : State) (ch : Nat) (v : Int), s.ready h 0x0305 → ch < 512 → -2147483648 ≤ v → v < 2147483648 →
    ∃ u, exec (.writeAo h ch v) s = .next u ∧
      ((chMode s.im ch ≠ 6 ∨ aoSrc s.im ch = 1) → s.onlyReplied u h 0x0305 stBadValue []) ∧
      (chMode s.im ch = 6 → aoSrc s.im ch ≠ 1 →
        s.repliedAt u h (.writeAo ch v) s.fr.frameNo stOk [] ∧
        u.eng = { s.eng with ao := tabMod {} s.eng.ao ch fun a => { a with host := some v } } ∧ s.served u h [.eng])) ∧
  (∀ (h : PktHead) (s : State) (ch : Nat), s.ready h 0x0308 → ch < 512 → ∃ u, exec (.clearTotal h ch) s = .next u ∧
    (chMode s.im ch ≠ 9 → s.onlyReplied u h 0x0308 stBadValue []) ∧
    (chMode s.im ch = 9 → s.repliedAt u h (.clearTotal ch) s.fr.frameNo stOk [] ∧
      u.eng = { s.eng with clear := setBit s.eng.clear ch true } ∧ s.served u h [.eng]))

/-- TRIM_ZERO and TRIM_SPAN (R140, R141): refused for a channel that is no analog input or the second of a pair, for a channel of a
safety function, and while another trim runs; otherwise the trim starts with the open frame, and its reply waits for its end. -/
def Obligations.TrimsStart : Prop :=
  ∀ (h : PktHead) (s : State) (ch : Nat) (ref : Int) (span : Bool),
    s.ready h (if span then 0x0307 else 0x0306) → ch < 512 → -2147483648 ≤ ref → ref < 2147483648 →
    ∃ u, exec (if span then .trimSpan h ch ref else .trimZero h ch ref) s = .next u ∧
      ((isAnalogIn (chMode s.im ch) = false ∨ isPairedPart s.im ch = true) →
        s.onlyReplied u h (if span then 0x0307 else 0x0306) stBadValue []) ∧
      (isAnalogIn (chMode s.im ch) = true → isPairedPart s.im ch = false → chSafeOwned s.im ch = true →
        s.onlyReplied u h (if span then 0x0307 else 0x0306) stSafeOwned []) ∧
      (isAnalogIn (chMode s.im ch) = true → isPairedPart s.im ch = false → chSafeOwned s.im ch = false → s.cfg.trims ≠ [] →
        s.onlyReplied u h (if span then 0x0307 else 0x0306) stBusy []) ∧
      (isAnalogIn (chMode s.im ch) = true → isPairedPart s.im ch = false → chSafeOwned s.im ch = false → s.cfg.trims = [] →
        s.waits u h (if span then .trimSpan ch ref else .trimZero ch ref) none none ∧
        u.cfg = { s.cfg with trims := [{ ch := ch, span := span, ref := ref, frame := s.fr.frameNo, port := s.codeOf h.port }] } ∧
        s.served u h [.trims])

/-- SHELVE, UNSHELVE, REMOVE and RETURN (R268): BAD_VALUE comes first, then ALM_NOT_ALLOWED, then ALM_STATE; a request that none of
these refuses moves the point as the table of R268 says, and no other point.

ACK from location 0 (R268): one point that its ACK_LOC allows, a group, or all points; the reply counts the points changed, and a
point changes from ACTIVE_UNACK to ACTIVE_ACK or from RETURN_UNACK to NORMAL only. SELECT_DUTY (R284) names an enabled cabin
station, or none with FFh, and becomes a request of the open frame. A request on a point that comes once the points of the frame are
evaluated (R267) waits for the next frame, as log 70 reads it. -/
def Obligations.AlarmRequests : Prop :=
  ((∀ (h : PktHead) (s : State) (p d : Nat), s.ready h 0x0404 → s.alm.next = 0 → p < 2048 → d < 2048 → ∃ u, exec (.shelve h p d) s = .next u ∧
    let a : AlmPt := tabGet {} s.alm.pts p
    ((alEn s.im p = false ∨ d = 0 ∨ 1440 < d) → s.onlyReplied u h 0x0404 stBadValue []) ∧
    (alEn s.im p = true → 1 ≤ d → d ≤ 1440 → (alShelveOk s.im p = false ∨ alShelveMax s.im p < d) →
      s.onlyReplied u h 0x0404 stAlmNotAllowed []) ∧
    (alEn s.im p = true → 1 ≤ d → d ≤ 1440 → alShelveOk s.im p = true → d ≤ alShelveMax s.im p →
      (a.state = almSuppressed ∨ a.state = almOut) → s.onlyReplied u h 0x0404 stAlmState []) ∧
    (alEn s.im p = true → 1 ≤ d → d ≤ 1440 → alShelveOk s.im p = true → d ≤ alShelveMax s.im p → a.state ≠ almSuppressed →
      a.state ≠ almOut → s.repliedAt u h (.shelve p d) s.fr.frameNo stOk [] ∧ s.served u h [.alm] ∧
      u.alm = { s.alm with 
        pts := tabSet {} s.alm.pts p { a with
          state := almShelved, shelf := framesOf s.P (msC (60000 * d)), loaded := true, trig := a.trig ||| 4 } })) ∧
  (∀ (h : PktHead) (s : State) (p : Nat), s.ready h 0x0405 → s.alm.next = 0 → p < 2048 → ∃ u, exec (.unshelve h p) s = .next u ∧
    let a : AlmPt := tabGet {} s.alm.pts p
    (alEn s.im p = false → s.onlyReplied u h 0x0405 stBadValue []) ∧
    (alEn s.im p = true → a.state ≠ almShelved → s.onlyReplied u h 0x0405 stAlmState []) ∧
    (alEn s.im p = true → a.state = almShelved → s.repliedAt u h (.unshelve p) s.fr.frameNo stOk [] ∧ s.served u h [.alm] ∧
      u.alm = { s.alm with pts := tabSet {} s.alm.pts p { a with state := almNormal, shelf := 0, trig := a.trig ||| 8 } })) ∧
  (∀ (h : PktHead) (s : State) (p : Nat), s.ready h 0x0406 → s.alm.next = 0 → p < 2048 → ∃ u, exec (.remove h p) s = .next u ∧
    let a : AlmPt := tabGet {} s.alm.pts p
    (alEn s.im p = false → s.onlyReplied u h 0x0406 stBadValue []) ∧
    (alEn s.im p = true → alLogic s.im p = true → s.onlyReplied u h 0x0406 stAlmNotAllowed []) ∧
    (alEn s.im p = true → alLogic s.im p = false → s.repliedAt u h (.remove p) s.fr.frameNo stOk [] ∧ s.served u h [.alm] ∧
      u.alm = { s.alm with pts := tabSet {} s.alm.pts p { a with state := almOut, shelf := 0, trig := a.trig ||| 128 } })) ∧
  (∀ (h : PktHead) (s : State) (p : Nat), s.ready h 0x0407 → s.alm.next = 0 → p < 2048 → ∃ u, exec (.return_ h p) s = .next u ∧
    let a : AlmPt := tabGet {} s.alm.pts p
    (alEn s.im p = false → s.onlyReplied u h 0x0407 stBadValue []) ∧
    (alEn s.im p = true → a.state ≠ almOut → s.onlyReplied u h 0x0407 stAlmState []) ∧
    (alEn s.im p = true → a.state = almOut → s.repliedAt u h (.return_ p) s.fr.frameNo stOk [] ∧ s.served u h [.alm] ∧
      u.alm = { s.alm with pts := tabSet {} s.alm.pts p { a with state := almNormal, trig := a.trig ||| 256 } }))) ∧
  ((∀ (h : PktHead) (s : State) (scope target : Nat), s.ready h 0x0403 → s.alm.next = 0 → scope < 4 → target < 2048 →
    ∃ u, exec (.ack h scope target) s = .next u ∧
      (((scope = 0 ∧ alEn s.im target = false) ∨ (scope = 1 ∧ 64 ≤ target) ∨ scope = 3) → s.onlyReplied u h 0x0403 stBadValue []) ∧
      (scope = 0 → alEn s.im target = true → ackAllowed s.im 0 target = false → s.onlyReplied u h 0x0403 stAlmNotAllowed []) ∧
      (∀ ps, ((scope = 0 ∧ ackAllowed s.im 0 target = true ∧ ps = [target]) ∨
          (scope = 1 ∧ target < 64 ∧ ps = ackScope s.im 0 (some target)) ∨ (scope = 2 ∧ ps = ackScope s.im 0 none)) →
        s.repliedAt u h (.ack scope target) s.fr.frameNo stOk (packBytes 2 [(16, (ackAll 0 ps s.alm.pts).2)]) ∧
        u.alm = { s.alm with pts := (ackAll 0 ps s.alm.pts).1 } ∧ s.served u h [.alm])) ∧
  (∀ a : AlmPt, (a.state = almUnack → (ackPoint 0 a).1.state = almAck) ∧ (a.state = almReturn → (ackPoint 0 a).1.state = almNormal) ∧
    (a.state ≠ almUnack → a.state ≠ almReturn → ackPoint 0 a = (a, false))) ∧
  (∀ (h : PktHead) (s : State) (k : Nat), s.ready h 0x0409 → k < 2 ^ 8 → ∃ u, exec (.selectDuty h k) s = .next u ∧
    (k ≠ 0xFF → isCabin s.im k = false → s.onlyReplied u h 0x0409 stBadValue []) ∧
    ((k = 0xFF ∨ isCabin s.im k = true) → s.repliedAt u h (.selectDuty k) s.fr.frameNo stOk [] ∧ s.served u h [.alm] ∧
      u.alm = { s.alm with call := { s.alm.call with reqs := s.alm.call.reqs ++ [{ loc := 0, req := 4, arg := k }] } })) ∧
  (∀ (i : Instr) (h : PktHead) (op : Op) (torn : Bool) (s : State), packetOf i = some (h, op, torn) → i.wellFormed = true → opAlarm op = true →
    s.mode = .running → s.unt.pair.role ≠ 2 → s.alm.next ≠ 0 →
    exec i s = .next { s with alm := { s.alm with waiting := s.alm.waiting ++ [(h, op)] } }))

/-! ## Packets: clock, safety, pair, diagnostics and CAN (R219, R250, R338 to R340, R394, R436, R438, R450 to R463) -/

/-- STAGE_TIME, COMMIT_TIME, SET_WEEKDAY, WRITE_BACKUP and READ_TIME (R450 to R463). A staging set with a reserved bit set is refused;
a staging set that is no date and time is refused with BAD_DATE and stays; a weekday above 6 and a range past byte 127 are refused.
A torn read of the time records 0C14h with its three attempts. While the Twilight interface is locked none of them has an effect, and
no reply is sent (R445, as log 74 reads it). -/
def Obligations.ClockRequests : Prop :=
  (∀ (h : PktHead) (s : State) (torn : Bool), s.ready h 0x0601 → ∃ u, exec (.readTime h torn) s = .next u ∧
    (s.twi.locked = false → s.replied u h 0x0601 stOk (toBytes 16 (timeBlock s.now torn s.twi)) ∧ u.twi = s.twi ∧
      u.recd = (if torn then s.unitEvs [{ code := 0x0C14, p1 := 3 }] else s).recd ∧ s.served u h [.recd]) ∧
    (s.twi.locked = true → s.waits u h .readTime none none ∧ s.served u h [])) ∧
  (∀ (h : PktHead) (s : State) (set : List Byte), s.ready h 0x0602 → set.length = 12 → ∃ u, exec (.stageTime h set) s = .next u ∧
    (stReserved (ofBytes set) = true → s.onlyReplied u h 0x0602 stBadValue []) ∧
    (stReserved (ofBytes set) = false → s.twi.locked = false → s.replied u h 0x0602 stOk [] ∧ s.served u h [.twi] ∧
      u.twi = { s.twi with stage := ofBytes set % 2 ^ 96 }) ∧
    (stReserved (ofBytes set) = false → s.twi.locked = true → s.waits u h (.stageTime set) none none ∧ s.served u h [])) ∧
  (∀ (h : PktHead) (s : State), s.ready h 0x0603 → ∃ u, exec (.commitTime h) s = .next u ∧
    (stValid s.twi.stage = false → s.onlyReplied u h 0x0603 stBadDate []) ∧
    (stValid s.twi.stage = true → s.twi.locked = false → s.repliedAt u h .commitTime s.fr.frameNo stOk [] ∧
      s.served u h [.recd, .twi] ∧ u.twi = timeCommit s.now s.twi) ∧
    (stValid s.twi.stage = true → s.twi.locked = true → s.waits u h .commitTime none none ∧ s.served u h [])) ∧
  (∀ (h : PktHead) (s : State) (w : Nat), s.ready h 0x0604 → w < 8 → ∃ u, exec (.setWeekday h w) s = .next u ∧
    (6 < w → s.onlyReplied u h 0x0604 stBadValue []) ∧
    (w ≤ 6 → s.twi.locked = false → s.repliedAt u h (.setWeekday w) s.fr.frameNo stOk [] ∧ s.served u h [.twi] ∧
      u.twi = { s.twi with wday := w, wdayAt := some s.now }) ∧
    (w ≤ 6 → s.twi.locked = true → s.waits u h (.setWeekday w) none none ∧ s.served u h [])) ∧
  (∀ (h : PktHead) (s : State) (off len : Nat) (data : List Byte), s.ready h 0x0606 → off < 128 → len < 2 ^ 8 → data.length = len →
    ∃ u, exec (.writeBackup h off len data) s = .next u ∧
      (128 < off + len → s.onlyReplied u h 0x0606 stBadValue []) ∧
      (off + len ≤ 128 → s.twi.locked = false → s.replied u h 0x0606 stOk [] ∧ s.served u h [.twi] ∧
        u.twi = bramCommit (fillBuffer off data s.twi)) ∧
      (off + len ≤ 128 → s.twi.locked = true → s.waits u h (.writeBackup off len data) none none ∧ s.served u h []))

/-- SAFETY_RESET (R219) and DSC_RESET (R250) note a reset of one function or connection for the open frame. RESYNC (R438) and
SWITCHOVER (R436) start only when their conditions hold, and get PARTNER_UNSYNC otherwise.

CLEAR_COUNTERS (R340) clears the diagnostic counters and the held bits of the summary and nothing else of the unit's condition;
WRITE_CANOBJ (R394) notes a load of an enabled transmit object that no configuration object sources, and refuses any other object
and any other length with BAD_VALUE. -/
def Obligations.SafetyPairAndDiagnosticRequests : Prop :=
  ((∀ (h : PktHead) (s : State) (f : Nat), s.ready h 0x0702 → f < 32 → ∃ u, exec (.safetyReset h f) s = .next u ∧
    s.repliedAt u h (.safetyReset f) s.fr.frameNo stOk [] ∧ s.served u h [.safety] ∧
    u.safe = { s.safe with resets := tabMod 0 s.safe.resets f fun m => setBit m 0 true }) ∧
  (∀ (h : PktHead) (s : State) (i : Nat), s.ready h 0x0705 → i < 32 → ∃ u, exec (.dscReset h i) s = .next u ∧
    s.repliedAt u h (.dscReset i) s.fr.frameNo stOk [] ∧ s.served u h [.safety] ∧
    u.safe = { s.safe with dscResets := setBit s.safe.dscResets i true }) ∧
  (∀ (h : PktHead) (s : State), s.ready h 0x0802 → ∃ u, exec (.resync h) s = .next u ∧
    (s.resyncReady = true → s.repliedAt u h .resync s.fr.frameNo stOk [] ∧ s.served u h [.recd, .pair] ∧ u.unt.pair.sync = 1 ∧
      u.unt.pair.attempt = s.unt.pair.attempt + 1 ∧ u.unt.pair.agreed = 0 ∧ u.unt.pair.role = s.unt.pair.role) ∧
    (s.resyncReady = false → s.repliedAt u h .resync s.fr.frameNo stPartnerUnsync [] ∧ s.served u h [])) ∧
  (∀ (h : PktHead) (s : State), s.ready h 0x0803 → ∃ u, exec (.switchover h) s = .next u ∧
    (s.switchoverReady = true → s.repliedAt u h .switchover (s.fr.frameNo + 1) stOk [] ∧ s.served u h [.pair] ∧
      u.unt.pair = { s.unt.pair with switchAt := some s.fr.frameNo }) ∧
    (s.switchoverReady = false → s.onlyReplied u h 0x0803 stPartnerUnsync []))) ∧
  ((∀ (h : PktHead) (s : State), s.ready h 0x0903 → ∃ u, exec (.clearCounters h) s = .next u ∧ s.replied u h 0x0903 stOk [] ∧
    s.served u h [.blks, .mem, .mdiag, .regs] ∧
    u.unt.mdiag = { s.unt.mdiag with
      lockstep := false, memUncorr := false, memCollide := false, memMarch := false, collide := 0, nPoisoned := 0 } ∧
    u.unt.mem = tabMap {} (fun _ m => { m with corr := 0, uncorr := 0, marchFail := 0, wear := false }) s.unt.mem ∧
    u.unt.regs = tabMap {} (fun _ r => { r with upErrs := 0, hartFail := 0, hznSeq := 0 }) s.unt.regs ∧
    u.blks.out = s.blks.out ∧ u.blks.dig = s.blks.dig ∧ u.blks.loop = s.blks.loop ∧ u.blks.blk = s.blks.blk) ∧
  (∀ (h : PktHead) (s : State) (obj : Nat) (data : List Byte), s.ready h 0x0A03 → obj < 512 → data.length ≤ 8170 →
    ∃ u, exec (.writeCanobj h obj data) s = .next u ∧
      ((coEn s.im obj = false ∨ coTx s.im obj = false ∨ objNamedTx s.im obj = true ∨ data.length ≠ coSize s.im obj) →
        s.onlyReplied u h 0x0A03 stBadValue []) ∧
      (coEn s.im obj = true → coTx s.im obj = true → objNamedTx s.im obj = false → data.length = coSize s.im obj →
        s.repliedAt u h (.writeCanobj obj data) s.fr.frameNo stOk [] ∧ u.can.loads = s.can.loads ++ [(obj, data)] ∧
        u.can.objs = s.can.objs ∧ s.served u h [])))

/-! ## Frames (R37 to R65, R215, R477) -/

/-- FRAME_STROBE (R45, R48 to R50, R53, R331). On a unit that issues its own strobes, once the frame is complete and its target has
passed, the next frame opens at the instant the target gave: its number, the length and lag of the frame before and the marks of
its record follow. A configuration accepted before takes effect, and inputs stamped at or after the strobe wait. (The strobe at
which a replay takes over its snapshot, R69, is not meant: the snapshot then gives the numbers.) -/
def Obligations.StrobeOpensTheNextFrame : Prop :=
  ∀ (t : Nat) (s : State), s.mode = .running → s.phase = .complete → s.strobesItself = true → s.strobeDue ≤ t →
    (s.port.replay = false ∨ s.port.replayIn.begun = true) →
    let len := s.strobeDue - s.fr.strobeAt
    ∃ u, exec (.frameStrobe t) s = .next u ∧ u.phase = .gather ∧ u.fr.frameNo = s.fr.frameNo + 1 ∧ u.fr.strobeAt = s.strobeDue ∧
      s.fr.doneAt ≤ u.fr.strobeAt ∧ u.fr.prevLen = len ∧ u.fr.total = s.fr.total + len ∧
      u.fr.lag = min 0xFFFFFFFF (s.fr.lag + len - s.P) ∧ u.fr.stretched = decide (s.P < len) ∧ u.fr.shortened = decide (len < s.P) ∧
      u.fr.longRec = s.fr.longNow ∧ u.fr.longNow = false ∧
      u.cfg.next = none ∧ u.cfg.image = (match s.cfg.next with
        | some nx => nx.image
        | none => s.cfg.image) ∧
      (s.cfg.restage = true → u.cfg.staging = u.cfg.image) ∧
      u.inp.gather = s.inp.gather.filter (fun e => decide (s.strobeDue ≤ e.stamp)) ∧
      (s.unt.pair.hot ≠ some (s.fr.frameNo + 1) → u.inp.arrived = 0 ∧ u.inp.stale = 0) ∧
      u.eng.res = [] ∧ u.eng.ends = 0 ∧ u.eng.poison = 0

/-- FRAME_EVALUATION_START (R59, R62, R196). Once the inputs of the frame are there, the engines evaluate it. Engines 0 and 1 of each
region post END unless they withhold it, and a DI channel has the result of its record. -/
def Obligations.EvaluationStarts : Prop :=
  ∀ (t held : Nat) (s : State), s.mode = .running → s.phase = .gather → s.idleStandby = false → s.inputsIn = true →
    ∃ u, exec (.frameEvaluationStart t held) s = .next u ∧ u.phase = .evaluate ∧
      (∀ e < 16, u.eng.silentHold.testBit e = held.testBit e) ∧
      (∀ g < 4, ∀ j < 2, u.eng.ends.testBit (4 * g + j) = (s.eng.ends.testBit (4 * g + j) || !held.testBit (4 * g + j))) ∧
      (s.port.replay = false → u.fr.frameNo = s.fr.frameNo ∧ u.fr.strobeAt = s.fr.strobeAt ∧
        ∀ c < 512, chMode s.im c = 7 → chPairFn s.im (c - c % 2) ≠ 2 →
          tabGet 0#128 u.eng.res c = (diEval c (s.recOf c) (s.staleOf c) (tabGet {} s.eng.di c)).res)

/-- NIMBUS_EXCHANGE and DISCREPANCY_FAULT (R215, R221). At the barrier of a region the pair runs passes 2 and 3: every function of the
region takes the state that pass 2 gives it, every connection is evaluated, and both engines post END. Functions of the other
regions stand. A function whose discrepancy counter has run out goes to FAULT with cause 01h or 06h. -/
def Obligations.NimbusPairs : Prop :=
  (∀ (t g : Nat) (s : State), g < 4 → s.atBarrier g = true →
    ∃ u, exec (.nimbusExchange t g) s = .next u ∧ u.safe.passed.testBit g = true ∧
      u.eng.ends.testBit (4 * g + 2) = true ∧ u.eng.ends.testBit (4 * g + 3) = true ∧
      (∀ j < 8, u.safe.doneFn.testBit (8 * g + j) = true ∧ u.safe.doneDsc.testBit (8 * g + j) = true) ∧
      (∀ j < 8, s.safe.doneFn.testBit (8 * g + j) = false →
        (u.fnA (8 * g + j)).state = (safePass2 s.im (8 * g + j) (s.safeCtx (8 * g + j)) (tabGet {} s.safe.exA (8 * g + j))
          (tabGet {} s.safe.exB (8 * g + j)) (s.fnA (8 * g + j))).1.state ∧
        (u.fnB (8 * g + j)).state = (safePass2 s.im (8 * g + j) (s.safeCtx (8 * g + j)) (tabGet {} s.safe.exA (8 * g + j))
          (tabGet {} s.safe.exB (8 * g + j)) (s.fnB (8 * g + j))).1.state) ∧
      (∀ f, f / 8 ≠ g → u.fnA f = s.fnA f ∧ u.fnB f = s.fnB f)) ∧
  (∀ (t f : Nat) (s : State), f < 32 → s.atBarrier (f / 8) = true → s.safe.doneFn.testBit f = false → s.discFaults f = true →
    ∃ u, exec (.discrepancyFault t f) s = .next u ∧ (u.fnA f).state = sfFault ∧ ((u.fnA f).cause = 1 ∨ (u.fnA f).cause = 6) ∧
      u.safe.doneFn.testBit f = true ∧ ∀ k, k ≠ f → u.fnA k = s.fnA k ∧ u.fnB k = s.fnB k)

/-- DSC_WATCHDOG_EXPIRY (R248), DSC_FAILSAFE_RECOVERY (R250), DSC_REPEAT (R240) and DSC_ERR_DECAY (R247). When the connection's
evaluation in the open frame brings the happening about, the connection takes that outcome, no other connection changes, and the
connection is not evaluated again in the frame. -/
def Obligations.ConnectionTimers : Prop :=
  ∀ (t i : Nat) (s : State), i < 32 → s.atBarrier (i / 8) = true → s.safe.doneDsc.testBit i = false →
    let a : Dsc := tabGet {} s.safe.dscA i
    let b : Dsc := ((s.fnPasses (i / 8)).dscEvalA s i).1
    let done (u : State) : Prop := tabGet {} u.safe.dscA i = b ∧ u.safe.doneDsc.testBit i = true ∧
      (∀ k, k ≠ i → tabGet {} u.safe.dscA k = tabGet {} s.safe.dscA k ∧ tabGet {} u.safe.dscB k = tabGet {} s.safe.dscB k) ∧
      u.safe.fnA = s.safe.fnA ∧ u.safe.fnB = s.safe.fnB
    (a.state ≠ dscFailsafe → b.state = dscFailsafe → b.cause = 1 → ∃ u, exec (.dscWatchdogExpiry t i) s = .next u ∧ done u) ∧
    (a.state = dscFailsafe → b.state = dscConnecting → ∃ u, exec (.dscFailsafeRecovery t i) s = .next u ∧ done u) ∧
    (dscSlave s.im i = false → b.pdu.isSome = true → a.state = b.state → dscCycle s.im i ≤ a.sinceTx + 1 →
      ∃ u, exec (.dscRepeat t i) s = .next u ∧ done u) ∧
    ((dscElapse s.fr.prevLen a).errCnt < a.errCnt → ∃ u, exec (.dscErrDecay t i) s = .next u ∧ done u)

/-- HORIZON_POSTING (R60 to R64). A posting of the open frame enters the slot that its header fixes, and its POISON bit poisons its
engine. The slots of the engine that serves the channel or the function are those that the result image takes; a posting to any other
slot changes nothing else. One with another FRAME_LO is rejected whenever it comes: 1111h is recorded, the engine is poisoned, and no
slot changes. -/
def Obligations.PostingsEnterTheirSlots : Prop :=
  ∀ (t : Nat) (p : Posting) (s : State), p.fits = true → s.mode = .running → s.idleStandby = false →
    let e := postEngine p
    let g := if p.poison then (s.poison e 1).eng else s.eng
    let stray : Host.Outcome State Fault Refusal := .next { s.tick t with eng := { g with stray := tabSet .fin g.stray (straySlot p) p.body } }
    (p.frameLo ≠ s.fr.frameNo % 65536 → ∃ u, exec (.horizonPosting t p) s = .next u ∧
      (u.regOf p.region).hznSeq.testBit p.engine = true ∧ u.eng = (s.poison e 3).eng ∧ u.safe = s.safe ∧
      (s.phase ≠ .complete → u.recd = ((s.tick t).unitEvs
        [{ code := 0x1111, src := e, p1 := s.fr.frameNo % 65536, p2 := p.frameLo, p3 := p.item + p.kind * 65536 }]).recd)) ∧
    (p.frameLo = s.fr.frameNo % 65536 → s.phase = .evaluate →
      (∀ r, p.body = .result r → exec (.horizonPosting t p) s =
        if s.serves p then .next { s.tick t with eng := { g with res := tabSet 0#128 g.res p.item r } } else stray) ∧
      (∀ on, p.body = .doState on → exec (.horizonPosting t p) s =
        if s.serves p then .next { s.tick t with eng := { g with out := { g.out with dos := setBit g.out.dos p.item on } } } else stray) ∧
      (∀ i, p.body = .current i → exec (.horizonPosting t p) s =
        if s.serves p then .next { s.tick t with eng := { g with out := { g.out with aos := tabSet 0 g.out.aos p.item i } } } else stray) ∧
      (∀ r, p.body = .safety r → exec (.horizonPosting t p) s =
        if p.item / 8 ≠ p.region ∨ p.engine < 2 then stray
        else if p.engine = 3 then .next { s.tick t with eng := g, safe := { s.safe with resB := tabSet 0#128 s.safe.resB p.item r } }
        else .next { s.tick t with eng := g, safe := { s.safe with resA := tabSet 0#128 s.safe.resA p.item r } }) ∧
      (∀ code src p1 p2 p3, p.body = .event code src p1 p2 p3 → exec (.horizonPosting t p) s = .next { s.tick t with eng :=
        { g with ev := tabSet none g.ev (evSlot e p.item) (some { code := code, src := src, p1 := p1, p2 := p2, p3 := p3 }) } }) ∧
      (∀ w, p.body = .words w → exec (.horizonPosting t p) s = stray) ∧
      (p.body = .fin → (p.engine < 2 ∨ s.safe.passed.testBit p.region = true) →
        ∃ u, exec (.horizonPosting t p) s = .next u ∧ u.eng = { g with ends := setBit g.ends e true, silentHold := setBit g.silentHold e false } ∧
          (u.regOf p.region).silent.testBit p.engine = false) ∧
      (p.body = .fin → 2 ≤ p.engine → s.safe.passed.testBit p.region = false →
        exec (.horizonPosting t p) s = .next { s.tick t with eng := { g with silentHold := setBit g.silentHold e false } }))

/-- FRAME_CLOSE (R37, R62, R394, R475, R477). With END from all 16 engines the frame completes: readers see its results, its output image
enters the shadows of the blocks (a cell that is sent a no-update symbol keeps its own), the loads of the frame enter message RAM, and
no event or due reply of the frame is left. Outputs of a poisoned source keep their commands of the frame before, and a poisoned frame
is counted. -/
def Obligations.FrameCloses : Prop :=
  ∀ (t : Nat) (late : Bool) (s : State), s.zenithReady = true →
    ∃ u, exec (.frameClose ⟨t, late⟩) s = .next u ∧ u.phase = .complete ∧ u.fr.doneAt = t ∧ u.fr.frameNo = s.fr.frameNo ∧
      u.fr.strobeAt = s.fr.strobeAt ∧ u.cfg.image = s.cfg.image ∧
      u.shown.frame = s.fr.frameNo ∧ u.shown.image = s.cfg.image ∧ u.shown.res = u.eng.res ∧ u.shown.points = u.alm.pts ∧
      u.shown.safe = s.safe.resA ∧ u.safe = s.safe ∧
      u.eng.outWas = u.eng.out ∧ u.eng.shadow = shadowAfter s.eng.noUpd s.eng.shadow u.eng.out ∧ u.eng.noUpd = 0 ∧ u.can.loads = [] ∧
      u.port.cfgEv = [] ∧ u.port.rtcEv = [] ∧ u.port.owner.ev = [] ∧
      (∀ p ∈ u.port.pend, ∀ n, p.due = some n → s.fr.frameNo < n) ∧
      (∀ c < 512, s.eng.poison.testBit (s.outSource c) = true →
        (chMode s.im c = 8 → u.eng.out.dos.testBit c = s.eng.outWas.dos.testBit c) ∧
        (chMode s.im c = 6 → tabGet 0 u.eng.out.aos c = tabGet 0 s.eng.outWas.aos c)) ∧
      u.unt.mdiag.nPoisoned = (if s.eng.poison = 0 then s.unt.mdiag.nPoisoned else satN 16 (s.unt.mdiag.nPoisoned + 1))

/-- FRAME_LONG (R47). A frame not complete 1.5 P after its strobe raises the diagnostic and the event, and stays open as it is, so
that it still completes; and every frame opens at an instant not before the completion of the frame before. -/
def Obligations.LongFramesAreReported : Prop :=
  (∀ (t : Nat) (s : State), s.mode = .running → s.phase ≠ .complete → s.fr.longNow = false → 2 * s.fr.strobeAt + 3 * s.P ≤ 2 * t →
    ∃ u, exec (.frameLong t) s = .next u ∧ u.fr = { s.fr with longNow := true, longLive := true } ∧
      u.recd = ((s.tick t).unitEvs [{ code := 0x0201, p1 := s.fr.frameNo % 2 ^ 32 }]).recd ∧
      s.sameBut [.now, .fr, .recd] u) ∧
  (∀ (t : Nat) (s u : State), exec (.frameStrobe t) s = .next u → u.fr.frameNo ≠ s.fr.frameNo →
    s.phase = .complete ∧ s.fr.doneAt ≤ u.fr.strobeAt)

/-- CELL_RECORD_MISSING (R59, R514), ENG_SILENT (R515), CLOCK_CHECK (R514) and FS_FEED (R491): what the regions report. A record not
there 200 µs after the strobe is written missing with STALE and keeps its values; an engine without END after 8 P is marked; a
clock is judged each second; a field feed takes the state of its reading. -/
def Obligations.RegionReports : Prop :=
  (∀ (t ch : Nat) (s : State), ch < 512 → s.mode = .running → s.phase = .gather → s.waitsFor ch = true → s.fr.strobeAt + usC 200 ≤ t →
    ∃ u, exec (.cellRecordMissing t ch) s = .next u ∧ u.inp = { s.inp with
        arrived := setBit s.inp.arrived ch true
        stale := if s.follows then s.inp.stale else setBit s.inp.stale ch true } ∧
      (u.regOf (ch / 128)).upErrs = (s.regOf (ch / 128)).upErrs + 1 ∧ (u.cellOf ch).couplers = (s.cellOf ch).couplers + 1 ∧
      (u.cellOf ch).standing = true ∧ (u.cellOf ch).cause = 4 ∧ (∀ c, c ≠ ch → u.cellOf c = s.cellOf c)) ∧
  (∀ (t e : Nat) (s : State), e < 16 → s.mode = .running → s.phase = .evaluate → s.isSilent e = true →
    (s.regOf (e / 4)).silent.testBit (e % 4) = false → s.fr.strobeAt + 8 * s.P ≤ t →
    ∃ u, exec (.engSilent t e) s = .next u ∧ (u.regOf (e / 4)).silent = setBit (s.regOf (e / 4)).silent (e % 4) true ∧
      u.recd = ((s.tick t).unitEvs [{ code := 0x1112, src := e, p1 := 1, p2 := s.fr.frameNo % 2 ^ 32
                                      p3 := (t - s.fr.strobeAt) % 2 ^ 32 }]).recd ∧ s.sameBut [.now, .recd, .regs] u) ∧
  (∀ (t dom : Nat) (dev : Int) (s : State), dom < 7 → s.mode = .running →
    ∃ u, exec (.clockCheck t dom dev) s = .next u ∧ s.sameBut [.now, .recd, .mdiag, .regs] u ∧
      (dom < 4 → u.unt.mdiag = s.unt.mdiag ∧ (u.regOf dom).clkDev = clampI (-32768) 32767 dev ∧
        (1500 < dev.natAbs → (u.regOf dom).clkFault = true) ∧
        (dev.natAbs ≤ 1500 → (s.regOf dom).clkFault = false → (u.regOf dom).clkFault = false)) ∧
      (dom = 4 → u.unt.mdiag = { s.unt.mdiag with eth := clkJudge dev s.unt.mdiag.eth } ∧ u.unt.regs = s.unt.regs) ∧
      (dom = 5 → u.unt.mdiag = { s.unt.mdiag with can := clkJudge dev s.unt.mdiag.can } ∧ u.unt.regs = s.unt.regs) ∧
      (dom = 6 → u.unt.mdiag = { s.unt.mdiag with zen := clkJudge dev s.unt.mdiag.zen } ∧ u.unt.regs = s.unt.regs)) ∧
  (∀ (t feed mv heldUs : Nat) (s : State), feed < 8 → s.awake = true →
    ∃ u, exec (.fsFeed t feed mv heldUs) s = .next u ∧ s.sameBut [.now, .recd, .regs] u ∧
      (feed % 2 = 0 → (u.regOf (feed / 2)).feedA = { state := fieldJudge (s.regOf (feed / 2)).feedA.state mv heldUs, mv := mv } ∧
        (u.regOf (feed / 2)).feedB = (s.regOf (feed / 2)).feedB) ∧
      (feed % 2 = 1 → (u.regOf (feed / 2)).feedB = { state := fieldJudge (s.regOf (feed / 2)).feedB.state mv heldUs, mv := mv } ∧
        (u.regOf (feed / 2)).feedA = (s.regOf (feed / 2)).feedA) ∧
      (mv < 5000 → 10000 ≤ heldUs → (if feed % 2 = 0 then (u.regOf (feed / 2)).feedA else (u.regOf (feed / 2)).feedB).state = 3))

/-! ## Alarms, the engineer call, ownership and arriving packets (R264 to R275, R284 to R293, R318 to R324, R348 to R354) -/

/-- ALARM_DELAY_EXPIRY (R264), SUPPRESSION_HOLD_END (R270), SHELF_EXPIRY (R271) and GROUP_OBJECT_CYCLE (R275). When evaluating the
point in the open frame brings the happening about, the point takes that outcome and no later point changes. A group whose object
is due again loads it once more with its counter raised. -/
def Obligations.AlarmTimers : Prop :=
  (∀ (t p : Nat) (s : State), p < 2048 → s.zenithReady = true → alEn s.im p = true → s.alm.next ≤ p →
    let a := s.pointOf p
    let b := ((s.tick t).pointsTo (p + 1)).pointOf p
    let done (u : State) : Prop := u.pointOf p = b ∧ u.alm.next = p + 1 ∧ (∀ q, p < q → u.pointOf q = s.pointOf q) ∧
      u.alm.grps = s.alm.grps ∧ u.alm.call = s.alm.call ∧ u.alm.stations = s.alm.stations ∧ s.sameBut [.now, .alm] u
    (b.c ≠ a.c → ∃ u, exec (.alarmDelayExpiry t p) s = .next u ∧ done u) ∧
    (a.supp = true → b.supp = false → ∃ u, exec (.suppressionHoldEnd t p) s = .next u ∧ done u) ∧
    (a.state = almShelved → a.trig.testBit 4 = false → b.trig.testBit 4 = true → ∃ u, exec (.shelfExpiry t p) s = .next u ∧ done u)) ∧
  (∀ (t g : Nat) (s : State), g < 64 → s.zenithReady = true → s.alm.grpNext ≤ g → grObjEn s.im g = true →
    let x : Grp := tabGet {} ((s.tick t).groupsTo g).alm.grps g
    grObjCycle s.im g ≤ x.since + 1 →
    x.sent = some (groupPayload s.im ((s.tick t).groupsTo g).alm.pts g (tabGet {} ((s.tick t).groupsTo (g + 1)).alm.grps g).out x.fo) →
    ∃ u, exec (.groupObjectCycle t g) s = .next u ∧ (tabGet {} u.alm.grps g).tx = wrapN 8 (x.tx + 1) ∧
      (tabGet {} u.alm.grps g).since = 0 ∧ (tabGet {} u.alm.grps g).sent = x.sent ∧
      u.can.loads = ((s.tick t).groupsTo g).can.loads ++ [(grOutObj s.im g, toBytes 8 (tabGet {} u.alm.grps g).block)] ∧
      u.alm.grpNext = g + 1)

/-- CALL_ESCALATION (R285), DEAD_MAN_PRE and DEAD_MAN_EXPIRY (R288), CALL_LINK_LOST (R291) and CALL_OBJECT_CYCLE (R290). When step 5 of
R267 brings the happening about in the open frame, it is done then, once in the frame. -/
def Obligations.EngineerCallTimers : Prop :=
  ∀ (t : Nat) (s : State), s.zenithReady = true → s.alm.callDone = false →
    let y := (s.tick t).callNow
    let done (u : State) : Prop := u.alm = y.alm ∧ u.alm.callDone = true ∧ u.can = y.can ∧ s.sameBut [.now, .alm, .can] u
    (s.alm.call.cs = 1 → y.alm.call.cs = 2 → y.alm.call.esc = 0 → ∃ u, exec (.callEscalation t) s = .next u ∧ done u ∧ u.alm.call.cs = 2) ∧
    (s.alm.call.dmState = 1 → y.alm.call.dmState = 2 → ∃ u, exec (.deadManPre t) s = .next u ∧ done u ∧ u.alm.call.dmState = 2) ∧
    (s.alm.call.dmState ≠ 3 → y.alm.call.dmState = 3 → ∃ u, exec (.deadManExpiry t) s = .next u ∧ done u ∧ u.alm.call.dmState = 3) ∧
    (∀ k < 16, (tabGet {} s.alm.stations k).lost = false → (tabGet {} y.alm.stations k).lost = true →
      ∃ u, exec (.callLinkLost t k) s = .next u ∧ done u ∧ (tabGet {} u.alm.stations k).lost = true) ∧
    (∀ k < 16, caObjCycle s.im k ≤ (tabGet {} s.alm.stations k).since + 1 → (tabGet {} s.alm.stations k).sent.isSome = true →
      (tabGet {} y.alm.stations k).sent = (tabGet {} s.alm.stations k).sent →
      (tabGet {} y.alm.stations k).tx ≠ (tabGet {} s.alm.stations k).tx →
      ∃ u, exec (.callObjectCycle t k) s = .next u ∧ done u)

/-- SESSION_TIMEOUT (R321, R355), LEASE_LAPSE (R351), OFFER_LAPSE (R354) and CLAIM_WINDOW_CLOSE (R348). A silent session closes and
takes ownership with it; a lease or an offer that is over ends with its event; at the close of the window the claimant of the highest
priority owns, among equals the one of the lowest port index, and of two such the one of unit A. -/
def Obligations.OwnershipTimers : Prop :=
  (∀ (t code : Nat) (s : State), isCode code = true → s.mode = .running → s.phase = .evaluate → (s.sessOf code).id ≠ 0 →
    (s.sessOf code).heard = false → framesOf s.P (msC 30000) ≤ (s.sessOf code).quiet + 1 →
    ∃ u, exec (.sessionTimeout t code) s = .next u ∧ u.sessOf code = {} ∧ (∀ k, k ≠ code → u.sessOf k = s.sessOf k) ∧
      (s.port.owner.owner = some code → u.port.owner.owner = none ∧ u.port.owner.offer = none) ∧
      (s.port.owner.owner ≠ some code → u.port.owner.owner = s.port.owner.owner ∧ u.port.owner.offer = s.port.owner.offer)) ∧
  (∀ (t old : Nat) (s : State), s.mode = .running → s.phase ≠ .complete → s.leaseOver = true → s.port.owner.owner = some old →
    ∃ u, exec (.leaseLapse t) s = .next u ∧ u.port.owner.owner = none ∧ u.port.owner.offer = none ∧ u.cfg.restage = true ∧
      u.port.trace = none ∧ u.port.sess = s.port.sess ∧
      ({ code := 0x0D01, src := 0xFF, p1 := 0xFF, p2 := old, p3 := 4 } : EvReq) ∈ u.port.owner.ev) ∧
  (∀ (t : Nat) (x : Nat × Nat) (s : State), s.mode = .running → s.phase ≠ .complete → s.offerOver = true → s.port.owner.offer = some x →
    exec (.offerLapse t) s = .next { s.tick t with port := { s.port with owner :=
      { s.port.owner with offer := none, ev := s.port.owner.ev ++ [{ code := 0x0D02, src := 0xFF, p1 := x.1, p2 := 0, p3 := 1 }] } } }) ∧
  (∀ (t c : Nat) (s : State), s.zenithReady = true → s.port.owner.window = some c → c + windowCycles ≤ s.fr.total →
    ∃ u, exec (.claimWindowClose t) s = .next u ∧ u.port.owner.window = none ∧ u.port.owner.claims = [] ∧
      (s.port.owner.claims = [] → u.port.owner.owner = s.port.owner.owner) ∧
      (s.port.owner.claims ≠ [] → ∃ w ∈ s.port.owner.claims, u.port.owner.owner = some w.code ∧ u.port.owner.lease = s.fr.total ∧
        u.port.owner.offer = none ∧ ∀ x ∈ s.port.owner.claims,
          poClaimPrio s.im (x.code % 8) < poClaimPrio s.im (w.code % 8) ∨
            (poClaimPrio s.im (x.code % 8) = poClaimPrio s.im (w.code % 8) ∧ claimRank w.code ≤ claimRank x.code)))

/-- PACKET_RECEIVE and FORWARDED_PACKET (R52, R55, R57, R319, R324). A transport message that is no packet is discarded and counted; a
packet is stamped with the code of its port while every engine posts END. On CAN and SER0 a message waits while a deferred packet of
the port holds it back. A standby answers what fails steps 1 and 2, answers PARTNER_UNSYNC while it cannot forward, and forwards every
other packet to the active. -/
def Obligations.PacketsAreStamped : Prop :=
  (∀ (t port ip udp : Nat) (bytes : List Byte) (s : State), port < 6 → s.mode = .running →
    ∃ u, exec (.packetReceive t port ip udp bytes) s = .next u ∧
      (3 ≤ port → s.holdsBack port = true → u.portOf port = { s.portOf port with rxWait := (s.portOf port).rxWait ++ [.message bytes] } ∧
        (∀ i, i ≠ port → u.portOf i = s.portOf i) ∧ s.sameBut [.now, .portSt] u) ∧
      ((port < 3 ∨ s.holdsBack port = false) →
        (parsePacket port ip udp bytes = none → u.portOf port = { s.portOf port with pktDiscard := inc16 (s.portOf port).pktDiscard } ∧
          (∀ i, i ≠ port → u.portOf i = s.portOf i) ∧ s.sameBut [.now, .portSt] u) ∧
        (∀ p, parsePacket port ip udp bytes = some p → s.unt.pair.role ≠ 2 → s.engSilentStands = false →
          u = (s.tick t).stampEntry 5 (s.codeOf port % 8) (.packet (s.codeOf port) ip udp bytes) ∧
          u.inp.gather.length = s.inp.gather.length + 1) ∧
        (∀ p, parsePacket port ip udp bytes = some p → s.unt.pair.role = 2 →
          let answered (st : Nat) : Prop := u.inp = s.inp ∧
            u.port.outbox = s.port.outbox ++ [{ code := s.codeOf port, ip := p.head.ip, udp := p.head.udp, session := p.head.session
                                                seq := p.head.seq, opcode := p.code, status := st }]
          (headStatus p.head ≠ stOk → answered (headStatus p.head)) ∧
          (headStatus p.head = stOk → s.forwards = false → answered stPartnerUnsync) ∧
          (headStatus p.head = stOk → s.forwards = true → u = (s.tick t).linkSend
            [.entry s.fr.frameNo { order := 5, index := s.codeOf port % 8, body := .packet (s.codeOf port) ip udp bytes }])))) ∧
  (∀ (t code ip udp : Nat) (bytes : List Byte) (s : State), isCode code = true → s.mode = .running → s.unt.pair.role = 1 →
    s.isLocal code = false → s.forwards = true →
    ∃ u, exec (.forwardedPacket t code ip udp bytes) s = .next u ∧
      (parsePacket (code % 8) ip udp bytes = none → u = s.tick t) ∧
      (∀ p, parsePacket (code % 8) ip udp bytes = some p → s.engSilentStands = false →
        u = (s.tick t).stampEntry 5 (code % 8) (.packet code ip udp bytes)))

/-- SER_FRAME_RECEIVED, SER_GAP_TIMEOUT and SER_ABORT (R372). Bytes between two flags become a packet when they unstuff to at most 8,192
bytes; a bad escape, a longer frame, a gap above 10 ms and a bad character abort the frame, which is counted.

MODBUS_REQUEST (R374, R375). A valid request is answered once on the line: a read of mapped registers with their values, an unmapped
register with exception 02h, and an unsupported function with exception 01h; each exception is counted. Another address is not
answered, nor a request with a gap of more than 0.75 ms in it. -/
def Obligations.SerialPort : Prop :=
  (∀ (t : Nat) (s : State), s.mode = .running → poModbus s.im 5 = false →
    let aborted (u : State) : Prop := u.portOf 5 = { s.portOf 5 with serAbort := inc16 (s.portOf 5).serAbort } ∧
      (∀ i, i ≠ 5 → u.portOf i = s.portOf i) ∧ s.sameBut [.now, .portSt] u
    (∃ u, exec (.serAbort t) s = .next u ∧ aborted u) ∧
    (∀ gapUs, 10000 < gapUs → ∃ u, exec (.serGapTimeout t gapUs) s = .next u ∧ aborted u) ∧
    (exec (.serFrameReceived t []) s = .next (s.tick t)) ∧
    (∀ bytes, bytes ≠ [] → (serUnstuff bytes = none ∨ ∃ b, serUnstuff bytes = some b ∧ 8192 < b.length) →
      ∃ u, exec (.serFrameReceived t bytes) s = .next u ∧ aborted u) ∧
    (∀ bytes b p, bytes ≠ [] → serUnstuff bytes = some b → b.length ≤ 8192 → parsePacket 5 0 0 b = some p → s.unt.pair.role ≠ 2 →
      s.engSilentStands = false → s.holdsBack 5 = false →
      exec (.serFrameReceived t bytes) s = .next ((s.tick t).stampEntry 5 (s.codeOf 5 % 8) (.packet (s.codeOf 5) 0 0 b)))) ∧
  (∀ (t gapUs : Nat) (bytes : List Byte) (s : State), 750 < gapUs → exec (.modbusRequest t ⟨gapUs, bytes⟩) s = .next (s.tick t)) ∧
  (∀ (t gapUs : Nat) (bytes : List Byte) (s : State), gapUs ≤ 750 → s.mode = .running → poModbus s.im 5 = true →
    ∃ u, exec (.modbusRequest t ⟨gapUs, bytes⟩) s = .next u ∧
      (mbAnswer (poMbAddr s.im 5) s.mbReg bytes = none → u = s.tick t) ∧
      (nth bytes 0 ≠ poMbAddr s.im 5 → u = s.tick t) ∧
      (∀ b exc, mbAnswer (poMbAddr s.im 5) s.mbReg bytes = some (b, exc) → u.port.wire = s.port.wire ++ [.serial b] ∧
        (u.portOf 5).mbExcept = (if exc then inc16 (s.portOf 5).mbExcept else (s.portOf 5).mbExcept) ∧
        s.sameBut [.now, .portSt, .wire] u))

/-- TRIM_COMPLETE (R140 to R142). With its 16 frames over, a trim that fails leaves the running image and every accepted configuration
as they are, and a trim that holds becomes the configuration of the next frame; its reply follows. Where a commit has been accepted for
the next frame, nothing is written: that strobe aborts the trim. -/
def Obligations.TrimsComplete : Prop :=
  ∀ (t : Nat) (x : Trim) (s : State), isCh x.ch = true → s.zenithReady = true → s.trimEnding = some x →
    let r := trimOutcome s.im x
    ∃ u, exec (.trimComplete t x.ch) s = .next u ∧ u.cfg.image = s.cfg.image ∧ u.cfg.staging = s.cfg.staging ∧
      (r.1 ≠ stOk → u.cfg.trims = [] ∧ u.cfg.next = s.cfg.next) ∧
      (r.1 = stOk → s.cfg.next = none → u.cfg.next = some
        { image := trimImage s.im x r.2, cfgCrc := configCrc (trimImage s.im x r.2)
          safeCrc := safetyCrc (trimImage s.im x r.2), source := 0xFF }) ∧
      (r.1 = stOk → s.cfg.next ≠ none → u = s.tick t) ∧
      (∀ p ∈ s.port.pend, (s.port.replay = false ∨ s.port.replayIn.begun = false) →
        (∃ ch ref, p.op = .trimZero ch ref ∨ p.op = .trimSpan ch ref) → p.due = none →
        (r.1 ≠ stOk → { p with due := some s.fr.frameNo, done := some (r.1, []) } ∈ u.port.pend) ∧
        (r.1 = stOk → s.cfg.next = none → { p with due := some (s.fr.frameNo + 1), done := some (stOk, []) } ∈ u.port.pend))

/-! ## Blocks and cells (R34, R35, R87, R97 to R112, R136, R167, R190 to R193, R201 to R211, R419, R494, R514) -/

/-- BLOCK_LATCH and STROBE_COUPLER_ERROR (R34, R35, R59, R169, R207, R211). At the first strobe of a frame a powered block latches every
cell: the record of a channel that was not written missing enters the region's image, and its output cells take the shadow unless they
stay in their safe state or the block takes a new configuration. No other block and no record of another block changes. A strobe symbol
more than 1 µs after the latch marks its cell for a coupler error. -/
def Obligations.BlocksLatch : Prop :=
  (∀ (t b clk : Nat) (meas : List CellMeas) (s : State), b < 64 → s.awaitsLatch b = true →
    ∃ u, exec (.blockLatch t b meas clk) s = .next u ∧ (u.blkOf b).latched = some s.fr.frameNo ∧ (u.blkOf b).latchAt = max s.now t ∧
      (u.blkOf b).clkCount = clk ∧ s.blks.onlyBlock b u.blks ∧ u.inp.stale = s.inp.stale ∧
      (∀ c, c / 8 = b → u.inp.arrived.testBit c = true ∧
        (s.inp.arrived.testBit c = true ∨ s.follows = true → u.recOf c = s.recOf c) ∧
        (s.inp.arrived.testBit c = false → s.follows = false →
          u.recOf c = (((s.tick t).pulseGone b).latchCell c (meas.getD (c % 8) {})).1) ∧
        (s.blks.behind.testBit b = false → (s.outOf c).silent = false →
          (chMode s.im c = 8 → (u.outOf c).applied = s.eng.shadow.dos.testBit c ∧ (u.outOf c).silent = false) ∧
          (chMode s.im c = 6 → (u.loopOf c).cmd = s.shadowCurrent c ∧ (u.outOf c).silent = false))) ∧
      (∀ c, c / 8 ≠ b → u.recOf c = s.recOf c ∧ u.inp.arrived.testBit c = s.inp.arrived.testBit c)) ∧
  (∀ (t ch : Nat) (s : State), ch < 512 → s.mode = .running → s.blkRuns (ch / 8) = true →
    (s.blkOf (ch / 8)).latched = some s.fr.frameNo → (s.blkOf (ch / 8)).latchAt + usC 1 < max s.now t →
    ∃ u, exec (.strobeCouplerError t ch) s = .next u ∧ u.cellOf ch = { s.cellOf ch with downErr := true } ∧
      (∀ c, c ≠ ch → u.cellOf c = s.cellOf c) ∧ s.blks.onlyBlock (ch / 8) u.blks ∧ s.sameBut [.now, .blks] u)

/-- CONVERSION_COMPLETE (R97), SELF_TEST_SLOT (R100), BLANK_LONG (R112) and CJC_READING (R136). A conversion reaches the one channel of
the entry in progress, none where that channel was re-initialised within the entry, and the sequencer goes on; a self-test slot changes no channel; a blank longer than BLANK_MAX is marked.

EXCITATION_EVENT (R105 to R108). In a blanked or tainted entry nothing restarts and nothing is counted; several events before the
window opens count once; two restarts are allowed, and a third event ends the entry. -/
def Obligations.ConversionsAndExcitation : Prop :=
  ((∀ (t b : Nat) (lo hi tone : Int) (ovLo ovHi compl : Bool) (s : State), b < 64 → s.blkRuns b = true → (s.seqOf b).pos < 16 →
    ∃ u, exec (.conversionComplete t b lo hi tone ⟨ovLo, ovHi⟩ compl) s = .next u ∧
      u.seqOf b = blkAdvance (s.bim b) b (s.seqOf b) s.blanked ∧ (∀ k, k ≠ b → u.seqOf k = s.seqOf k) ∧
      (∀ c, s.converting b = some c →
        u.acqOf c = blkConvert (s.bim b) c (max s.now t) (s.seqOf b) (s.blanked c) lo hi tone ovLo ovHi compl (s.acqOf c)) ∧
      (∀ k, s.converting b ≠ some k → u.acqOf k = s.acqOf k) ∧ s.blks.onlyBlock b u.blks ∧ s.sameBut [.now, .blks] u) ∧
  (∀ (t b : Nat) (lo hi : Int) (s : State), b < 64 → s.blkRuns b = true → 16 ≤ (s.seqOf b).pos →
    ∃ u, exec (.selfTestSlot t b lo hi) s = .next u ∧
      u.seqOf b = blkAdvance (s.bim b) b (blkSelfTest (s.bim b) b (s.seqOf b) lo hi) s.blanked ∧
      (u.seqOf b).step = ((s.seqOf b).step + 1) % 4 ∧ u.blks.acq = s.blks.acq ∧ s.blks.onlyBlock b u.blks ∧ s.sameBut [.now, .blks] u) ∧
  (∀ (t ch a : Nat) (s : State), ch < 512 → s.blkRuns (ch / 8) = true → (s.acqOf ch).blankFrom = some a →
    ∃ u, exec (.blankLong t ch) s = .next u ∧
      u.acqOf ch = (if a + msC (100 * chBlankMax (s.cim ch) ch) < max s.now t then { s.acqOf ch with blankLong := true } else s.acqOf ch) ∧
      (∀ k, k ≠ ch → u.acqOf k = s.acqOf k) ∧ s.sameBut [.now, .blks] u) ∧
  (∀ (t conn : Nat) (reading : Option Int) (s : State), conn < 16 → s.mode = .running →
    exec (.cjcReading t conn reading) s = .next { s.tick t with inp :=
      { s.inp with cjc := tabMod {} s.inp.cjc conn (cjcReading reading) } })) ∧
  (∀ (t b c : Nat) (opened compl : Bool) (s : State), b < 64 → s.blkRuns b = true → s.converting b = some c →
    (compl = true → usesExc (s.bim b) c = true) →
    let q := s.seqOf b
    ∃ u, exec (.excitationEvent t b opened compl) s = .next u ∧
      ((s.blanked c = true ∨ q.tainted = true) → u = s.tick t) ∧
      (q.early = true → opened = false → u = s.tick t) ∧
      (s.blanked c = false → q.tainted = false → (q.early = false ∨ opened = true) →
        (u.acqOf c).prev = none ∧ (∀ k, k ≠ c → u.acqOf k = s.acqOf k) ∧ s.sameBut [.now, .blks] u ∧
        (q.starts < 2 → u.seqOf b = { q with starts := q.starts + 1, early := !opened } ∧
          (u.acqOf c).window = [] ∧ (u.acqOf c).settling = true ∧ (u.cellOf c).restarts = (s.cellOf c).restarts + 1) ∧
        (2 ≤ q.starts → u.seqOf b = blkAdvance (s.bim b) b q s.blanked ∧ u.cellOf c = s.cellOf c)))

/-- BLANK_LINE_CHANGE (R109 to R111). A level stable for 50 µs is accepted and reaches the channels of every block: those it blanks have
a running blank, and those that are not blanked have none.

DEBOUNCED_EDGE (R190 to R193), TEST_PULSE_START (R87) and TEST_PULSE_END (R202). Samples that differ from STATE for the debounce count
turn the STATE of their cell, and queue a change-of-state entry where COS selects the edge; the pulse of the scheduled channel starts
100 µs after the latch where it may, and ends after its width with its judgement. -/
def Obligations.BlankingEdgesAndTestPulses : Prop :=
  (∀ (t heldUs : Nat) (level : Bool) (s : State), s.mode = .running → 50 ≤ heldUs → s.blks.blank ≠ level →
    ∃ u, exec (.blankLineChange t heldUs level) s = .next u ∧ u.blks.blank = level ∧ s.sameBut [.now, .blks] u ∧
      ∀ c < 512, (isAnalogIn (chMode (s.cim c) c) = false → u.acqOf c = s.acqOf c) ∧
        (isAnalogIn (chMode (s.cim c) c) = true → (u.acqOf c).value = (s.acqOf c).value ∧
          ((u.acqOf c).blankFrom.isSome = blankedNow (s.cim c) c (s.blankIn (c / 8)) level) ∧
          (blankedNow (s.cim c) c (s.blankIn (c / 8)) level = false → (u.acqOf c).blankLong = false))) ∧
  ((∀ (t ch bt : Nat) (levels : List (Nat × Nat)) (d : DigCell) (s : State), ch < 512 → s.blkRuns (ch / 8) = true →
    (chMode (s.cim ch) ch = 7 ∨ chMode (s.cim ch) ch = 9) → (s.digOf ch).frozen = false → (s.digOf ch).thawAt ≤ max s.now t →
    samplesEdge (s.cim ch) ch levels (s.digOf ch) = some d →
    ∃ u, exec (.debouncedEdge t ch ⟨bt, levels⟩) s = .next u ∧ u.digOf ch = (cellEdge (s.cim ch) ch bt d).1 ∧
      (u.digOf ch).state = !(s.digOf ch).state ∧ (∀ k, k ≠ ch → u.digOf k = s.digOf k) ∧
      u.inp.cosNext = s.inp.cosNext ++ (match (cellEdge (s.cim ch) ch bt d).2 with
        | some e => [{ ch := ch, state := e.1, off := bt, place := e.2, seq := tabGet 0 s.inp.srcSeq (1024 + ch) }]
        | none => []) ∧
      s.blks.onlyBlock (ch / 8) u.blks ∧ s.sameBut [.now, .inp, .blks] u) ∧
  (∀ (t b level : Nat) (s : State), b < 64 → s.mode = .running → s.blkRuns b = true → (s.blkOf b).pulse = none →
    (s.blkOf b).latched = some s.fr.frameNo → (s.blkOf b).pulseIn ≠ some s.fr.frameNo → (s.blkOf b).latchAt + blkLeast 100 ≤ max s.now t →
    max s.now t ≤ (s.blkOf b).latchAt + blkMost 100 →
    ∃ u, exec (.testPulseStart t b level) s = .next u ∧ s.blks.onlyBlock b u.blks ∧ s.sameBut [.now, .blks] u ∧
      (s.pulseDue b = none → u = s.tick t) ∧
      (∀ c, s.pulseDue b = some c → (u.blkOf b).pulseIn = some s.fr.frameNo ∧
        (u.blkOf b).pulse = (if pulseRuns (testKind (s.bim b) c) (comparator (s.bim b) c level (s.digOf c).raw)
            ((s.blkOf b).fsOff || (decide (testKind (s.bim b) c ≠ 3) && ((s.outOf c).silent || s.withheldBlk b))) (s.drives c) (s.outOf c)
          then some { ch := c, kind := testKind (s.bim b) c, since := max s.now t, width := testWidth (s.bim b) c } else none) ∧
        ((s.blkOf b).fsOff = true → (u.blkOf b).pulse = none) ∧
        (testKind (s.bim b) c = 1 → (u.blkOf b).pulse.isSome = true → s.drives c = true))) ∧
  (∀ (t b current : Nat) (termV : Int) (levelOn : Bool) (p : Pulse) (s : State), b < 64 → s.blkRuns b = true →
    (s.blkOf b).pulse = some p → p.ch / 8 = b → pulseAtEnd (max s.now t) p = true →
    ∃ u, exec (.testPulseEnd t b termV current levelOn) s = .next u ∧ (u.blkOf b).pulse = none ∧ s.blks.onlyBlock b u.blks ∧
      s.sameBut [.now, .blks] u ∧
      (p.kind = 3 → u.digOf p.ch = { s.digOf p.ch with
        line := levelOn, tpDone := true, frozen := false, thawAt := max s.now t + usC 100 }) ∧
      (p.kind = 1 → u.outOf p.ch = { s.outOf p.ch with tpDone := true, tpFail := decide (500 < termV) }) ∧
      (p.kind = 2 → u.outOf p.ch = { s.outOf p.ch with tpDone := true, tpFail := decide (current < 1) || decide (termV < 1200) })))

/-- FS_LOW_SET, FS_LOW_CLEAR, FS_OFF_SET, FS_OFF_END and BLOCK_POWER_LOST (R207), BLOCK_POWER_RESTORE (R494). Each threshold held for its
time acts on its own block alone; FS_OFF opens the switches, takes the loop targets to 0 mA (less where FOLDBACK holds less) and stays
until a strobe after its end was accepted. The blocks of a witness stay unpowered (R3). -/
def Obligations.FieldSupplyOfBlocks : Prop :=
  ∀ (t b mv heldUs : Nat) (s : State), b < 64 →
    let of (u : State) (k : Blk) : Prop := u.blkOf b = k ∧ (u.bdiagOf b).fsMv = mv ∧ s.blks.onlyBlock b u.blks
    (s.blkRuns b = true →
      (mv < 19200 → 1000 ≤ heldUs → ∃ u, exec (.fsLowSet t b mv heldUs) s = .next u ∧ of u { s.blkOf b with fsLow := true } ∧
        s.sameBut [.now, .blks] u) ∧
      (19600 ≤ mv → 10000 ≤ heldUs → ∃ u, exec (.fsLowClear t b mv heldUs) s = .next u ∧ of u { s.blkOf b with fsLow := false } ∧
        s.sameBut [.now, .blks] u) ∧
      (mv < 16000 → 200 ≤ heldUs → ∃ u, exec (.fsOffSet t b mv heldUs) s = .next u ∧ (u.blkOf b).fsOff = true ∧
        (u.blkOf b).fsBack = false ∧ (u.bdiagOf b).fsMv = mv ∧ s.blks.onlyBlock b u.blks ∧ s.sameBut [.now, .blks] u ∧
        ∀ c, c / 8 = b → u.drives c = false ∧ u.targetOf c = loopTarget 0 (s.loopOf c) ∧ u.loopOf c = s.loopOf c ∧
          (chMode (s.bim b) c = 8 → u.outOf c = { s.outOf c with fsOff := true })) ∧
      ((s.blkOf b).fsOff = true → 18000 ≤ mv → 10000 ≤ heldUs → ∃ u, exec (.fsOffEnd t b mv heldUs) s = .next u ∧
        of u { s.blkOf b with fsBack := true } ∧ s.sameBut [.now, .blks] u)) ∧
    ((s.blkOf b).powered = true → mv < 14000 → ∃ u, exec (.blockPowerLost t b mv) s = .next u ∧ of u {} ∧ u.seqOf b = {} ∧
      u.recd = ((s.tick t).unitEvs [{ code := 0x0115, src := b, p2 := mv }]).recd ∧
      s.sameBut [.now, .blks, .recd] u) ∧
    (s.isWitness = false → (s.blkOf b).powered = false → 16500 ≤ mv → 10000 ≤ heldUs →
      ∃ u, exec (.blockPowerRestore t b mv heldUs) s = .next u ∧ of u { powered := true, joining := true } ∧ s.sameBut [.now, .blks] u) ∧
    (s.isWitness = true → exec (.blockPowerRestore t b mv heldUs) s = .next (s.tick t))

/-- LOGIC_SILENCE (R209), FOLDBACK, FOLDBACK_HOLD_END and FOLDBACK_RAMP_STEP (R167), SWITCH_CURRENT_LIMIT and THERMAL_SHUTDOWN (R201), and
CELL_THERM (R514): what a cell's own protections do to that cell and to no other. -/
def Obligations.CellProtections : Prop :=
  ∀ (t ch : Nat) (s : State), ch < 512 → s.blkRuns (ch / 8) = true →
    let here (u : State) : Prop := s.blks.onlyBlock (ch / 8) u.blks ∧ s.sameBut [.now, .blks] u
    (∀ us strobe, isOutMode (chMode (s.cim ch) ch) = true → (s.outOf ch).silent = false → s.silenceOver ch us strobe = true →
      ∃ u, exec (.logicSilence t ch us strobe) s = .next u ∧ here u ∧ (u.outOf ch).silent = true ∧ (u.outOf ch).safe = true ∧
        (∀ p, (u.blkOf (ch / 8)).pulse = some p → p.ch ≠ ch) ∧
        (chMode (s.cim ch) ch = 6 → (s.blkOf (ch / 8)).fsOff = false → s.outputsOff (ch / 8) = false →
          u.targetOf ch = loopTarget (aoSafeCurrent (s.cim ch) ch (s.loopOf ch)) (s.loopOf ch))) ∧
    (∀ i mw us, chMode (s.cim ch) ch = 6 → 1200 < mw → 1000 ≤ us →
      ∃ u, exec (.foldback t ch i mw us) s = .next u ∧ here u ∧ u.targetOf ch = min i (s.targetOf ch) ∧
        u.loopOf ch = { s.loopOf ch with limit := some (min i (s.targetOf ch)), ramp := false, foldAt := max s.now t } ∧
        ∀ k, k ≠ ch → u.loopOf k = s.loopOf k) ∧
    ((s.loopOf ch).limit.isSome = true → (s.loopOf ch).ramp = false → (s.loopOf ch).foldAt + msC 1000 ≤ max s.now t →
      ∃ u, exec (.foldbackHoldEnd t ch) s = .next u ∧ here u ∧
        u.loopOf ch = { s.loopOf ch with ramp := true, foldAt := max s.now t } ∧ ∀ k, k ≠ ch → u.loopOf k = s.loopOf k) ∧
    (∀ v, (s.loopOf ch).limit = some v → (s.loopOf ch).ramp = true → (s.loopOf ch).foldAt + msC 100 ≤ max s.now t →
      ∃ u, exec (.foldbackRampStep t ch) s = .next u ∧ here u ∧ (∀ k, k ≠ ch → u.loopOf k = s.loopOf k) ∧
        (s.aoHeld ch = false → (s.loopOf ch).cmd ≤ v + 1000000 → (u.loopOf ch).limit = none ∧ u.targetOf ch = (s.loopOf ch).cmd) ∧
        ((s.aoHeld ch = true ∨ v + 1000000 < (s.loopOf ch).cmd) →
          (u.loopOf ch).limit = some (max v (min (v + 1000000) (s.loopOf ch).cmd)) ∧ (u.loopOf ch).ramp = true)) ∧
    (∀ rail : Bool, chMode (s.cim ch) ch = 8 → (s.tick t).fed ch = true → ∃ u, exec (.switchCurrentLimit t ch rail) s = .next u ∧ here u ∧
      u.outOf ch = (if rail then { s.outOf ch with rail := true } else { s.outOf ch with ilim := true }) ∧
      ∀ k, k ≠ ch → u.outOf k = s.outOf k) ∧
    (chMode (s.cim ch) ch = 8 → ∃ u, exec (.thermalShutdown t ch) s = .next u ∧ here u ∧ u.outOf ch = { s.outOf ch with therm := true } ∧
      ∀ k, k ≠ ch → u.outOf k = s.outOf k) ∧
    (∀ temp us, ∃ u, exec (.cellTherm t ch temp us) s = .next u ∧ here u ∧ (u.cellOf ch).temp = temp ∧
      (150 < temp → 1000 ≤ us → (u.cellOf ch).therm = true) ∧ (temp < 135 → (u.cellOf ch).therm = false) ∧
      (135 ≤ temp → temp ≤ 150 → (u.cellOf ch).therm = (s.cellOf ch).therm) ∧ ∀ k, k ≠ ch → u.cellOf k = s.cellOf k)

/-- ENABLE_FLAG_LOSS and ENABLE_FLAG_SET (R419) and ISLAND_PWR (R514): what happens to a whole block. A block that withholds its outputs
drives none of them (R211). -/
def Obligations.BlockFlags : Prop :=
  ∀ (t b : Nat) (s : State), b < 64 → s.blkRuns b = true →
    ((s.paired = true ∨ s.flagOn = false) → ∃ u, exec (.enableFlagLoss t b) s = .next u ∧
      u.blkOf b = { s.blkOf b with withheld := true } ∧ (∀ c, c / 8 = b → u.drives c = false ∧ u.targetOf c = loopTarget 0 (s.loopOf c)) ∧
      s.blks.onlyBlock b u.blks ∧ s.sameBut [.now, .blks] u) ∧
    (s.flagOn = true → ∃ u, exec (.enableFlagSet t b) s = .next u ∧ u.blkOf b = { s.blkOf b with withheld := false } ∧
      u.withheldBlk b = false ∧ s.blks.onlyBlock b u.blks ∧ s.sameBut [.now, .blks] u) ∧
    (∀ islandMv fsMv nominalMv heldUs : Nat, ∃ u, exec (.islandPwr t b islandMv fsMv nominalMv heldUs) s = .next u ∧
      (u.bdiagOf b).islandMv = islandMv ∧ (u.bdiagOf b).fsMv = fsMv ∧ s.blks.onlyBlock b u.blks ∧ s.sameBut [.now, .blks] u ∧
      (5 * nominalMv < 100 * (islandMv - nominalMv : Int).natAbs → 1000 ≤ heldUs → (u.blkOf b).islandPwr = true) ∧
      (100 * (islandMv - nominalMv : Int).natAbs ≤ 5 * nominalMv → (s.blkOf b).islandPwr = false → (u.blkOf b).islandPwr = false))

/-! ## Modem cells, CAN controllers and Ethernet ports (R177 to R182, R318, R363 to R409) -/

/-- HART_REQUEST_DUE, HART_REPLY_TIMEOUT and HART_CARRIER_END (R178, R179) and HART_REPLY (R52). A due request starts as attempt 1; it is
retried up to three times, waiting where a carrier stands, and then counts as failed in its device and its region; a valid frame that
answers it ends it, and gathers as an input as a burst frame does; any other frame is ignored. No other modem cell changes. -/
def Obligations.HartTransactions : Prop :=
  ∀ (t m : Nat) (s : State), m < 32 → s.mode = .running → s.unt.pair.role ≠ 2 →
    let x := s.modemOf m
    let others (u : State) : Prop := ∀ k, k ≠ m → u.modemOf k = s.modemOf k
    (∀ cmd addr carrier c, addr < 16 → modemChannel s.im m = some c →
      hartDue (max s.now t) (s.devicesOf m) { cmd := cmd, addr := addr } x = true →
      ∃ u, exec (.hartRequestDue t m cmd addr carrier) s = .next u ∧ others u ∧ (u.modemOf m).req = some { cmd := cmd, addr := addr } ∧
        (u.modemOf m).attempt = 1 ∧ (u.modemOf m).sentAt = max s.now t ∧ (u.modemOf m).waiting = (carrier || x.carrier) ∧
        (chMode s.im c = 6 → carrier = false → x.carrier = false → (u.loopOf c).tone = true) ∧ s.sameBut [.now, .blks] u) ∧
    (∀ r c carrier, x.req = some r → x.waiting = false → x.sentAt + msC 305 ≤ max s.now t → modemChannel s.im m = some c →
      ∃ u, exec (.hartReplyTimeout t ⟨m, carrier⟩) s = .next u ∧ others u ∧ s.sameBut [.now, .blks, .eng, .regs] u ∧
        (u.modemOf m).carrier = (x.carrier || carrier) ∧
        (x.attempt < 3 → (u.modemOf m).req = some r ∧ (u.modemOf m).attempt = x.attempt + 1 ∧ (u.modemOf m).sentAt = max s.now t ∧
          (u.modemOf m).waiting = (x.carrier || carrier) ∧ u.eng = s.eng ∧ u.unt.regs = s.unt.regs) ∧
        (3 ≤ x.attempt → (u.modemOf m).req = none ∧ (u.regOf (m / 8)).hartFail = (s.regOf (m / 8)).hartFail + 1 ∧
          (hartDev (tabGet [] u.eng.hdev c) r.addr).nFail = satN 16 ((hartDev (tabGet [] s.eng.hdev c) r.addr).nFail + 1))) ∧
    (∀ (preambles : Nat) (parity : Bool) (bytes : List Byte) (c : Nat), modemChannel s.im m = some c → s.port.replay = false →
      let valid : Bool := parity && decide (2 ≤ preambles) && decide (preambles ≤ 20)
      ∃ u, exec (.hartReply t m ⟨preambles, parity, bytes⟩) s = .next u ∧ others u ∧ (u.modemOf m).carrier = true ∧
        s.sameBut [.now, .inp, .blks] u ∧
        ((hartParse bytes = none ∨ valid = false) → (u.modemOf m).req = x.req ∧ u.inp = s.inp) ∧
        (∀ g, hartParse bytes = some g → valid = true → (g.burst = true ∨ hartAnswers (s.devicesOf m) g x = true) →
          u.inp = ((s.tick t).stampEntry 2 m (.hart m bytes)).inp ∧ u.inp.gather.length = s.inp.gather.length + 1 ∧
          (g.burst = true → (u.modemOf m).req = x.req ∧ (u.modemOf m).nBurst = x.nBurst + 1) ∧
          (g.burst = false → (u.modemOf m).req = none)) ∧
        (∀ g, hartParse bytes = some g → g.burst = false → hartAnswers (s.devicesOf m) g x = false →
          (u.modemOf m).req = x.req ∧ u.inp = s.inp)) ∧
    (x.carrier = true → ∃ u, exec (.hartCarrierEnd t m) s = .next u ∧ others u ∧ (u.modemOf m).carrier = false ∧
      (u.modemOf m).waiting = false ∧ (u.modemOf m).req = x.req ∧ s.sameBut [.now, .blks] u)

/-- CAN_FRAME_RECEIVED (R388, R389), CAN_MESSAGE_TAKE (R391), CAN_RX_ERROR (R398, R401) and CAN_PROTOCOL_EXCEPTION (R383). A valid frame that
is no request of the transport goes where the filters decide, and exactly the counter of that decision rises; the controller of a message
that was taken may store again. A standby forwards the message that it takes. -/
def Obligations.CanReception : Prop :=
  (∀ (t k : Nat) (m : CanMsg) (s : State), k < 4 → s.canOn k = true → m.fmt ≤ ctlProto s.im k →
    let c := s.ctlOf k
    let r := isoReceive (max s.now t) m.data (tabGet {} s.can.iso k)
    ∃ u, exec (.canFrameReceived t k m) s = .next u ∧
      (m.remote = true → (u.ctlOf k).rxRemote = inc16 c.rxRemote ∧ u.can.objs = s.can.objs) ∧
      (m.remote = false → isRequest s.im k m = true →
        (r.whole = none → tabGet {} u.can.iso k = r.tp ∧ u.inp = s.inp ∧
          (u.portOf (3 + k)).tpDrop = satN 16 ((s.portOf (3 + k)).tpDrop + r.drops)) ∧
        (∀ b, r.whole = some b → s.holdsBack (3 + k) = true → tabGet {} u.can.iso k = r.tp ∧ u.inp = s.inp ∧
          (u.portOf (3 + k)).rxWait = (s.portOf (3 + k)).rxWait ++ [.message b]) ∧
        (∀ b p, r.whole = some b → s.holdsBack (3 + k) = false → parsePacket (3 + k) 0 0 b = some p → s.unt.pair.role ≠ 2 →
          s.engSilentStands = false → tabGet {} u.can.iso k = r.tp ∧
          u.inp = ((s.tick t).stampEntry 5 (s.codeOf (3 + k) % 8) (.packet (s.codeOf (3 + k)) 0 0 b)).inp)) ∧
      (m.remote = false → isRequest s.im k m = false → (∀ j, j ≠ k → u.ctlOf j = s.ctlOf j) ∧
        (∀ o, canDecide s.im k m s.can.objs = .store o → u.objOf o = (canStore m (s.objOf o)).1 ∧
          (∀ j, j ≠ o → u.objOf j = s.objOf j) ∧
          (u.ctlOf k).msgLost = if (s.objOf o).new then inc16 c.msgLost else c.msgLost) ∧
        (canDecide s.im k m s.can.objs = .reject → (u.ctlOf k).rxReject = inc16 c.rxReject ∧ u.can.objs = s.can.objs) ∧
        (canDecide s.im k m s.can.objs = .format → (u.ctlOf k).rxFormat = inc16 c.rxFormat ∧ u.can.objs = s.can.objs) ∧
        (canDecide s.im k m s.can.objs = .locked → (u.ctlOf k).rxLocked = inc16 c.rxLocked ∧ u.can.objs = s.can.objs) ∧
        (canDecide s.im k m s.can.objs = .noMatch → (u.ctlOf k).rxNoMatch = inc16 c.rxNoMatch ∧ u.can.objs = s.can.objs))) ∧
  (∀ (t o : Nat) (poison : Bool) (s : State), o < 512 → s.mode = .running → coEn s.im o = true → coTx s.im o = false →
    (s.objOf o).new = true →
    ∃ u, exec (.canMessageTake t o poison) s = .next u ∧ u.objOf o = { s.objOf o with new := false, lostMsg := false } ∧
      (∀ j, j ≠ o → u.objOf j = s.objOf j) ∧ s.sameBut [.now, .inp, .can, .wire] u ∧
      (poison = true → u.inp = s.inp ∧ u.port.wire = s.port.wire ∧
        (u.ctlOf (o / 128)).msgLost = inc16 (s.ctlOf (o / 128)).msgLost) ∧
      (poison = false → u.can.ctls = s.can.ctls ∧
        (s.unt.pair.role = 2 ∨ s.port.replay = true → u.inp = s.inp) ∧
        (s.unt.pair.role = 2 → s.paired = true → s.forwards = true → u.port.wire = s.port.wire ++
          [.link (.entry s.fr.frameNo { order := 3, index := o, body := .can o (s.objOf o).msg })]) ∧
        (s.unt.pair.role ≠ 2 → s.port.replay = false → u.port.wire = s.port.wire ∧ u.inp = ((s.tick t).stampEntry 3 o (.can o (s.objOf o).msg)).inp ∧
          u.inp.gather.length = s.inp.gather.length + 1))) ∧
  (∀ (t k err : Nat) (eight : Bool) (s : State), k < 4 → s.canOn k = true → 1 ≤ err → err ≤ 6 →
    ∃ u, exec (.canRxError t k err eight) s = .next u ∧ (∀ j, j ≠ k → u.ctlOf j = s.ctlOf j) ∧ s.sameBut [.now, .recd, .can] u ∧
      (s.restricted k = true → u.ctlOf k = { s.ctlOf k with lec := err }) ∧
      (s.restricted k = false → u.ctlOf k = (ctlRxError k err eight (s.ctlOf k)).1 ∧ (s.ctlOf k).recCnt < (u.ctlOf k).recCnt ∧
        (u.ctlOf k).lec = err)) ∧
  (∀ (t k fmt : Nat) (s : State), k < 4 → s.canOn k = true → ctlProto s.im k < fmt →
    ∃ u, exec (.canProtocolException t k fmt) s = .next u ∧
      u.ctlOf k = { s.ctlOf k with protoExc := inc16 (s.ctlOf k).protoExc } ∧ (∀ j, j ≠ k → u.ctlOf j = s.ctlOf j) ∧
      u.can.objs = s.can.objs ∧ s.sameBut [.now, .can] u)

/-- CAN_TX_SUCCESS (R395), CAN_TX_ERROR (R396), CAN_BUSOFF_RECOVERY (R399), CAN_REFERENCE_MESSAGE (R404), CAN_TT_WINDOW (R405) and
ISOTP_TIMEOUT (R318). An object's frame that is sent ends its request and goes out once, as does a frame of the transport; RETRY errors
end it with RETRY_LIMIT, and a transport frame or a reference message in error is sent again; after 128 occurrences a bus-off controller is error active with its counts at 0. -/
def Obligations.CanTransmission : Prop :=
  (∀ (t k i : Nat) (stale : Bool) (s : State), k < 4 → (s.tick t).attempts k (.object i stale) = true →
    ∃ u, exec (.canTxSuccess t k (.object i stale)) s = .next u ∧ u.objOf (128 * k + i) = objSent (coTt s.im (128 * k + i)) stale (s.objOf (128 * k + i)) ∧
      (coTt s.im (128 * k + i) = false → stale = false → (u.objOf (128 * k + i)).txPend = false) ∧
      u.port.wire = s.port.wire ++ [.can k (if stale then (s.objOf (128 * k + i)).was else (s.objOf (128 * k + i)).msg)] ∧
      (u.ctlOf k).txOk = inc16 (s.ctlOf k).txOk ∧ (u.ctlOf k).ackRun = 0 ∧ (u.ctlOf k).noAck = false ∧
      (u.ctlOf k).tec = (s.ctlOf k).tec - 1 ∧ (∀ j, j ≠ k → u.ctlOf j = s.ctlOf j)) ∧
  (∀ (t k : Nat) (s : State), k < 4 → (s.tick t).attempts k .reference = true →
    ∃ u, exec (.canTxSuccess t k .reference) s = .next u ∧ (u.ctlOf k).refPend = false ∧
      (u.ctlOf k).cycle = (if (s.ctlOf k).tmRun then ((s.ctlOf k).cycle + 1) % 2 ^ ctlMatrix s.im k else 0) ∧
      u.port.wire = s.port.wire ++ [.can k (refMsg s.im k (u.ctlOf k).cycle)]) ∧
  (∀ (t k : Nat) (f : List Byte × Nat) (s : State), k < 4 → (s.tick t).attempts k .transport = true →
    isoFrame (tpDl s.im k) (tabGet {} s.can.iso k) = some f →
    ∃ u, exec (.canTxSuccess t k .transport) s = .next u ∧ (u.ctlOf k).ackRun = 0 ∧
      tabGet {} u.can.iso k = isoSent (max s.now t) (tpDl s.im k) (tabGet {} s.can.iso k) ∧ u.can.objs = s.can.objs ∧
      u.port.wire = s.port.wire ++ [.can k { id := poRespId s.im (3 + k), xtd := poXtd s.im (3 + k), fmt := b2n (poFd s.im (3 + k)), data := f.1 }]) ∧
  (∀ (t k err : Nat) (who : CanWho) (dominant : Bool) (s : State), k < 4 → (s.tick t).attempts k who = true → 1 ≤ err → err ≤ 6 →
    (who = .transport ∨ who = .reference) →
    ∃ u, exec (.canTxError t k who err dominant) s = .next u ∧ (u.ctlOf k).lec = err ∧ u.can.objs = s.can.objs ∧ u.can.iso = s.can.iso ∧
      u.port.wire = s.port.wire) ∧
  (∀ (t k err i : Nat) (stale dominant : Bool) (s : State), k < 4 → (s.tick t).attempts k (.object i stale) = true → 1 ≤ err → err ≤ 6 →
    let o := 128 * k + i
    ∃ u, exec (.canTxError t k (.object i stale) err dominant) s = .next u ∧ (u.ctlOf k).lec = err ∧ u.port.wire = s.port.wire ∧
      (stale = true → (u.objOf o).errors = 0 ∧ (u.objOf o).txPend = (s.objOf o).txPend) ∧
      (stale = false → (u.objOf o).errors = (s.objOf o).errors + 1 ∧
        (coRetry s.im o ≠ 0 → coRetry s.im o ≤ (s.objOf o).errors + 1 → (u.objOf o).txPend = false ∧ (u.objOf o).result = 0x0A01 ∧
          (u.ctlOf k).txRetry = inc16 (s.ctlOf k).txRetry) ∧
        (coRetry s.im o = 0 ∨ (s.objOf o).errors + 1 < coRetry s.im o → (u.objOf o).txPend = (s.objOf o).txPend ∧
          (u.ctlOf k).txRetry = (s.ctlOf k).txRetry))) ∧
  (∀ (t k seen : Nat) (s : State), k < 4 → s.mode = .running → ctlEn s.im k = true → (s.ctlOf k).state = 2 → 128 ≤ seen →
    ∃ u, exec (.canBusoffRecovery t k seen) s = .next u ∧
      u.ctlOf k = { s.ctlOf k with state := 0, tec := 0, recCnt := 0, recovering := false } ∧ (∀ j, j ≠ k → u.ctlOf j = s.ctlOf j) ∧
      u.can.objs = s.can.objs ∧ s.sameBut [.now, .recd, .can] u) ∧
  (∀ (t k : Nat) (s : State), k < 4 → s.canSends k = true → ctlTmEn s.im k = true → (s.ctlOf k).refPend = false →
    (∀ a, (s.ctlOf k).cycleAt = some a → a + usC (ctlCycleLen s.im k) ≤ max s.now t) →
    ∃ u, exec (.canReferenceMessage t k) s = .next u ∧ u.ctlOf k = { s.ctlOf k with refPend := true, refAt := max s.now t } ∧
      (∀ j, j ≠ k → u.ctlOf j = s.ctlOf j) ∧ s.sameBut [.now, .can] u) ∧
  (∀ (t o : Nat) (idle : Bool) (s : State), o < 512 → s.canSends (o / 128) = true →
    ttDue s.im o (max s.now t) (s.ctlOf (o / 128)) = true → (s.objOf o).ttDone ≠ (s.ctlOf (o / 128)).cycleAt →
    ∃ u, exec (.canTtWindow t o idle) s = .next u ∧
      u.objOf o = { s.objOf o with ttDone := (s.ctlOf (o / 128)).cycleAt, inWindow := idle } ∧
      (u.ctlOf (o / 128)).ttMiss = (if idle then (s.ctlOf (o / 128)).ttMiss else inc16 (s.ctlOf (o / 128)).ttMiss) ∧
      (∀ j, j ≠ o → u.objOf j = s.objOf j) ∧ s.sameBut [.now, .can] u) ∧
  (∀ (t k : Nat) (s : State), k < 2 → s.mode = .running → 0 < (isoTimeout (max s.now t) (tabGet {} s.can.iso k)).2 →
    ∃ u, exec (.isotpTimeout t k) s = .next u ∧ tabGet {} u.can.iso k = (isoTimeout (max s.now t) (tabGet {} s.can.iso k)).1 ∧
      (u.portOf (3 + k)).tpDrop = satN 16 ((s.portOf (3 + k)).tpDrop + (isoTimeout (max s.now t) (tabGet {} s.can.iso k)).2) ∧
      s.sameBut [.now, .can, .portSt] u)

/-- ETH_FRAME_RECEIVED (R55, R362, R365 to R369), ARP_WAIT_TIMEOUT and ARP_ENTRY_AGE_OUT (R366), FRAG_DROP (R368), GRATUITOUS_ARP
(R370), PORT_LINK (R362, R380) and PLCA_STATUS (R363). Frames of more than 1,518 bytes are counted as errors; behind a deferred packet a
frame waits in the receive queue of 4 KB, and is discarded and counted when that is full. -/
def Obligations.EthernetPorts : Prop :=
  ∀ (t i : Nat) (s : State), i < 3 → s.mode = .running →
    let p := s.portOf i
    let e := s.ethSelf i
    let only (u : State) : Prop := ∀ j, j ≠ i → u.portOf j = s.portOf j
    (∀ m, (m = .bad ∨ 1518 < etherSize m) → ∃ u, exec (.ethFrameReceived t i m) s = .next u ∧
      u.portOf i = { p with rxFrameErr := inc16 p.rxFrameErr } ∧ only u ∧ s.sameBut [.now, .portSt] u) ∧
    (s.holdsBack i = true → ∀ m, m ≠ .bad → etherSize m ≤ 1518 → ∃ u, exec (.ethFrameReceived t i m) s = .next u ∧
      u.portOf i = (if rxBytes p.rxWait + etherSize m ≤ 4096 then { p with rxWait := p.rxWait ++ [.frame m] }
        else { p with rxQueueFull := inc16 p.rxQueueFull }) ∧ only u ∧ s.sameBut [.now, .portSt] u) ∧
    (s.holdsBack i = false →
      (∀ sip smac tip, s.addressed i tip = true → ∃ u, exec (.ethFrameReceived t i (.arpRequest sip smac tip)) s = .next u ∧
        arpFind (u.portOf i) sip = some smac ∧ e.frame smac (.arpReply tip sip smac) ∈ u.port.wire ∧ only u ∧
        s.sameBut [.now, .portSt, .wire] u) ∧
      (∀ sip smac tip, s.addressed i tip = true → ∃ u, exec (.ethFrameReceived t i (.arpReply sip smac tip)) s = .next u ∧
        arpFind (u.portOf i) sip = some smac ∧ (∀ w ∈ (u.portOf i).waits, w.hop ≠ sip) ∧ only u ∧ s.sameBut [.now, .portSt, .wire] u) ∧
      (∀ src dst data, s.addressed i dst = true → data.length ≤ 1472 →
        let hop := nextHop s.im (s.ownIp i) i src
        ∃ u, exec (.ethFrameReceived t i (.echoRequest src dst data)) s = .next u ∧ only u ∧ s.sameBut [.now, .portSt, .wire] u ∧
          (hop = 0 → u.portOf i = p ∧ u.port.wire = s.port.wire) ∧
          (∀ m, hop ≠ 0 → arpFind p hop = some m → u.portOf i = p ∧ u.port.wire = s.port.wire ++ [e.frame m (.ip dst src (.echo data))]) ∧
          (hop ≠ 0 → arpFind p hop = none →
            u.portOf i = { p with waits := p.waits ++ [{ hop := hop, since := max s.now t, src := dst, dst := src, body := .echo data }] } ∧
            u.port.wire = s.port.wire ++ [e.frame broadcastMac (.arpRequest (s.ownIp i) hop)])) ∧
      (∀ src sport dst data, s.addressed i dst = true → data.length ≤ 1472 → poHostIp s.im i ≠ 0 → src ≠ poHostIp s.im i →
        ∃ u, exec (.ethFrameReceived t i (.udp src sport dst 47200 data)) s = .next u ∧
          u.portOf i = { p with hostReject := inc16 p.hostReject } ∧ only u ∧ s.sameBut [.now, .portSt] u) ∧
      (∀ src sport data q, s.ownIp i ≠ 0 → data.length ≤ 1472 → (poHostIp s.im i = 0 ∨ src = poHostIp s.im i) →
        parsePacket i src sport data = some q → s.unt.pair.role ≠ 2 → s.engSilentStands = false →
        exec (.ethFrameReceived t i (.udp src sport (s.ownIp i) 47200 data)) s =
          .next ((s.tick t).stampEntry 5 (s.codeOf i % 8) (.packet (s.codeOf i) src sport data))) ∧
      (∀ src sport dst dport data, s.addressed i dst = true → data.length ≤ 1472 → dport ≠ 47200 → dport ≠ 47201 →
        ∃ u, exec (.ethFrameReceived t i (.udp src sport dst dport data)) s = .next u ∧
          u.portOf i = { p with noMatch := inc16 p.noMatch } ∧ only u ∧ s.sameBut [.now, .portSt] u)) ∧
    (∀ hop, ∃ u, exec (.arpWaitTimeout t i hop) s = .next u ∧ only u ∧ s.sameBut [.now, .portSt] u ∧
      ∀ w, w ∈ (u.portOf i).waits ↔ w ∈ p.waits ∧ ¬(w.hop = hop ∧ w.since + msC 1000 ≤ max s.now t)) ∧
    (∀ ip, ∃ u, exec (.arpEntryAgeOut t i ip) s = .next u ∧ only u ∧ s.sameBut [.now, .portSt] u ∧
      ∀ e, e ∈ (u.portOf i).arp ↔ e ∈ p.arp ∧ ¬(e.ip = ip ∧ e.since + msC 300000 ≤ max s.now t)) ∧
    (∀ src, (∃ r ∈ p.reasm, r.src = src ∧ r.since + msC 250 ≤ max s.now t) → ∃ u, exec (.fragDrop t i src) s = .next u ∧ only u ∧
      s.sameBut [.now, .portSt] u ∧ (u.portOf i).fragDrop = inc16 p.fragDrop ∧ ∀ r, r ∈ (u.portOf i).reasm ↔ r ∈ p.reasm ∧ r.src ≠ src) ∧
    (s.servesSvc i = true → 0 < p.announce → p.announceAt + msC (100 * (3 - p.announce)) ≤ max s.now t →
      ∃ u, exec (.gratuitousArp t i) s = .next u ∧ u.portOf i = { p with announce := p.announce - 1 } ∧ only u ∧
        u.port.wire = s.port.wire ++ [e.frame broadcastMac (.arpRequest (poSvcIp s.im i) (poSvcIp s.im i))] ∧ s.sameBut [.now, .portSt, .wire] u) ∧
    (∀ up speed, p.linkUp ≠ up → (up = true → linkSpeed s.im i speed = true) → ∃ u, exec (.portLink t i up speed) s = .next u ∧ only u ∧
      u.portOf i = { p with linkUp := up, speed := if up then speed else 0 } ∧
      u.recd = ((s.tick t).unitEvs [{ code := 0x0E01, src := i, p1 := b2n up, p2 := if up then speed else 0 }]).recd ∧
      s.sameBut [.now, .recd, .portSt] u) ∧
    (∀ up beacon, poPlcaEn s.im 2 = true → (s.portOf 2).plca ≠ up → ∃ u, exec (.plcaStatus t ⟨up, beacon⟩) s = .next u ∧
      u.portOf 2 = { s.portOf 2 with
        plca := up, plcaNodes := if up then plcaCount s.im beacon else 0, plcaTimer := if up then plcaTimerOf s.im else 0 } ∧
      u.recd = ((s.tick t).unitEvs [{ code := 0x0E02, src := 2, p1 := b2n up, p2 := poPlcaId s.im 2 }]).recd ∧
      s.sameBut [.now, .recd, .portSt] u)

/-! ## Recorder, calendar, supplies, start-ups and memories (R294 to R309, R444 to R463, R474 to R505, R549) -/

/-- EVENT_RECORD_WRITE (R308), LOST_RECORD_ADMIT (R305) and OPERATING_SECOND (R297, R301). The front record goes into the slot of NEXT_SEQ
with its check; a record of the losses takes a free place before any other; the operating seconds never fall. -/
def Obligations.RecorderRows : Prop :=
  (∀ (t : Nat) (r : EvRec) (rest : List EvRec) (s : State), s.zenithRuns = true → s.recd.queue = r :: rest →
    ∃ u, exec (.eventRecordWrite t) s = .next u ∧ u.recd.queue = rest ∧ u.recd.nextSeq = wrapN 32 (s.recd.nextSeq + 1) ∧
      tabGet none u.recd.mainLog (s.recd.nextSeq % 65536) = some
        { data := recordBits s.recd.nextSeq r, check := slotCheck (recordBits s.recd.nextSeq r) } ∧
      (∀ k, k ≠ s.recd.nextSeq % 65536 → tabGet none u.recd.mainLog k = tabGet none s.recd.mainLog k) ∧
      (r.sealed = true → u.recd.sealCount = wrapN 32 (s.recd.sealCount + 1) ∧
        u.recd.sealChain = crc32c s.recd.sealChain (recordBytes (recordBits s.recd.nextSeq r)) ∧
        tabGet none u.recd.sealLog (s.recd.sealCount % 4096) = some
          { data := recordBits s.recd.nextSeq r, check := slotCheck (recordBits s.recd.nextSeq r), chain := u.recd.sealChain }) ∧
      (r.sealed = false → u.recd.sealCount = s.recd.sealCount ∧ u.recd.sealChain = s.recd.sealChain ∧ u.recd.sealLog = s.recd.sealLog) ∧
      s.sameBut [.now, .recd] u) ∧
  (∀ (t : Nat) (s : State), s.zenithRuns = true → 0 < s.recd.lost → s.recd.queue.length < queuePlaces →
    ∃ u r, exec (.lostRecordAdmit t) s = .next u ∧ u.recd.queue = s.recd.queue ++ [r] ∧ r.code = 0x0C01 ∧ r.p1 = s.recd.lost ∧
      r.p2 = s.recd.lostCode + 65536 * s.recd.lostLast ∧ r.p3 = s.recd.lostFrame ∧ u.recd.lost = 0 ∧
      u.recd.queueMax = max s.recd.queueMax (s.recd.queue.length + 1) ∧ s.sameBut [.now, .recd] u) ∧
  (∀ (t : Nat) (s : State), s.zenithRuns = true → s.recd.opS < (s.tick t).wholeSeconds →
    ∃ u, exec (.operatingSecond t) s = .next u ∧ u.recd.opS = (s.tick t).wholeSeconds ∧ s.sameBut [.now, .recd] u ∧
      (s.recd.opS / 86400 = (s.tick t).wholeSeconds / 86400 → u.recd = { s.recd with opS := (s.tick t).wholeSeconds }))

/-- TWILIGHT_LOCK, TWILIGHT_TO_BACKUP, TWILIGHT_TO_RAIL and TWILIGHT_UNLOCK (R444), TWILIGHT_CONTENT_LOST (R446) and BAK_LOW_CHECK (R447).
The lock discards a write buffer that is not committed; the contents survive every switch of supply but the loss of VBAK. -/
def Obligations.CalendarSupply : Prop :=
  ∀ (t mv : Nat) (s : State),
    (mv < 3000 → exec (.twilightLock t mv) s = .next { s.tick t with twi := { s.twi with locked := true, wbuf := [] } }) ∧
    (mv < 2900 → exec (.twilightToBackup t mv) s =
      .next { s.tick t with twi := { s.twi with locked := true, wbuf := [], onBackup := true } }) ∧
    (3000 < mv → exec (.twilightToRail t mv) s = .next { s.tick t with twi := { s.twi with onBackup := false } }) ∧
    (∀ heldUs, 3100 < mv → 10000 ≤ heldUs →
      exec (.twilightUnlock t mv heldUs) s = .next { s.tick t with twi := { s.twi with locked := false, onBackup := false } }) ∧
    (s.twi.onBackup = true → mv < 1800 → ∃ u, exec (.twilightContentLost t mv) s = .next u ∧ s.sameBut [.now, .twi] u ∧
      (u.twi.year, u.twi.month, u.twi.day, u.twi.hour, u.twi.min, u.twi.sec, u.twi.wday) = (0, 1, 1, 0, 0, 0, 0) ∧
      u.twi.valid = false ∧ u.twi.bakLost = true ∧ u.twi.bram = [] ∧ u.twi.alSet = 0#256 ∧ u.twi.a0 = {} ∧ u.twi.a1 = {} ∧
      u.twi.locked = s.twi.locked ∧ u.twi.onBackup = true) ∧
    (∀ temp : Int, ∃ u, exec (.bakLowCheck t mv temp) s = .next u ∧ u.twi = { s.twi with bakLow := decide (mv < 2400) } ∧
      s.sameBut [.now, .recd, .twi] u ∧
      u.recd = (if decide (mv < 2400) ≠ s.twi.bakLow
        then ((s.tick t).unitEvs [{ code := 0x0C12, p1 := b2n (decide (mv < 2400)), p2 := mv }]).recd else s.recd))

/-- RTC_SECOND (R451, R452, R459). A second increment carries from seconds to the date; the weekday counter rises at midnight only; an
enabled and armed alarm that matches the new time fires, and a single alarm is then disarmed. An increment in the cycle of a time commit
is dropped (R456), and a weekday set in the cycle of the increment stands (R452). -/
def Obligations.CalendarSecond : Prop :=
  (∀ (t : Nat) (s : State), sameTick (max s.now t) s.twi.setAt = true → exec (.rtcSecond t) s = .next (s.tick t)) ∧
  ∀ (t : Nat) (s : State), sameTick (max s.now t) s.twi.setAt = false →
    ∃ u, exec (.rtcSecond t) s = .next u ∧ s.sameBut [.now, .twi] u ∧
    u.twi.subsec = 0 ∧ u.twi.subsecAt = max s.now t ∧ u.twi.roll = wrapN 8 (s.twi.roll + 1) ∧ u.twi.bram = s.twi.bram ∧
    u.twi.alSet = s.twi.alSet ∧
    (s.twi.sec < 59 → u.twi.sec = s.twi.sec + 1 ∧ (u.twi.min, u.twi.hour, u.twi.day, u.twi.month, u.twi.year, u.twi.wday) =
      (s.twi.min, s.twi.hour, s.twi.day, s.twi.month, s.twi.year, s.twi.wday)) ∧
    (s.twi.sec = 59 → s.twi.min < 59 → u.twi.sec = 0 ∧ u.twi.min = s.twi.min + 1 ∧
      (u.twi.hour, u.twi.day, u.twi.month, u.twi.year, u.twi.wday) = (s.twi.hour, s.twi.day, s.twi.month, s.twi.year, s.twi.wday)) ∧
    (s.twi.sec = 59 → s.twi.min = 59 → s.twi.hour < 23 → u.twi.sec = 0 ∧ u.twi.min = 0 ∧ u.twi.hour = s.twi.hour + 1 ∧
      (u.twi.day, u.twi.month, u.twi.year, u.twi.wday) = (s.twi.day, s.twi.month, s.twi.year, s.twi.wday)) ∧
    (s.twi.sec = 59 → s.twi.min = 59 → s.twi.hour = 23 → u.twi.sec = 0 ∧ u.twi.min = 0 ∧ u.twi.hour = 0 ∧
      (u.twi.year, u.twi.month, u.twi.day) = nextDay (s.twi.year, s.twi.month, s.twi.day) ∧
      u.twi.wday = (if sameTick (max s.now t) s.twi.wdayAt then s.twi.wday else (s.twi.wday + 1) % 7)) ∧
    ∀ k < 2, (alarmEn k s.twi = true → (alarmSt k s.twi).armed = true → u.twi.valid = true →
        alarmDate k u.twi u.twi.month u.twi.day u.twi.wday = true → alarmTime k u.twi u.twi.hour u.twi.min u.twi.sec = true →
        (alarmSt k u.twi).fired = true ∧ (alarmSt k u.twi).skipped = false ∧
          (alarmSt k u.twi).armed = alarmRepeat k s.twi) ∧
      ((alarmEn k s.twi = false ∨ (alarmSt k s.twi).armed = false) → alarmSt k u.twi = alarmSt k s.twi)

/-- R453. The increment past 2199-12-31 23:59:59 goes on at 2000-01-01 00:00:00, sets WRAPPED and clears VALID. -/
def Obligations.TheCalendarWraps : Prop :=
  ∀ (t : Nat) (s : State), sameTick (max s.now t) s.twi.setAt = false →
    (s.twi.year, s.twi.month, s.twi.day, s.twi.hour, s.twi.min, s.twi.sec) = (199, 12, 31, 23, 59, 59) →
    ∃ u, exec (.rtcSecond t) s = .next u ∧
      (u.twi.year, u.twi.month, u.twi.day, u.twi.hour, u.twi.min, u.twi.sec, u.twi.subsec) = (0, 1, 1, 0, 0, 0, 0) ∧
      u.twi.wrapped = true ∧ u.twi.valid = false

/-- RTC_FREEZE, RTC_RELEASE and RTC_FREEZE_TIMEOUT (R450), TWILIGHT_TIME_COMMIT (R456), TWILIGHT_SET_WDAY (R452), TWILIGHT_LOAD_ALARMS (R457),
TWILIGHT_BRAM_COMMIT (R463), TWILIGHT_REGISTER_WRITE (R448) and RTC_ALARM_STAMP (R462). A locked interface takes no access (R444), and a
written 1 leaves FIRED set where the alarm fired in the same frame (R9). -/
def Obligations.CalendarRegisters : Prop :=
  ∀ (t : Nat) (s : State),
    (s.twi.locked = false →
      exec (.rtcFreeze t) s = .next { s.tick t with twi :=
        { s.twi with torn := false, shadow := timeBlock (max s.now t) false { s.twi with torn := false }, frozenAt := some (max s.now t) } } ∧
      exec (.rtcRelease t) s = .next { s.tick t with twi := { s.twi with frozenAt := none } } ∧
      (∀ w ≤ 6, exec (.twilightSetWday t w) s = .next { s.tick t with twi := { s.twi with wday := w, wdayAt := some (max s.now t) } }) ∧
      (∃ u, exec (.twilightLoadAlarms t) s = .next u ∧ s.sameBut [.now, .twi] u ∧ u.twi.alSet = rtcBits s.im ∧ u.twi.alReg = rtcBits s.im ∧
        (∀ k < 2, fld (rtcBits s.im) (64 * k) 64 ≠ fld s.twi.alSet (64 * k) 64 → alarmSt k u.twi = { armed := true }) ∧
        (∀ k < 2, fld (rtcBits s.im) (64 * k) 64 = fld s.twi.alSet (64 * k) 64 → alarmSt k u.twi = alarmSt k s.twi)) ∧
      (∀ off b, s.twi.wbuf = [(off, some b)] →
        exec (.twilightBramCommit t) s = .next { s.tick t with twi := { s.twi with bram := tabSet 0#8 s.twi.bram off b, wbuf := [] } }) ∧
      (∀ k v, k < 8 → ∃ u, exec (.twilightRegisterWrite t (0x20 + 4 * k) v) s = .next u ∧ s.sameBut [.now, .twi] u ∧
        u.twi = { s.twi with alReg := setFld s.twi.alReg (32 * k) 32 v }) ∧
      (∀ v, exec (.twilightRegisterWrite t 0x0C v) s = .next { s.tick t with twi := { s.twi with
        a0 := { s.twi.a0 with fired := s.twi.a0.fired && (s.twi.a0.fresh || !v.testBit 13) }
        a1 := { s.twi.a1 with fired := s.twi.a1.fired && (s.twi.a1.fresh || !v.testBit 14) } } }) ∧
      (stValid s.twi.stage = true → ∃ u, exec (.twilightTimeCommit t) s = .next u ∧ s.sameBut [.now, .recd, .twi] u ∧
        (u.twi.year, u.twi.month, u.twi.day) = (stF s.twi.stage 80 8, stF s.twi.stage 72 4, stF s.twi.stage 64 5) ∧
        (u.twi.hour, u.twi.min, u.twi.sec) = (stF s.twi.stage 48 5, stF s.twi.stage 40 6, stF s.twi.stage 32 6) ∧
        u.twi.subsec = ceilDiv (stF s.twi.stage 0 10 * 32768) 1000 ∧ u.twi.wday = s.twi.wday ∧ u.twi.roll = wrapN 8 (s.twi.roll + 1) ∧
        u.twi.valid = true ∧ u.twi.bakLost = false ∧ u.twi.wrapped = false ∧ u.twi.stage = 0) ∧
      (stValid s.twi.stage = false → exec (.twilightTimeCommit t) s = .next (s.tick t))) ∧
    (∀ a, s.twi.frozenAt = some a → a + msC 2 ≤ max s.now t →
      exec (.rtcFreezeTimeout t) s = .next { s.tick t with twi := { s.twi with frozenAt := none, torn := true } }) ∧
    (s.twi.locked = true → exec (.rtcFreeze t) s = .next (s.tick t) ∧ exec (.rtcRelease t) s = .next (s.tick t) ∧
      exec (.twilightTimeCommit t) s = .next (s.tick t) ∧ exec (.twilightBramCommit t) s = .next (s.tick t) ∧
      exec (.twilightLoadAlarms t) s = .next (s.tick t) ∧ (∀ w ≤ 6, exec (.twilightSetWday t w) s = .next (s.tick t)) ∧
      ∀ off v, exec (.twilightRegisterWrite t off v) s = .next (s.tick t)) ∧
    (∀ k < 2, s.mode = .running → s.twi.locked = false → (alarmSt k s.twi).fired = true →
      ∃ u, exec (.rtcAlarmStamp t k) s = .next u ∧ alarmSt k u.twi = { alarmSt k s.twi with fired := false } ∧
        alarmSt (1 - k) u.twi = alarmSt (1 - k) s.twi ∧ u.unt.power.late.testBit k = false ∧ s.sameBut [.now, .inp, .twi, .power] u ∧
        (s.port.replay = true ∨ s.unt.pair.role = 2 → u.inp = s.inp) ∧
        (s.port.replay = false → s.unt.pair.role ≠ 2 → u.inp = ((s.tick t).stampEntry 6 k
          (.rtc k (b2n (alarmSt k s.twi).skipped + 2 * b2n (s.unt.power.late.testBit k)))).inp))

/-- FEED_STATE (R491), SUPPLY_DECLINE (R493) and OFF_ENTRY (R504). A feed takes the state of its reading; the orderly stop withdraws the
hold, ends a store, writes the operating seconds and the end reason, and halts; OFF takes the island power of every block too. -/
def Obligations.FeedsAndStops : Prop :=
  (∀ (t feed mv heldUs : Nat) (s : State), feed < 2 → s.awake = true →
    ∃ u, exec (.feedState t feed mv heldUs) s = .next u ∧ s.sameBut [.now, .recd, .power] u ∧
      (feed = 0 → u.unt.power = { s.unt.power with feedA := { state := feedJudge s.unt.power.feedA.state mv heldUs, mv := mv } }) ∧
      (feed = 1 → u.unt.power = { s.unt.power with feedB := { state := feedJudge s.unt.power.feedB.state mv heldUs, mv := mv } }) ∧
      (mv < 18000 → 10000 ≤ heldUs → (if feed = 0 then u.unt.power.feedA else u.unt.power.feedB).state = 1)) ∧
  (∀ (t mv heldUs : Nat) (s : State), s.awake = true → mv < 16000 → 50 ≤ heldUs →
    ∃ u, exec (.supplyDecline t mv heldUs) s = .next u ∧ u.mode = .stopped ∧ u.unt.power.endNext = 1 ∧ u.unt.power.restartDue = false ∧
      u.cfg.store = none ∧ u.recd.opS = (if s.zenithRuns then max s.recd.opS (s.tick t).wholeSeconds else s.recd.opS) ∧
      (s.paired = false ∨ s.unt.pair.role = 4 → u.recd = { s.recd with opS := u.recd.opS }) ∧
      (s.isWitness = false → u.ownHold = 0) ∧ (s.paired = true → u.unt.pair.role = 4) ∧ u.blks = s.blks) ∧
  (∀ (t openMs : Nat) (s : State), (s.awake = true ∨ s.mode = .dead) → s.unt.power.enableSeen = true → 100 ≤ openMs →
    ∃ u, exec (.offEntry t openMs) s = .next u ∧ u.mode = .off ∧ u.unt.power.endNext = 2 ∧ u.unt.power.enable = false ∧
      u.unt.power.enableSeen = false ∧ u.cfg.store = none ∧ (∀ b, u.blkRuns b = false) ∧
      u.recd.opS = (if s.zenithRuns then max s.recd.opS (s.tick t).wholeSeconds else s.recd.opS) ∧
      (s.paired = false ∨ s.unt.pair.role = 4 → u.recd = { s.recd with opS := u.recd.opS }))

/-- POWER_ON (R495), SUPPLY_RECOVERY (R493), WARM_RESTART_BEGIN (R501), RESET_BUTTON_RELEASE (R502), RESET_INPUT_STUCK and
RESET_INPUT_FREED (R503), WAKE (R505) and ROLE_DECISION (R423). A start-up with firmware to run and no lockstep failure clears the
sessions, ownership and inputs, counts itself, and opens frame 0, or decides its role first. -/
def Obligations.StartUps : Prop :=
  ∀ (t : Nat) (b : Bist) (s : State), (fwTake s.unt.fw1 s.unt.fw2).isSome = true → b.lockstep = 0 →
    let started (cause : Nat) (u : State) : Prop := (u.mode = .running ∨ u.mode = .deciding) ∧ u.phase = .gather ∧ u.fr.frameNo = 0 ∧
      u.unt.power.cause = cause ∧ u.recd.pwr = wrapN 32 (s.recd.pwr + 1) ∧
      u.port = { outbox := s.port.outbox, wire := s.port.wire } ∧ u.inp = {} ∧ u.unt.ident = s.unt.ident ∧ u.pending = s.pending
    (s.unt.power.enable = true → ∃ u, exec (.powerOn t false b) s = .next u ∧ started 1 u) ∧
    (s.unt.power.enable = true → ∃ u, exec (.powerOn t true b) s = .next u ∧ u.mode = .held ∧ u.unt.power.heldAt = max s.now t ∧
      u.port.owner = {}) ∧
    (∀ held, s.unt.power.enable = false → ∃ u, exec (.powerOn t held b) s = .next u ∧ u.mode = .off) ∧
    (∀ mv heldUs, s.mode = .stopped → s.unt.power.enable = true → 18500 ≤ mv → 100000 ≤ heldUs →
      ∃ u, exec (.supplyRecovery t mv heldUs b) s = .next u ∧ started 2 u) ∧
    (s.awake = true → s.unt.power.restartDue = true → ∃ u, exec (.warmRestartBegin t b) s = .next u ∧ started 5 u ∧
      (u.mode = .running → u.unt.power.ended = 3)) ∧
    (∀ closedMs openMs, (s.mode = .running ∨ s.mode = .deciding ∨ s.mode = .dead) → s.unt.power.rstIgnored = false → 50 ≤ closedMs →
      20 ≤ openMs → ∃ u, exec (.resetButtonRelease t closedMs openMs b) s = .next u ∧ started 6 u ∧
        (u.mode = .running → u.unt.power.ended = 4)) ∧
    (s.mode = .held → s.unt.power.heldAt + msC 10000 ≤ max s.now t → ∃ u, exec (.resetInputStuck t b) s = .next u ∧ started 1 u ∧
      u.unt.power.rstStuck = true) ∧
    (∀ openMs, s.mode = .held → ∃ u, exec (.resetInputFreed t openMs b) s = .next u ∧ started 1 u ∧ u.unt.power.rstStuck = false) ∧
    (∀ openMs, s.mode ≠ .held → 50 ≤ openMs → ∃ u, exec (.resetInputFreed t openMs b) s = .next u ∧ u.mode = s.mode ∧
      u.unt.power.rstStuck = false ∧ u.unt.power.rstIgnored = false) ∧
    (∀ closedMs alarm, alarm.all (· < 2) = true → s.mode = .off → 100 ≤ closedMs →
      ∃ u, exec (.wake t closedMs alarm b) s = .next u ∧ started 3 u ∧ u.unt.power.enable = true) ∧
    (∀ closedMs k, k < 2 → s.mode = .off → closedMs < 100 → s.alarmWakes k = true →
      ∃ u, exec (.wake t closedMs (some k) b) s = .next u ∧ started 4 u) ∧
    (s.mode = .deciding → s.unt.power.haloFault = false → (s.unt.pair.token ≠ 0 ∨ (s.tick t).tokenAway = true) →
      ∃ u, exec (.roleDecision t) s = .next u ∧ u.mode = .running ∧ u.fr.strobeAt = max s.now t ∧
        u.unt.pair.role = (if (if s.unt.pair.token = 0 then !s.unt.pair.unitB else decide (s.unt.pair.token = s.ownToken)) then 1 else 2) ∧
        u.port.owner = s.port.owner)

/-- R344. Whatever start-up a command begins and however it ends, ownership, offer and claims are gone after it. The role decision of a
unit of a pair, which ends its start-up, brings none back. -/
def Obligations.StartUpVacatesOwnership : Prop :=
  (∀ (t : Nat) (b : Bist) (s u : State),
    let vacant : Prop := u.port.owner.owner = none ∧ u.port.owner.offer = none ∧ u.port.owner.claims = [] ∧ u.port.owner.window = none
    (∀ held, exec (.powerOn t held b) s = .next u → vacant) ∧
    (∀ mv us, s.mode = .stopped → s.unt.power.enable = true → 18500 ≤ mv → 100000 ≤ us → exec (.supplyRecovery t mv us b) s = .next u → vacant) ∧
    (s.awake = true → s.unt.power.restartDue = true → exec (.warmRestartBegin t b) s = .next u → vacant) ∧
    (∀ c o, (s.mode = .running ∨ s.mode = .deciding ∨ s.mode = .dead) → s.unt.power.rstIgnored = false → 50 ≤ c → 20 ≤ o →
      exec (.resetButtonRelease t c o b) s = .next u → vacant) ∧
    (s.mode = .held → s.unt.power.heldAt + msC 10000 ≤ max s.now t → exec (.resetInputStuck t b) s = .next u → vacant) ∧
    (∀ o, s.mode = .held → exec (.resetInputFreed t o b) s = .next u → vacant) ∧
    (∀ c a, s.mode = .off → (100 ≤ c ∨ ∃ k, a = some k ∧ s.alarmWakes k = true) → exec (.wake t c a b) s = .next u → vacant)) ∧
  (∀ (t : Nat) (s u : State), exec (.roleDecision t) s = .next u → u.port.owner = s.port.owner) ∧
  State.reset.port.owner = {}

/-- CORRECTION_WRITEBACK (R467, R470, R471, R474 to R476, R485). The decode of a codeword with its flipped bits is clean, corrects it,
which counts 1 in CORR and writes it back, or finds it beyond correction, which counts 1 in UNCORR with the reaction of its requester.
A write changes its bytes and makes the codeword whole again; one of fewer than 32 bytes into an uncorrectable codeword is not
performed, and one of all 32 reads nothing. In the mailbox the write through port 0 stands over one of the same cycle through port 1. A word
of MRAM corrects a single bit, and reports two.

HAZE_STEP, HAZE_YIELD and HAZE_PASS_END (R479 to R483). A march step counts its failing codewords; every other memory stands.

CONFIG_STORE_COMPLETE (R549). A readback that agrees completes the slot and records 0310h; a first difference starts the store again,
and a second one gives up with 0312h and leaves the slot as it is. -/
def Obligations.MemoriesAndStores : Prop :=
  ((∀ (t mem bank cw req flip : Nat) (a : MemAccess) (cells : List Nat) (s : State), mem < 0x16 → memHas mem bank cw = true →
    accFits a = true → s.awake = true → memReach s.live mem req = true →
    let raw := memWord bank cw (s.memOf mem) ^^^ flip
    let d := rawDecode raw
    ∃ u, exec (.correctionWriteback t mem bank cw req ⟨flip, a, none, cells⟩) s = .next u ∧ (∀ k, k ≠ mem → u.memOf k = s.memOf k) ∧
      (a = .read → memWord bank cw (u.memOf mem) = d.kept raw) ∧
      (∀ off bytes, a = .write off bytes → (accWhole a = true ∨ d ≠ .uncorrectable) → memWord bank cw (u.memOf mem) =
        rawNumber (rsEncode (((toBytes 32 (d.kept raw)).take off ++ bytes ++ (toBytes 32 (d.kept raw)).drop (off + bytes.length)).map
          (·.toNat)))) ∧
      (a ≠ .read → accWhole a = false → d = .uncorrectable → memWord bank cw (u.memOf mem) = raw) ∧
      ((accWhole a = true ∨ d = .clean) → (u.memOf mem).corr = (s.memOf mem).corr ∧ (u.memOf mem).uncorr = (s.memOf mem).uncorr ∧
        s.sameBut [.now, .mem] u) ∧
      (accWhole a = false → (∃ x, d = .corrected x) → (u.memOf mem).corr = satN 16 ((s.memOf mem).corr + 1) ∧
        (u.memOf mem).uncorr = (s.memOf mem).uncorr ∧ (u.memOf mem).lastKind = 1 ∧ (u.memOf mem).lastCw = cw ∧
        s.sameBut [.now, .mem, .recd] u) ∧
      (accWhole a = false → d = .uncorrectable → (u.memOf mem).uncorr = satN 16 ((s.memOf mem).uncorr + 1) ∧
        (u.memOf mem).lastKind = 2 ∧ (u.memOf mem).lastReq = req ∧ u.unt.mdiag.memUncorr = true ∧
        (∀ x, readPoisons mem bank cw req = some x → s.mode = .running → u.eng.poison.testBit x.1 = true) ∧
        (readPoisons mem bank cw req = none → u.eng = s.eng) ∧
        (∀ p, commandBuffer mem bank cw = some p → req = 0x0B → (u.portOf p).pktDiscard = satN 16 ((s.portOf p).pktDiscard + 1)))) ∧
  (∀ (t cw req flip : Nat) (x y : List Byte) (cells : List Nat) (s : State), cw < 2048 → x.length = 32 → y.length = 32 → s.awake = true →
    memReach s.live 0x14 req = true →
    ∃ u, exec (.correctionWriteback t 0x14 8 cw req ⟨flip, .write 0 x, some (.write 0 y), cells⟩) s = .next u ∧
      memWord 8 cw (u.memOf 0x14) = rawNumber (rsEncode (x.map (·.toNat))) ∧
      (x = y → s.sameBut [.now, .mem] u) ∧
      (x ≠ y → u.unt.mdiag.collide = satN 16 (s.unt.mdiag.collide + 1) ∧ u.unt.mdiag.memCollide = true ∧
        s.sameBut [.now, .mem, .mdiag, .recd] u)) ∧
  (∀ (t bank cw req flip : Nat) (a : MemAccess) (cells : List Nat) (s : State), memHas 0x16 bank cw = true → accFits a = true →
    s.awake = true → memReach s.live 0x16 req = true →
    let raw := memWord bank cw (s.memOf 0x16) ^^^ flip
    let n := ((List.range 72).filter raw.testBit).length
    ∃ u, exec (.correctionWriteback t 0x16 bank cw req ⟨flip, a, none, cells⟩) s = .next u ∧ (∀ k, k ≠ 0x16 → u.memOf k = s.memOf k) ∧
      (n = 0 → (u.memOf 0x16).corr = (s.memOf 0x16).corr ∧ s.sameBut [.now, .mem] u) ∧
      (n = 1 → (u.memOf 0x16).corr = satN 16 ((s.memOf 0x16).corr + 1) ∧ memWord bank cw (u.memOf 0x16) = 0 ∧
        s.sameBut [.now, .mem, .recd] u) ∧
      (n = 2 → (u.memOf 0x16).lastKind = 2 ∧ (u.memOf 0x16).lastCw = cw ∧ u.unt.mdiag.memUncorr = true ∧
        u.recd = ((s.tick t).unitEvs [{ code := 0x1008, src := 0x16, p1 := 8 * (65536 * bank + cw) }]).recd)) ∧
  (∀ (t mem bank cw : Nat) (march : Bool) (words : List Nat) (s : State), mem < 0x16 → memHas mem bank cw = true → words.length ≤ 16 →
    memHas mem bank (cw + words.length - 1) = true → s.awake = true →
    ∃ u, exec (.hazeStep t mem bank cw march words) s = .next u ∧ (∀ k, k ≠ mem → u.memOf k = s.memOf k) ∧
      (march = true → (∀ w ∈ words, w = 0) → (u.memOf mem).marchFail = (s.memOf mem).marchFail ∧ u.recd = s.recd) ∧
      (march = true → (∃ w ∈ words, w ≠ 0) → (s.memOf mem).marchFail < 0xFFFF → (s.memOf mem).marchFail < (u.memOf mem).marchFail ∧
        u.unt.mdiag.memMarch = true) ∧
      (march = false → (∀ k < words.length, rawDecode (memWord bank (cw + k) (s.memOf mem) ^^^ words.getD k 0) = .clean) →
        (u.memOf mem).corr = (s.memOf mem).corr ∧ (u.memOf mem).uncorr = (s.memOf mem).uncorr ∧ u.recd = s.recd) ∧
      ((s.memOf mem).again = some (bank, cw, march) → (u.memOf mem).again = none)) ∧
  (∀ (t mem bank cw : Nat) (march : Bool) (s : State), mem < 0x16 → memHas mem bank cw = true → s.awake = true →
    ∃ u, exec (.hazeYield t mem bank cw march) s = .next u ∧ u.memOf mem = { s.memOf mem with again := some (bank, cw, march) } ∧
      (∀ k, k ≠ mem → u.memOf k = s.memOf k) ∧ u.recd = s.recd) ∧
  (∀ (t mem : Nat) (march : Bool) (s : State), mem < 0x16 → s.awake = true →
    ∃ u, exec (.hazePassEnd t mem march) s = .next u ∧ (∀ k, k ≠ mem → u.memOf k = s.memOf k) ∧
      (march = false → (u.memOf mem).scrubs = wrapN 8 ((s.memOf mem).scrubs + 1) ∧ (u.memOf mem).scrubFrom = max s.now t ∧
        (max s.now t - (s.memOf mem).scrubFrom ≤ 8 * msC 1000 → (u.memOf mem).slow = false) ∧
        (32 * msC 1000 < max s.now t - (s.memOf mem).scrubFrom → (u.memOf mem).slow = true)) ∧
      (march = true → (u.memOf mem).marches = wrapN 8 ((s.memOf mem).marches + 1) ∧ (u.memOf mem).marchDown = !(s.memOf mem).marchDown ∧
        (max s.now t - (s.memOf mem).marchFrom ≤ 24 * 3600 * msC 1000 → (u.memOf mem).slow = false) ∧
        (96 * 3600 * msC 1000 < max s.now t - (s.memOf mem).marchFrom → (u.memOf mem).slow = true)))) ∧
  (∀ (t : Nat) (x : Store) (s : State), s.awake = true → s.cfg.store = some x →
    let gen := x.content.hdr.generation
    (∃ u, exec (.configStoreComplete t none) s = .next u ∧ u.cfg.store = none ∧
      u.cfg.slot x.slot = some { x.content with torn := false } ∧ u.cfg.image = s.cfg.image ∧
      u.recd = ((s.tick t).unitEvs [{ code := 0x0310, src := x.slot, p1 := gen, p2 := x.content.hdr.storeCrc, p3 := x.content.hdr.cfgCrc }]).recd ∧
      s.sameBut [.now, .recd, .slotA, .slotB, .store] u) ∧
    (∀ off, x.retried = false → exec (.configStoreComplete t (some off)) s =
      .next { s.tick t with cfg := { s.cfg with store := some { x with retried := true } } }) ∧
    (∀ off, x.retried = true → ∃ u, exec (.configStoreComplete t (some off)) s = .next u ∧ u.cfg.store = none ∧
      u.recd = ((s.tick t).unitEvs [{ code := 0x0312, src := x.slot, p1 := gen, p2 := off }]).recd ∧ s.sameBut [.now, .recd, .store] u))

/-! ## The redundant pair (R417 to R440) and the lockstep (R25) -/

/-- LANE_ERROR, LANE_SILENCE and LANE_UP (R424, R430). Errors are counted, the eighth in 1 ms and 2 µs of silence take a lane down, and
the standby is unsynchronised without a lane. The other lane stands.

HALO_HOLD_CHANGE (R420) and DIGEST_COMPARE (R427, R440). A level is the new level of its hold; a change of the partner's is recorded.
Equal digests count in the compare phase, and different ones unsynchronise the standby; a digest of a frame that this unit has not
completed is kept until it has. -/
def Obligations.LanesHoldsAndDigests : Prop :=
  (∀ (t i : Nat) (s : State), i < 2 → s.unitUp = true →
    let l := s.laneOf i
    let near := (l.recent.filter fun a => decide (max s.now t < a + msC 1)).length + 1
    (∃ u, exec (.laneError t i) s = .next u ∧ (u.laneOf i).errs = satN 16 (l.errs + 1) ∧ u.laneOf (1 - i) = s.laneOf (1 - i) ∧
      s.sameBut [.now, .recd, .pair] u ∧
      (near < 8 → (u.laneOf i).up = l.up ∧ u.unt.pair.sync = s.unt.pair.sync ∧ u.recd = s.recd) ∧
      (8 ≤ near → (u.laneOf i).up = false) ∧
      (8 ≤ near → l.up = true → (s.laneOf (1 - i)).up = false → u.unt.pair.sync = 0)) ∧
    (l.up = true → ∃ u, exec (.laneSilence t i) s = .next u ∧ (u.laneOf i).up = false ∧ u.laneOf (1 - i) = s.laneOf (1 - i) ∧
      ((s.laneOf (1 - i)).up = false → u.unt.pair.sync = 0) ∧
      ((s.laneOf (1 - i)).up = true → u.unt.pair.sync = s.unt.pair.sync) ∧ s.sameBut [.now, .recd, .pair] u) ∧
    (l.up = false → l.broken = false → l.cleanAt + msC 100 ≤ max s.now t → ∃ u, exec (.laneUp t i) s = .next u ∧ u.laneOf i = { l with up := true, recent := [] } ∧
      u.laneOf (1 - i) = s.laneOf (1 - i) ∧ u.unt.pair.sync = s.unt.pair.sync ∧ s.sameBut [.now, .recd, .pair] u)) ∧
  ((∀ (t level : Nat) (own : Bool) (s : State), level < 4 → s.awake = true → s.paired = true →
    ∃ u, exec (.haloHoldChange t level own) s = .next u ∧ s.sameBut [.now, .recd, .pair] u ∧
      (own = true → u.ownHold = level ∧ u.partnerHold = s.partnerHold ∧ u.recd = s.recd) ∧
      (own = false → u.partnerHold = level ∧ u.ownHold = s.ownHold) ∧
      (own = false → s.partnerHold = level → u.recd = s.recd) ∧
      (own = false → s.partnerHold ≠ level → ¬(s.unt.pair.role = 2 ∧ (s.unt.pair.sync = 1 ∨ s.unt.pair.sync = 2)) →
        u.unt.pair.sync = s.unt.pair.sync ∧ u.recd = ((s.tick t).unitEvs [{ code := 0x0F04, p1 := level, p2 := s.partnerHold }]).recd) ∧
      (own = false → s.partnerHold = 2 → level ≠ 2 → s.unt.pair.role = 2 → s.unt.pair.sync = 1 ∨ s.unt.pair.sync = 2 →
        u.unt.pair.sync = 0)) ∧
  (∀ (t level : Nat) (own : Bool) (s : State), level < 4 → s.awake = true → s.isWitness = true → s.unt.pair.unitB = false →
    ∃ u, exec (.haloHoldChange t level own) s = .next u ∧ u.holdOf (if own then 0 else 1) = level ∧
      u.holdOf (if own then 1 else 0) = s.holdOf (if own then 1 else 0) ∧ s.sameBut [.now, .pair] u) ∧
  (∀ (t lane n partner : Nat) (s : State), lane < 2 → (s.laneOf lane).up = true → s.mode = .running → s.paired = true →
    ∃ u, exec (.digestCompare t lane n partner) s = .next u ∧ s.sameBut [.now, .recd, .pair] u ∧
      (∀ own, s.unt.pair.digest = some (n, own) →
        (own = partner → u.unt.pair.sync = s.unt.pair.sync ∧ u.recd = s.recd ∧
          u.unt.pair.agreed = if s.unt.pair.sync = 2 then min 16 (s.unt.pair.agreed + 1) else s.unt.pair.agreed) ∧
        (own ≠ partner → 2 ≤ s.unt.pair.sync → u.unt.pair.sync = 0 ∧ u.unt.pair.agreed = 0 ∧
          u.unt.pair.digestFail = satN 16 (s.unt.pair.digestFail + 1))) ∧
      ((∀ own, s.unt.pair.digest ≠ some (n, own)) → u.unt.pair = { s.unt.pair with heard := some (n, partner) } ∧ u.recd = s.recd)))

/-- CONTRAIL_BLOCK_RECEIVE (R424 to R430, R469, R476). The mirror engine writes the bytes of a block into the mailbox. A standby takes
the marker of the active with its frame record and, while it computes frames, the records, the entries and the staging image; the active
takes acknowledgements. A block missing from both lanes, or one whose bytes could not be written, and a marker of a poisoned or overrun
frame unsynchronise the standby. -/
def Obligations.ContrailBlocks : Prop :=
  ∀ (t at0 : Nat) (raw : List Byte) (s : State), s.mode = .running → s.paired = true → s.linkUp = true → at0 + raw.length ≤ 0x8000 →
    let took (b : ContrailBlock) (f : State → Prop) : Prop := ∃ u, exec (.contrailBlockReceive t ⟨at0, raw, b⟩) s = .next u ∧ f u
    ((mailPieces raw.length at0 raw).any s.mailRefused = true → ∀ b, took b fun u => u.unt.pair.sync = 0) ∧
    ((mailPieces raw.length at0 raw).any s.mailRefused = false →
      (∀ n len lag deferred, s.unt.pair.role = 2 → took (.marker n len lag deferred false false) fun u =>
        u.unt.pair.marker = n ∧ u.unt.pair.markerAt = max s.now t ∧ u.unt.pair.markerLen = len ∧ u.unt.pair.markerLag = lag ∧
          u.unt.pair.markerDefer = deferred ∧ u.unt.pair.sync = s.unt.pair.sync ∧ u.unt.pair.role = 2 ∧
          s.sameBut [.now, .pair, .mem, .mdiag, .recd] u ∧
          ∀ k < 1024, at0 = 32 * k → raw.length = 32 → memWord 8 k (u.memOf 0x14) = rawNumber (rsEncode (raw.map (·.toNat)))) ∧
      (∀ n len lag deferred poisoned overrun, s.unt.pair.role = 2 → poisoned = true ∨ overrun = true →
        took (.marker n len lag deferred poisoned overrun) fun u => u.unt.pair.marker = n ∧ u.unt.pair.sync = 0) ∧
      (∀ c r, c < 512 → s.follows = true → s.phase = .gather → took (.cells s.fr.frameNo [(c, r, false)]) fun u =>
        u.recOf c = r ∧ u.staleOf c = false ∧ u.inp.mirrored.testBit c = true ∧
          ∀ k, k ≠ c → u.recOf k = s.recOf k ∧ u.staleOf k = s.staleOf k) ∧
      (∀ n recs, n ≠ s.fr.frameNo → took (.cells n recs) fun u => u.inp = s.inp) ∧
      (∀ e, s.follows = true → s.phase = .gather → took (.entry s.fr.frameNo e) fun u =>
        u.inp = { s.inp with entries := s.inp.entries ++ [e] } ∧ u.fr = { s.fr with asyncCount := s.fr.asyncCount + 1 }) ∧
      (s.follows = true → s.phase = .gather → took (.inputsDone s.fr.frameNo) fun u => u.unt.pair.inputs = true ∧ u.inp = s.inp) ∧
      (∀ n, s.unt.pair.role = 1 → took (.ack n) fun u => u.unt.pair.acked = some n) ∧
      (∀ cls ix v, s.follows = true → took (.staging cls ix v) fun u =>
        u.cfg.staging = setInst s.cfg.staging cls ix v ∧ u.cfg.image = s.cfg.image) ∧
      took .missing fun u => u.unt.pair.sync = 0 ∧ u.unt.pair.role = s.unt.pair.role)

/-- TOKEN_CHANGE and ACTIVE_YIELD_B (R422), SELF_CHECK_FAIL (R417), ZEN_LOCKSTEP (R25) and SWITCHOVER_HANDOFF (R436). The role follows the
token by the role table; a failed self-check takes the unit to FAILED with its hold off; a lockstep mismatch poisons the frame. -/
def Obligations.RoleChanges : Prop :=
  ∀ (t : Nat) (s : State), s.mode = .running → s.paired = true →
    let p := s.unt.pair
    (∀ token < 3, p.token ≠ token → ∃ u, exec (.tokenChange t token) s = .next u ∧ u.unt.pair.token = token ∧
      u.unt.pair.tokenAt = max s.now t ∧
      (p.role = 2 → token = s.ownToken → u.unt.pair.role = 1 ∧ u.unt.pair.switchAt = none) ∧
      (p.role = 1 → token = s.partnerToken → u.unt.pair.role = 2 ∧ u.unt.pair.switchAt = none) ∧
      (¬(p.role = 2 ∧ token = s.ownToken) → ¬(p.role = 1 ∧ token = s.partnerToken) →
        u.unt.pair.role = p.role ∧ u.unt.pair.sync = p.sync ∧ s.sameBut [.now, .recd, .pair] u)) ∧
    (∀ us, p.unitB = true → p.role = 1 → p.token = 0 → s.partnerHold = 2 → 10 ≤ us →
      ∃ u, exec (.activeYieldB t us) s = .next u ∧ u.unt.pair.role = 2 ∧ u.unt.pair.sync = 0) ∧
    (s.idleStandby = false → (p.role = 1 ∨ p.role = 2) → s.fr.strobeAt + 16 * s.P ≤ t →
      ∃ u, exec (.selfCheckFail t) s = .next u ∧ u.unt.pair.role = 4 ∧ u.ownHold = 0 ∧ u.partnerHold = s.partnerHold) ∧
    (∃ u, exec (.zenLockstep t) s = .next u ∧ u.eng.poison.testBit 16 = true ∧ u.unt.mdiag.lockstep = true ∧
      u.unt.pair.role = if p.role = 1 ∨ p.role = 2 then 4 else p.role) ∧
    (∀ n k, p.role = 1 → p.lowered = false → p.switchAt = some n → p.acked = some k → n + 1 ≤ k →
      ∃ u, exec (.switchoverHandoff t) s = .next u ∧ u.unt.pair.lowered = true ∧ u.unt.pair.role = 1 ∧
        u.ownHold = (if s.unt.power.identBad then 0 else 1) ∧ s.sameBut [.now, .pair] u)

/-- WITNESS_TOKEN_DECISION, WITNESS_START_TIMEOUT and WITNESS_HOLDER_GRACE_END (R421). With no holder, a unit at active level alone becomes
holder; outside the grace, a holder that is not at active level gives way to a partner that is present; after 2 s without a holder unit
A is named. A witness whose identity data fail drives no token. -/
def Obligations.WitnessTokens : Prop :=
  ∀ (t : Nat) (s : State), s.awake = true → s.isWitness = true →
    let named (v : Nat) (u : State) : Prop := u.unt.wit.holder = some v ∧ u.unt.wit.namedAt = max s.now t ∧ u.unt.wit.grace = true ∧
      u.unt.pair.token = (if s.unt.power.identBad then 0 else v + 1) ∧ s.sameBut [.now, .pair, .wit] u
    (s.unt.wit.holder = none → s.holdOf 0 = 2 → s.holdOf 1 ≠ 2 → ∃ u, exec (.witnessTokenDecision t) s = .next u ∧ named 0 u) ∧
    (s.unt.wit.holder = none → s.holdOf 1 = 2 → s.holdOf 0 ≠ 2 → ∃ u, exec (.witnessTokenDecision t) s = .next u ∧ named 1 u) ∧
    (∀ h < 2, s.unt.wit.holder = some h → s.unt.wit.grace = false → s.holdOf h ≠ 2 → (s.holdOf (1 - h) = 1 ∨ s.holdOf (1 - h) = 2) →
      ∃ u, exec (.witnessTokenDecision t) s = .next u ∧ named (1 - h) u) ∧
    (∀ h, s.unt.wit.holder = some h → (s.unt.wit.grace = true ∨ s.holdOf h = 2) →
      exec (.witnessTokenDecision t) s = .next (s.tick t)) ∧
    (s.unt.wit.holder = none → ¬(s.holdOf 0 = 2 ∧ s.holdOf 1 ≠ 2) → ¬(s.holdOf 1 = 2 ∧ s.holdOf 0 ≠ 2) →
      s.unt.wit.startAt + msC 2000 ≤ t → ∃ u, exec (.witnessStartTimeout t) s = .next u ∧ named 0 u) ∧
    (∀ h < 2, s.unt.wit.holder = some h → s.unt.wit.grace = true → s.unt.wit.namedAt + usC 100 ≤ t →
      ∃ u, exec (.witnessHolderGraceEnd t) s = .next u ∧ s.sameBut [.now, .pair, .wit] u ∧
        (s.holdOf h = 2 → u.unt.wit = { s.unt.wit with grace := false } ∧ u.unt.pair.token = s.unt.pair.token) ∧
        (s.holdOf h ≠ 2 → (s.holdOf (1 - h) = 1 ∨ s.holdOf (1 - h) = 2) → named (1 - h) u))

/-- STANDBY_STROBE and STANDBY_NOTICE_TIMEOUT (R426), RESYNC_AUTO_START (R438), RESYNC_COPY_DONE (R439) and RESYNC_COMPARE_DONE (R440). A
standby opens the frame of the active's latest marker with the active's frame record; resynchronisation goes through its phases, and at
the end of the copy the standby holds the state of the active. -/
def Obligations.StandbyAndResync : Prop :=
  ∀ (t : Nat) (s : State), s.mode = .running →
    let p := s.unt.pair
    (s.follows = true → s.port.replay = false → s.phase = .complete → s.fr.frameNo < p.marker → ∃ u, exec (.standbyStrobe t) s = .next u ∧
      u.phase = .gather ∧ u.fr.frameNo = p.marker ∧ u.fr.strobeAt = t ∧ u.fr.prevLen = p.markerLen ∧ u.fr.lag = p.markerLag ∧
      u.fr.deferCount = p.markerDefer ∧
      (p.markerAt + usC 5 < t → u.unt.pair.sync = 0)) ∧
    (s.paired = true → p.role = 1 → p.sync = 3 → s.phase = .complete → p.noticed = false → s.fr.doneAt + usC 100 ≤ t →
      ∃ u, exec (.standbyNoticeTimeout t) s = .next u ∧ u.unt.pair.noticed = true ∧ u.fr.doneAt = s.fr.doneAt + usC 100 ∧
        s.sameBut [.now, .fr, .pair] u) ∧
    (∀ a, paAuto s.im = true → s.resyncReady = true → p.tries < 3 → p.readyFrom = some a → a + msC (1000 * paHold s.im) ≤ t →
      ∃ u, exec (.resyncAutoStart t) s = .next u ∧ u.unt.pair.sync = 1 ∧ u.unt.pair.attempt = p.attempt + 1 ∧ u.unt.pair.agreed = 0 ∧
        u.unt.pair.role = p.role ∧ s.sameBut [.now, .recd, .pair, .wire] u) ∧
    (∀ copy, copy.hosts.sessioned = true → s.paired = true → p.sync = 1 → ∃ u, exec (.resyncCopyDone ⟨t, copy⟩) s = .next u ∧
      u.unt.pair.sync = 2 ∧ u.unt.pair.attempt = p.attempt ∧ u.unt.pair.role = p.role ∧
      (p.role = 2 → u.phase = .complete ∧ u.fr.frameNo = copy.fr.frameNo ∧ u.eng = copy.eng ∧ u.safe = copy.safe ∧ u.alm = copy.alm ∧
        u.shown = copy.shown ∧ u.can.objs = copy.objs ∧ u.cfg.staging = copy.staging ∧ u.port.sess = copy.hosts.sess ∧
        u.port.owner = copy.hosts.owner) ∧
      (p.role ≠ 2 → s.sameBut [.now, .recd, .pair] u)) ∧
    (s.paired = true → p.sync = 2 → 16 ≤ p.agreed → ∃ u, exec (.resyncCompareDone t true) s = .next u ∧ u.unt.pair.sync = 3 ∧
      u.unt.pair.cause = 0 ∧ u.unt.pair.tries = 0 ∧ u.unt.pair.agreed = 0 ∧ s.sameBut [.now, .recd, .pair] u) ∧
    (s.paired = true → p.sync = 2 → ∃ u, exec (.resyncCompareDone t false) s = .next u ∧ u.unt.pair.sync = 0 ∧ u.unt.pair.cause = 8 ∧
      u.unt.pair.tries = min 15 (p.tries + 1) ∧ s.sameBut [.now, .recd, .pair] u)

/-! ## The whole node -/

/-- The queue: a step takes the command at its front, and runs it on the node with the queue's rest. On an empty queue the block
idles (the model's choice, log 1). -/
def Obligations.StepServesTheFront : Prop :=
  (∀ (c : Instr) (rest : List Instr) (s : State), step { s with pending := c :: rest } = exec c { s with pending := rest }) ∧
  (∀ s : State, s.pending = [] → step s = .next s)

/-- A command writes the parts listed for it and nothing else: the queue, the identity data and every other part of the node are the
same after it. Time never runs backwards. -/
def Obligations.CommandsWriteOnlyTheirParts : Prop :=
  ∀ (i : Instr) (s u : State), exec i s = .next u → s.sameBut (touches i) u ∧ s.now ≤ u.now

/-- A command whose operands lie in their ranges has its effect in every state: it answers a next state. No command is refused, and the
one fault is an operand that names a unit or a field value that does not exist (log 2). -/
def Obligations.NamedCommandsComplete : Prop :=
  (∀ (i : Instr) (s : State), i.wellFormed = true → ∃ u, exec i s = .next u) ∧
  (∀ (i : Instr) (s : State) (f : Fault), exec i s = .fault f → f = .noSuchUnit ∧ i.wellFormed = false) ∧
  (∀ (i : Instr) (s : State) (r : Refusal), exec i s ≠ .refused r)

/-- Every step keeps the calendar at a date and a time that exist, and the backup RAM and its write buffer in canonical form within
bytes 0 to 127 (R451, R453, R456, R463). -/
def Obligations.CalendarStaysLegal : Prop :=
  ∀ s u : State, s.twi.legal → s.twi.ramWf → step s = .next u → u.twi.legal ∧ u.twi.ramWf

/-- Every step keeps ownership with a session: the owner, and each port whose claim is collected, is a port with an open session
(R321, R343, R348, R355). The inputs of a trace are processed within their command: between two commands the live sessions and
ownership are in place (the model's reading of R70, log 63). -/
def Obligations.OwnersHaveSessions : Prop :=
  (∀ s u : State, s.ownersOpen → step s = .next u → u.ownersOpen) ∧
  ∀ s u : State, s.port.replayIn.within = false → step s = .next u → u.port.replayIn.within = false

/-- The machine after reset (R43, R321, R343, R451, R500; the values that the spec does not give are those of log 3): a single node runs
its empty image in frame 0, no host holds a session or ownership, no output is enabled, and both invariants hold. -/
def Obligations.ResetLeaves : Prop :=
  State.reset.pending = [] ∧ State.reset.mode = .running ∧ State.reset.phase = .gather ∧ State.reset.fr.frameNo = 0 ∧
    State.reset.fr.lag = 0 ∧ State.reset.unt.pair.role = 0 ∧ State.reset.flagOn = false ∧ (∀ k, State.reset.sessOf k = {}) ∧
    State.reset.port.owner.owner = none ∧ State.reset.port.owner.offer = none ∧ State.reset.recd.queue = [] ∧
    (∀ c, c < 512 → chMode State.reset.im c = 0) ∧ (∀ c, State.reset.drives c = false) ∧
    State.reset.twi.legal ∧ State.reset.twi.ramWf ∧ State.reset.ownersOpen

/-- Steps 1 to 4 and 7 of R320, and R322, for every command packet but OPEN_SESSION on a unit that runs frames and is no standby. The
first check that fails answers and has no other effect; a repeated packet gets its stored reply again, byte for byte, or none while
that is pending; an owner-only opcode of another port gets NOT_OWNER. -/
def Obligations.PacketChecks : Prop :=
  ∀ (i : Instr) (h : PktHead) (op : Op) (torn : Bool) (s : State), packetOf i = some (h, op, torn) → i.wellFormed = true →
    opCode op ≠ 0x0002 → (opAlarm op = true → s.alm.next = 0) → s.mode = .running → s.unt.pair.role ≠ 2 →
    s.port.replayIn.within = false → s.ownerSteady = true →
    let code := s.codeOf h.port
    let x := s.sessOf code
    let next := (x.lastSeq + 1) % 2 ^ 32
    let refused (u : State) (st : Nat) (body : List Byte) : Prop :=
      (∃ l, trailing h l ∧ u.port.outbox = s.port.outbox ++ s.replyTo h (opCode op) st body :: l) ∧ u.port.pend = s.port.pend ∧
        u.port.owner = s.port.owner ∧ (u.sessOf code).id = x.id ∧ (u.sessOf code).lastSeq = x.lastSeq ∧ (u.sessOf code).lastOp = x.lastOp ∧
        (u.sessOf code).busy = x.busy ∧ (u.sessOf code).reply = x.reply ∧ s.sameBut (servingParts h) u
    let headOk : Prop := h.version = 1 ∧ h.flags = 0 ∧ h.status = 0
    let mine : Prop := x.id ≠ 0 ∧ h.session = x.id
    ∃ u, exec i s = .next u ∧
      (h.version ≠ 1 → refused u stBadVersion []) ∧
      (h.version = 1 → (h.flags ≠ 0 ∨ h.status ≠ 0) → refused u stBadValue []) ∧
      (headOk → ¬mine → refused u stBadSession []) ∧
      (headOk → mine → h.seq = next → x.busy = true → refused u stBusy []) ∧
      (headOk → mine → h.seq ≠ next → (h.seq ≠ x.lastSeq ∨ opCode op ≠ x.lastOp) → refused u stSequence (toBytes 4 next)) ∧
      (headOk → mine → h.seq ≠ next → h.seq = x.lastSeq → opCode op = x.lastOp → x.busy = true →
        u.port.outbox = s.port.outbox ∧ u.port.pend = s.port.pend ∧ u.port.owner = s.port.owner ∧ s.sameBut [.sess] u) ∧
      (∀ r, headOk → mine → h.seq ≠ next → h.seq = x.lastSeq → opCode op = x.lastOp → x.busy = false → x.reply = some r →
        r.code = code → (∃ l, trailing h l ∧ u.port.outbox = s.port.outbox ++ r :: l) ∧ u.port.pend = s.port.pend ∧
          u.port.owner = s.leased h ∧ s.sameBut (servingParts h) u) ∧
      (headOk → mine → h.seq = next → x.busy = false → opOwnerOnly (opCode op) = true → s.port.owner.owner ≠ some code →
        s.onlyReplied u h (opCode op) stNotOwner [])
end

