-- ==== Sys2Proof/Laws/State.lean ====
section
/-! SUPPORT. What each update of one part of the state leaves as it was and what it writes, and how the parts of a
state read through a condition or a fold. -/

namespace Sys2Proof.Machine

section
variable (f : FrameClk → FrameClk) (s : State)
@[simp] theorem State.modFr_pending : (s.modFr f).pending = s.pending := (rfl)
@[simp] theorem State.modFr_now : (s.modFr f).now = s.now := (rfl)
@[simp] theorem State.modFr_mode : (s.modFr f).mode = s.mode := (rfl)
@[simp] theorem State.modFr_phase : (s.modFr f).phase = s.phase := (rfl)
@[simp] theorem State.modFr_fr : (s.modFr f).fr = f s.fr := (rfl)
@[simp] theorem State.modFr_opBase : (s.modFr f).opBase = s.opBase := (rfl)
@[simp] theorem State.modFr_opFrom : (s.modFr f).opFrom = s.opFrom := (rfl)
@[simp] theorem State.modFr_cfg : (s.modFr f).cfg = s.cfg := (rfl)
@[simp] theorem State.modFr_inp : (s.modFr f).inp = s.inp := (rfl)
@[simp] theorem State.modFr_blks : (s.modFr f).blks = s.blks := (rfl)
@[simp] theorem State.modFr_eng : (s.modFr f).eng = s.eng := (rfl)
@[simp] theorem State.modFr_safe : (s.modFr f).safe = s.safe := (rfl)
@[simp] theorem State.modFr_alm : (s.modFr f).alm = s.alm := (rfl)
@[simp] theorem State.modFr_recd : (s.modFr f).recd = s.recd := (rfl)
@[simp] theorem State.modFr_can : (s.modFr f).can = s.can := (rfl)
@[simp] theorem State.modFr_port : (s.modFr f).port = s.port := (rfl)
@[simp] theorem State.modFr_twi : (s.modFr f).twi = s.twi := (rfl)
@[simp] theorem State.modFr_unt : (s.modFr f).unt = s.unt := (rfl)
@[simp] theorem State.modFr_shown : (s.modFr f).shown = s.shown := (rfl)
end

section
variable (f : CfgPart → CfgPart) (s : State)
@[simp] theorem State.modCfg_pending : (s.modCfg f).pending = s.pending := (rfl)
@[simp] theorem State.modCfg_now : (s.modCfg f).now = s.now := (rfl)
@[simp] theorem State.modCfg_mode : (s.modCfg f).mode = s.mode := (rfl)
@[simp] theorem State.modCfg_phase : (s.modCfg f).phase = s.phase := (rfl)
@[simp] theorem State.modCfg_fr : (s.modCfg f).fr = s.fr := (rfl)
@[simp] theorem State.modCfg_opBase : (s.modCfg f).opBase = s.opBase := (rfl)
@[simp] theorem State.modCfg_opFrom : (s.modCfg f).opFrom = s.opFrom := (rfl)
@[simp] theorem State.modCfg_cfg : (s.modCfg f).cfg = f s.cfg := (rfl)
@[simp] theorem State.modCfg_inp : (s.modCfg f).inp = s.inp := (rfl)
@[simp] theorem State.modCfg_blks : (s.modCfg f).blks = s.blks := (rfl)
@[simp] theorem State.modCfg_eng : (s.modCfg f).eng = s.eng := (rfl)
@[simp] theorem State.modCfg_safe : (s.modCfg f).safe = s.safe := (rfl)
@[simp] theorem State.modCfg_alm : (s.modCfg f).alm = s.alm := (rfl)
@[simp] theorem State.modCfg_recd : (s.modCfg f).recd = s.recd := (rfl)
@[simp] theorem State.modCfg_can : (s.modCfg f).can = s.can := (rfl)
@[simp] theorem State.modCfg_port : (s.modCfg f).port = s.port := (rfl)
@[simp] theorem State.modCfg_twi : (s.modCfg f).twi = s.twi := (rfl)
@[simp] theorem State.modCfg_unt : (s.modCfg f).unt = s.unt := (rfl)
@[simp] theorem State.modCfg_shown : (s.modCfg f).shown = s.shown := (rfl)
end

section
variable (f : InPart → InPart) (s : State)
@[simp] theorem State.modInp_pending : (s.modInp f).pending = s.pending := (rfl)
@[simp] theorem State.modInp_now : (s.modInp f).now = s.now := (rfl)
@[simp] theorem State.modInp_mode : (s.modInp f).mode = s.mode := (rfl)
@[simp] theorem State.modInp_phase : (s.modInp f).phase = s.phase := (rfl)
@[simp] theorem State.modInp_fr : (s.modInp f).fr = s.fr := (rfl)
@[simp] theorem State.modInp_opBase : (s.modInp f).opBase = s.opBase := (rfl)
@[simp] theorem State.modInp_opFrom : (s.modInp f).opFrom = s.opFrom := (rfl)
@[simp] theorem State.modInp_cfg : (s.modInp f).cfg = s.cfg := (rfl)
@[simp] theorem State.modInp_inp : (s.modInp f).inp = f s.inp := (rfl)
@[simp] theorem State.modInp_blks : (s.modInp f).blks = s.blks := (rfl)
@[simp] theorem State.modInp_eng : (s.modInp f).eng = s.eng := (rfl)
@[simp] theorem State.modInp_safe : (s.modInp f).safe = s.safe := (rfl)
@[simp] theorem State.modInp_alm : (s.modInp f).alm = s.alm := (rfl)
@[simp] theorem State.modInp_recd : (s.modInp f).recd = s.recd := (rfl)
@[simp] theorem State.modInp_can : (s.modInp f).can = s.can := (rfl)
@[simp] theorem State.modInp_port : (s.modInp f).port = s.port := (rfl)
@[simp] theorem State.modInp_twi : (s.modInp f).twi = s.twi := (rfl)
@[simp] theorem State.modInp_unt : (s.modInp f).unt = s.unt := (rfl)
@[simp] theorem State.modInp_shown : (s.modInp f).shown = s.shown := (rfl)
end

section
variable (f : BlkPart → BlkPart) (s : State)
@[simp] theorem State.modBlks_pending : (s.modBlks f).pending = s.pending := (rfl)
@[simp] theorem State.modBlks_now : (s.modBlks f).now = s.now := (rfl)
@[simp] theorem State.modBlks_mode : (s.modBlks f).mode = s.mode := (rfl)
@[simp] theorem State.modBlks_phase : (s.modBlks f).phase = s.phase := (rfl)
@[simp] theorem State.modBlks_fr : (s.modBlks f).fr = s.fr := (rfl)
@[simp] theorem State.modBlks_opBase : (s.modBlks f).opBase = s.opBase := (rfl)
@[simp] theorem State.modBlks_opFrom : (s.modBlks f).opFrom = s.opFrom := (rfl)
@[simp] theorem State.modBlks_cfg : (s.modBlks f).cfg = s.cfg := (rfl)
@[simp] theorem State.modBlks_inp : (s.modBlks f).inp = s.inp := (rfl)
@[simp] theorem State.modBlks_blks : (s.modBlks f).blks = f s.blks := (rfl)
@[simp] theorem State.modBlks_eng : (s.modBlks f).eng = s.eng := (rfl)
@[simp] theorem State.modBlks_safe : (s.modBlks f).safe = s.safe := (rfl)
@[simp] theorem State.modBlks_alm : (s.modBlks f).alm = s.alm := (rfl)
@[simp] theorem State.modBlks_recd : (s.modBlks f).recd = s.recd := (rfl)
@[simp] theorem State.modBlks_can : (s.modBlks f).can = s.can := (rfl)
@[simp] theorem State.modBlks_port : (s.modBlks f).port = s.port := (rfl)
@[simp] theorem State.modBlks_twi : (s.modBlks f).twi = s.twi := (rfl)
@[simp] theorem State.modBlks_unt : (s.modBlks f).unt = s.unt := (rfl)
@[simp] theorem State.modBlks_shown : (s.modBlks f).shown = s.shown := (rfl)
end

section
variable (f : EngPart → EngPart) (s : State)
@[simp] theorem State.modEng_pending : (s.modEng f).pending = s.pending := (rfl)
@[simp] theorem State.modEng_now : (s.modEng f).now = s.now := (rfl)
@[simp] theorem State.modEng_mode : (s.modEng f).mode = s.mode := (rfl)
@[simp] theorem State.modEng_phase : (s.modEng f).phase = s.phase := (rfl)
@[simp] theorem State.modEng_fr : (s.modEng f).fr = s.fr := (rfl)
@[simp] theorem State.modEng_opBase : (s.modEng f).opBase = s.opBase := (rfl)
@[simp] theorem State.modEng_opFrom : (s.modEng f).opFrom = s.opFrom := (rfl)
@[simp] theorem State.modEng_cfg : (s.modEng f).cfg = s.cfg := (rfl)
@[simp] theorem State.modEng_inp : (s.modEng f).inp = s.inp := (rfl)
@[simp] theorem State.modEng_blks : (s.modEng f).blks = s.blks := (rfl)
@[simp] theorem State.modEng_eng : (s.modEng f).eng = f s.eng := (rfl)
@[simp] theorem State.modEng_safe : (s.modEng f).safe = s.safe := (rfl)
@[simp] theorem State.modEng_alm : (s.modEng f).alm = s.alm := (rfl)
@[simp] theorem State.modEng_recd : (s.modEng f).recd = s.recd := (rfl)
@[simp] theorem State.modEng_can : (s.modEng f).can = s.can := (rfl)
@[simp] theorem State.modEng_port : (s.modEng f).port = s.port := (rfl)
@[simp] theorem State.modEng_twi : (s.modEng f).twi = s.twi := (rfl)
@[simp] theorem State.modEng_unt : (s.modEng f).unt = s.unt := (rfl)
@[simp] theorem State.modEng_shown : (s.modEng f).shown = s.shown := (rfl)
end

section
variable (f : SafePart → SafePart) (s : State)
@[simp] theorem State.modSafe_pending : (s.modSafe f).pending = s.pending := (rfl)
@[simp] theorem State.modSafe_now : (s.modSafe f).now = s.now := (rfl)
@[simp] theorem State.modSafe_mode : (s.modSafe f).mode = s.mode := (rfl)
@[simp] theorem State.modSafe_phase : (s.modSafe f).phase = s.phase := (rfl)
@[simp] theorem State.modSafe_fr : (s.modSafe f).fr = s.fr := (rfl)
@[simp] theorem State.modSafe_opBase : (s.modSafe f).opBase = s.opBase := (rfl)
@[simp] theorem State.modSafe_opFrom : (s.modSafe f).opFrom = s.opFrom := (rfl)
@[simp] theorem State.modSafe_cfg : (s.modSafe f).cfg = s.cfg := (rfl)
@[simp] theorem State.modSafe_inp : (s.modSafe f).inp = s.inp := (rfl)
@[simp] theorem State.modSafe_blks : (s.modSafe f).blks = s.blks := (rfl)
@[simp] theorem State.modSafe_eng : (s.modSafe f).eng = s.eng := (rfl)
@[simp] theorem State.modSafe_safe : (s.modSafe f).safe = f s.safe := (rfl)
@[simp] theorem State.modSafe_alm : (s.modSafe f).alm = s.alm := (rfl)
@[simp] theorem State.modSafe_recd : (s.modSafe f).recd = s.recd := (rfl)
@[simp] theorem State.modSafe_can : (s.modSafe f).can = s.can := (rfl)
@[simp] theorem State.modSafe_port : (s.modSafe f).port = s.port := (rfl)
@[simp] theorem State.modSafe_twi : (s.modSafe f).twi = s.twi := (rfl)
@[simp] theorem State.modSafe_unt : (s.modSafe f).unt = s.unt := (rfl)
@[simp] theorem State.modSafe_shown : (s.modSafe f).shown = s.shown := (rfl)
end

section
variable (f : AlmPart → AlmPart) (s : State)
@[simp] theorem State.modAlm_pending : (s.modAlm f).pending = s.pending := (rfl)
@[simp] theorem State.modAlm_now : (s.modAlm f).now = s.now := (rfl)
@[simp] theorem State.modAlm_mode : (s.modAlm f).mode = s.mode := (rfl)
@[simp] theorem State.modAlm_phase : (s.modAlm f).phase = s.phase := (rfl)
@[simp] theorem State.modAlm_fr : (s.modAlm f).fr = s.fr := (rfl)
@[simp] theorem State.modAlm_opBase : (s.modAlm f).opBase = s.opBase := (rfl)
@[simp] theorem State.modAlm_opFrom : (s.modAlm f).opFrom = s.opFrom := (rfl)
@[simp] theorem State.modAlm_cfg : (s.modAlm f).cfg = s.cfg := (rfl)
@[simp] theorem State.modAlm_inp : (s.modAlm f).inp = s.inp := (rfl)
@[simp] theorem State.modAlm_blks : (s.modAlm f).blks = s.blks := (rfl)
@[simp] theorem State.modAlm_eng : (s.modAlm f).eng = s.eng := (rfl)
@[simp] theorem State.modAlm_safe : (s.modAlm f).safe = s.safe := (rfl)
@[simp] theorem State.modAlm_alm : (s.modAlm f).alm = f s.alm := (rfl)
@[simp] theorem State.modAlm_recd : (s.modAlm f).recd = s.recd := (rfl)
@[simp] theorem State.modAlm_can : (s.modAlm f).can = s.can := (rfl)
@[simp] theorem State.modAlm_port : (s.modAlm f).port = s.port := (rfl)
@[simp] theorem State.modAlm_twi : (s.modAlm f).twi = s.twi := (rfl)
@[simp] theorem State.modAlm_unt : (s.modAlm f).unt = s.unt := (rfl)
@[simp] theorem State.modAlm_shown : (s.modAlm f).shown = s.shown := (rfl)
end

section
variable (f : Recorder → Recorder) (s : State)
@[simp] theorem State.modRecd_pending : (s.modRecd f).pending = s.pending := (rfl)
@[simp] theorem State.modRecd_now : (s.modRecd f).now = s.now := (rfl)
@[simp] theorem State.modRecd_mode : (s.modRecd f).mode = s.mode := (rfl)
@[simp] theorem State.modRecd_phase : (s.modRecd f).phase = s.phase := (rfl)
@[simp] theorem State.modRecd_fr : (s.modRecd f).fr = s.fr := (rfl)
@[simp] theorem State.modRecd_opBase : (s.modRecd f).opBase = s.opBase := (rfl)
@[simp] theorem State.modRecd_opFrom : (s.modRecd f).opFrom = s.opFrom := (rfl)
@[simp] theorem State.modRecd_cfg : (s.modRecd f).cfg = s.cfg := (rfl)
@[simp] theorem State.modRecd_inp : (s.modRecd f).inp = s.inp := (rfl)
@[simp] theorem State.modRecd_blks : (s.modRecd f).blks = s.blks := (rfl)
@[simp] theorem State.modRecd_eng : (s.modRecd f).eng = s.eng := (rfl)
@[simp] theorem State.modRecd_safe : (s.modRecd f).safe = s.safe := (rfl)
@[simp] theorem State.modRecd_alm : (s.modRecd f).alm = s.alm := (rfl)
@[simp] theorem State.modRecd_recd : (s.modRecd f).recd = f s.recd := (rfl)
@[simp] theorem State.modRecd_can : (s.modRecd f).can = s.can := (rfl)
@[simp] theorem State.modRecd_port : (s.modRecd f).port = s.port := (rfl)
@[simp] theorem State.modRecd_twi : (s.modRecd f).twi = s.twi := (rfl)
@[simp] theorem State.modRecd_unt : (s.modRecd f).unt = s.unt := (rfl)
@[simp] theorem State.modRecd_shown : (s.modRecd f).shown = s.shown := (rfl)
end

section
variable (f : CanPart → CanPart) (s : State)
@[simp] theorem State.modCan_pending : (s.modCan f).pending = s.pending := (rfl)
@[simp] theorem State.modCan_now : (s.modCan f).now = s.now := (rfl)
@[simp] theorem State.modCan_mode : (s.modCan f).mode = s.mode := (rfl)
@[simp] theorem State.modCan_phase : (s.modCan f).phase = s.phase := (rfl)
@[simp] theorem State.modCan_fr : (s.modCan f).fr = s.fr := (rfl)
@[simp] theorem State.modCan_opBase : (s.modCan f).opBase = s.opBase := (rfl)
@[simp] theorem State.modCan_opFrom : (s.modCan f).opFrom = s.opFrom := (rfl)
@[simp] theorem State.modCan_cfg : (s.modCan f).cfg = s.cfg := (rfl)
@[simp] theorem State.modCan_inp : (s.modCan f).inp = s.inp := (rfl)
@[simp] theorem State.modCan_blks : (s.modCan f).blks = s.blks := (rfl)
@[simp] theorem State.modCan_eng : (s.modCan f).eng = s.eng := (rfl)
@[simp] theorem State.modCan_safe : (s.modCan f).safe = s.safe := (rfl)
@[simp] theorem State.modCan_alm : (s.modCan f).alm = s.alm := (rfl)
@[simp] theorem State.modCan_recd : (s.modCan f).recd = s.recd := (rfl)
@[simp] theorem State.modCan_can : (s.modCan f).can = f s.can := (rfl)
@[simp] theorem State.modCan_port : (s.modCan f).port = s.port := (rfl)
@[simp] theorem State.modCan_twi : (s.modCan f).twi = s.twi := (rfl)
@[simp] theorem State.modCan_unt : (s.modCan f).unt = s.unt := (rfl)
@[simp] theorem State.modCan_shown : (s.modCan f).shown = s.shown := (rfl)
end

section
variable (f : PortPart → PortPart) (s : State)
@[simp] theorem State.modPort_pending : (s.modPort f).pending = s.pending := (rfl)
@[simp] theorem State.modPort_now : (s.modPort f).now = s.now := (rfl)
@[simp] theorem State.modPort_mode : (s.modPort f).mode = s.mode := (rfl)
@[simp] theorem State.modPort_phase : (s.modPort f).phase = s.phase := (rfl)
@[simp] theorem State.modPort_fr : (s.modPort f).fr = s.fr := (rfl)
@[simp] theorem State.modPort_opBase : (s.modPort f).opBase = s.opBase := (rfl)
@[simp] theorem State.modPort_opFrom : (s.modPort f).opFrom = s.opFrom := (rfl)
@[simp] theorem State.modPort_cfg : (s.modPort f).cfg = s.cfg := (rfl)
@[simp] theorem State.modPort_inp : (s.modPort f).inp = s.inp := (rfl)
@[simp] theorem State.modPort_blks : (s.modPort f).blks = s.blks := (rfl)
@[simp] theorem State.modPort_eng : (s.modPort f).eng = s.eng := (rfl)
@[simp] theorem State.modPort_safe : (s.modPort f).safe = s.safe := (rfl)
@[simp] theorem State.modPort_alm : (s.modPort f).alm = s.alm := (rfl)
@[simp] theorem State.modPort_recd : (s.modPort f).recd = s.recd := (rfl)
@[simp] theorem State.modPort_can : (s.modPort f).can = s.can := (rfl)
@[simp] theorem State.modPort_port : (s.modPort f).port = f s.port := (rfl)
@[simp] theorem State.modPort_twi : (s.modPort f).twi = s.twi := (rfl)
@[simp] theorem State.modPort_unt : (s.modPort f).unt = s.unt := (rfl)
@[simp] theorem State.modPort_shown : (s.modPort f).shown = s.shown := (rfl)
end

section
variable (f : Twi → Twi) (s : State)
@[simp] theorem State.modTwi_pending : (s.modTwi f).pending = s.pending := (rfl)
@[simp] theorem State.modTwi_now : (s.modTwi f).now = s.now := (rfl)
@[simp] theorem State.modTwi_mode : (s.modTwi f).mode = s.mode := (rfl)
@[simp] theorem State.modTwi_phase : (s.modTwi f).phase = s.phase := (rfl)
@[simp] theorem State.modTwi_fr : (s.modTwi f).fr = s.fr := (rfl)
@[simp] theorem State.modTwi_opBase : (s.modTwi f).opBase = s.opBase := (rfl)
@[simp] theorem State.modTwi_opFrom : (s.modTwi f).opFrom = s.opFrom := (rfl)
@[simp] theorem State.modTwi_cfg : (s.modTwi f).cfg = s.cfg := (rfl)
@[simp] theorem State.modTwi_inp : (s.modTwi f).inp = s.inp := (rfl)
@[simp] theorem State.modTwi_blks : (s.modTwi f).blks = s.blks := (rfl)
@[simp] theorem State.modTwi_eng : (s.modTwi f).eng = s.eng := (rfl)
@[simp] theorem State.modTwi_safe : (s.modTwi f).safe = s.safe := (rfl)
@[simp] theorem State.modTwi_alm : (s.modTwi f).alm = s.alm := (rfl)
@[simp] theorem State.modTwi_recd : (s.modTwi f).recd = s.recd := (rfl)
@[simp] theorem State.modTwi_can : (s.modTwi f).can = s.can := (rfl)
@[simp] theorem State.modTwi_port : (s.modTwi f).port = s.port := (rfl)
@[simp] theorem State.modTwi_twi : (s.modTwi f).twi = f s.twi := (rfl)
@[simp] theorem State.modTwi_unt : (s.modTwi f).unt = s.unt := (rfl)
@[simp] theorem State.modTwi_shown : (s.modTwi f).shown = s.shown := (rfl)
end

section
variable (f : UnitPart → UnitPart) (s : State)
@[simp] theorem State.modUnt_pending : (s.modUnt f).pending = s.pending := (rfl)
@[simp] theorem State.modUnt_now : (s.modUnt f).now = s.now := (rfl)
@[simp] theorem State.modUnt_mode : (s.modUnt f).mode = s.mode := (rfl)
@[simp] theorem State.modUnt_phase : (s.modUnt f).phase = s.phase := (rfl)
@[simp] theorem State.modUnt_fr : (s.modUnt f).fr = s.fr := (rfl)
@[simp] theorem State.modUnt_opBase : (s.modUnt f).opBase = s.opBase := (rfl)
@[simp] theorem State.modUnt_opFrom : (s.modUnt f).opFrom = s.opFrom := (rfl)
@[simp] theorem State.modUnt_cfg : (s.modUnt f).cfg = s.cfg := (rfl)
@[simp] theorem State.modUnt_inp : (s.modUnt f).inp = s.inp := (rfl)
@[simp] theorem State.modUnt_blks : (s.modUnt f).blks = s.blks := (rfl)
@[simp] theorem State.modUnt_eng : (s.modUnt f).eng = s.eng := (rfl)
@[simp] theorem State.modUnt_safe : (s.modUnt f).safe = s.safe := (rfl)
@[simp] theorem State.modUnt_alm : (s.modUnt f).alm = s.alm := (rfl)
@[simp] theorem State.modUnt_recd : (s.modUnt f).recd = s.recd := (rfl)
@[simp] theorem State.modUnt_can : (s.modUnt f).can = s.can := (rfl)
@[simp] theorem State.modUnt_port : (s.modUnt f).port = s.port := (rfl)
@[simp] theorem State.modUnt_twi : (s.modUnt f).twi = s.twi := (rfl)
@[simp] theorem State.modUnt_unt : (s.modUnt f).unt = f s.unt := (rfl)
@[simp] theorem State.modUnt_shown : (s.modUnt f).shown = s.shown := (rfl)
end

section
variable (f : Power → Power) (s : State)
@[simp] theorem State.modPower_pending : (s.modPower f).pending = s.pending := (rfl)
@[simp] theorem State.modPower_now : (s.modPower f).now = s.now := (rfl)
@[simp] theorem State.modPower_mode : (s.modPower f).mode = s.mode := (rfl)
@[simp] theorem State.modPower_phase : (s.modPower f).phase = s.phase := (rfl)
@[simp] theorem State.modPower_fr : (s.modPower f).fr = s.fr := (rfl)
@[simp] theorem State.modPower_opBase : (s.modPower f).opBase = s.opBase := (rfl)
@[simp] theorem State.modPower_opFrom : (s.modPower f).opFrom = s.opFrom := (rfl)
@[simp] theorem State.modPower_cfg : (s.modPower f).cfg = s.cfg := (rfl)
@[simp] theorem State.modPower_inp : (s.modPower f).inp = s.inp := (rfl)
@[simp] theorem State.modPower_blks : (s.modPower f).blks = s.blks := (rfl)
@[simp] theorem State.modPower_eng : (s.modPower f).eng = s.eng := (rfl)
@[simp] theorem State.modPower_safe : (s.modPower f).safe = s.safe := (rfl)
@[simp] theorem State.modPower_alm : (s.modPower f).alm = s.alm := (rfl)
@[simp] theorem State.modPower_recd : (s.modPower f).recd = s.recd := (rfl)
@[simp] theorem State.modPower_can : (s.modPower f).can = s.can := (rfl)
@[simp] theorem State.modPower_port : (s.modPower f).port = s.port := (rfl)
@[simp] theorem State.modPower_twi : (s.modPower f).twi = s.twi := (rfl)
@[simp] theorem State.modPower_shown : (s.modPower f).shown = s.shown := (rfl)
@[simp] theorem State.modPower_unt_power : (s.modPower f).unt.power = f s.unt.power := (rfl)
@[simp] theorem State.modPower_unt_fw1 : (s.modPower f).unt.fw1 = s.unt.fw1 := (rfl)
@[simp] theorem State.modPower_unt_fw2 : (s.modPower f).unt.fw2 = s.unt.fw2 := (rfl)
@[simp] theorem State.modPower_unt_runSlot : (s.modPower f).unt.runSlot = s.unt.runSlot := (rfl)
@[simp] theorem State.modPower_unt_ident : (s.modPower f).unt.ident = s.unt.ident := (rfl)
@[simp] theorem State.modPower_unt_mem : (s.modPower f).unt.mem = s.unt.mem := (rfl)
@[simp] theorem State.modPower_unt_mdiag : (s.modPower f).unt.mdiag = s.unt.mdiag := (rfl)
@[simp] theorem State.modPower_unt_regs : (s.modPower f).unt.regs = s.unt.regs := (rfl)
@[simp] theorem State.modPower_unt_pair : (s.modPower f).unt.pair = s.unt.pair := (rfl)
@[simp] theorem State.modPower_unt_wit : (s.modPower f).unt.wit = s.unt.wit := (rfl)
end

section
variable (f : Pair → Pair) (s : State)
@[simp] theorem State.modPair_pending : (s.modPair f).pending = s.pending := (rfl)
@[simp] theorem State.modPair_now : (s.modPair f).now = s.now := (rfl)
@[simp] theorem State.modPair_mode : (s.modPair f).mode = s.mode := (rfl)
@[simp] theorem State.modPair_phase : (s.modPair f).phase = s.phase := (rfl)
@[simp] theorem State.modPair_fr : (s.modPair f).fr = s.fr := (rfl)
@[simp] theorem State.modPair_opBase : (s.modPair f).opBase = s.opBase := (rfl)
@[simp] theorem State.modPair_opFrom : (s.modPair f).opFrom = s.opFrom := (rfl)
@[simp] theorem State.modPair_cfg : (s.modPair f).cfg = s.cfg := (rfl)
@[simp] theorem State.modPair_inp : (s.modPair f).inp = s.inp := (rfl)
@[simp] theorem State.modPair_blks : (s.modPair f).blks = s.blks := (rfl)
@[simp] theorem State.modPair_eng : (s.modPair f).eng = s.eng := (rfl)
@[simp] theorem State.modPair_safe : (s.modPair f).safe = s.safe := (rfl)
@[simp] theorem State.modPair_alm : (s.modPair f).alm = s.alm := (rfl)
@[simp] theorem State.modPair_recd : (s.modPair f).recd = s.recd := (rfl)
@[simp] theorem State.modPair_can : (s.modPair f).can = s.can := (rfl)
@[simp] theorem State.modPair_port : (s.modPair f).port = s.port := (rfl)
@[simp] theorem State.modPair_twi : (s.modPair f).twi = s.twi := (rfl)
@[simp] theorem State.modPair_shown : (s.modPair f).shown = s.shown := (rfl)
@[simp] theorem State.modPair_unt_power : (s.modPair f).unt.power = s.unt.power := (rfl)
@[simp] theorem State.modPair_unt_fw1 : (s.modPair f).unt.fw1 = s.unt.fw1 := (rfl)
@[simp] theorem State.modPair_unt_fw2 : (s.modPair f).unt.fw2 = s.unt.fw2 := (rfl)
@[simp] theorem State.modPair_unt_runSlot : (s.modPair f).unt.runSlot = s.unt.runSlot := (rfl)
@[simp] theorem State.modPair_unt_ident : (s.modPair f).unt.ident = s.unt.ident := (rfl)
@[simp] theorem State.modPair_unt_mem : (s.modPair f).unt.mem = s.unt.mem := (rfl)
@[simp] theorem State.modPair_unt_mdiag : (s.modPair f).unt.mdiag = s.unt.mdiag := (rfl)
@[simp] theorem State.modPair_unt_regs : (s.modPair f).unt.regs = s.unt.regs := (rfl)
@[simp] theorem State.modPair_unt_pair : (s.modPair f).unt.pair = f s.unt.pair := (rfl)
@[simp] theorem State.modPair_unt_wit : (s.modPair f).unt.wit = s.unt.wit := (rfl)
end

section
variable (f : ModDiag → ModDiag) (s : State)
@[simp] theorem State.modMdiag_pending : (s.modMdiag f).pending = s.pending := (rfl)
@[simp] theorem State.modMdiag_now : (s.modMdiag f).now = s.now := (rfl)
@[simp] theorem State.modMdiag_mode : (s.modMdiag f).mode = s.mode := (rfl)
@[simp] theorem State.modMdiag_phase : (s.modMdiag f).phase = s.phase := (rfl)
@[simp] theorem State.modMdiag_fr : (s.modMdiag f).fr = s.fr := (rfl)
@[simp] theorem State.modMdiag_opBase : (s.modMdiag f).opBase = s.opBase := (rfl)
@[simp] theorem State.modMdiag_opFrom : (s.modMdiag f).opFrom = s.opFrom := (rfl)
@[simp] theorem State.modMdiag_cfg : (s.modMdiag f).cfg = s.cfg := (rfl)
@[simp] theorem State.modMdiag_inp : (s.modMdiag f).inp = s.inp := (rfl)
@[simp] theorem State.modMdiag_blks : (s.modMdiag f).blks = s.blks := (rfl)
@[simp] theorem State.modMdiag_eng : (s.modMdiag f).eng = s.eng := (rfl)
@[simp] theorem State.modMdiag_safe : (s.modMdiag f).safe = s.safe := (rfl)
@[simp] theorem State.modMdiag_alm : (s.modMdiag f).alm = s.alm := (rfl)
@[simp] theorem State.modMdiag_recd : (s.modMdiag f).recd = s.recd := (rfl)
@[simp] theorem State.modMdiag_can : (s.modMdiag f).can = s.can := (rfl)
@[simp] theorem State.modMdiag_port : (s.modMdiag f).port = s.port := (rfl)
@[simp] theorem State.modMdiag_twi : (s.modMdiag f).twi = s.twi := (rfl)
@[simp] theorem State.modMdiag_shown : (s.modMdiag f).shown = s.shown := (rfl)
@[simp] theorem State.modMdiag_unt_power : (s.modMdiag f).unt.power = s.unt.power := (rfl)
@[simp] theorem State.modMdiag_unt_fw1 : (s.modMdiag f).unt.fw1 = s.unt.fw1 := (rfl)
@[simp] theorem State.modMdiag_unt_fw2 : (s.modMdiag f).unt.fw2 = s.unt.fw2 := (rfl)
@[simp] theorem State.modMdiag_unt_runSlot : (s.modMdiag f).unt.runSlot = s.unt.runSlot := (rfl)
@[simp] theorem State.modMdiag_unt_ident : (s.modMdiag f).unt.ident = s.unt.ident := (rfl)
@[simp] theorem State.modMdiag_unt_mem : (s.modMdiag f).unt.mem = s.unt.mem := (rfl)
@[simp] theorem State.modMdiag_unt_mdiag : (s.modMdiag f).unt.mdiag = f s.unt.mdiag := (rfl)
@[simp] theorem State.modMdiag_unt_regs : (s.modMdiag f).unt.regs = s.unt.regs := (rfl)
@[simp] theorem State.modMdiag_unt_pair : (s.modMdiag f).unt.pair = s.unt.pair := (rfl)
@[simp] theorem State.modMdiag_unt_wit : (s.modMdiag f).unt.wit = s.unt.wit := (rfl)
end

section
variable (k : Nat) (f : AcqCh → AcqCh) (s : State)
@[simp] theorem State.modAcq_pending : (s.modAcq k f).pending = s.pending := (rfl)
@[simp] theorem State.modAcq_now : (s.modAcq k f).now = s.now := (rfl)
@[simp] theorem State.modAcq_mode : (s.modAcq k f).mode = s.mode := (rfl)
@[simp] theorem State.modAcq_phase : (s.modAcq k f).phase = s.phase := (rfl)
@[simp] theorem State.modAcq_fr : (s.modAcq k f).fr = s.fr := (rfl)
@[simp] theorem State.modAcq_opBase : (s.modAcq k f).opBase = s.opBase := (rfl)
@[simp] theorem State.modAcq_opFrom : (s.modAcq k f).opFrom = s.opFrom := (rfl)
@[simp] theorem State.modAcq_cfg : (s.modAcq k f).cfg = s.cfg := (rfl)
@[simp] theorem State.modAcq_inp : (s.modAcq k f).inp = s.inp := (rfl)
@[simp] theorem State.modAcq_eng : (s.modAcq k f).eng = s.eng := (rfl)
@[simp] theorem State.modAcq_safe : (s.modAcq k f).safe = s.safe := (rfl)
@[simp] theorem State.modAcq_alm : (s.modAcq k f).alm = s.alm := (rfl)
@[simp] theorem State.modAcq_recd : (s.modAcq k f).recd = s.recd := (rfl)
@[simp] theorem State.modAcq_can : (s.modAcq k f).can = s.can := (rfl)
@[simp] theorem State.modAcq_port : (s.modAcq k f).port = s.port := (rfl)
@[simp] theorem State.modAcq_twi : (s.modAcq k f).twi = s.twi := (rfl)
@[simp] theorem State.modAcq_unt : (s.modAcq k f).unt = s.unt := (rfl)
@[simp] theorem State.modAcq_shown : (s.modAcq k f).shown = s.shown := (rfl)
@[simp] theorem State.modAcq_blks_acq : (s.modAcq k f).blks.acq = tabMod {} s.blks.acq k f := (rfl)
@[simp] theorem State.modAcq_blks_seqr : (s.modAcq k f).blks.seqr = s.blks.seqr := (rfl)
@[simp] theorem State.modAcq_blks_blk : (s.modAcq k f).blks.blk = s.blks.blk := (rfl)
@[simp] theorem State.modAcq_blks_dig : (s.modAcq k f).blks.dig = s.blks.dig := (rfl)
@[simp] theorem State.modAcq_blks_out : (s.modAcq k f).blks.out = s.blks.out := (rfl)
@[simp] theorem State.modAcq_blks_loop : (s.modAcq k f).blks.loop = s.blks.loop := (rfl)
@[simp] theorem State.modAcq_blks_cell : (s.modAcq k f).blks.cell = s.blks.cell := (rfl)
@[simp] theorem State.modAcq_blks_diag : (s.modAcq k f).blks.diag = s.blks.diag := (rfl)
@[simp] theorem State.modAcq_blks_modem : (s.modAcq k f).blks.modem = s.blks.modem := (rfl)
@[simp] theorem State.modAcq_blks_blank : (s.modAcq k f).blks.blank = s.blks.blank := (rfl)
end

section
variable (k : Nat) (f : BlkAcq → BlkAcq) (s : State)
@[simp] theorem State.modSeq_pending : (s.modSeq k f).pending = s.pending := (rfl)
@[simp] theorem State.modSeq_now : (s.modSeq k f).now = s.now := (rfl)
@[simp] theorem State.modSeq_mode : (s.modSeq k f).mode = s.mode := (rfl)
@[simp] theorem State.modSeq_phase : (s.modSeq k f).phase = s.phase := (rfl)
@[simp] theorem State.modSeq_fr : (s.modSeq k f).fr = s.fr := (rfl)
@[simp] theorem State.modSeq_opBase : (s.modSeq k f).opBase = s.opBase := (rfl)
@[simp] theorem State.modSeq_opFrom : (s.modSeq k f).opFrom = s.opFrom := (rfl)
@[simp] theorem State.modSeq_cfg : (s.modSeq k f).cfg = s.cfg := (rfl)
@[simp] theorem State.modSeq_inp : (s.modSeq k f).inp = s.inp := (rfl)
@[simp] theorem State.modSeq_eng : (s.modSeq k f).eng = s.eng := (rfl)
@[simp] theorem State.modSeq_safe : (s.modSeq k f).safe = s.safe := (rfl)
@[simp] theorem State.modSeq_alm : (s.modSeq k f).alm = s.alm := (rfl)
@[simp] theorem State.modSeq_recd : (s.modSeq k f).recd = s.recd := (rfl)
@[simp] theorem State.modSeq_can : (s.modSeq k f).can = s.can := (rfl)
@[simp] theorem State.modSeq_port : (s.modSeq k f).port = s.port := (rfl)
@[simp] theorem State.modSeq_twi : (s.modSeq k f).twi = s.twi := (rfl)
@[simp] theorem State.modSeq_unt : (s.modSeq k f).unt = s.unt := (rfl)
@[simp] theorem State.modSeq_shown : (s.modSeq k f).shown = s.shown := (rfl)
@[simp] theorem State.modSeq_blks_acq : (s.modSeq k f).blks.acq = s.blks.acq := (rfl)
@[simp] theorem State.modSeq_blks_seqr : (s.modSeq k f).blks.seqr = tabMod {} s.blks.seqr k f := (rfl)
@[simp] theorem State.modSeq_blks_blk : (s.modSeq k f).blks.blk = s.blks.blk := (rfl)
@[simp] theorem State.modSeq_blks_dig : (s.modSeq k f).blks.dig = s.blks.dig := (rfl)
@[simp] theorem State.modSeq_blks_out : (s.modSeq k f).blks.out = s.blks.out := (rfl)
@[simp] theorem State.modSeq_blks_loop : (s.modSeq k f).blks.loop = s.blks.loop := (rfl)
@[simp] theorem State.modSeq_blks_cell : (s.modSeq k f).blks.cell = s.blks.cell := (rfl)
@[simp] theorem State.modSeq_blks_diag : (s.modSeq k f).blks.diag = s.blks.diag := (rfl)
@[simp] theorem State.modSeq_blks_modem : (s.modSeq k f).blks.modem = s.blks.modem := (rfl)
@[simp] theorem State.modSeq_blks_blank : (s.modSeq k f).blks.blank = s.blks.blank := (rfl)
end

section
variable (k : Nat) (f : Blk → Blk) (s : State)
@[simp] theorem State.modBlk_pending : (s.modBlk k f).pending = s.pending := (rfl)
@[simp] theorem State.modBlk_now : (s.modBlk k f).now = s.now := (rfl)
@[simp] theorem State.modBlk_mode : (s.modBlk k f).mode = s.mode := (rfl)
@[simp] theorem State.modBlk_phase : (s.modBlk k f).phase = s.phase := (rfl)
@[simp] theorem State.modBlk_fr : (s.modBlk k f).fr = s.fr := (rfl)
@[simp] theorem State.modBlk_opBase : (s.modBlk k f).opBase = s.opBase := (rfl)
@[simp] theorem State.modBlk_opFrom : (s.modBlk k f).opFrom = s.opFrom := (rfl)
@[simp] theorem State.modBlk_cfg : (s.modBlk k f).cfg = s.cfg := (rfl)
@[simp] theorem State.modBlk_inp : (s.modBlk k f).inp = s.inp := (rfl)
@[simp] theorem State.modBlk_eng : (s.modBlk k f).eng = s.eng := (rfl)
@[simp] theorem State.modBlk_safe : (s.modBlk k f).safe = s.safe := (rfl)
@[simp] theorem State.modBlk_alm : (s.modBlk k f).alm = s.alm := (rfl)
@[simp] theorem State.modBlk_recd : (s.modBlk k f).recd = s.recd := (rfl)
@[simp] theorem State.modBlk_can : (s.modBlk k f).can = s.can := (rfl)
@[simp] theorem State.modBlk_port : (s.modBlk k f).port = s.port := (rfl)
@[simp] theorem State.modBlk_twi : (s.modBlk k f).twi = s.twi := (rfl)
@[simp] theorem State.modBlk_unt : (s.modBlk k f).unt = s.unt := (rfl)
@[simp] theorem State.modBlk_shown : (s.modBlk k f).shown = s.shown := (rfl)
@[simp] theorem State.modBlk_blks_acq : (s.modBlk k f).blks.acq = s.blks.acq := (rfl)
@[simp] theorem State.modBlk_blks_seqr : (s.modBlk k f).blks.seqr = s.blks.seqr := (rfl)
@[simp] theorem State.modBlk_blks_blk : (s.modBlk k f).blks.blk = tabMod {} s.blks.blk k f := (rfl)
@[simp] theorem State.modBlk_blks_dig : (s.modBlk k f).blks.dig = s.blks.dig := (rfl)
@[simp] theorem State.modBlk_blks_out : (s.modBlk k f).blks.out = s.blks.out := (rfl)
@[simp] theorem State.modBlk_blks_loop : (s.modBlk k f).blks.loop = s.blks.loop := (rfl)
@[simp] theorem State.modBlk_blks_cell : (s.modBlk k f).blks.cell = s.blks.cell := (rfl)
@[simp] theorem State.modBlk_blks_diag : (s.modBlk k f).blks.diag = s.blks.diag := (rfl)
@[simp] theorem State.modBlk_blks_modem : (s.modBlk k f).blks.modem = s.blks.modem := (rfl)
@[simp] theorem State.modBlk_blks_blank : (s.modBlk k f).blks.blank = s.blks.blank := (rfl)
end

section
variable (k : Nat) (f : DigCell → DigCell) (s : State)
@[simp] theorem State.modDig_pending : (s.modDig k f).pending = s.pending := (rfl)
@[simp] theorem State.modDig_now : (s.modDig k f).now = s.now := (rfl)
@[simp] theorem State.modDig_mode : (s.modDig k f).mode = s.mode := (rfl)
@[simp] theorem State.modDig_phase : (s.modDig k f).phase = s.phase := (rfl)
@[simp] theorem State.modDig_fr : (s.modDig k f).fr = s.fr := (rfl)
@[simp] theorem State.modDig_opBase : (s.modDig k f).opBase = s.opBase := (rfl)
@[simp] theorem State.modDig_opFrom : (s.modDig k f).opFrom = s.opFrom := (rfl)
@[simp] theorem State.modDig_cfg : (s.modDig k f).cfg = s.cfg := (rfl)
@[simp] theorem State.modDig_inp : (s.modDig k f).inp = s.inp := (rfl)
@[simp] theorem State.modDig_eng : (s.modDig k f).eng = s.eng := (rfl)
@[simp] theorem State.modDig_safe : (s.modDig k f).safe = s.safe := (rfl)
@[simp] theorem State.modDig_alm : (s.modDig k f).alm = s.alm := (rfl)
@[simp] theorem State.modDig_recd : (s.modDig k f).recd = s.recd := (rfl)
@[simp] theorem State.modDig_can : (s.modDig k f).can = s.can := (rfl)
@[simp] theorem State.modDig_port : (s.modDig k f).port = s.port := (rfl)
@[simp] theorem State.modDig_twi : (s.modDig k f).twi = s.twi := (rfl)
@[simp] theorem State.modDig_unt : (s.modDig k f).unt = s.unt := (rfl)
@[simp] theorem State.modDig_shown : (s.modDig k f).shown = s.shown := (rfl)
@[simp] theorem State.modDig_blks_acq : (s.modDig k f).blks.acq = s.blks.acq := (rfl)
@[simp] theorem State.modDig_blks_seqr : (s.modDig k f).blks.seqr = s.blks.seqr := (rfl)
@[simp] theorem State.modDig_blks_blk : (s.modDig k f).blks.blk = s.blks.blk := (rfl)
@[simp] theorem State.modDig_blks_dig : (s.modDig k f).blks.dig = tabMod {} s.blks.dig k f := (rfl)
@[simp] theorem State.modDig_blks_out : (s.modDig k f).blks.out = s.blks.out := (rfl)
@[simp] theorem State.modDig_blks_loop : (s.modDig k f).blks.loop = s.blks.loop := (rfl)
@[simp] theorem State.modDig_blks_cell : (s.modDig k f).blks.cell = s.blks.cell := (rfl)
@[simp] theorem State.modDig_blks_diag : (s.modDig k f).blks.diag = s.blks.diag := (rfl)
@[simp] theorem State.modDig_blks_modem : (s.modDig k f).blks.modem = s.blks.modem := (rfl)
@[simp] theorem State.modDig_blks_blank : (s.modDig k f).blks.blank = s.blks.blank := (rfl)
end

section
variable (k : Nat) (f : OutCell → OutCell) (s : State)
@[simp] theorem State.modOut_pending : (s.modOut k f).pending = s.pending := (rfl)
@[simp] theorem State.modOut_now : (s.modOut k f).now = s.now := (rfl)
@[simp] theorem State.modOut_mode : (s.modOut k f).mode = s.mode := (rfl)
@[simp] theorem State.modOut_phase : (s.modOut k f).phase = s.phase := (rfl)
@[simp] theorem State.modOut_fr : (s.modOut k f).fr = s.fr := (rfl)
@[simp] theorem State.modOut_opBase : (s.modOut k f).opBase = s.opBase := (rfl)
@[simp] theorem State.modOut_opFrom : (s.modOut k f).opFrom = s.opFrom := (rfl)
@[simp] theorem State.modOut_cfg : (s.modOut k f).cfg = s.cfg := (rfl)
@[simp] theorem State.modOut_inp : (s.modOut k f).inp = s.inp := (rfl)
@[simp] theorem State.modOut_eng : (s.modOut k f).eng = s.eng := (rfl)
@[simp] theorem State.modOut_safe : (s.modOut k f).safe = s.safe := (rfl)
@[simp] theorem State.modOut_alm : (s.modOut k f).alm = s.alm := (rfl)
@[simp] theorem State.modOut_recd : (s.modOut k f).recd = s.recd := (rfl)
@[simp] theorem State.modOut_can : (s.modOut k f).can = s.can := (rfl)
@[simp] theorem State.modOut_port : (s.modOut k f).port = s.port := (rfl)
@[simp] theorem State.modOut_twi : (s.modOut k f).twi = s.twi := (rfl)
@[simp] theorem State.modOut_unt : (s.modOut k f).unt = s.unt := (rfl)
@[simp] theorem State.modOut_shown : (s.modOut k f).shown = s.shown := (rfl)
@[simp] theorem State.modOut_blks_acq : (s.modOut k f).blks.acq = s.blks.acq := (rfl)
@[simp] theorem State.modOut_blks_seqr : (s.modOut k f).blks.seqr = s.blks.seqr := (rfl)
@[simp] theorem State.modOut_blks_blk : (s.modOut k f).blks.blk = s.blks.blk := (rfl)
@[simp] theorem State.modOut_blks_dig : (s.modOut k f).blks.dig = s.blks.dig := (rfl)
@[simp] theorem State.modOut_blks_out : (s.modOut k f).blks.out = tabMod {} s.blks.out k f := (rfl)
@[simp] theorem State.modOut_blks_loop : (s.modOut k f).blks.loop = s.blks.loop := (rfl)
@[simp] theorem State.modOut_blks_cell : (s.modOut k f).blks.cell = s.blks.cell := (rfl)
@[simp] theorem State.modOut_blks_diag : (s.modOut k f).blks.diag = s.blks.diag := (rfl)
@[simp] theorem State.modOut_blks_modem : (s.modOut k f).blks.modem = s.blks.modem := (rfl)
@[simp] theorem State.modOut_blks_blank : (s.modOut k f).blks.blank = s.blks.blank := (rfl)
end

section
variable (k : Nat) (f : LoopCell → LoopCell) (s : State)
@[simp] theorem State.modLoop_pending : (s.modLoop k f).pending = s.pending := (rfl)
@[simp] theorem State.modLoop_now : (s.modLoop k f).now = s.now := (rfl)
@[simp] theorem State.modLoop_mode : (s.modLoop k f).mode = s.mode := (rfl)
@[simp] theorem State.modLoop_phase : (s.modLoop k f).phase = s.phase := (rfl)
@[simp] theorem State.modLoop_fr : (s.modLoop k f).fr = s.fr := (rfl)
@[simp] theorem State.modLoop_opBase : (s.modLoop k f).opBase = s.opBase := (rfl)
@[simp] theorem State.modLoop_opFrom : (s.modLoop k f).opFrom = s.opFrom := (rfl)
@[simp] theorem State.modLoop_cfg : (s.modLoop k f).cfg = s.cfg := (rfl)
@[simp] theorem State.modLoop_inp : (s.modLoop k f).inp = s.inp := (rfl)
@[simp] theorem State.modLoop_eng : (s.modLoop k f).eng = s.eng := (rfl)
@[simp] theorem State.modLoop_safe : (s.modLoop k f).safe = s.safe := (rfl)
@[simp] theorem State.modLoop_alm : (s.modLoop k f).alm = s.alm := (rfl)
@[simp] theorem State.modLoop_recd : (s.modLoop k f).recd = s.recd := (rfl)
@[simp] theorem State.modLoop_can : (s.modLoop k f).can = s.can := (rfl)
@[simp] theorem State.modLoop_port : (s.modLoop k f).port = s.port := (rfl)
@[simp] theorem State.modLoop_twi : (s.modLoop k f).twi = s.twi := (rfl)
@[simp] theorem State.modLoop_unt : (s.modLoop k f).unt = s.unt := (rfl)
@[simp] theorem State.modLoop_shown : (s.modLoop k f).shown = s.shown := (rfl)
@[simp] theorem State.modLoop_blks_acq : (s.modLoop k f).blks.acq = s.blks.acq := (rfl)
@[simp] theorem State.modLoop_blks_seqr : (s.modLoop k f).blks.seqr = s.blks.seqr := (rfl)
@[simp] theorem State.modLoop_blks_blk : (s.modLoop k f).blks.blk = s.blks.blk := (rfl)
@[simp] theorem State.modLoop_blks_dig : (s.modLoop k f).blks.dig = s.blks.dig := (rfl)
@[simp] theorem State.modLoop_blks_out : (s.modLoop k f).blks.out = s.blks.out := (rfl)
@[simp] theorem State.modLoop_blks_loop : (s.modLoop k f).blks.loop = tabMod {} s.blks.loop k f := (rfl)
@[simp] theorem State.modLoop_blks_cell : (s.modLoop k f).blks.cell = s.blks.cell := (rfl)
@[simp] theorem State.modLoop_blks_diag : (s.modLoop k f).blks.diag = s.blks.diag := (rfl)
@[simp] theorem State.modLoop_blks_modem : (s.modLoop k f).blks.modem = s.blks.modem := (rfl)
@[simp] theorem State.modLoop_blks_blank : (s.modLoop k f).blks.blank = s.blks.blank := (rfl)
end

section
variable (k : Nat) (f : CellDiag → CellDiag) (s : State)
@[simp] theorem State.modCell_pending : (s.modCell k f).pending = s.pending := (rfl)
@[simp] theorem State.modCell_now : (s.modCell k f).now = s.now := (rfl)
@[simp] theorem State.modCell_mode : (s.modCell k f).mode = s.mode := (rfl)
@[simp] theorem State.modCell_phase : (s.modCell k f).phase = s.phase := (rfl)
@[simp] theorem State.modCell_fr : (s.modCell k f).fr = s.fr := (rfl)
@[simp] theorem State.modCell_opBase : (s.modCell k f).opBase = s.opBase := (rfl)
@[simp] theorem State.modCell_opFrom : (s.modCell k f).opFrom = s.opFrom := (rfl)
@[simp] theorem State.modCell_cfg : (s.modCell k f).cfg = s.cfg := (rfl)
@[simp] theorem State.modCell_inp : (s.modCell k f).inp = s.inp := (rfl)
@[simp] theorem State.modCell_eng : (s.modCell k f).eng = s.eng := (rfl)
@[simp] theorem State.modCell_safe : (s.modCell k f).safe = s.safe := (rfl)
@[simp] theorem State.modCell_alm : (s.modCell k f).alm = s.alm := (rfl)
@[simp] theorem State.modCell_recd : (s.modCell k f).recd = s.recd := (rfl)
@[simp] theorem State.modCell_can : (s.modCell k f).can = s.can := (rfl)
@[simp] theorem State.modCell_port : (s.modCell k f).port = s.port := (rfl)
@[simp] theorem State.modCell_twi : (s.modCell k f).twi = s.twi := (rfl)
@[simp] theorem State.modCell_unt : (s.modCell k f).unt = s.unt := (rfl)
@[simp] theorem State.modCell_shown : (s.modCell k f).shown = s.shown := (rfl)
@[simp] theorem State.modCell_blks_acq : (s.modCell k f).blks.acq = s.blks.acq := (rfl)
@[simp] theorem State.modCell_blks_seqr : (s.modCell k f).blks.seqr = s.blks.seqr := (rfl)
@[simp] theorem State.modCell_blks_blk : (s.modCell k f).blks.blk = s.blks.blk := (rfl)
@[simp] theorem State.modCell_blks_dig : (s.modCell k f).blks.dig = s.blks.dig := (rfl)
@[simp] theorem State.modCell_blks_out : (s.modCell k f).blks.out = s.blks.out := (rfl)
@[simp] theorem State.modCell_blks_loop : (s.modCell k f).blks.loop = s.blks.loop := (rfl)
@[simp] theorem State.modCell_blks_cell : (s.modCell k f).blks.cell = tabMod {} s.blks.cell k f := (rfl)
@[simp] theorem State.modCell_blks_diag : (s.modCell k f).blks.diag = s.blks.diag := (rfl)
@[simp] theorem State.modCell_blks_modem : (s.modCell k f).blks.modem = s.blks.modem := (rfl)
@[simp] theorem State.modCell_blks_blank : (s.modCell k f).blks.blank = s.blks.blank := (rfl)
end

section
variable (k : Nat) (f : BlkDiag → BlkDiag) (s : State)
@[simp] theorem State.modBdiag_pending : (s.modBdiag k f).pending = s.pending := (rfl)
@[simp] theorem State.modBdiag_now : (s.modBdiag k f).now = s.now := (rfl)
@[simp] theorem State.modBdiag_mode : (s.modBdiag k f).mode = s.mode := (rfl)
@[simp] theorem State.modBdiag_phase : (s.modBdiag k f).phase = s.phase := (rfl)
@[simp] theorem State.modBdiag_fr : (s.modBdiag k f).fr = s.fr := (rfl)
@[simp] theorem State.modBdiag_opBase : (s.modBdiag k f).opBase = s.opBase := (rfl)
@[simp] theorem State.modBdiag_opFrom : (s.modBdiag k f).opFrom = s.opFrom := (rfl)
@[simp] theorem State.modBdiag_cfg : (s.modBdiag k f).cfg = s.cfg := (rfl)
@[simp] theorem State.modBdiag_inp : (s.modBdiag k f).inp = s.inp := (rfl)
@[simp] theorem State.modBdiag_eng : (s.modBdiag k f).eng = s.eng := (rfl)
@[simp] theorem State.modBdiag_safe : (s.modBdiag k f).safe = s.safe := (rfl)
@[simp] theorem State.modBdiag_alm : (s.modBdiag k f).alm = s.alm := (rfl)
@[simp] theorem State.modBdiag_recd : (s.modBdiag k f).recd = s.recd := (rfl)
@[simp] theorem State.modBdiag_can : (s.modBdiag k f).can = s.can := (rfl)
@[simp] theorem State.modBdiag_port : (s.modBdiag k f).port = s.port := (rfl)
@[simp] theorem State.modBdiag_twi : (s.modBdiag k f).twi = s.twi := (rfl)
@[simp] theorem State.modBdiag_unt : (s.modBdiag k f).unt = s.unt := (rfl)
@[simp] theorem State.modBdiag_shown : (s.modBdiag k f).shown = s.shown := (rfl)
@[simp] theorem State.modBdiag_blks_acq : (s.modBdiag k f).blks.acq = s.blks.acq := (rfl)
@[simp] theorem State.modBdiag_blks_seqr : (s.modBdiag k f).blks.seqr = s.blks.seqr := (rfl)
@[simp] theorem State.modBdiag_blks_blk : (s.modBdiag k f).blks.blk = s.blks.blk := (rfl)
@[simp] theorem State.modBdiag_blks_dig : (s.modBdiag k f).blks.dig = s.blks.dig := (rfl)
@[simp] theorem State.modBdiag_blks_out : (s.modBdiag k f).blks.out = s.blks.out := (rfl)
@[simp] theorem State.modBdiag_blks_loop : (s.modBdiag k f).blks.loop = s.blks.loop := (rfl)
@[simp] theorem State.modBdiag_blks_cell : (s.modBdiag k f).blks.cell = s.blks.cell := (rfl)
@[simp] theorem State.modBdiag_blks_diag : (s.modBdiag k f).blks.diag = tabMod {} s.blks.diag k f := (rfl)
@[simp] theorem State.modBdiag_blks_modem : (s.modBdiag k f).blks.modem = s.blks.modem := (rfl)
@[simp] theorem State.modBdiag_blks_blank : (s.modBdiag k f).blks.blank = s.blks.blank := (rfl)
end

section
variable (k : Nat) (f : Modem → Modem) (s : State)
@[simp] theorem State.modModem_pending : (s.modModem k f).pending = s.pending := (rfl)
@[simp] theorem State.modModem_now : (s.modModem k f).now = s.now := (rfl)
@[simp] theorem State.modModem_mode : (s.modModem k f).mode = s.mode := (rfl)
@[simp] theorem State.modModem_phase : (s.modModem k f).phase = s.phase := (rfl)
@[simp] theorem State.modModem_fr : (s.modModem k f).fr = s.fr := (rfl)
@[simp] theorem State.modModem_opBase : (s.modModem k f).opBase = s.opBase := (rfl)
@[simp] theorem State.modModem_opFrom : (s.modModem k f).opFrom = s.opFrom := (rfl)
@[simp] theorem State.modModem_cfg : (s.modModem k f).cfg = s.cfg := (rfl)
@[simp] theorem State.modModem_inp : (s.modModem k f).inp = s.inp := (rfl)
@[simp] theorem State.modModem_eng : (s.modModem k f).eng = s.eng := (rfl)
@[simp] theorem State.modModem_safe : (s.modModem k f).safe = s.safe := (rfl)
@[simp] theorem State.modModem_alm : (s.modModem k f).alm = s.alm := (rfl)
@[simp] theorem State.modModem_recd : (s.modModem k f).recd = s.recd := (rfl)
@[simp] theorem State.modModem_can : (s.modModem k f).can = s.can := (rfl)
@[simp] theorem State.modModem_port : (s.modModem k f).port = s.port := (rfl)
@[simp] theorem State.modModem_twi : (s.modModem k f).twi = s.twi := (rfl)
@[simp] theorem State.modModem_unt : (s.modModem k f).unt = s.unt := (rfl)
@[simp] theorem State.modModem_shown : (s.modModem k f).shown = s.shown := (rfl)
@[simp] theorem State.modModem_blks_acq : (s.modModem k f).blks.acq = s.blks.acq := (rfl)
@[simp] theorem State.modModem_blks_seqr : (s.modModem k f).blks.seqr = s.blks.seqr := (rfl)
@[simp] theorem State.modModem_blks_blk : (s.modModem k f).blks.blk = s.blks.blk := (rfl)
@[simp] theorem State.modModem_blks_dig : (s.modModem k f).blks.dig = s.blks.dig := (rfl)
@[simp] theorem State.modModem_blks_out : (s.modModem k f).blks.out = s.blks.out := (rfl)
@[simp] theorem State.modModem_blks_loop : (s.modModem k f).blks.loop = s.blks.loop := (rfl)
@[simp] theorem State.modModem_blks_cell : (s.modModem k f).blks.cell = s.blks.cell := (rfl)
@[simp] theorem State.modModem_blks_diag : (s.modModem k f).blks.diag = s.blks.diag := (rfl)
@[simp] theorem State.modModem_blks_modem : (s.modModem k f).blks.modem = tabMod {} s.blks.modem k f := (rfl)
@[simp] theorem State.modModem_blks_blank : (s.modModem k f).blks.blank = s.blks.blank := (rfl)
end

section
variable (k : Nat) (f : RegDiag → RegDiag) (s : State)
@[simp] theorem State.modReg_pending : (s.modReg k f).pending = s.pending := (rfl)
@[simp] theorem State.modReg_now : (s.modReg k f).now = s.now := (rfl)
@[simp] theorem State.modReg_mode : (s.modReg k f).mode = s.mode := (rfl)
@[simp] theorem State.modReg_phase : (s.modReg k f).phase = s.phase := (rfl)
@[simp] theorem State.modReg_fr : (s.modReg k f).fr = s.fr := (rfl)
@[simp] theorem State.modReg_opBase : (s.modReg k f).opBase = s.opBase := (rfl)
@[simp] theorem State.modReg_opFrom : (s.modReg k f).opFrom = s.opFrom := (rfl)
@[simp] theorem State.modReg_cfg : (s.modReg k f).cfg = s.cfg := (rfl)
@[simp] theorem State.modReg_inp : (s.modReg k f).inp = s.inp := (rfl)
@[simp] theorem State.modReg_blks : (s.modReg k f).blks = s.blks := (rfl)
@[simp] theorem State.modReg_eng : (s.modReg k f).eng = s.eng := (rfl)
@[simp] theorem State.modReg_safe : (s.modReg k f).safe = s.safe := (rfl)
@[simp] theorem State.modReg_alm : (s.modReg k f).alm = s.alm := (rfl)
@[simp] theorem State.modReg_recd : (s.modReg k f).recd = s.recd := (rfl)
@[simp] theorem State.modReg_can : (s.modReg k f).can = s.can := (rfl)
@[simp] theorem State.modReg_port : (s.modReg k f).port = s.port := (rfl)
@[simp] theorem State.modReg_twi : (s.modReg k f).twi = s.twi := (rfl)
@[simp] theorem State.modReg_shown : (s.modReg k f).shown = s.shown := (rfl)
@[simp] theorem State.modReg_unt_power : (s.modReg k f).unt.power = s.unt.power := (rfl)
@[simp] theorem State.modReg_unt_fw1 : (s.modReg k f).unt.fw1 = s.unt.fw1 := (rfl)
@[simp] theorem State.modReg_unt_fw2 : (s.modReg k f).unt.fw2 = s.unt.fw2 := (rfl)
@[simp] theorem State.modReg_unt_runSlot : (s.modReg k f).unt.runSlot = s.unt.runSlot := (rfl)
@[simp] theorem State.modReg_unt_ident : (s.modReg k f).unt.ident = s.unt.ident := (rfl)
@[simp] theorem State.modReg_unt_mem : (s.modReg k f).unt.mem = s.unt.mem := (rfl)
@[simp] theorem State.modReg_unt_mdiag : (s.modReg k f).unt.mdiag = s.unt.mdiag := (rfl)
@[simp] theorem State.modReg_unt_regs : (s.modReg k f).unt.regs = tabMod {} s.unt.regs k f := (rfl)
@[simp] theorem State.modReg_unt_pair : (s.modReg k f).unt.pair = s.unt.pair := (rfl)
@[simp] theorem State.modReg_unt_wit : (s.modReg k f).unt.wit = s.unt.wit := (rfl)
end

section
variable (k : Nat) (f : PortSt → PortSt) (s : State)
@[simp] theorem State.modPortSt_pending : (s.modPortSt k f).pending = s.pending := (rfl)
@[simp] theorem State.modPortSt_now : (s.modPortSt k f).now = s.now := (rfl)
@[simp] theorem State.modPortSt_mode : (s.modPortSt k f).mode = s.mode := (rfl)
@[simp] theorem State.modPortSt_phase : (s.modPortSt k f).phase = s.phase := (rfl)
@[simp] theorem State.modPortSt_fr : (s.modPortSt k f).fr = s.fr := (rfl)
@[simp] theorem State.modPortSt_opBase : (s.modPortSt k f).opBase = s.opBase := (rfl)
@[simp] theorem State.modPortSt_opFrom : (s.modPortSt k f).opFrom = s.opFrom := (rfl)
@[simp] theorem State.modPortSt_cfg : (s.modPortSt k f).cfg = s.cfg := (rfl)
@[simp] theorem State.modPortSt_inp : (s.modPortSt k f).inp = s.inp := (rfl)
@[simp] theorem State.modPortSt_blks : (s.modPortSt k f).blks = s.blks := (rfl)
@[simp] theorem State.modPortSt_eng : (s.modPortSt k f).eng = s.eng := (rfl)
@[simp] theorem State.modPortSt_safe : (s.modPortSt k f).safe = s.safe := (rfl)
@[simp] theorem State.modPortSt_alm : (s.modPortSt k f).alm = s.alm := (rfl)
@[simp] theorem State.modPortSt_recd : (s.modPortSt k f).recd = s.recd := (rfl)
@[simp] theorem State.modPortSt_can : (s.modPortSt k f).can = s.can := (rfl)
@[simp] theorem State.modPortSt_twi : (s.modPortSt k f).twi = s.twi := (rfl)
@[simp] theorem State.modPortSt_unt : (s.modPortSt k f).unt = s.unt := (rfl)
@[simp] theorem State.modPortSt_shown : (s.modPortSt k f).shown = s.shown := (rfl)
@[simp] theorem State.modPortSt_port_sess : (s.modPortSt k f).port.sess = s.port.sess := (rfl)
@[simp] theorem State.modPortSt_port_pend : (s.modPortSt k f).port.pend = s.port.pend := (rfl)
@[simp] theorem State.modPortSt_port_outbox : (s.modPortSt k f).port.outbox = s.port.outbox := (rfl)
@[simp] theorem State.modPortSt_port_owner : (s.modPortSt k f).port.owner = s.port.owner := (rfl)
@[simp] theorem State.modPortSt_port_st : (s.modPortSt k f).port.st = tabMod {} s.port.st k f := (rfl)
@[simp] theorem State.modPortSt_port_wire : (s.modPortSt k f).port.wire = s.port.wire := (rfl)
@[simp] theorem State.modPortSt_port_trace : (s.modPortSt k f).port.trace = s.port.trace := (rfl)
@[simp] theorem State.modPortSt_port_replay : (s.modPortSt k f).port.replay = s.port.replay := (rfl)
@[simp] theorem State.modPortSt_port_replayIn : (s.modPortSt k f).port.replayIn = s.port.replayIn := (rfl)
@[simp] theorem State.modPortSt_port_cfgEv : (s.modPortSt k f).port.cfgEv = s.port.cfgEv := (rfl)
@[simp] theorem State.modPortSt_port_rtcEv : (s.modPortSt k f).port.rtcEv = s.port.rtcEv := (rfl)
end

section
variable (k : Nat) (f : Session → Session) (s : State)
@[simp] theorem State.modSess_pending : (s.modSess k f).pending = s.pending := (rfl)
@[simp] theorem State.modSess_now : (s.modSess k f).now = s.now := (rfl)
@[simp] theorem State.modSess_mode : (s.modSess k f).mode = s.mode := (rfl)
@[simp] theorem State.modSess_phase : (s.modSess k f).phase = s.phase := (rfl)
@[simp] theorem State.modSess_fr : (s.modSess k f).fr = s.fr := (rfl)
@[simp] theorem State.modSess_opBase : (s.modSess k f).opBase = s.opBase := (rfl)
@[simp] theorem State.modSess_opFrom : (s.modSess k f).opFrom = s.opFrom := (rfl)
@[simp] theorem State.modSess_cfg : (s.modSess k f).cfg = s.cfg := (rfl)
@[simp] theorem State.modSess_inp : (s.modSess k f).inp = s.inp := (rfl)
@[simp] theorem State.modSess_blks : (s.modSess k f).blks = s.blks := (rfl)
@[simp] theorem State.modSess_eng : (s.modSess k f).eng = s.eng := (rfl)
@[simp] theorem State.modSess_safe : (s.modSess k f).safe = s.safe := (rfl)
@[simp] theorem State.modSess_alm : (s.modSess k f).alm = s.alm := (rfl)
@[simp] theorem State.modSess_recd : (s.modSess k f).recd = s.recd := (rfl)
@[simp] theorem State.modSess_can : (s.modSess k f).can = s.can := (rfl)
@[simp] theorem State.modSess_twi : (s.modSess k f).twi = s.twi := (rfl)
@[simp] theorem State.modSess_unt : (s.modSess k f).unt = s.unt := (rfl)
@[simp] theorem State.modSess_shown : (s.modSess k f).shown = s.shown := (rfl)
@[simp] theorem State.modSess_port_sess : (s.modSess k f).port.sess = tabMod {} s.port.sess k f := (rfl)
@[simp] theorem State.modSess_port_pend : (s.modSess k f).port.pend = s.port.pend := (rfl)
@[simp] theorem State.modSess_port_outbox : (s.modSess k f).port.outbox = s.port.outbox := (rfl)
@[simp] theorem State.modSess_port_owner : (s.modSess k f).port.owner = s.port.owner := (rfl)
@[simp] theorem State.modSess_port_st : (s.modSess k f).port.st = s.port.st := (rfl)
@[simp] theorem State.modSess_port_wire : (s.modSess k f).port.wire = s.port.wire := (rfl)
@[simp] theorem State.modSess_port_trace : (s.modSess k f).port.trace = s.port.trace := (rfl)
@[simp] theorem State.modSess_port_replay : (s.modSess k f).port.replay = s.port.replay := (rfl)
@[simp] theorem State.modSess_port_replayIn : (s.modSess k f).port.replayIn = s.port.replayIn := (rfl)
@[simp] theorem State.modSess_port_cfgEv : (s.modSess k f).port.cfgEv = s.port.cfgEv := (rfl)
@[simp] theorem State.modSess_port_rtcEv : (s.modSess k f).port.rtcEv = s.port.rtcEv := (rfl)
end

section
variable (k : Nat) (f : CanCtl → CanCtl) (s : State)
@[simp] theorem State.modCtl_pending : (s.modCtl k f).pending = s.pending := (rfl)
@[simp] theorem State.modCtl_now : (s.modCtl k f).now = s.now := (rfl)
@[simp] theorem State.modCtl_mode : (s.modCtl k f).mode = s.mode := (rfl)
@[simp] theorem State.modCtl_phase : (s.modCtl k f).phase = s.phase := (rfl)
@[simp] theorem State.modCtl_fr : (s.modCtl k f).fr = s.fr := (rfl)
@[simp] theorem State.modCtl_opBase : (s.modCtl k f).opBase = s.opBase := (rfl)
@[simp] theorem State.modCtl_opFrom : (s.modCtl k f).opFrom = s.opFrom := (rfl)
@[simp] theorem State.modCtl_cfg : (s.modCtl k f).cfg = s.cfg := (rfl)
@[simp] theorem State.modCtl_inp : (s.modCtl k f).inp = s.inp := (rfl)
@[simp] theorem State.modCtl_blks : (s.modCtl k f).blks = s.blks := (rfl)
@[simp] theorem State.modCtl_eng : (s.modCtl k f).eng = s.eng := (rfl)
@[simp] theorem State.modCtl_safe : (s.modCtl k f).safe = s.safe := (rfl)
@[simp] theorem State.modCtl_alm : (s.modCtl k f).alm = s.alm := (rfl)
@[simp] theorem State.modCtl_recd : (s.modCtl k f).recd = s.recd := (rfl)
@[simp] theorem State.modCtl_port : (s.modCtl k f).port = s.port := (rfl)
@[simp] theorem State.modCtl_twi : (s.modCtl k f).twi = s.twi := (rfl)
@[simp] theorem State.modCtl_unt : (s.modCtl k f).unt = s.unt := (rfl)
@[simp] theorem State.modCtl_shown : (s.modCtl k f).shown = s.shown := (rfl)
@[simp] theorem State.modCtl_can_objs : (s.modCtl k f).can.objs = s.can.objs := (rfl)
@[simp] theorem State.modCtl_can_ctls : (s.modCtl k f).can.ctls = tabMod {} s.can.ctls k f := (rfl)
@[simp] theorem State.modCtl_can_iso : (s.modCtl k f).can.iso = s.can.iso := (rfl)
@[simp] theorem State.modCtl_can_loads : (s.modCtl k f).can.loads = s.can.loads := (rfl)
end

section
variable (k : Nat) (f : CanObj → CanObj) (s : State)
@[simp] theorem State.modObj_pending : (s.modObj k f).pending = s.pending := (rfl)
@[simp] theorem State.modObj_now : (s.modObj k f).now = s.now := (rfl)
@[simp] theorem State.modObj_mode : (s.modObj k f).mode = s.mode := (rfl)
@[simp] theorem State.modObj_phase : (s.modObj k f).phase = s.phase := (rfl)
@[simp] theorem State.modObj_fr : (s.modObj k f).fr = s.fr := (rfl)
@[simp] theorem State.modObj_opBase : (s.modObj k f).opBase = s.opBase := (rfl)
@[simp] theorem State.modObj_opFrom : (s.modObj k f).opFrom = s.opFrom := (rfl)
@[simp] theorem State.modObj_cfg : (s.modObj k f).cfg = s.cfg := (rfl)
@[simp] theorem State.modObj_inp : (s.modObj k f).inp = s.inp := (rfl)
@[simp] theorem State.modObj_blks : (s.modObj k f).blks = s.blks := (rfl)
@[simp] theorem State.modObj_eng : (s.modObj k f).eng = s.eng := (rfl)
@[simp] theorem State.modObj_safe : (s.modObj k f).safe = s.safe := (rfl)
@[simp] theorem State.modObj_alm : (s.modObj k f).alm = s.alm := (rfl)
@[simp] theorem State.modObj_recd : (s.modObj k f).recd = s.recd := (rfl)
@[simp] theorem State.modObj_port : (s.modObj k f).port = s.port := (rfl)
@[simp] theorem State.modObj_twi : (s.modObj k f).twi = s.twi := (rfl)
@[simp] theorem State.modObj_unt : (s.modObj k f).unt = s.unt := (rfl)
@[simp] theorem State.modObj_shown : (s.modObj k f).shown = s.shown := (rfl)
@[simp] theorem State.modObj_can_objs : (s.modObj k f).can.objs = tabMod {} s.can.objs k f := (rfl)
@[simp] theorem State.modObj_can_ctls : (s.modObj k f).can.ctls = s.can.ctls := (rfl)
@[simp] theorem State.modObj_can_iso : (s.modObj k f).can.iso = s.can.iso := (rfl)
@[simp] theorem State.modObj_can_loads : (s.modObj k f).can.loads = s.can.loads := (rfl)
end

section
variable (k : Nat) (f : IsoTp → IsoTp) (s : State)
@[simp] theorem State.modIso_pending : (s.modIso k f).pending = s.pending := (rfl)
@[simp] theorem State.modIso_now : (s.modIso k f).now = s.now := (rfl)
@[simp] theorem State.modIso_mode : (s.modIso k f).mode = s.mode := (rfl)
@[simp] theorem State.modIso_phase : (s.modIso k f).phase = s.phase := (rfl)
@[simp] theorem State.modIso_fr : (s.modIso k f).fr = s.fr := (rfl)
@[simp] theorem State.modIso_opBase : (s.modIso k f).opBase = s.opBase := (rfl)
@[simp] theorem State.modIso_opFrom : (s.modIso k f).opFrom = s.opFrom := (rfl)
@[simp] theorem State.modIso_cfg : (s.modIso k f).cfg = s.cfg := (rfl)
@[simp] theorem State.modIso_inp : (s.modIso k f).inp = s.inp := (rfl)
@[simp] theorem State.modIso_blks : (s.modIso k f).blks = s.blks := (rfl)
@[simp] theorem State.modIso_eng : (s.modIso k f).eng = s.eng := (rfl)
@[simp] theorem State.modIso_safe : (s.modIso k f).safe = s.safe := (rfl)
@[simp] theorem State.modIso_alm : (s.modIso k f).alm = s.alm := (rfl)
@[simp] theorem State.modIso_recd : (s.modIso k f).recd = s.recd := (rfl)
@[simp] theorem State.modIso_port : (s.modIso k f).port = s.port := (rfl)
@[simp] theorem State.modIso_twi : (s.modIso k f).twi = s.twi := (rfl)
@[simp] theorem State.modIso_unt : (s.modIso k f).unt = s.unt := (rfl)
@[simp] theorem State.modIso_shown : (s.modIso k f).shown = s.shown := (rfl)
@[simp] theorem State.modIso_can_objs : (s.modIso k f).can.objs = s.can.objs := (rfl)
@[simp] theorem State.modIso_can_ctls : (s.modIso k f).can.ctls = s.can.ctls := (rfl)
@[simp] theorem State.modIso_can_iso : (s.modIso k f).can.iso = tabMod {} s.can.iso k f := (rfl)
@[simp] theorem State.modIso_can_loads : (s.modIso k f).can.loads = s.can.loads := (rfl)
end

section
variable (f : Owner → Owner) (s : State)
@[simp] theorem State.modOwner_pending : (s.modOwner f).pending = s.pending := (rfl)
@[simp] theorem State.modOwner_now : (s.modOwner f).now = s.now := (rfl)
@[simp] theorem State.modOwner_mode : (s.modOwner f).mode = s.mode := (rfl)
@[simp] theorem State.modOwner_phase : (s.modOwner f).phase = s.phase := (rfl)
@[simp] theorem State.modOwner_fr : (s.modOwner f).fr = s.fr := (rfl)
@[simp] theorem State.modOwner_opBase : (s.modOwner f).opBase = s.opBase := (rfl)
@[simp] theorem State.modOwner_opFrom : (s.modOwner f).opFrom = s.opFrom := (rfl)
@[simp] theorem State.modOwner_cfg : (s.modOwner f).cfg = s.cfg := (rfl)
@[simp] theorem State.modOwner_inp : (s.modOwner f).inp = s.inp := (rfl)
@[simp] theorem State.modOwner_blks : (s.modOwner f).blks = s.blks := (rfl)
@[simp] theorem State.modOwner_eng : (s.modOwner f).eng = s.eng := (rfl)
@[simp] theorem State.modOwner_safe : (s.modOwner f).safe = s.safe := (rfl)
@[simp] theorem State.modOwner_alm : (s.modOwner f).alm = s.alm := (rfl)
@[simp] theorem State.modOwner_recd : (s.modOwner f).recd = s.recd := (rfl)
@[simp] theorem State.modOwner_can : (s.modOwner f).can = s.can := (rfl)
@[simp] theorem State.modOwner_twi : (s.modOwner f).twi = s.twi := (rfl)
@[simp] theorem State.modOwner_unt : (s.modOwner f).unt = s.unt := (rfl)
@[simp] theorem State.modOwner_shown : (s.modOwner f).shown = s.shown := (rfl)
@[simp] theorem State.modOwner_port_sess : (s.modOwner f).port.sess = s.port.sess := (rfl)
@[simp] theorem State.modOwner_port_pend : (s.modOwner f).port.pend = s.port.pend := (rfl)
@[simp] theorem State.modOwner_port_outbox : (s.modOwner f).port.outbox = s.port.outbox := (rfl)
@[simp] theorem State.modOwner_port_owner : (s.modOwner f).port.owner = f s.port.owner := (rfl)
@[simp] theorem State.modOwner_port_st : (s.modOwner f).port.st = s.port.st := (rfl)
@[simp] theorem State.modOwner_port_wire : (s.modOwner f).port.wire = s.port.wire := (rfl)
@[simp] theorem State.modOwner_port_trace : (s.modOwner f).port.trace = s.port.trace := (rfl)
@[simp] theorem State.modOwner_port_replay : (s.modOwner f).port.replay = s.port.replay := (rfl)
@[simp] theorem State.modOwner_port_replayIn : (s.modOwner f).port.replayIn = s.port.replayIn := (rfl)
@[simp] theorem State.modOwner_port_cfgEv : (s.modOwner f).port.cfgEv = s.port.cfgEv := (rfl)
@[simp] theorem State.modOwner_port_rtcEv : (s.modOwner f).port.rtcEv = s.port.rtcEv := (rfl)
end

section
variable (m : RunMode) (s : State)
@[simp] theorem State.setMode_pending : (s.setMode m).pending = s.pending := (rfl)
@[simp] theorem State.setMode_now : (s.setMode m).now = s.now := (rfl)
@[simp] theorem State.setMode_mode : (s.setMode m).mode = m := (rfl)
@[simp] theorem State.setMode_phase : (s.setMode m).phase = s.phase := (rfl)
@[simp] theorem State.setMode_fr : (s.setMode m).fr = s.fr := (rfl)
@[simp] theorem State.setMode_opBase : (s.setMode m).opBase = s.opBase := (rfl)
@[simp] theorem State.setMode_opFrom : (s.setMode m).opFrom = s.opFrom := (rfl)
@[simp] theorem State.setMode_cfg : (s.setMode m).cfg = s.cfg := (rfl)
@[simp] theorem State.setMode_inp : (s.setMode m).inp = s.inp := (rfl)
@[simp] theorem State.setMode_blks : (s.setMode m).blks = s.blks := (rfl)
@[simp] theorem State.setMode_eng : (s.setMode m).eng = s.eng := (rfl)
@[simp] theorem State.setMode_safe : (s.setMode m).safe = s.safe := (rfl)
@[simp] theorem State.setMode_alm : (s.setMode m).alm = s.alm := (rfl)
@[simp] theorem State.setMode_recd : (s.setMode m).recd = s.recd := (rfl)
@[simp] theorem State.setMode_can : (s.setMode m).can = s.can := (rfl)
@[simp] theorem State.setMode_port : (s.setMode m).port = s.port := (rfl)
@[simp] theorem State.setMode_twi : (s.setMode m).twi = s.twi := (rfl)
@[simp] theorem State.setMode_unt : (s.setMode m).unt = s.unt := (rfl)
@[simp] theorem State.setMode_shown : (s.setMode m).shown = s.shown := (rfl)
end

section
variable (p : Phase) (s : State)
@[simp] theorem State.setPhase_pending : (s.setPhase p).pending = s.pending := (rfl)
@[simp] theorem State.setPhase_now : (s.setPhase p).now = s.now := (rfl)
@[simp] theorem State.setPhase_mode : (s.setPhase p).mode = s.mode := (rfl)
@[simp] theorem State.setPhase_phase : (s.setPhase p).phase = p := (rfl)
@[simp] theorem State.setPhase_fr : (s.setPhase p).fr = s.fr := (rfl)
@[simp] theorem State.setPhase_opBase : (s.setPhase p).opBase = s.opBase := (rfl)
@[simp] theorem State.setPhase_opFrom : (s.setPhase p).opFrom = s.opFrom := (rfl)
@[simp] theorem State.setPhase_cfg : (s.setPhase p).cfg = s.cfg := (rfl)
@[simp] theorem State.setPhase_inp : (s.setPhase p).inp = s.inp := (rfl)
@[simp] theorem State.setPhase_blks : (s.setPhase p).blks = s.blks := (rfl)
@[simp] theorem State.setPhase_eng : (s.setPhase p).eng = s.eng := (rfl)
@[simp] theorem State.setPhase_safe : (s.setPhase p).safe = s.safe := (rfl)
@[simp] theorem State.setPhase_alm : (s.setPhase p).alm = s.alm := (rfl)
@[simp] theorem State.setPhase_recd : (s.setPhase p).recd = s.recd := (rfl)
@[simp] theorem State.setPhase_can : (s.setPhase p).can = s.can := (rfl)
@[simp] theorem State.setPhase_port : (s.setPhase p).port = s.port := (rfl)
@[simp] theorem State.setPhase_twi : (s.setPhase p).twi = s.twi := (rfl)
@[simp] theorem State.setPhase_unt : (s.setPhase p).unt = s.unt := (rfl)
@[simp] theorem State.setPhase_shown : (s.setPhase p).shown = s.shown := (rfl)
end

section
variable (t : Nat) (s : State)
@[simp] theorem State.tick_pending : (s.tick t).pending = s.pending := (rfl)
@[simp] theorem State.tick_now : (s.tick t).now = max s.now t := (rfl)
@[simp] theorem State.tick_mode : (s.tick t).mode = s.mode := (rfl)
@[simp] theorem State.tick_phase : (s.tick t).phase = s.phase := (rfl)
@[simp] theorem State.tick_fr : (s.tick t).fr = s.fr := (rfl)
@[simp] theorem State.tick_opBase : (s.tick t).opBase = s.opBase := (rfl)
@[simp] theorem State.tick_opFrom : (s.tick t).opFrom = s.opFrom := (rfl)
@[simp] theorem State.tick_cfg : (s.tick t).cfg = s.cfg := (rfl)
@[simp] theorem State.tick_inp : (s.tick t).inp = s.inp := (rfl)
@[simp] theorem State.tick_blks : (s.tick t).blks = s.blks := (rfl)
@[simp] theorem State.tick_eng : (s.tick t).eng = s.eng := (rfl)
@[simp] theorem State.tick_safe : (s.tick t).safe = s.safe := (rfl)
@[simp] theorem State.tick_alm : (s.tick t).alm = s.alm := (rfl)
@[simp] theorem State.tick_recd : (s.tick t).recd = s.recd := (rfl)
@[simp] theorem State.tick_can : (s.tick t).can = s.can := (rfl)
@[simp] theorem State.tick_port : (s.tick t).port = s.port := (rfl)
@[simp] theorem State.tick_twi : (s.tick t).twi = s.twi := (rfl)
@[simp] theorem State.tick_unt : (s.tick t).unt = s.unt := (rfl)
@[simp] theorem State.tick_shown : (s.tick t).shown = s.shown := (rfl)
end

/-! A condition between two states, read part by part. -/
section
variable (c : Prop) [Decidable c]
@[simp] theorem State.ite_pending (a b : State) : (if c then a else b).pending = if c then a.pending else b.pending := apply_ite State.pending c a b
@[simp] theorem State.ite_now (a b : State) : (if c then a else b).now = if c then a.now else b.now := apply_ite State.now c a b
@[simp] theorem State.ite_mode (a b : State) : (if c then a else b).mode = if c then a.mode else b.mode := apply_ite State.mode c a b
@[simp] theorem State.ite_phase (a b : State) : (if c then a else b).phase = if c then a.phase else b.phase := apply_ite State.phase c a b
@[simp] theorem State.ite_fr (a b : State) : (if c then a else b).fr = if c then a.fr else b.fr := apply_ite State.fr c a b
@[simp] theorem State.ite_opBase (a b : State) : (if c then a else b).opBase = if c then a.opBase else b.opBase := apply_ite State.opBase c a b
@[simp] theorem State.ite_opFrom (a b : State) : (if c then a else b).opFrom = if c then a.opFrom else b.opFrom := apply_ite State.opFrom c a b
@[simp] theorem State.ite_cfg (a b : State) : (if c then a else b).cfg = if c then a.cfg else b.cfg := apply_ite State.cfg c a b
@[simp] theorem State.ite_inp (a b : State) : (if c then a else b).inp = if c then a.inp else b.inp := apply_ite State.inp c a b
@[simp] theorem State.ite_blks (a b : State) : (if c then a else b).blks = if c then a.blks else b.blks := apply_ite State.blks c a b
@[simp] theorem State.ite_eng (a b : State) : (if c then a else b).eng = if c then a.eng else b.eng := apply_ite State.eng c a b
@[simp] theorem State.ite_safe (a b : State) : (if c then a else b).safe = if c then a.safe else b.safe := apply_ite State.safe c a b
@[simp] theorem State.ite_alm (a b : State) : (if c then a else b).alm = if c then a.alm else b.alm := apply_ite State.alm c a b
@[simp] theorem State.ite_recd (a b : State) : (if c then a else b).recd = if c then a.recd else b.recd := apply_ite State.recd c a b
@[simp] theorem State.ite_can (a b : State) : (if c then a else b).can = if c then a.can else b.can := apply_ite State.can c a b
@[simp] theorem State.ite_port (a b : State) : (if c then a else b).port = if c then a.port else b.port := apply_ite State.port c a b
@[simp] theorem State.ite_twi (a b : State) : (if c then a else b).twi = if c then a.twi else b.twi := apply_ite State.twi c a b
@[simp] theorem State.ite_unt (a b : State) : (if c then a else b).unt = if c then a.unt else b.unt := apply_ite State.unt c a b
@[simp] theorem State.ite_shown (a b : State) : (if c then a else b).shown = if c then a.shown else b.shown := apply_ite State.shown c a b
@[simp] theorem UnitPart.ite_power (a b : UnitPart) : (if c then a else b).power = if c then a.power else b.power := apply_ite UnitPart.power c a b
@[simp] theorem UnitPart.ite_fw1 (a b : UnitPart) : (if c then a else b).fw1 = if c then a.fw1 else b.fw1 := apply_ite UnitPart.fw1 c a b
@[simp] theorem UnitPart.ite_fw2 (a b : UnitPart) : (if c then a else b).fw2 = if c then a.fw2 else b.fw2 := apply_ite UnitPart.fw2 c a b
@[simp] theorem UnitPart.ite_runSlot (a b : UnitPart) : (if c then a else b).runSlot = if c then a.runSlot else b.runSlot := apply_ite UnitPart.runSlot c a b
@[simp] theorem UnitPart.ite_ident (a b : UnitPart) : (if c then a else b).ident = if c then a.ident else b.ident := apply_ite UnitPart.ident c a b
@[simp] theorem UnitPart.ite_mem (a b : UnitPart) : (if c then a else b).mem = if c then a.mem else b.mem := apply_ite UnitPart.mem c a b
@[simp] theorem UnitPart.ite_mdiag (a b : UnitPart) : (if c then a else b).mdiag = if c then a.mdiag else b.mdiag := apply_ite UnitPart.mdiag c a b
@[simp] theorem UnitPart.ite_regs (a b : UnitPart) : (if c then a else b).regs = if c then a.regs else b.regs := apply_ite UnitPart.regs c a b
@[simp] theorem UnitPart.ite_pair (a b : UnitPart) : (if c then a else b).pair = if c then a.pair else b.pair := apply_ite UnitPart.pair c a b
@[simp] theorem UnitPart.ite_wit (a b : UnitPart) : (if c then a else b).wit = if c then a.wit else b.wit := apply_ite UnitPart.wit c a b
@[simp] theorem PortPart.ite_sess (a b : PortPart) : (if c then a else b).sess = if c then a.sess else b.sess := apply_ite PortPart.sess c a b
@[simp] theorem PortPart.ite_pend (a b : PortPart) : (if c then a else b).pend = if c then a.pend else b.pend := apply_ite PortPart.pend c a b
@[simp] theorem PortPart.ite_outbox (a b : PortPart) : (if c then a else b).outbox = if c then a.outbox else b.outbox := apply_ite PortPart.outbox c a b
@[simp] theorem PortPart.ite_owner (a b : PortPart) : (if c then a else b).owner = if c then a.owner else b.owner := apply_ite PortPart.owner c a b
@[simp] theorem PortPart.ite_st (a b : PortPart) : (if c then a else b).st = if c then a.st else b.st := apply_ite PortPart.st c a b
@[simp] theorem PortPart.ite_wire (a b : PortPart) : (if c then a else b).wire = if c then a.wire else b.wire := apply_ite PortPart.wire c a b
@[simp] theorem PortPart.ite_trace (a b : PortPart) : (if c then a else b).trace = if c then a.trace else b.trace := apply_ite PortPart.trace c a b
@[simp] theorem PortPart.ite_replay (a b : PortPart) : (if c then a else b).replay = if c then a.replay else b.replay := apply_ite PortPart.replay c a b
@[simp] theorem PortPart.ite_replayIn (a b : PortPart) : (if c then a else b).replayIn = if c then a.replayIn else b.replayIn := apply_ite PortPart.replayIn c a b
@[simp] theorem PortPart.ite_cfgEv (a b : PortPart) : (if c then a else b).cfgEv = if c then a.cfgEv else b.cfgEv := apply_ite PortPart.cfgEv c a b
@[simp] theorem PortPart.ite_rtcEv (a b : PortPart) : (if c then a else b).rtcEv = if c then a.rtcEv else b.rtcEv := apply_ite PortPart.rtcEv c a b
@[simp] theorem CfgPart.ite_image (a b : CfgPart) : (if c then a else b).image = if c then a.image else b.image := apply_ite CfgPart.image c a b
@[simp] theorem CfgPart.ite_hdr (a b : CfgPart) : (if c then a else b).hdr = if c then a.hdr else b.hdr := apply_ite CfgPart.hdr c a b
@[simp] theorem CfgPart.ite_staging (a b : CfgPart) : (if c then a else b).staging = if c then a.staging else b.staging := apply_ite CfgPart.staging c a b
@[simp] theorem CfgPart.ite_next (a b : CfgPart) : (if c then a else b).next = if c then a.next else b.next := apply_ite CfgPart.next c a b
@[simp] theorem CfgPart.ite_restage (a b : CfgPart) : (if c then a else b).restage = if c then a.restage else b.restage := apply_ite CfgPart.restage c a b
@[simp] theorem CfgPart.ite_slotA (a b : CfgPart) : (if c then a else b).slotA = if c then a.slotA else b.slotA := apply_ite CfgPart.slotA c a b
@[simp] theorem CfgPart.ite_slotB (a b : CfgPart) : (if c then a else b).slotB = if c then a.slotB else b.slotB := apply_ite CfgPart.slotB c a b
@[simp] theorem CfgPart.ite_store (a b : CfgPart) : (if c then a else b).store = if c then a.store else b.store := apply_ite CfgPart.store c a b
@[simp] theorem CfgPart.ite_trims (a b : CfgPart) : (if c then a else b).trims = if c then a.trims else b.trims := apply_ite CfgPart.trims c a b
end

/-- What every step of a fold keeps, the fold keeps. -/
theorem foldl_keep {α β : Type} (g : State → β) (f : State → α → State) (h : ∀ s x, g (f s x) = g s) (l : List α) (s : State) :
    g (l.foldl f s) = g s := by
  induction l generalizing s with
  | nil => rfl
  | cons x r ih => rw [List.foldl_cons, ih, h]

section
variable {α : Type} (f : State → α → State) (l : List α) (s : State)
@[simp] theorem foldl_pending (h : ∀ s x, (f s x).pending = s.pending) : (l.foldl f s).pending = s.pending := foldl_keep State.pending f h l s
@[simp] theorem foldl_now (h : ∀ s x, (f s x).now = s.now) : (l.foldl f s).now = s.now := foldl_keep State.now f h l s
@[simp] theorem foldl_mode (h : ∀ s x, (f s x).mode = s.mode) : (l.foldl f s).mode = s.mode := foldl_keep State.mode f h l s
@[simp] theorem foldl_phase (h : ∀ s x, (f s x).phase = s.phase) : (l.foldl f s).phase = s.phase := foldl_keep State.phase f h l s
@[simp] theorem foldl_fr (h : ∀ s x, (f s x).fr = s.fr) : (l.foldl f s).fr = s.fr := foldl_keep State.fr f h l s
@[simp] theorem foldl_opBase (h : ∀ s x, (f s x).opBase = s.opBase) : (l.foldl f s).opBase = s.opBase := foldl_keep State.opBase f h l s
@[simp] theorem foldl_opFrom (h : ∀ s x, (f s x).opFrom = s.opFrom) : (l.foldl f s).opFrom = s.opFrom := foldl_keep State.opFrom f h l s
@[simp] theorem foldl_cfg (h : ∀ s x, (f s x).cfg = s.cfg) : (l.foldl f s).cfg = s.cfg := foldl_keep State.cfg f h l s
@[simp] theorem foldl_inp (h : ∀ s x, (f s x).inp = s.inp) : (l.foldl f s).inp = s.inp := foldl_keep State.inp f h l s
@[simp] theorem foldl_blks (h : ∀ s x, (f s x).blks = s.blks) : (l.foldl f s).blks = s.blks := foldl_keep State.blks f h l s
@[simp] theorem foldl_eng (h : ∀ s x, (f s x).eng = s.eng) : (l.foldl f s).eng = s.eng := foldl_keep State.eng f h l s
@[simp] theorem foldl_safe (h : ∀ s x, (f s x).safe = s.safe) : (l.foldl f s).safe = s.safe := foldl_keep State.safe f h l s
@[simp] theorem foldl_alm (h : ∀ s x, (f s x).alm = s.alm) : (l.foldl f s).alm = s.alm := foldl_keep State.alm f h l s
@[simp] theorem foldl_recd (h : ∀ s x, (f s x).recd = s.recd) : (l.foldl f s).recd = s.recd := foldl_keep State.recd f h l s
@[simp] theorem foldl_can (h : ∀ s x, (f s x).can = s.can) : (l.foldl f s).can = s.can := foldl_keep State.can f h l s
@[simp] theorem foldl_port (h : ∀ s x, (f s x).port = s.port) : (l.foldl f s).port = s.port := foldl_keep State.port f h l s
@[simp] theorem foldl_twi (h : ∀ s x, (f s x).twi = s.twi) : (l.foldl f s).twi = s.twi := foldl_keep State.twi f h l s
@[simp] theorem foldl_unt (h : ∀ s x, (f s x).unt = s.unt) : (l.foldl f s).unt = s.unt := foldl_keep State.unt f h l s
@[simp] theorem foldl_shown (h : ∀ s x, (f s x).shown = s.shown) : (l.foldl f s).shown = s.shown := foldl_keep State.shown f h l s
@[simp] theorem foldl_unt_power (h : ∀ s x, (f s x).unt.power = s.unt.power) : (l.foldl f s).unt.power = s.unt.power :=
  foldl_keep (fun a => a.unt.power) f h l s
@[simp] theorem foldl_unt_fw1 (h : ∀ s x, (f s x).unt.fw1 = s.unt.fw1) : (l.foldl f s).unt.fw1 = s.unt.fw1 :=
  foldl_keep (fun a => a.unt.fw1) f h l s
@[simp] theorem foldl_unt_fw2 (h : ∀ s x, (f s x).unt.fw2 = s.unt.fw2) : (l.foldl f s).unt.fw2 = s.unt.fw2 :=
  foldl_keep (fun a => a.unt.fw2) f h l s
@[simp] theorem foldl_unt_runSlot (h : ∀ s x, (f s x).unt.runSlot = s.unt.runSlot) : (l.foldl f s).unt.runSlot = s.unt.runSlot :=
  foldl_keep (fun a => a.unt.runSlot) f h l s
@[simp] theorem foldl_unt_ident (h : ∀ s x, (f s x).unt.ident = s.unt.ident) : (l.foldl f s).unt.ident = s.unt.ident :=
  foldl_keep (fun a => a.unt.ident) f h l s
@[simp] theorem foldl_unt_mem (h : ∀ s x, (f s x).unt.mem = s.unt.mem) : (l.foldl f s).unt.mem = s.unt.mem :=
  foldl_keep (fun a => a.unt.mem) f h l s
@[simp] theorem foldl_unt_mdiag (h : ∀ s x, (f s x).unt.mdiag = s.unt.mdiag) : (l.foldl f s).unt.mdiag = s.unt.mdiag :=
  foldl_keep (fun a => a.unt.mdiag) f h l s
@[simp] theorem foldl_unt_regs (h : ∀ s x, (f s x).unt.regs = s.unt.regs) : (l.foldl f s).unt.regs = s.unt.regs :=
  foldl_keep (fun a => a.unt.regs) f h l s
@[simp] theorem foldl_unt_pair (h : ∀ s x, (f s x).unt.pair = s.unt.pair) : (l.foldl f s).unt.pair = s.unt.pair :=
  foldl_keep (fun a => a.unt.pair) f h l s
@[simp] theorem foldl_unt_wit (h : ∀ s x, (f s x).unt.wit = s.unt.wit) : (l.foldl f s).unt.wit = s.unt.wit :=
  foldl_keep (fun a => a.unt.wit) f h l s
@[simp] theorem foldl_port_sess (h : ∀ s x, (f s x).port.sess = s.port.sess) : (l.foldl f s).port.sess = s.port.sess :=
  foldl_keep (fun a => a.port.sess) f h l s
@[simp] theorem foldl_port_pend (h : ∀ s x, (f s x).port.pend = s.port.pend) : (l.foldl f s).port.pend = s.port.pend :=
  foldl_keep (fun a => a.port.pend) f h l s
@[simp] theorem foldl_port_outbox (h : ∀ s x, (f s x).port.outbox = s.port.outbox) : (l.foldl f s).port.outbox = s.port.outbox :=
  foldl_keep (fun a => a.port.outbox) f h l s
@[simp] theorem foldl_port_owner (h : ∀ s x, (f s x).port.owner = s.port.owner) : (l.foldl f s).port.owner = s.port.owner :=
  foldl_keep (fun a => a.port.owner) f h l s
@[simp] theorem foldl_port_st (h : ∀ s x, (f s x).port.st = s.port.st) : (l.foldl f s).port.st = s.port.st :=
  foldl_keep (fun a => a.port.st) f h l s
@[simp] theorem foldl_port_wire (h : ∀ s x, (f s x).port.wire = s.port.wire) : (l.foldl f s).port.wire = s.port.wire :=
  foldl_keep (fun a => a.port.wire) f h l s
@[simp] theorem foldl_port_trace (h : ∀ s x, (f s x).port.trace = s.port.trace) : (l.foldl f s).port.trace = s.port.trace :=
  foldl_keep (fun a => a.port.trace) f h l s
@[simp] theorem foldl_port_replay (h : ∀ s x, (f s x).port.replay = s.port.replay) : (l.foldl f s).port.replay = s.port.replay :=
  foldl_keep (fun a => a.port.replay) f h l s
@[simp] theorem foldl_port_replayIn (h : ∀ s x, (f s x).port.replayIn = s.port.replayIn) : (l.foldl f s).port.replayIn = s.port.replayIn :=
  foldl_keep (fun a => a.port.replayIn) f h l s
@[simp] theorem foldl_port_cfgEv (h : ∀ s x, (f s x).port.cfgEv = s.port.cfgEv) : (l.foldl f s).port.cfgEv = s.port.cfgEv :=
  foldl_keep (fun a => a.port.cfgEv) f h l s
@[simp] theorem foldl_port_rtcEv (h : ∀ s x, (f s x).port.rtcEv = s.port.rtcEv) : (l.foldl f s).port.rtcEv = s.port.rtcEv :=
  foldl_keep (fun a => a.port.rtcEv) f h l s
@[simp] theorem foldl_cfg_image (h : ∀ s x, (f s x).cfg.image = s.cfg.image) : (l.foldl f s).cfg.image = s.cfg.image :=
  foldl_keep (fun a => a.cfg.image) f h l s
@[simp] theorem foldl_cfg_hdr (h : ∀ s x, (f s x).cfg.hdr = s.cfg.hdr) : (l.foldl f s).cfg.hdr = s.cfg.hdr :=
  foldl_keep (fun a => a.cfg.hdr) f h l s
@[simp] theorem foldl_cfg_staging (h : ∀ s x, (f s x).cfg.staging = s.cfg.staging) : (l.foldl f s).cfg.staging = s.cfg.staging :=
  foldl_keep (fun a => a.cfg.staging) f h l s
@[simp] theorem foldl_cfg_next (h : ∀ s x, (f s x).cfg.next = s.cfg.next) : (l.foldl f s).cfg.next = s.cfg.next :=
  foldl_keep (fun a => a.cfg.next) f h l s
@[simp] theorem foldl_cfg_restage (h : ∀ s x, (f s x).cfg.restage = s.cfg.restage) : (l.foldl f s).cfg.restage = s.cfg.restage :=
  foldl_keep (fun a => a.cfg.restage) f h l s
@[simp] theorem foldl_cfg_slotA (h : ∀ s x, (f s x).cfg.slotA = s.cfg.slotA) : (l.foldl f s).cfg.slotA = s.cfg.slotA :=
  foldl_keep (fun a => a.cfg.slotA) f h l s
@[simp] theorem foldl_cfg_slotB (h : ∀ s x, (f s x).cfg.slotB = s.cfg.slotB) : (l.foldl f s).cfg.slotB = s.cfg.slotB :=
  foldl_keep (fun a => a.cfg.slotB) f h l s
@[simp] theorem foldl_cfg_store (h : ∀ s x, (f s x).cfg.store = s.cfg.store) : (l.foldl f s).cfg.store = s.cfg.store :=
  foldl_keep (fun a => a.cfg.store) f h l s
@[simp] theorem foldl_cfg_trims (h : ∀ s x, (f s x).cfg.trims = s.cfg.trims) : (l.foldl f s).cfg.trims = s.cfg.trims :=
  foldl_keep (fun a => a.cfg.trims) f h l s
end

end Sys2Proof.Machine
end

