-- ==== Sys2Proof/Laws/Frame.lean ====
section
/-! SUPPORT. The state with some of its parts cleared: an operation that writes the parts `ps` at most leaves the rest as it was.
What an operation writes is said once, as the equation of the rests, and every frame follows from it. -/

namespace Sys2Proof.Machine

/-- The value `x` of part `p`, or `d` where the part is cleared. -/
def cleared {α : Type} (ps : List Part) (p : Part) (d x : α) : α := if p ∈ ps then d else x

theorem cleared_in {α : Type} {ps : List Part} {p : Part} {d x : α} (h : p ∈ ps) : cleared ps p d x = d := if_pos h

theorem cleared_inj {α : Type} {ps : List Part} {p : Part} {d x y : α} (h : p ∉ ps) (e : cleared ps p d x = cleared ps p d y) : x = y := by
  simpa [cleared, h] using e

/-- The configuration with the parts `ps` cleared. -/
def CfgPart.rest (ps : List Part) (c : CfgPart) : CfgPart :=
  { image := cleared ps .image [] c.image, hdr := cleared ps .hdr {} c.hdr, staging := cleared ps .staging [] c.staging
    next := cleared ps .nextCfg none c.next, restage := cleared ps .restage false c.restage
    slotA := cleared ps .slotA none c.slotA, slotB := cleared ps .slotB none c.slotB, store := cleared ps .store none c.store
    trims := cleared ps .trims [] c.trims }

/-- Ports and sessions with the parts `ps` cleared. -/
def PortPart.rest (ps : List Part) (x : PortPart) : PortPart :=
  { sess := cleared ps .sess [] x.sess, pend := cleared ps .pend [] x.pend, outbox := cleared ps .outbox [] x.outbox
    owner := cleared ps .owner {} x.owner, st := cleared ps .portSt [] x.st, wire := cleared ps .wire [] x.wire
    trace := cleared ps .trace none x.trace, replay := cleared ps .replay false x.replay
    replayIn := cleared ps .replayIn {} x.replayIn, cfgEv := cleared ps .cfgEv [] x.cfgEv, rtcEv := cleared ps .rtcEv [] x.rtcEv }

/-- The unit with the parts `ps` cleared. -/
def UnitPart.rest (ps : List Part) (u : UnitPart) : UnitPart :=
  { u with
    power := cleared ps .power {} u.power, fw1 := cleared ps .fw1 {} u.fw1, fw2 := cleared ps .fw2 {} u.fw2
    runSlot := cleared ps .runSlot 0 u.runSlot, mem := cleared ps .mem [] u.mem, mdiag := cleared ps .mdiag {} u.mdiag
    regs := cleared ps .regs [] u.regs, pair := cleared ps .pair {} u.pair, wit := cleared ps .wit {} u.wit }

/-- The state with the parts `ps` cleared. -/
def State.rest (ps : List Part) (s : State) : State :=
  { s with
    cfg := s.cfg.rest ps, port := s.port.rest ps, unt := s.unt.rest ps
    now := cleared ps .now 0 s.now, mode := cleared ps .mode .running s.mode, phase := cleared ps .phase .gather s.phase
    fr := cleared ps .fr {} s.fr, opBase := cleared ps .clock 0 s.opBase, opFrom := cleared ps .clock 0 s.opFrom
    inp := cleared ps .inp {} s.inp, blks := cleared ps .blks {} s.blks, eng := cleared ps .eng {} s.eng
    safe := cleared ps .safety {} s.safe, alm := cleared ps .alm {} s.alm, recd := cleared ps .recd {} s.recd
    can := cleared ps .can {} s.can, twi := cleared ps .twi {} s.twi, shown := cleared ps .shown {} s.shown }

/-! ## From the rest to a part -/

section
variable {ps : List Part} {s u : State}

/-- States with the same rest agree in every part that is not cleared. -/
theorem State.same_of_rest {p : Part} (h : u.rest ps = s.rest ps) (hp : p ∉ ps) : p.same s u := by
  have hc := congrArg State.cfg h
  have hq := congrArg State.port h
  have hu := congrArg State.unt h
  cases p
  case now => exact cleared_inj hp (congrArg State.now h)
  case mode => exact cleared_inj hp (congrArg State.mode h)
  case phase => exact cleared_inj hp (congrArg State.phase h)
  case fr => exact cleared_inj hp (congrArg State.fr h)
  case inp => exact cleared_inj hp (congrArg State.inp h)
  case blks => exact cleared_inj hp (congrArg State.blks h)
  case eng => exact cleared_inj hp (congrArg State.eng h)
  case safety => exact cleared_inj hp (congrArg State.safe h)
  case alm => exact cleared_inj hp (congrArg State.alm h)
  case recd => exact cleared_inj hp (congrArg State.recd h)
  case can => exact cleared_inj hp (congrArg State.can h)
  case twi => exact cleared_inj hp (congrArg State.twi h)
  case shown => exact cleared_inj hp (congrArg State.shown h)
  case clock => exact ⟨cleared_inj hp (congrArg State.opBase h), cleared_inj hp (congrArg State.opFrom h)⟩
  case power => exact cleared_inj hp (congrArg UnitPart.power hu)
  case fw1 => exact cleared_inj hp (congrArg UnitPart.fw1 hu)
  case fw2 => exact cleared_inj hp (congrArg UnitPart.fw2 hu)
  case runSlot => exact cleared_inj hp (congrArg UnitPart.runSlot hu)
  case mem => exact cleared_inj hp (congrArg UnitPart.mem hu)
  case mdiag => exact cleared_inj hp (congrArg UnitPart.mdiag hu)
  case regs => exact cleared_inj hp (congrArg UnitPart.regs hu)
  case pair => exact cleared_inj hp (congrArg UnitPart.pair hu)
  case wit => exact cleared_inj hp (congrArg UnitPart.wit hu)
  case sess => exact cleared_inj hp (congrArg PortPart.sess hq)
  case pend => exact cleared_inj hp (congrArg PortPart.pend hq)
  case outbox => exact cleared_inj hp (congrArg PortPart.outbox hq)
  case owner => exact cleared_inj hp (congrArg PortPart.owner hq)
  case portSt => exact cleared_inj hp (congrArg PortPart.st hq)
  case wire => exact cleared_inj hp (congrArg PortPart.wire hq)
  case trace => exact cleared_inj hp (congrArg PortPart.trace hq)
  case replay => exact cleared_inj hp (congrArg PortPart.replay hq)
  case replayIn => exact cleared_inj hp (congrArg PortPart.replayIn hq)
  case cfgEv => exact cleared_inj hp (congrArg PortPart.cfgEv hq)
  case rtcEv => exact cleared_inj hp (congrArg PortPart.rtcEv hq)
  case image => exact cleared_inj hp (congrArg CfgPart.image hc)
  case hdr => exact cleared_inj hp (congrArg CfgPart.hdr hc)
  case staging => exact cleared_inj hp (congrArg CfgPart.staging hc)
  case nextCfg => exact cleared_inj hp (congrArg CfgPart.next hc)
  case restage => exact cleared_inj hp (congrArg CfgPart.restage hc)
  case slotA => exact cleared_inj hp (congrArg CfgPart.slotA hc)
  case slotB => exact cleared_inj hp (congrArg CfgPart.slotB hc)
  case store => exact cleared_inj hp (congrArg CfgPart.store hc)
  case trims => exact cleared_inj hp (congrArg CfgPart.trims hc)

/-- An equation of rests is a frame. -/
theorem State.sameBut_of_rest (h : u.rest ps = s.rest ps) : s.sameBut ps u :=
  ⟨show (u.rest ps).pending = (s.rest ps).pending from congrArg State.pending h, congrArg (fun x => x.unt.ident) h, fun _ hp => State.same_of_rest h hp⟩

theorem State.rest_pending (h : u.rest ps = s.rest ps) : u.pending = s.pending :=
  show (u.rest ps).pending = (s.rest ps).pending from congrArg State.pending h
theorem State.rest_ident (h : u.rest ps = s.rest ps) : u.unt.ident = s.unt.ident := congrArg (fun x => x.unt.ident) h
end

/-! ## Updates of one part -/

section
variable {ps : List Part} (s : State)
@[simp] theorem State.modFr_rest (f : FrameClk → FrameClk) (h : [.fr] ⊆ ps) : (s.modFr f).rest ps = s.rest ps := by
  simp_all [State.rest, State.modFr, cleared]
@[simp] theorem State.modInp_rest (f : InPart → InPart) (h : [.inp] ⊆ ps) : (s.modInp f).rest ps = s.rest ps := by
  simp_all [State.rest, State.modInp, cleared]
@[simp] theorem State.modBlks_rest (f : BlkPart → BlkPart) (h : [.blks] ⊆ ps) : (s.modBlks f).rest ps = s.rest ps := by
  simp_all [State.rest, State.modBlks, cleared]
@[simp] theorem State.modEng_rest (f : EngPart → EngPart) (h : [.eng] ⊆ ps) : (s.modEng f).rest ps = s.rest ps := by
  simp_all [State.rest, State.modEng, cleared]
@[simp] theorem State.modSafe_rest (f : SafePart → SafePart) (h : [.safety] ⊆ ps) : (s.modSafe f).rest ps = s.rest ps := by
  simp_all [State.rest, State.modSafe, cleared]
@[simp] theorem State.modAlm_rest (f : AlmPart → AlmPart) (h : [.alm] ⊆ ps) : (s.modAlm f).rest ps = s.rest ps := by
  simp_all [State.rest, State.modAlm, cleared]
@[simp] theorem State.modRecd_rest (f : Recorder → Recorder) (h : [.recd] ⊆ ps) : (s.modRecd f).rest ps = s.rest ps := by
  simp_all [State.rest, State.modRecd, cleared]
@[simp] theorem State.modCan_rest (f : CanPart → CanPart) (h : [.can] ⊆ ps) : (s.modCan f).rest ps = s.rest ps := by
  simp_all [State.rest, State.modCan, cleared]
@[simp] theorem State.modTwi_rest (f : Twi → Twi) (h : [.twi] ⊆ ps) : (s.modTwi f).rest ps = s.rest ps := by
  simp_all [State.rest, State.modTwi, cleared]
@[simp] theorem State.setMode_rest (m : RunMode) (h : [.mode] ⊆ ps) : (s.setMode m).rest ps = s.rest ps := by
  simp_all [State.rest, State.setMode, cleared]
@[simp] theorem State.setPhase_rest (p : Phase) (h : [.phase] ⊆ ps) : (s.setPhase p).rest ps = s.rest ps := by
  simp_all [State.rest, State.setPhase, cleared]
@[simp] theorem State.tick_rest (t : Nat) (h : [.now] ⊆ ps) : (s.tick t).rest ps = s.rest ps := by
  simp_all [State.rest, State.tick, cleared]
@[simp] theorem State.modCfg_rest (f : CfgPart → CfgPart) (h : ∀ c, (f c).rest ps = c.rest ps) : (s.modCfg f).rest ps = s.rest ps := by
  simp [State.rest, State.modCfg, h]
@[simp] theorem State.modPort_rest (f : PortPart → PortPart) (h : ∀ p, (f p).rest ps = p.rest ps) : (s.modPort f).rest ps = s.rest ps := by
  simp [State.rest, State.modPort, h]
@[simp] theorem State.modUnt_rest (f : UnitPart → UnitPart) (h : ∀ u, (f u).rest ps = u.rest ps) : (s.modUnt f).rest ps = s.rest ps := by
  simp [State.rest, State.modUnt, h]
end

@[simp] theorem CfgPart.setSlot_rest {ps : List Part} (k : Nat) (v : Option Slot) (c : CfgPart) (h : [.slotA, .slotB] ⊆ ps) :
    (c.setSlot k v).rest ps = c.rest ps := by
  unfold CfgPart.setSlot
  split <;> simp_all [CfgPart.rest, cleared]

/-! ## Entries of the tables -/

section
variable {ps : List Part} (k : Nat) (s : State)
@[simp] theorem State.modAcq_rest (f : AcqCh → AcqCh) (h : [.blks] ⊆ ps) : (s.modAcq k f).rest ps = s.rest ps := State.modBlks_rest s _ h
@[simp] theorem State.modSeq_rest (f : BlkAcq → BlkAcq) (h : [.blks] ⊆ ps) : (s.modSeq k f).rest ps = s.rest ps := State.modBlks_rest s _ h
@[simp] theorem State.modBlk_rest (f : Blk → Blk) (h : [.blks] ⊆ ps) : (s.modBlk k f).rest ps = s.rest ps := State.modBlks_rest s _ h
@[simp] theorem State.modDig_rest (f : DigCell → DigCell) (h : [.blks] ⊆ ps) : (s.modDig k f).rest ps = s.rest ps := State.modBlks_rest s _ h
@[simp] theorem State.modOut_rest (f : OutCell → OutCell) (h : [.blks] ⊆ ps) : (s.modOut k f).rest ps = s.rest ps := State.modBlks_rest s _ h
@[simp] theorem State.modLoop_rest (f : LoopCell → LoopCell) (h : [.blks] ⊆ ps) : (s.modLoop k f).rest ps = s.rest ps := State.modBlks_rest s _ h
@[simp] theorem State.modCell_rest (f : CellDiag → CellDiag) (h : [.blks] ⊆ ps) : (s.modCell k f).rest ps = s.rest ps := State.modBlks_rest s _ h
@[simp] theorem State.modBdiag_rest (f : BlkDiag → BlkDiag) (h : [.blks] ⊆ ps) : (s.modBdiag k f).rest ps = s.rest ps := State.modBlks_rest s _ h
@[simp] theorem State.modModem_rest (f : Modem → Modem) (h : [.blks] ⊆ ps) : (s.modModem k f).rest ps = s.rest ps := State.modBlks_rest s _ h
@[simp] theorem State.modCtl_rest (f : CanCtl → CanCtl) (h : [.can] ⊆ ps) : (s.modCtl k f).rest ps = s.rest ps := State.modCan_rest s _ h
@[simp] theorem State.modObj_rest (f : CanObj → CanObj) (h : [.can] ⊆ ps) : (s.modObj k f).rest ps = s.rest ps := State.modCan_rest s _ h
@[simp] theorem State.modIso_rest (f : IsoTp → IsoTp) (h : [.can] ⊆ ps) : (s.modIso k f).rest ps = s.rest ps := State.modCan_rest s _ h
@[simp] theorem State.modPortSt_rest (f : PortSt → PortSt) (h : [.portSt] ⊆ ps) : (s.modPortSt k f).rest ps = s.rest ps := by
  simp_all [State.modPortSt, PortPart.rest, cleared]
@[simp] theorem State.modSess_rest (f : Session → Session) (h : [.sess] ⊆ ps) : (s.modSess k f).rest ps = s.rest ps := by
  simp_all [State.modSess, PortPart.rest, cleared]
@[simp] theorem State.modReg_rest (f : RegDiag → RegDiag) (h : [.regs] ⊆ ps) : (s.modReg k f).rest ps = s.rest ps := by
  simp_all [State.modReg, UnitPart.rest, cleared]
end

section
variable {ps : List Part} (s : State)
@[simp] theorem State.modOwner_rest (f : Owner → Owner) (h : [.owner] ⊆ ps) : (s.modOwner f).rest ps = s.rest ps := by
  simp_all [State.modOwner, PortPart.rest, cleared]
@[simp] theorem State.modPower_rest (f : Power → Power) (h : [.power] ⊆ ps) : (s.modPower f).rest ps = s.rest ps := by
  simp_all [State.modPower, UnitPart.rest, cleared]
@[simp] theorem State.modPair_rest (f : Pair → Pair) (h : [.pair] ⊆ ps) : (s.modPair f).rest ps = s.rest ps := by
  simp_all [State.modPair, UnitPart.rest, cleared]
@[simp] theorem State.modMdiag_rest (f : ModDiag → ModDiag) (h : [.mdiag] ⊆ ps) : (s.modMdiag f).rest ps = s.rest ps := by
  simp_all [State.modMdiag, UnitPart.rest, cleared]

@[simp] theorem State.ite_rest (c : Prop) [Decidable c] (a b : State) :
    (if c then a else b).rest ps = if c then a.rest ps else b.rest ps := apply_ite (State.rest ps) c a b

@[simp] theorem foldl_rest {α : Type} (f : State → α → State) (h : ∀ s x, (f s x).rest ps = s.rest ps) (l : List α) :
    (l.foldl f s).rest ps = s.rest ps := foldl_keep (State.rest ps) f h l s
end

end Sys2Proof.Machine
end

