-- ==== Sys2Proof/Laws/OpcodesFrame.lean ====
section
/-! SUPPORT. What the shared operations and the opcodes may write. -/

namespace Sys2Proof.Machine

section
variable {ps : List Part}

@[simp] theorem State.linkSend_rest (l : List ContrailBlock) (s : State) (hw : [.wire] ⊆ ps) :
    (State.linkSend l s).rest ps = s.rest ps := by
  simp_all [State.linkSend, PortPart.rest, cleared]

@[simp] theorem State.activeSends_rest (l : List ContrailBlock) (s : State) (hw : [.wire] ⊆ ps) :
    (State.activeSends l s).rest ps = s.rest ps := by
  simp_all [State.activeSends]

@[simp] theorem State.unitEvs_rest (es : List EvReq) (s : State) (hw : [.recd] ⊆ ps) :
    (State.unitEvs es s).rest ps = s.rest ps := by
  simp_all [State.unitEvs]

@[simp] theorem State.preEvs_rest (es : List EvReq) (s : State) (hw : [.recd] ⊆ ps) :
    (State.preEvs es s).rest ps = s.rest ps := by
  simp_all [State.preEvs]

@[simp] theorem State.frameEvs_rest (es : List EvReq) (s : State) (hw : [.recd] ⊆ ps) :
    (State.frameEvs es s).rest ps = s.rest ps := by
  simp_all [State.frameEvs]

@[simp] theorem State.stampEntry_rest (order index : Nat) (body : EntryBody) (s : State) (hw : [.inp] ⊆ ps) :
    (State.stampEntry order index body s).rest ps = s.rest ps := by
  simp_all [State.stampEntry]

@[simp] theorem State.stampEdge_rest (c : Nat) (st : Bool) (bt k : Nat) (s : State) (hw : [.inp] ⊆ ps) :
    (State.stampEdge c st bt k s).rest ps = s.rest ps := by
  simp_all [State.stampEdge]

@[simp] theorem State.sendIp_rest (i src dst : Nat) (x : IpBody) (s : State) (hw : [.portSt, .wire] ⊆ ps) :
    (State.sendIp i src dst x s).rest ps = s.rest ps := by
  simp_all [State.sendIp, PortPart.rest, cleared]

@[simp] theorem State.sendDatagram_rest (i src dst dport : Nat) (dsc : Bool) (data : List Byte) (s : State) (hw : [.portSt, .wire] ⊆ ps) :
    (State.sendDatagram i src dst dport dsc data s).rest ps = s.rest ps := by
  simp_all [State.sendDatagram]

@[simp] theorem State.emit_rest (r : Reply) (s : State) (hw : [.can, .outbox, .portSt, .wire] ⊆ ps) :
    (State.emit r s).rest ps = s.rest ps := by
  simp_all [State.emit, PortPart.rest, cleared]

@[simp] theorem State.sendReply_rest (r : Reply) (s : State) (hw : [.can, .outbox, .portSt, .wire] ⊆ ps) :
    (State.sendReply r s).rest ps = s.rest ps := by
  simp_all [State.sendReply]

@[simp] theorem State.pendReply_rest (c : Caller) (due : Option Nat) (op : Op) (done : Option (Nat × List Byte)) (s : State)
    (hw : [.pend] ⊆ ps) :
    (State.pendReply c due op done s).rest ps = s.rest ps := by
  simp_all [State.pendReply, PortPart.rest, cleared]

@[simp] theorem State.sendTrace_rest (st : Nat) (data : List Byte) (s : State) (hw : [.can, .outbox, .portSt, .wire, .trace] ⊆ ps) :
    (State.sendTrace st data s).rest ps = s.rest ps := by
  unfold State.sendTrace
  dsimp only
  repeat' split
  all_goals simp_all [PortPart.rest, cleared]

@[simp] theorem State.serialTrace_rest (s : State) (hw : [.can, .outbox, .portSt, .wire, .trace] ⊆ ps) :
    (State.serialTrace s).rest ps = s.rest ps := by
  unfold State.serialTrace
  dsimp only
  repeat' split
  all_goals simp_all [PortPart.rest, cleared]

@[simp] theorem State.sendAnswer_rest (r : Reply) (s : State) (hw : [.can, .outbox, .portSt, .wire, .trace] ⊆ ps) :
    (State.sendAnswer r s).rest ps = s.rest ps := by
  simp_all [State.sendAnswer]

@[simp] theorem State.refuse_rest (c : Caller) (st : Nat) (body : List Byte) (s : State) (hw : [.can, .outbox, .portSt, .wire,
      .trace] ⊆ ps) :
    (State.refuse c st body s).rest ps = s.rest ps := by
  simp_all [State.refuse]

@[simp] theorem State.answer_rest (c : Caller) (st : Nat) (body : List Byte) (s : State) (hw : [.can, .sess, .outbox, .portSt, .wire,
      .trace] ⊆ ps) :
    (State.answer c st body s).rest ps = s.rest ps := by
  simp_all [State.answer]

@[simp] theorem State.endTrace_rest (overflow : Bool) (s : State) (hw : [.can, .outbox, .portSt, .wire, .trace] ⊆ ps) :
    (State.endTrace overflow s).rest ps = s.rest ps := by
  simp_all [State.endTrace, PortPart.rest, cleared]

@[simp] theorem State.ownerEv_rest (code p1 p2 p3 : Nat) (s : State) (hw : [.owner] ⊆ ps) :
    (State.ownerEv code p1 p2 p3 s).rest ps = s.rest ps := by
  simp_all [State.ownerEv]

@[simp] theorem State.endOffer_rest (why : Nat) (s : State) (hw : [.owner] ⊆ ps) :
    (State.endOffer why s).rest ps = s.rest ps := by
  unfold State.endOffer
  repeat' split
  all_goals simp_all

@[simp] theorem State.ownerMoved_rest (s : State) (hw : [.can, .outbox, .portSt, .wire, .trace, .restage] ⊆ ps) :
    (State.ownerMoved s).rest ps = s.rest ps := by
  simp_all [State.ownerMoved, CfgPart.rest, cleared]

@[simp] theorem State.vacate_rest (reason : Nat) (s : State) (hw : [.can, .outbox, .owner, .portSt, .wire, .trace, .restage] ⊆ ps) :
    (State.vacate reason s).rest ps = s.rest ps := by
  unfold State.vacate
  repeat' split
  all_goals simp_all

@[simp] theorem State.newOwner_rest (code reason : Nat) (s : State) (hw : [.can, .outbox, .owner, .portSt, .wire, .trace, .restage] ⊆ ps) :
    (State.newOwner code reason s).rest ps = s.rest ps := by
  simp_all [State.newOwner]

@[simp] theorem State.renewLease_rest (code : Nat) (s : State) (hw : [.owner] ⊆ ps) :
    (State.renewLease code s).rest ps = s.rest ps := by
  simp_all [State.renewLease]

@[simp] theorem State.lapseLease_rest (s : State) (hw : [.can, .outbox, .owner, .portSt, .wire, .trace, .restage] ⊆ ps) :
    (State.lapseLease s).rest ps = s.rest ps := by
  simp_all [State.lapseLease]

@[simp] theorem State.lapseOffer_rest (s : State) (hw : [.owner] ⊆ ps) :
    (State.lapseOffer s).rest ps = s.rest ps := by
  simp_all [State.lapseOffer]

@[simp] theorem State.ownerStep1_rest (s : State) (hw : [.can, .outbox, .owner, .portSt, .wire, .trace, .restage] ⊆ ps) :
    (State.ownerStep1 s).rest ps = s.rest ps := by
  simp_all [State.ownerStep1]

@[simp] theorem State.dropClaim_rest (code : Nat) (s : State) (hw : [.sess, .pend, .owner] ⊆ ps) :
    (State.dropClaim code s).rest ps = s.rest ps := by
  simp_all [State.dropClaim, PortPart.rest, cleared]

@[simp] theorem State.closeSession_rest (code : Nat) (s : State) (hw : [.can, .sess, .pend, .outbox, .owner, .portSt, .wire, .trace,
      .restage] ⊆ ps) :
    (State.closeSession code s).rest ps = s.rest ps := by
  simp_all [State.closeSession]

@[simp] theorem State.closeWindow_rest (s : State) (hw : [.can, .pend, .outbox, .owner, .portSt, .wire, .trace, .restage] ⊆ ps) :
    (State.closeWindow s).rest ps = s.rest ps := by
  unfold State.closeWindow
  dsimp only
  repeat' split
  all_goals simp_all [PortPart.rest, cleared]

@[simp] theorem State.noteReady_rest (s : State) (hw : [.pair] ⊆ ps) :
    (State.noteReady s).rest ps = s.rest ps := by
  simp_all [State.noteReady]

@[simp] theorem State.setSync_rest (v cause : Nat) (s : State) (hw : [.recd, .pair] ⊆ ps) :
    (State.setSync v cause s).rest ps = s.rest ps := by
  simp_all [State.setSync]

@[simp] theorem State.unsync_rest (cause : Nat) (s : State) (hw : [.recd, .pair] ⊆ ps) :
    (State.unsync cause s).rest ps = s.rest ps := by
  simp_all [State.unsync]

@[simp] theorem State.resyncStart_rest (s : State) (hw : [.recd, .pair, .wire] ⊆ ps) :
    (State.resyncStart s).rest ps = s.rest ps := by
  simp_all [State.resyncStart]

@[simp] theorem State.judgeDigest_rest (frame own partner : Nat) (s : State) (hw : [.recd, .pair] ⊆ ps) :
    (State.judgeDigest frame own partner s).rest ps = s.rest ps := by
  simp_all [State.judgeDigest]

@[simp] theorem State.partnerDigest_rest (frame value : Nat) (s : State) (hw : [.recd, .pair] ⊆ ps) :
    (State.partnerDigest frame value s).rest ps = s.rest ps := by
  unfold State.partnerDigest
  repeat' split
  all_goals simp_all

@[simp] theorem State.ownDigest_rest (value : Nat) (s : State) (hw : [.recd, .pair] ⊆ ps) :
    (State.ownDigest value s).rest ps = s.rest ps := by
  unfold State.ownDigest
  repeat' split
  all_goals simp_all

@[simp] theorem State.driveHold_rest (level : Nat) (s : State) (hw : [.pair] ⊆ ps) :
    (State.driveHold level s).rest ps = s.rest ps := by
  simp_all [State.driveHold]

@[simp] theorem State.cfgEv_rest (e : EvReq) (s : State) (hw : [.cfgEv] ⊆ ps) :
    (State.cfgEv e s).rest ps = s.rest ps := by
  simp_all [State.cfgEv, PortPart.rest, cleared]

@[simp] theorem State.storeStart_rest (s : State) (hw : [.recd, .hdr, .slotA, .slotB, .store] ⊆ ps) :
    (State.storeStart s).rest ps = s.rest ps := by
  unfold State.storeStart
  dsimp only
  rw [State.modCfg_rest]
  · split <;> simp_all
  · intro d
    rw [CfgPart.setSlot_rest _ _ _ (by simp_all)]
    simp_all [CfgPart.rest, cleared]

@[simp] theorem deny_rest (st : Nat) (s : State) :
    (deny st s).1.rest ps = s.rest ps := by
  simp_all [deny]

@[simp] theorem State.done_rest (s : State) :
    (State.done s).1.rest ps = s.rest ps := by
  simp_all [State.done]

@[simp] theorem State.show_rest (body : List Byte) (s : State) :
    (State.show body s).1.rest ps = s.rest ps := by
  simp_all [State.show]

@[simp] theorem State.readFrame_rest (ok : Bool) (s : State) :
    (State.readFrame ok s).1.rest ps = s.rest ps := by
  unfold State.readFrame
  repeat' split
  all_goals simp_all

@[simp] theorem opPing_rest (s : State) :
    (opPing s).1.rest ps = s.rest ps := by
  simp_all [opPing]

@[simp] theorem opOpenSession_rest (s : State) :
    (opOpenSession s).1.rest ps = s.rest ps := by
  simp_all [opOpenSession]

@[simp] theorem opCloseSession_rest (c : Caller) (s : State) (hw : [.can, .sess, .pend, .outbox, .owner, .portSt, .wire, .trace,
      .restage] ⊆ ps) :
    (opCloseSession c s).1.rest ps = s.rest ps := by
  simp_all [opCloseSession]

@[simp] theorem opReadFrameStatus_rest (s : State) :
    (opReadFrameStatus s).1.rest ps = s.rest ps := by
  simp_all [opReadFrameStatus]

@[simp] theorem opClearFrameStatus_rest (s : State) (hw : [.fr] ⊆ ps) :
    (opClearFrameStatus s).1.rest ps = s.rest ps := by
  simp_all [opClearFrameStatus]

@[simp] theorem opTraceOpen_rest (s : State) (hw : [.trace] ⊆ ps) :
    (opTraceOpen s).1.rest ps = s.rest ps := by
  unfold opTraceOpen
  dsimp only
  repeat' split
  all_goals simp_all [PortPart.rest, cleared]

@[simp] theorem opTraceClose_rest (s : State) (hw : [.can, .outbox, .portSt, .wire, .trace] ⊆ ps) :
    (opTraceClose s).1.rest ps = s.rest ps := by
  simp_all [opTraceClose]

@[simp] theorem State.haltMasters_rest (s : State) (hw : [.can] ⊆ ps) :
    (State.haltMasters s).rest ps = s.rest ps := by
  simp_all [State.haltMasters]

@[simp] theorem opReplayStart_rest (s : State) (hw : [.can, .replay] ⊆ ps) :
    (opReplayStart s).1.rest ps = s.rest ps := by
  simp_all [opReplayStart, PortPart.rest, cleared]

@[simp] theorem opClaim_rest (c : Caller) (s : State) (hw : [.owner] ⊆ ps) :
    (opClaim c s).1.rest ps = s.rest ps := by
  unfold opClaim
  repeat' split
  all_goals simp_all

@[simp] theorem opHandover_rest (target : Nat) (c : Caller) (s : State) (hw : [.owner] ⊆ ps) :
    (opHandover target c s).1.rest ps = s.rest ps := by
  unfold opHandover
  repeat' split
  all_goals simp_all

@[simp] theorem opAccept_rest (c : Caller) (s : State) (hw : [.can, .outbox, .owner, .portSt, .wire, .trace, .restage] ⊆ ps) :
    (opAccept c s).1.rest ps = s.rest ps := by
  unfold opAccept
  repeat' split
  all_goals simp_all

@[simp] theorem opRelease_rest (s : State) (hw : [.can, .outbox, .owner, .portSt, .wire, .trace, .restage] ⊆ ps) :
    (opRelease s).1.rest ps = s.rest ps := by
  simp_all [opRelease]

@[simp] theorem opReadOwner_rest (s : State) :
    (opReadOwner s).1.rest ps = s.rest ps := by
  simp_all [opReadOwner]

@[simp] theorem opReadObject_rest (staging : Bool) (cls ix off len : Nat) (s : State) :
    (opReadObject staging cls ix off len s).1.rest ps = s.rest ps := by
  unfold opReadObject
  repeat' split
  all_goals simp_all

@[simp] theorem opWriteObject_rest (cls ix off len : Nat) (data mask : List Byte) (s : State) (hw : [.staging] ⊆ ps) :
    (opWriteObject cls ix off len data mask s).1.rest ps = s.rest ps := by
  unfold opWriteObject
  repeat' split
  all_goals simp_all [CfgPart.rest, cleared]

@[simp] theorem opCommit_rest (c : Caller) (s : State) (hw : [.cfgEv, .nextCfg, .restage] ⊆ ps) :
    (opCommit c s).1.rest ps = s.rest ps := by
  unfold opCommit
  dsimp only
  repeat' split
  all_goals simp_all [CfgPart.rest, cleared]

@[simp] theorem opDiscard_rest (s : State) (hw : [.staging] ⊆ ps) :
    (opDiscard s).1.rest ps = s.rest ps := by
  simp_all [opDiscard, CfgPart.rest, cleared]

@[simp] theorem opReadImage_rest (slot off len : Nat) (s : State) :
    (opReadImage slot off len s).1.rest ps = s.rest ps := by
  unfold opReadImage
  repeat' split
  all_goals simp_all

@[simp] theorem opLoadImage_rest (off : Nat) (data : List Byte) (s : State) (hw : [.staging] ⊆ ps) :
    (opLoadImage off data s).1.rest ps = s.rest ps := by
  unfold opLoadImage
  repeat' split
  all_goals simp_all [CfgPart.rest, cleared]

@[simp] theorem opConfirm_rest (crc : Nat) (c : Caller) (s : State) (hw : [.recd, .cfgEv, .hdr, .slotA, .slotB, .store] ⊆ ps) :
    (opConfirm crc c s).1.rest ps = s.rest ps := by
  unfold opConfirm
  dsimp only
  repeat' split
  all_goals simp_all [CfgPart.rest, cleared]

@[simp] theorem opWriteDo_rest (ch : Nat) (st : Bool) (s : State) (hw : [.eng] ⊆ ps) :
    (opWriteDo ch st s).1.rest ps = s.rest ps := by
  unfold opWriteDo
  repeat' split
  all_goals simp_all

@[simp] theorem opWriteAo_rest (ch : Nat) (v : Int) (s : State) (hw : [.eng] ⊆ ps) :
    (opWriteAo ch v s).1.rest ps = s.rest ps := by
  unfold opWriteAo
  repeat' split
  all_goals simp_all

@[simp] theorem opTrim_rest (span : Bool) (ch : Nat) (ref : Int) (c : Caller) (s : State) (hw : [.trims] ⊆ ps) :
    (opTrim span ch ref c s).1.rest ps = s.rest ps := by
  unfold opTrim
  repeat' split
  all_goals simp_all [CfgPart.rest, cleared]

@[simp] theorem opClearTotal_rest (ch : Nat) (s : State) (hw : [.eng] ⊆ ps) :
    (opClearTotal ch s).1.rest ps = s.rest ps := by
  unfold opClearTotal
  repeat' split
  all_goals simp_all

@[simp] theorem opAck_rest (scope target : Nat) (s : State) (hw : [.alm] ⊆ ps) :
    (opAck scope target s).1.rest ps = s.rest ps := by
  unfold opAck
  dsimp only
  repeat' split
  all_goals simp_all

@[simp] theorem opPoint_rest (p : Nat) (r : AlmReply × AlmPt) (s : State) (hw : [.alm] ⊆ ps) :
    (opPoint p r s).1.rest ps = s.rest ps := by
  unfold opPoint
  repeat' split
  all_goals simp_all

@[simp] theorem opShelve_rest (p d : Nat) (s : State) (hw : [.alm] ⊆ ps) :
    (opShelve p d s).1.rest ps = s.rest ps := by
  simp_all [opShelve]

@[simp] theorem opUnshelve_rest (p : Nat) (s : State) (hw : [.alm] ⊆ ps) :
    (opUnshelve p s).1.rest ps = s.rest ps := by
  simp_all [opUnshelve]

@[simp] theorem opRemove_rest (p : Nat) (s : State) (hw : [.alm] ⊆ ps) :
    (opRemove p s).1.rest ps = s.rest ps := by
  simp_all [opRemove]

@[simp] theorem opReturn_rest (p : Nat) (s : State) (hw : [.alm] ⊆ ps) :
    (opReturn p s).1.rest ps = s.rest ps := by
  simp_all [opReturn]

@[simp] theorem opSelectDuty_rest (k : Nat) (s : State) (hw : [.alm] ⊆ ps) :
    (opSelectDuty k s).1.rest ps = s.rest ps := by
  unfold opSelectDuty
  repeat' split
  all_goals simp_all

@[simp] theorem opReadEvents_rest (sealLog : Bool) (rsv maxN fromSeq : Nat) (s : State) :
    (opReadEvents sealLog rsv maxN fromSeq s).1.rest ps = s.rest ps := by
  unfold opReadEvents
  repeat' split
  all_goals simp_all

@[simp] theorem opReadRecorder_rest (s : State) :
    (opReadRecorder s).1.rest ps = s.rest ps := by
  simp_all [opReadRecorder]

@[simp] theorem State.twiDo_rest (f : Twi → Twi) (s : State) (hw : [.twi] ⊆ ps) :
    (State.twiDo f s).rest ps = s.rest ps := by
  simp_all [State.twiDo]

@[simp] theorem State.twiRun_rest (r : Run) (s : State) (hr : r.1.rest ps = s.rest ps) : (s.twiRun r).1.rest ps = s.rest ps := by
  unfold State.twiRun
  split <;> simp_all

@[simp] theorem opReadTime_rest (torn : Bool) (s : State) (hw : [.recd] ⊆ ps) :
    (opReadTime torn s).1.rest ps = s.rest ps := by
  simp_all [opReadTime]

@[simp] theorem opStageTime_rest (set : List Byte) (s : State) (hw : [.twi] ⊆ ps) :
    (opStageTime set s).1.rest ps = s.rest ps := by
  unfold opStageTime
  dsimp only
  repeat' split
  all_goals simp_all

@[simp] theorem opCommitTime_rest (s : State) (hw : [.recd, .twi] ⊆ ps) :
    (opCommitTime s).1.rest ps = s.rest ps := by
  unfold opCommitTime
  repeat' split
  all_goals simp_all

@[simp] theorem opSetWeekday_rest (w : Nat) (s : State) (hw : [.twi] ⊆ ps) :
    (opSetWeekday w s).1.rest ps = s.rest ps := by
  unfold opSetWeekday
  repeat' split
  all_goals simp_all

@[simp] theorem opReadBackup_rest (off len : Nat) (s : State) :
    (opReadBackup off len s).1.rest ps = s.rest ps := by
  unfold opReadBackup
  repeat' split
  all_goals simp_all

@[simp] theorem opWriteBackup_rest (off len : Nat) (data : List Byte) (s : State) (hw : [.twi] ⊆ ps) :
    (opWriteBackup off len data s).1.rest ps = s.rest ps := by
  unfold opWriteBackup
  repeat' split
  all_goals simp_all

@[simp] theorem opSafetyReset_rest (f : Nat) (s : State) (hw : [.safety] ⊆ ps) :
    (opSafetyReset f s).1.rest ps = s.rest ps := by
  simp_all [opSafetyReset]

@[simp] theorem opDscReset_rest (i : Nat) (s : State) (hw : [.safety] ⊆ ps) :
    (opDscReset i s).1.rest ps = s.rest ps := by
  simp_all [opDscReset]

@[simp] theorem opResync_rest (s : State) (hw : [.recd, .pair, .wire] ⊆ ps) :
    (opResync s).1.rest ps = s.rest ps := by
  unfold opResync
  repeat' split
  all_goals simp_all

@[simp] theorem opSwitchover_rest (s : State) (hw : [.pair] ⊆ ps) :
    (opSwitchover s).1.rest ps = s.rest ps := by
  unfold opSwitchover
  repeat' split
  all_goals simp_all

@[simp] theorem opReadDiag_rest (level index : Nat) (s : State) :
    (opReadDiag level index s).1.rest ps = s.rest ps := by
  unfold opReadDiag
  repeat' split
  all_goals simp_all

@[simp] theorem State.clearCounters_rest (s : State) (hw : [.blks, .can, .mem, .mdiag, .regs, .portSt] ⊆ ps) :
    (State.clearCounters s).rest ps = s.rest ps := by
  simp_all [State.clearCounters, State.rest, PortPart.rest, CfgPart.rest, UnitPart.rest, cleared]

@[simp] theorem opReadCanobj_rest (o : Nat) (s : State) :
    (opReadCanobj o s).1.rest ps = s.rest ps := by
  simp_all [opReadCanobj]

@[simp] theorem opWriteCanobj_rest (o : Nat) (data : List Byte) (s : State) (hw : [.can] ⊆ ps) :
    (opWriteCanobj o data s).1.rest ps = s.rest ps := by
  unfold opWriteCanobj
  repeat' split
  all_goals simp_all

@[simp] theorem opReadHart_rest (ch addr count : Nat) (s : State) :
    (opReadHart ch addr count s).1.rest ps = s.rest ps := by
  simp_all [opReadHart]

@[simp] theorem State.takeSnap_rest (x : Snap) (s : State) (hw : [.fr, .inp, .eng, .safety, .alm, .can, .shown, .hdr, .staging,
      .nextCfg, .restage, .trims] ⊆ ps) :
    (State.takeSnap x s).rest ps = s.rest ps := by
  simp_all [State.takeSnap, State.rest, PortPart.rest, CfgPart.rest, UnitPart.rest, cleared]

@[simp] theorem State.takeHosts_rest (h : Hosts) (s : State) (hw : [.sess, .pend, .owner, .trace] ⊆ ps) :
    (State.takeHosts h s).rest ps = s.rest ps := by
  simp_all [State.takeHosts, PortPart.rest, cleared]

@[simp] theorem State.withinTrace_rest (f : State → State) (s : State) (hw : [.sess, .pend, .owner, .trace, .replayIn] ⊆ ps)
    (hf : ∀ s, (f s).rest ps = s.rest ps) : (s.withinTrace f).rest ps = s.rest ps := by
  simp [State.withinTrace]
  simp_all [PortPart.rest, cleared]

@[simp] theorem State.bothSides_rest (f : State → State) (s : State) (hw : [.sess, .pend, .owner, .trace, .replayIn] ⊆ ps)
    (hf : ∀ s, (f s).rest ps = s.rest ps) : (s.bothSides f).rest ps = s.rest ps := by
  simp_all [State.bothSides]

@[simp] theorem State.frameSide_rest (f : State → State) (s : State) (hw : [.sess, .pend, .owner, .trace, .replayIn] ⊆ ps)
    (hf : ∀ s, (f s).rest ps = s.rest ps) : (s.frameSide f).rest ps = s.rest ps := by
  simp_all [State.frameSide]

@[simp] theorem State.takeReplay_rest (x : Snap) (s : State) (hw : [.fr, .inp, .eng, .safety, .alm, .can, .shown, .owner, .replayIn,
      .hdr, .staging, .nextCfg, .restage, .trims] ⊆ ps) :
    (State.takeReplay x s).rest ps = s.rest ps := by
  simp_all [State.takeReplay, PortPart.rest, cleared]

@[simp] theorem State.sendTraceBytes_rest (s : State) (x : Nat × List Byte) (hw : [.can, .outbox, .portSt, .wire, .trace] ⊆ ps) :
    (State.sendTraceBytes s x).rest ps = s.rest ps := by
  simp_all [State.sendTraceBytes, PortPart.rest, cleared]

@[simp] theorem State.queueTrace_rest (n : Nat) (b : List Byte) (s : State) (hw : [.trace] ⊆ ps) :
    (State.queueTrace n b s).rest ps = s.rest ps := by
  simp_all [State.queueTrace, PortPart.rest, cleared]

@[simp] theorem State.flushTrace_rest (s : State) (hw : [.can, .outbox, .portSt, .wire, .trace] ⊆ ps) :
    (State.flushTrace s).rest ps = s.rest ps := by
  unfold State.flushTrace
  repeat' split
  all_goals simp_all [PortPart.rest, cleared]

@[simp] theorem State.traceBegin_rest (s : State) (hw : [.trace] ⊆ ps) :
    (State.traceBegin s).rest ps = s.rest ps := by
  unfold State.traceBegin
  repeat' split
  all_goals simp_all

@[simp] theorem State.traceStep_rest (late : Bool) (s : State) (hw : [.recd, .can, .outbox, .portSt, .wire, .trace] ⊆ ps) :
    (State.traceStep late s).rest ps = s.rest ps := by
  unfold State.traceStep
  repeat' split
  all_goals simp_all

@[simp] theorem opReplayData_rest (segment : Nat) (b : List Byte) (s : State) (hw : [.replayIn] ⊆ ps) :
    (opReplayData segment b s).1.rest ps = s.rest ps := by
  unfold opReplayData
  repeat' split
  all_goals simp_all [PortPart.rest, cleared]

@[simp] theorem runOp_rest (op : Op) (torn : Bool) (c : Caller) (s : State) (hw : [.fr, .blks, .eng, .safety, .alm, .recd, .can, .twi,
      .mem, .mdiag, .regs, .pair, .sess, .pend, .outbox, .owner, .portSt, .wire, .trace, .replay, .replayIn, .cfgEv, .hdr, .staging,
      .nextCfg, .restage, .slotA, .slotB, .store, .trims] ⊆ ps) :
    (runOp op torn c s).1.rest ps = s.rest ps := by
  unfold runOp
  repeat' split
  all_goals simp_all

@[simp] theorem State.deliver_rest (c : Caller) (op : Op) (st : Nat) (body : List Byte) (s : State)
    (hw : [.can, .sess, .outbox, .portSt, .wire, .trace] ⊆ ps) (hp : op = .warmRestart → .power ∈ ps) :
    (s.deliver c op st body).rest ps = s.rest ps := by
  unfold State.deliver
  dsimp only
  split <;> simp_all

@[simp] theorem State.settle_rest (c : Caller) (op : Op) (r : Run) (hw : [.can, .sess, .pend, .outbox, .portSt, .wire, .trace] ⊆ ps)
    (hp : op = .warmRestart → .power ∈ ps) : (State.settle c op r).rest ps = r.1.rest ps := by
  unfold State.settle
  dsimp only
  split <;> simp_all

@[simp] theorem State.heardFrom_rest (code : Nat) (h : PktHead) (s : State) (hw : [.sess] ⊆ ps) :
    (State.heardFrom code h s).rest ps = s.rest ps := by
  simp_all [State.heardFrom]

@[simp] theorem State.beginSession_rest (code opcode : Nat) (h : PktHead) (s : State) (hw : [.can, .sess, .pend, .outbox, .owner,
      .portSt, .wire, .trace, .restage] ⊆ ps) :
    (State.beginSession code opcode h s).rest ps = s.rest ps := by
  simp_all [State.beginSession]

@[simp] theorem State.advance_rest (code opcode : Nat) (h : PktHead) (s : State) (hw : [.sess] ⊆ ps) :
    (State.advance code opcode h s).rest ps = s.rest ps := by
  simp_all [State.advance]

@[simp] theorem State.runReply_rest (c : Caller) (o : Op) (torn : Bool) (s : State) (hw : [.fr, .blks, .eng, .safety, .alm, .recd,
      .can, .twi, .power, .mem, .mdiag, .regs, .pair, .sess, .pend, .outbox, .owner, .portSt, .wire, .trace, .replay, .replayIn,
      .cfgEv, .hdr, .staging, .nextCfg, .restage, .slotA, .slotB, .store, .trims] ⊆ ps) :
    (State.runReply c o torn s).rest ps = s.rest ps := by
  simp_all [State.runReply]

@[simp] theorem State.runCmd_rest (traced torn : Bool) (code opcode : Nat) (h : PktHead) (op : Option Op) (s0 : State) (hw : [.fr,
      .blks, .eng, .safety, .alm, .recd, .can, .twi, .power, .mem, .mdiag, .regs, .pair, .sess, .pend, .outbox, .owner, .portSt,
      .wire, .trace, .replay, .replayIn, .cfgEv, .hdr, .staging, .nextCfg, .restage, .slotA, .slotB, .store, .trims] ⊆ ps) :
    (State.runCmd traced torn code opcode h op s0).rest ps = s0.rest ps := by
  unfold State.runCmd
  dsimp only
  repeat' split
  all_goals simp_all

@[simp] theorem State.standbyCmd_rest (code opcode : Nat) (h : PktHead) (s : State) (hw : [.can, .outbox, .portSt, .wire] ⊆ ps) :
    (State.standbyCmd code opcode h s).rest ps = s.rest ps := by
  simp_all [State.standbyCmd]

@[simp] theorem State.handedBack_rest (torn : Bool) (code opcode : Nat) (h : PktHead) (op : Option Op) (s : State) (hw : [.fr, .blks,
      .eng, .safety, .alm, .recd, .can, .twi, .mem, .mdiag, .regs, .pair, .sess, .pend, .outbox, .owner, .portSt, .wire, .trace,
      .replay, .replayIn, .cfgEv, .hdr, .staging, .nextCfg, .restage, .slotA, .slotB, .store, .trims] ⊆ ps) :
    (State.handedBack torn code opcode h op s).rest ps = s.rest ps := by
  unfold State.handedBack
  dsimp only
  repeat' split
  all_goals simp_all

@[simp] theorem State.runPacket_rest (traced : Bool) (code ip udp : Nat) (bytes : List Byte) (s : State) (hw : [.fr, .blks, .eng,
      .safety, .alm, .recd, .can, .twi, .power, .mem, .mdiag, .regs, .pair, .sess, .pend, .outbox, .owner, .portSt, .wire, .trace,
      .replay, .replayIn, .cfgEv, .hdr, .staging, .nextCfg, .restage, .slotA, .slotB, .store, .trims] ⊆ ps) :
    (State.runPacket traced code ip udp bytes s).rest ps = s.rest ps := by
  unfold State.runPacket
  repeat' split
  all_goals simp_all

@[simp] theorem State.modPending_rest (l : List Instr) (s : State) :
    ({ s with pending := l } : State).rest ps = { s.rest ps with pending := l } := rfl

end

end Sys2Proof.Machine
end

