-- ==== Sys2Proof/Laws/EvaluationFrame.lean ====
section
/-! SUPPORT. What the steps of evaluation and of the close of a frame may write. -/

namespace Sys2Proof.Machine

section
variable {ps : List Part}

@[simp] theorem State.engEvs_rest (e : Nat) (l : List EvReq) (s : State) (hw : [.eng] ⊆ ps) :
    (State.engEvs e l s).rest ps = s.rest ps := by
  simp_all [State.engEvs]

@[simp] theorem State.setRes_rest (c : Nat) (r : Rec) (s : State) (hw : [.eng] ⊆ ps) :
    (State.setRes c r s).rest ps = s.rest ps := by
  simp_all [State.setRes]

@[simp] theorem State.stationRequest_rest (r : CallReq) (s : State) (hw : [.alm] ⊆ ps) :
    (State.stationRequest r s).rest ps = s.rest ps := by
  simp_all [State.stationRequest]

@[simp] theorem State.stationHears_rest (m : CanMsg) (was : Option Nat) (s : State) (k : Nat) (hw : [.alm] ⊆ ps) :
    (State.stationHears m was s k).rest ps = s.rest ps := by
  unfold State.stationHears
  dsimp only
  repeat' split
  all_goals simp_all

@[simp] theorem State.canEntry_rest (o : Nat) (m : CanMsg) (s : State) (hw : [.alm, .can] ⊆ ps) :
    (State.canEntry o m s).rest ps = s.rest ps := by
  simp_all [State.canEntry]

@[simp] theorem State.hartEntry_rest (m : Nat) (bytes : List Byte) (s : State) (hw : [.eng] ⊆ ps) :
    (State.hartEntry m bytes s).rest ps = s.rest ps := by
  unfold State.hartEntry
  dsimp only
  repeat' split
  all_goals simp_all

@[simp] theorem State.runEntry_rest (e : Entry) (s : State) (hw : [.fr, .blks, .eng, .safety, .alm, .recd, .can, .twi, .power, .mem,
      .mdiag, .regs, .pair, .sess, .pend, .outbox, .owner, .portSt, .wire, .trace, .replay, .replayIn, .cfgEv, .rtcEv, .hdr, .staging,
      .nextCfg, .restage, .slotA, .slotB, .store, .trims] ⊆ ps) :
    (State.runEntry e s).rest ps = s.rest ps := by
  unfold State.runEntry
  repeat' split
  all_goals simp_all [PortPart.rest, cleared]

@[simp] theorem State.runEntries_rest (s : State) (hw : [.fr, .blks, .eng, .safety, .alm, .recd, .can, .twi, .power, .mem, .mdiag,
      .regs, .pair, .sess, .pend, .outbox, .owner, .portSt, .wire, .trace, .replay, .replayIn, .cfgEv, .rtcEv, .hdr, .staging,
      .nextCfg, .restage, .slotA, .slotB, .store, .trims] ⊆ ps) :
    (State.runEntries s).rest ps = s.rest ps := by
  simp_all [State.runEntries]

@[simp] theorem State.beginService_rest (c : Nat) (begun : Bool) (s : State) (hw : [.blks] ⊆ ps) :
    (State.beginService c begun s).rest ps = s.rest ps := by
  simp_all [State.beginService]

@[simp] theorem State.setHart_rest (c : Nat) (h : HartCh) (s : State) (hw : [.eng] ⊆ ps) :
    (State.setHart c h s).rest ps = s.rest ps := by
  simp_all [State.setHart]

@[simp] theorem State.evalAna_rest (c : Nat) (s : State) (hw : [.blks, .eng] ⊆ ps) :
    (State.evalAna c s).rest ps = s.rest ps := by
  simp_all [State.evalAna]

@[simp] theorem State.evalPair_rest (c : Nat) (s : State) (hw : [.blks, .eng] ⊆ ps) :
    (State.evalPair c s).rest ps = s.rest ps := by
  simp_all [State.evalPair]

@[simp] theorem State.evalAo_rest (c : Nat) (s : State) (hw : [.blks, .eng] ⊆ ps) :
    (State.evalAo c s).rest ps = s.rest ps := by
  simp_all [State.evalAo]

@[simp] theorem State.evalDi_rest (c : Nat) (s : State) (hw : [.eng] ⊆ ps) :
    (State.evalDi c s).rest ps = s.rest ps := by
  simp_all [State.evalDi]

@[simp] theorem State.evalPi_rest (c : Nat) (s : State) (hw : [.eng] ⊆ ps) :
    (State.evalPi c s).rest ps = s.rest ps := by
  simp_all [State.evalPi]

@[simp] theorem State.evalDo_rest (c : Nat) (cmd : Bool) (s : State) (hw : [.eng] ⊆ ps) :
    (State.evalDo c cmd s).rest ps = s.rest ps := by
  simp_all [State.evalDo]

@[simp] theorem State.evalChannel_rest (s : State) (c : Nat) (hw : [.blks, .eng] ⊆ ps) :
    (State.evalChannel s c).rest ps = s.rest ps := by
  unfold State.evalChannel
  repeat' split
  all_goals simp_all

@[simp] theorem State.supplyStep_rest (s : State) (g : Nat) (hw : [.eng] ⊆ ps) :
    (State.supplyStep s g).rest ps = s.rest ps := by
  simp_all [State.supplyStep]

@[simp] theorem State.seenStep_rest (s : State) (b : Nat) (hw : [.eng] ⊆ ps) :
    (State.seenStep s b).rest ps = s.rest ps := by
  simp_all [State.seenStep]

@[simp] theorem State.clockStep_rest (s : State) (b : Nat) (hw : [.blks, .recd] ⊆ ps) :
    (State.clockStep s b).rest ps = s.rest ps := by
  simp_all [State.clockStep]

@[simp] theorem State.couplerError_rest (c cause : Nat) (s : State) (hw : [.blks, .recd] ⊆ ps) :
    (State.couplerError c cause s).rest ps = s.rest ps := by
  simp_all [State.couplerError]

@[simp] theorem State.couplerStep_rest (s : State) (c : Nat) (hw : [.blks, .recd] ⊆ ps) :
    (State.couplerStep s c).rest ps = s.rest ps := by
  simp_all [State.couplerStep]

@[simp] theorem State.dirStep_rest (s : State) (f : Nat) (hw : [.safety] ⊆ ps) :
    (State.dirStep s f).rest ps = s.rest ps := by
  simp_all [State.dirStep]

@[simp] theorem State.fnPass1_rest (s : State) (f : Nat) (hw : [.safety] ⊆ ps) :
    (State.fnPass1 s f).rest ps = s.rest ps := by
  simp_all [State.fnPass1]

@[simp] theorem State.buttonStepOf_rest (s : State) (c : Nat) (hw : [.safety] ⊆ ps) :
    (State.buttonStepOf s c).rest ps = s.rest ps := by
  simp_all [State.buttonStepOf]

@[simp] theorem State.fnPass2_rest (s : State) (f : Nat) (hw : [.eng, .safety] ⊆ ps) :
    (State.fnPass2 s f).rest ps = s.rest ps := by
  simp_all [State.fnPass2]

@[simp] theorem State.fnPass3_rest (st : State) (s : State) (f : Nat) (hw : [.safety] ⊆ ps) :
    (State.fnPass3 st s f).rest ps = s.rest ps := by
  simp_all [State.fnPass3]

@[simp] theorem State.safeOutputs_rest (g : Nat) (s : State) (hw : [.eng] ⊆ ps) :
    (State.safeOutputs g s).rest ps = s.rest ps := by
  simp_all [State.safeOutputs]

@[simp] theorem State.fnPasses_rest (g : Nat) (s : State) (hw : [.eng, .safety] ⊆ ps) :
    (State.fnPasses g s).rest ps = s.rest ps := by
  simp_all [State.fnPasses]

@[simp] theorem State.dscStep_rest (after s : State) (i : Nat) (hw : [.eng, .safety] ⊆ ps) :
    (State.dscStep after s i).rest ps = s.rest ps := by
  simp_all [State.dscStep]

@[simp] theorem State.endEngine_rest (e : Nat) (s : State) (hw : [.eng, .recd, .regs] ⊆ ps) :
    (State.endEngine e s).rest ps = s.rest ps := by
  simp_all [State.endEngine]

@[simp] theorem State.endUnheld_rest (e : Nat) (s : State) (hw : [.eng, .recd, .regs] ⊆ ps) :
    (State.endUnheld e s).rest ps = s.rest ps := by
  simp_all [State.endUnheld]

@[simp] theorem State.exchange_rest (g : Nat) (s : State) (hw : [.eng, .safety, .recd, .regs] ⊆ ps) :
    (State.exchange g s).rest ps = s.rest ps := by
  simp_all [State.exchange]

@[simp] theorem State.poison_rest (k cause : Nat) (s : State) (hw : [.eng] ⊆ ps) :
    (State.poison k cause s).rest ps = s.rest ps := by
  simp_all [State.poison]

@[simp] theorem State.poisonReport_rest (s : State) (hw : [.recd, .mdiag] ⊆ ps) :
    (State.poisonReport s).rest ps = s.rest ps := by
  simp_all [State.poisonReport]

@[simp] theorem State.poisonNow_rest (k cause : Nat) (s : State) (hw : [.eng, .recd, .mdiag, .pair] ⊆ ps) :
    (State.poisonNow k cause s).rest ps = s.rest ps := by
  simp_all [State.poisonNow]

@[simp] theorem State.bistPoison_rest (s : State) (hw : [.eng] ⊆ ps) :
    (State.bistPoison s).rest ps = s.rest ps := by
  simp_all [State.bistPoison]

@[simp] theorem State.markMissing_rest (c : Nat) (s : State) (hw : [.inp] ⊆ ps) :
    (State.markMissing c s).rest ps = s.rest ps := by
  simp_all [State.markMissing]

@[simp] theorem State.loadTrace_rest (x : TraceFrame) (s : State) (hw : [.fr, .inp] ⊆ ps) :
    (State.loadTrace x s).rest ps = s.rest ps := by
  simp_all [State.loadTrace]

@[simp] theorem State.takeInputs_rest (s : State) (hw : [.fr, .inp, .replayIn] ⊆ ps) :
    (State.takeInputs s).rest ps = s.rest ps := by
  unfold State.takeInputs
  dsimp only
  repeat' split
  all_goals simp_all [PortPart.rest, cleared]

@[simp] theorem State.shadowStep_rest (s : State) (c : Nat) (hw : [.recd, .pair] ⊆ ps) :
    (State.shadowStep s c).rest ps = s.rest ps := by
  simp_all [State.shadowStep]

@[simp] theorem State.regionChecks_rest (s : State) (hw : [.blks, .recd, .pair] ⊆ ps) :
    (State.regionChecks s).rest ps = s.rest ps := by
  simp_all [State.regionChecks]

@[simp] theorem State.ageDevices_rest (s : State) (hw : [.eng] ⊆ ps) :
    (State.ageDevices s).rest ps = s.rest ps := by
  simp_all [State.ageDevices]

@[simp] theorem State.stationButton_rest (s : State) (k : Nat) (hw : [.alm] ⊆ ps) :
    (State.stationButton s k).rest ps = s.rest ps := by
  unfold State.stationButton
  dsimp only
  repeat' split
  all_goals simp_all

@[simp] theorem State.runWaited_rest (s : State) (w : PktHead × Op) (hw : [.fr, .blks, .eng, .safety, .alm, .recd, .can, .twi, .power,
      .mem, .mdiag, .regs, .pair, .sess, .pend, .outbox, .owner, .portSt, .wire, .trace, .replay, .replayIn, .cfgEv, .hdr, .staging,
      .nextCfg, .restage, .slotA, .slotB, .store, .trims] ⊆ ps) :
    (State.runWaited s w).rest ps = s.rest ps := by
  simp_all [State.runWaited]

@[simp] theorem State.runWaiting_rest (s : State) (hw : [.fr, .blks, .eng, .safety, .alm, .recd, .can, .twi, .power, .mem, .mdiag,
      .regs, .pair, .sess, .pend, .outbox, .owner, .portSt, .wire, .trace, .replay, .replayIn, .cfgEv, .hdr, .staging, .nextCfg,
      .restage, .slotA, .slotB, .store, .trims] ⊆ ps) :
    (State.runWaiting s).rest ps = s.rest ps := by
  simp_all [State.runWaiting]

@[simp] theorem State.trimGather_rest (s : State) (hw : [.trims] ⊆ ps) :
    (State.trimGather s).rest ps = s.rest ps := by
  simp_all [State.trimGather, CfgPart.rest, cleared]

@[simp] theorem State.evaluate_rest (s : State) (hw : [.blks, .eng, .safety, .alm, .trims] ⊆ ps) :
    (State.evaluate s).rest ps = s.rest ps := by
  simp_all [State.evaluate]

@[simp] theorem State.endCumulus_rest (s : State) (hw : [.eng, .recd, .regs] ⊆ ps) :
    (State.endCumulus s).rest ps = s.rest ps := by
  simp_all [State.endCumulus]

@[simp] theorem State.startEvaluation_rest (held : Nat) (s : State) (hw : [.phase, .fr, .inp, .blks, .eng, .safety, .alm, .recd, .can,
      .twi, .power, .mem, .mdiag, .regs, .pair, .sess, .pend, .outbox, .owner, .portSt, .wire, .trace, .replay, .replayIn, .cfgEv,
      .rtcEv, .hdr, .staging, .nextCfg, .restage, .slotA, .slotB, .store, .trims] ⊆ ps) :
    (State.startEvaluation held s).rest ps = s.rest ps := by
  simp_all [State.startEvaluation]

@[simp] theorem State.dscNow_rest (i : Nat) (s : State) (hw : [.eng, .safety] ⊆ ps) :
    (State.dscNow i s).rest ps = s.rest ps := by
  simp_all [State.dscNow]

@[simp] theorem State.postStray_rest (p : Posting) (s : State) (hw : [.eng] ⊆ ps) :
    (State.postStray p s).rest ps = s.rest ps := by
  simp_all [State.postStray]

@[simp] theorem State.rejectPosting_rest (p : Posting) (s : State) (hw : [.eng, .recd, .mdiag, .regs, .pair] ⊆ ps) :
    (State.rejectPosting p s).rest ps = s.rest ps := by
  simp_all [State.rejectPosting]

@[simp] theorem State.lateEnd_rest (e : Nat) (s : State) (hw : [.eng, .recd, .regs] ⊆ ps) :
    (State.lateEnd e s).rest ps = s.rest ps := by
  simp_all [State.lateEnd]

@[simp] theorem State.post_rest (p : Posting) (s : State) (hw : [.eng, .safety, .recd, .regs] ⊆ ps) :
    (State.post p s).rest ps = s.rest ps := by
  unfold State.post
  repeat' split
  all_goals simp_all

@[simp] theorem State.trimReply_rest (n st : Nat) (s : State) (hw : [.sess, .pend, .owner, .trace, .replayIn] ⊆ ps) :
    (State.trimReply n st s).rest ps = s.rest ps := by
  simp_all [State.trimReply, PortPart.rest, cleared]

@[simp] theorem State.trimFinish_rest (x : Trim) (s : State) (hw : [.sess, .pend, .owner, .trace, .replayIn, .nextCfg, .trims] ⊆ ps) :
    (State.trimFinish x s).rest ps = s.rest ps := by
  simp_all [State.trimFinish, CfgPart.rest, cleared]

@[simp] theorem State.pointsTo_rest (k : Nat) (s : State) (hw : [.alm] ⊆ ps) :
    (State.pointsTo k s).rest ps = s.rest ps := by
  simp_all [State.pointsTo]

@[simp] theorem State.load_rest (o : Nat) (data : List Byte) (s : State) (hw : [.can] ⊆ ps) :
    (State.load o data s).rest ps = s.rest ps := by
  simp_all [State.load]

@[simp] theorem State.firstOutStep_rest (s : State) (g : Nat) (hw : [.alm] ⊆ ps) :
    (State.firstOutStep s g).rest ps = s.rest ps := by
  simp_all [State.firstOutStep]

@[simp] theorem State.groupOne_rest (s : State) (g : Nat) (hw : [.alm, .can] ⊆ ps) :
    (State.groupOne s g).rest ps = s.rest ps := by
  unfold State.groupOne
  dsimp only
  repeat' split
  all_goals simp_all

@[simp] theorem State.groupsTo_rest (k : Nat) (s : State) (hw : [.alm, .can] ⊆ ps) :
    (State.groupsTo k s).rest ps = s.rest ps := by
  simp_all [State.groupsTo]

@[simp] theorem State.callNow_rest (s0 : State) (hw : [.alm, .can] ⊆ ps) :
    (State.callNow s0).rest ps = s0.rest ps := by
  simp_all [State.callNow]

@[simp] theorem State.zenithOutput_rest (s : State) (c : Nat) (hw : [.eng] ⊆ ps) :
    (State.zenithOutput s c).rest ps = s.rest ps := by
  unfold State.zenithOutput
  repeat' split
  all_goals simp_all

@[simp] theorem State.zenithOutputs_rest (s : State) (hw : [.eng] ⊆ ps) :
    (State.zenithOutputs s).rest ps = s.rest ps := by
  simp_all [State.zenithOutputs]

@[simp] theorem State.distribute_rest (s : State) (hw : [.blks, .eng] ⊆ ps) :
    (State.distribute s).rest ps = s.rest ps := by
  simp_all [State.distribute]

@[simp] theorem State.dscSendStep_rest (s : State) (i : Nat) (hw : [.recd, .can, .portSt, .wire] ⊆ ps) :
    (State.dscSendStep s i).rest ps = s.rest ps := by
  simp_all [State.dscSendStep]

@[simp] theorem State.enterLoads_rest (s : State) (hw : [.can] ⊆ ps) :
    (State.enterLoads s).rest ps = s.rest ps := by
  simp_all [State.enterLoads]

@[simp] theorem State.sessionStep_rest (s : State) (code : Nat) (hw : [.can, .sess, .pend, .outbox, .owner, .portSt, .wire, .trace,
      .restage] ⊆ ps) :
    (State.sessionStep s code).rest ps = s.rest ps := by
  simp_all [State.sessionStep]

@[simp] theorem State.replyDue_rest (s : State) (p : Pending) (hw : [.can, .power, .sess, .outbox, .portSt, .wire, .trace] ⊆ ps) :
    (State.replyDue s p).rest ps = s.rest ps := by
  simp_all [State.replyDue]

@[simp] theorem State.replies_rest (s : State) (hw : [.can, .power, .sess, .pend, .outbox, .portSt, .wire, .trace] ⊆ ps) :
    (State.replies s).rest ps = s.rest ps := by
  simp_all [State.replies, PortPart.rest, cleared]

@[simp] theorem State.recordEvents_rest (l : List EvReq) (s : State) (hw : [.alm, .recd, .owner, .replayIn, .cfgEv, .rtcEv] ⊆ ps) :
    (State.recordEvents l s).rest ps = s.rest ps := by
  simp_all [State.recordEvents, PortPart.rest, cleared]

@[simp] theorem State.trimStep_rest (s : State) (hw : [.sess, .pend, .owner, .trace, .replayIn, .nextCfg, .trims] ⊆ ps) :
    (State.trimStep s).rest ps = s.rest ps := by
  unfold State.trimStep
  repeat' split
  all_goals simp_all

@[simp] theorem State.sessionsStep_rest (s : State) (hw : [.can, .sess, .pend, .outbox, .owner, .portSt, .wire, .trace, .restage] ⊆ ps) :
    (State.sessionsStep s).rest ps = s.rest ps := by
  simp_all [State.sessionsStep]

@[simp] theorem State.zenithFrame_rest (s : State) (hw : [.blks, .eng, .alm, .recd, .can, .mdiag, .sess, .pend, .outbox, .owner,
      .portSt, .wire, .trace, .replayIn, .nextCfg, .restage, .trims] ⊆ ps) :
    (State.zenithFrame s).rest ps = s.rest ps := by
  simp_all [State.zenithFrame]

@[simp] theorem State.transmit_rest (s : State) (hw : [.recd, .can, .portSt, .wire] ⊆ ps) :
    (State.transmit s).rest ps = s.rest ps := by
  simp_all [State.transmit]

@[simp] theorem State.publish_rest (t : Nat) (s : State) (hw : [.phase, .fr, .blks, .shown] ⊆ ps) :
    (State.publish t s).rest ps = s.rest ps := by
  simp_all [State.publish, State.rest, PortPart.rest, CfgPart.rest, UnitPart.rest, cleared]

@[simp] theorem State.pairClose_rest (reqs : List EvReq) (s : State) (hw : [.recd, .pair, .wire] ⊆ ps) :
    (State.pairClose reqs s).rest ps = s.rest ps := by
  simp_all [State.pairClose]

@[simp] theorem State.closeFrame_rest (t : Nat) (late : Bool) (s : State) (hw : [.phase, .fr, .blks, .eng, .alm, .recd, .can, .shown,
      .power, .mdiag, .pair, .sess, .pend, .outbox, .owner, .portSt, .wire, .trace, .replayIn, .cfgEv, .rtcEv, .nextCfg, .restage,
      .trims] ⊆ ps) :
    (State.closeFrame t late s).rest ps = s.rest ps := by
  simp_all [State.closeFrame]

end

end Sys2Proof.Machine
end

