-- ==== Sys2Proof/Laws/StrobesFrame.lean ====
section
/-! SUPPORT. What a commit and a frame strobe may write. -/

namespace Sys2Proof.Machine

section
variable {ps : List Part}

@[simp] theorem State.reinitCell_rest (c : Nat) (s : State) (hw : [.blks] ⊆ ps) :
    (State.reinitCell c s).rest ps = s.rest ps := by
  simp_all [State.reinitCell]

@[simp] theorem State.reinitEngine_rest (keep : Bool) (c : Nat) (s : State) (hw : [.eng] ⊆ ps) :
    (State.reinitEngine keep c s).rest ps = s.rest ps := by
  simp_all [State.reinitEngine]

@[simp] theorem State.reinitChannel_rest (c : Nat) (s : State) (hw : [.blks, .eng] ⊆ ps) :
    (State.reinitChannel c s).rest ps = s.rest ps := by
  simp_all [State.reinitChannel]

@[simp] theorem State.resetModem_rest (c : Nat) (old new : Nat) (s : State) (hw : [.blks, .eng] ⊆ ps) :
    (State.resetModem c old new s).rest ps = s.rest ps := by
  simp_all [State.resetModem]

@[simp] theorem applyChannel_rest (old new : Image) (s : State) (c : Nat) (hw : [.blks, .eng] ⊆ ps) :
    (applyChannel old new s c).rest ps = s.rest ps := by
  simp_all [applyChannel]

@[simp] theorem applyCycle_rest (old new : Image) (b : Nat) (s : State) (hw : [.blks] ⊆ ps) :
    (applyCycle old new b s).rest ps = s.rest ps := by
  simp_all [applyCycle]

@[simp] theorem applySources_rest (old new : Image) (b : Nat) (s : State) (hw : [.blks] ⊆ ps) :
    (applySources old new b s).rest ps = s.rest ps := by
  simp_all [applySources]

@[simp] theorem State.reblank_rest (b : Nat) (s : State) (hw : [.blks] ⊆ ps) :
    (State.reblank b s).rest ps = s.rest ps := by
  unfold State.reblank
  repeat' split
  all_goals simp_all

@[simp] theorem applyBlock_rest (old new : Image) (s : State) (b : Nat) (hw : [.blks] ⊆ ps) :
    (applyBlock old new s b).rest ps = s.rest ps := by
  simp_all [applyBlock]

@[simp] theorem State.takeConfig_rest (b : Nat) (s : State) (hw : [.blks] ⊆ ps) :
    (State.takeConfig b s).rest ps = s.rest ps := by
  simp_all [State.takeConfig]

@[simp] theorem State.settleBlocks_rest (s : State) (hw : [.blks] ⊆ ps) :
    (State.settleBlocks s).rest ps = s.rest ps := by
  simp_all [State.settleBlocks]

@[simp] theorem applyAlarms_rest (old new : Image) (s : State) (hw : [.alm] ⊆ ps) :
    (applyAlarms old new s).rest ps = s.rest ps := by
  simp_all [applyAlarms]

@[simp] theorem startAlarms_rest (s : State) (hw : [.alm] ⊆ ps) :
    (startAlarms s).rest ps = s.rest ps := by
  simp_all [startAlarms]

@[simp] theorem applyDsc_rest (old new : Image) (s : State) (hw : [.safety] ⊆ ps) :
    (applyDsc old new s).rest ps = s.rest ps := by
  simp_all [applyDsc]

@[simp] theorem applyCan_rest (old new : Image) (s : State) (hw : [.recd, .can] ⊆ ps) :
    (applyCan old new s).rest ps = s.rest ps := by
  simp_all [applyCan]

@[simp] theorem restartLink_rest (s : State) (i : Nat) (hw : [.recd, .portSt] ⊆ ps) :
    (restartLink s i).rest ps = s.rest ps := by
  simp_all [restartLink]

@[simp] theorem applyPorts_rest (old new : Image) (s : State) (hw : [.recd, .can, .sess, .pend, .outbox, .owner, .portSt, .wire,
      .trace, .restage] ⊆ ps) :
    (applyPorts old new s).rest ps = s.rest ps := by
  unfold applyPorts
  dsimp only
  repeat' split
  all_goals simp_all

@[simp] theorem applyPair_rest (old new : Image) (s : State) (hw : [.pair] ⊆ ps) :
    (applyPair old new s).rest ps = s.rest ps := by
  simp_all [applyPair]

@[simp] theorem applyClock_rest (old new : Image) (s : State) (hw : [.twi] ⊆ ps) :
    (applyClock old new s).rest ps = s.rest ps := by
  simp_all [applyClock]

@[simp] theorem applyTrims_rest (old new : Image) (nx : NextCfg) (s : State) (hw : [.eng, .sess, .pend, .owner, .trace, .replayIn,
      .trims] ⊆ ps) :
    (applyTrims old new nx s).rest ps = s.rest ps := by
  unfold applyTrims
  dsimp only
  repeat' split
  all_goals simp_all [PortPart.rest, CfgPart.rest, cleared]

@[simp] theorem trimSetEvents_rest (old new : Image) (s : State) (hw : [.eng] ⊆ ps) :
    (trimSetEvents old new s).rest ps = s.rest ps := by
  simp_all [trimSetEvents]

@[simp] theorem State.applyCommit_rest (nx : NextCfg) (s0 : State) (hw : [.blks, .eng, .safety, .alm, .recd, .can, .twi, .pair, .sess,
      .pend, .outbox, .owner, .portSt, .wire, .trace, .replayIn, .cfgEv, .image, .hdr, .nextCfg, .restage, .slotA, .slotB, .store,
      .trims] ⊆ ps) :
    (State.applyCommit nx s0).rest ps = s0.rest ps := by
  simp_all [State.applyCommit, CfgPart.rest, cleared]

@[simp] theorem State.restageNow_rest (s : State) (hw : [.staging, .restage] ⊆ ps) :
    (State.restageNow s).rest ps = s.rest ps := by
  simp_all [State.restageNow, CfgPart.rest, cleared]

@[simp] theorem State.overrunStep_rest (s : State) (hw : [.fr, .recd, .pair] ⊆ ps) :
    (State.overrunStep s).rest ps = s.rest ps := by
  simp_all [State.overrunStep]

@[simp] theorem lockEntry_rest (v : Bool) (s : State) (e : Entry) (hw : [.can] ⊆ ps) :
    (lockEntry v s e).rest ps = s.rest ps := by
  unfold lockEntry
  repeat' split
  all_goals simp_all

@[simp] theorem State.assignEntries_rest (s : State) (hw : [.fr, .inp, .recd, .can] ⊆ ps) :
    (State.assignEntries s).rest ps = s.rest ps := by
  simp_all [State.assignEntries]

@[simp] theorem State.keepResults_rest (s : State) (hw : [.eng] ⊆ ps) :
    (State.keepResults s).rest ps = s.rest ps := by
  simp_all [State.keepResults]

@[simp] theorem State.freshFrame_rest (s : State) (hw : [.inp, .safety, .alm, .pair] ⊆ ps) :
    (State.freshFrame s).rest ps = s.rest ps := by
  simp_all [State.freshFrame]

@[simp] theorem State.joinBlock_rest (s : State) (b : Nat) (hw : [.blks, .eng, .recd] ⊆ ps) :
    (State.joinBlock s b).rest ps = s.rest ps := by
  simp_all [State.joinBlock]

@[simp] theorem State.warmCells_rest (s : State) (hw : [.blks] ⊆ ps) :
    (State.warmCells s).rest ps = s.rest ps := by
  simp_all [State.warmCells]

@[simp] theorem State.beginReplay_rest (s : State) (hw : [.fr, .inp, .eng, .safety, .alm, .can, .shown, .owner, .replayIn, .hdr,
      .staging, .nextCfg, .restage, .trims] ⊆ ps) :
    (State.beginReplay s).rest ps = s.rest ps := by
  unfold State.beginReplay
  dsimp only
  repeat' split
  all_goals simp_all [PortPart.rest, cleared]

@[simp] theorem State.hotRecords_rest (s : State) (hw : [.inp, .pair] ⊆ ps) :
    (State.hotRecords s).rest ps = s.rest ps := by
  simp_all [State.hotRecords]

@[simp] theorem State.openFrame_rest (at0 : Nat) (s : State) (hw : [.phase, .fr, .inp, .blks, .eng, .safety, .alm, .recd, .can, .twi,
      .shown, .pair, .sess, .pend, .outbox, .owner, .portSt, .wire, .trace, .replayIn, .cfgEv, .image, .hdr, .staging, .nextCfg,
      .restage, .slotA, .slotB, .store, .trims] ⊆ ps) :
    (State.openFrame at0 s).rest ps = s.rest ps := by
  unfold State.openFrame
  dsimp only
  repeat' split
  all_goals simp_all

@[simp] theorem State.sendFrame_rest (bad : Bool) (s : State) (hw : [.wire] ⊆ ps) :
    (State.sendFrame bad s).rest ps = s.rest ps := by
  simp_all [State.sendFrame]

end

end Sys2Proof.Machine
end

