-- ==== Sys2Proof/Laws/InputsFrame.lean ====
section
/-! SUPPORT. What inputs, latches, the memories, roles, the link and the ports may write. -/

namespace Sys2Proof.Machine

section
variable {ps : List Part}

@[simp] theorem State.forward_rest (ok : Bool) (order index : Nat) (body : EntryBody) (s : State) (hw : [.wire] ⊆ ps) :
    (State.forward ok order index body s).rest ps = s.rest ps := by
  simp_all [State.forward]

@[simp] theorem State.admitPacket_rest (code ip udp : Nat) (bytes : List Byte) (p : Packet) (s : State) (hw : [.fr, .inp, .blks, .eng,
      .safety, .alm, .recd, .can, .twi, .power, .mem, .mdiag, .regs, .pair, .sess, .pend, .outbox, .owner, .portSt, .wire, .trace,
      .replay, .replayIn, .cfgEv, .hdr, .staging, .nextCfg, .restage, .slotA, .slotB, .store, .trims] ⊆ ps) :
    (State.admitPacket code ip udp bytes p s).rest ps = s.rest ps := by
  simp_all [State.admitPacket]

@[simp] theorem State.packetIn_rest (i ip udp : Nat) (bytes : List Byte) (s : State) (hw : [.fr, .inp, .blks, .eng, .safety, .alm,
      .recd, .can, .twi, .power, .mem, .mdiag, .regs, .pair, .sess, .pend, .outbox, .owner, .portSt, .wire, .trace, .replay,
      .replayIn, .cfgEv, .hdr, .staging, .nextCfg, .restage, .slotA, .slotB, .store, .trims] ⊆ ps) :
    (State.packetIn i ip udp bytes s).rest ps = s.rest ps := by
  unfold State.packetIn
  repeat' split
  all_goals simp_all

@[simp] theorem State.queueRx_rest (i : Nat) (x : RxItem) (s : State) (hw : [.portSt] ⊆ ps) :
    (State.queueRx i x s).rest ps = s.rest ps := by
  simp_all [State.queueRx]

@[simp] theorem State.messageIn_rest (i : Nat) (bytes : List Byte) (s : State) (hw : [.fr, .inp, .blks, .eng, .safety, .alm, .recd,
      .can, .twi, .power, .mem, .mdiag, .regs, .pair, .sess, .pend, .outbox, .owner, .portSt, .wire, .trace, .replay, .replayIn,
      .cfgEv, .hdr, .staging, .nextCfg, .restage, .slotA, .slotB, .store, .trims] ⊆ ps) :
    (State.messageIn i bytes s).rest ps = s.rest ps := by
  simp_all [State.messageIn]

@[simp] theorem State.setCtl_rest (k : Nat) (r : CanCtl × List EvReq) (s : State) (hw : [.recd, .can] ⊆ ps) :
    (State.setCtl k r s).rest ps = s.rest ps := by
  simp_all [State.setCtl]

@[simp] theorem State.tpFrame_rest (k : Nat) (m : CanMsg) (s : State) (hw : [.fr, .inp, .blks, .eng, .safety, .alm, .recd, .can, .twi,
      .power, .mem, .mdiag, .regs, .pair, .sess, .pend, .outbox, .owner, .portSt, .wire, .trace, .replay, .replayIn, .cfgEv, .hdr,
      .staging, .nextCfg, .restage, .slotA, .slotB, .store, .trims] ⊆ ps) :
    (State.tpFrame k m s).rest ps = s.rest ps := by
  unfold State.tpFrame
  dsimp only
  repeat' split
  all_goals simp_all

@[simp] theorem State.filterFrame_rest (k : Nat) (m : CanMsg) (s : State) (hw : [.can] ⊆ ps) :
    (State.filterFrame k m s).rest ps = s.rest ps := by
  unfold State.filterFrame
  repeat' split
  all_goals simp_all

@[simp] theorem State.busFrame_rest (k : Nat) (m : CanMsg) (s : State) (hw : [.fr, .inp, .blks, .eng, .safety, .alm, .recd, .can,
      .twi, .power, .mem, .mdiag, .regs, .pair, .sess, .pend, .outbox, .owner, .portSt, .wire, .trace, .replay, .replayIn, .cfgEv,
      .hdr, .staging, .nextCfg, .restage, .slotA, .slotB, .store, .trims] ⊆ ps) :
    (State.busFrame k m s).rest ps = s.rest ps := by
  simp_all [State.busFrame]

@[simp] theorem State.takeMessage_rest (o : Nat) (s : State) (hw : [.inp, .can, .wire] ⊆ ps) :
    (State.takeMessage o s).rest ps = s.rest ps := by
  simp_all [State.takeMessage]

@[simp] theorem State.busSent_rest (k : Nat) (m : CanMsg) (s : State) (hw : [.wire] ⊆ ps) :
    (State.busSent k m s).rest ps = s.rest ps := by
  simp_all [State.busSent, PortPart.rest, cleared]

@[simp] theorem State.frameSent_rest (k : Nat) (who : CanWho) (s : State) (hw : [.can, .wire] ⊆ ps) :
    (State.frameSent k who s).rest ps = s.rest ps := by
  unfold State.frameSent
  dsimp only
  repeat' split
  all_goals simp_all

@[simp] theorem State.objError_rest (k o : Nat) (stale : Bool) (s : State) (hw : [.can] ⊆ ps) :
    (s.objError k o stale).1.rest ps = s.rest ps := by
  unfold State.objError
  dsimp only
  split <;> simp_all

@[simp] theorem State.latchCell_rest (c : Nat) (m : CellMeas) (s : State) (hw : [.blks] ⊆ ps) :
    (s.latchCell c m).2.rest ps = s.rest ps := by
  unfold State.latchCell
  dsimp only
  split <;> simp_all

@[simp] theorem State.putRecord_rest (c : Nat) (r : Rec) (s : State) (hw : [.inp] ⊆ ps) :
    (State.putRecord c r s).rest ps = s.rest ps := by
  simp_all [State.putRecord]

@[simp] theorem State.latchChannel_rest (s : State) (x : Nat × CellMeas) (hw : [.inp, .blks] ⊆ ps) :
    (State.latchChannel s x).rest ps = s.rest ps := by
  simp_all [State.latchChannel]

@[simp] theorem State.applyShadow_rest (s : State) (x : Nat × CellMeas) (hw : [.blks] ⊆ ps) :
    (State.applyShadow s x).rest ps = s.rest ps := by
  simp_all [State.applyShadow]

@[simp] theorem State.pulseGone_rest (b : Nat) (s : State) (hw : [.blks] ⊆ ps) :
    (State.pulseGone b s).rest ps = s.rest ps := by
  unfold State.pulseGone
  repeat' split
  all_goals simp_all

@[simp] theorem State.supplyBack_rest (b : Nat) (s : State) (hw : [.blks] ⊆ ps) :
    (State.supplyBack b s).rest ps = s.rest ps := by
  simp_all [State.supplyBack]

@[simp] theorem State.latchFaults_rest (b : Nat) (s : State) (hw : [.blks, .recd] ⊆ ps) :
    (State.latchFaults b s).rest ps = s.rest ps := by
  simp_all [State.latchFaults]

@[simp] theorem State.takeEdges_rest (b : Nat) (s : State) (hw : [.fr, .inp] ⊆ ps) :
    (State.takeEdges b s).rest ps = s.rest ps := by
  simp_all [State.takeEdges]

@[simp] theorem State.latchBlock_rest (b : Nat) (meas : List CellMeas) (clk : Nat) (s : State) (hw : [.fr, .inp, .blks, .recd] ⊆ ps) :
    (State.latchBlock b meas clk s).rest ps = s.rest ps := by
  simp_all [State.latchBlock]

@[simp] theorem State.sendBlock_rest (b : Nat) (s : State) (hw : [.wire] ⊆ ps) :
    (State.sendBlock b s).rest ps = s.rest ps := by
  simp_all [State.sendBlock]

@[simp] theorem State.enterSafe_rest (c : Nat) (s : State) (hw : [.blks] ⊆ ps) :
    (State.enterSafe c s).rest ps = s.rest ps := by
  simp_all [State.enterSafe]

@[simp] theorem State.supplyRead_rest (b mv : Nat) (s : State) (hw : [.blks] ⊆ ps) :
    (State.supplyRead b mv s).rest ps = s.rest ps := by
  simp_all [State.supplyRead]

@[simp] theorem State.supplyOff_rest (b : Nat) (s : State) (hw : [.blks] ⊆ ps) :
    (State.supplyOff b s).rest ps = s.rest ps := by
  simp_all [State.supplyOff]

@[simp] theorem State.clkCheck_rest (dom : Nat) (dev : Int) (s : State) (hw : [.recd, .mdiag, .regs] ⊆ ps) :
    (State.clkCheck dom dev s).rest ps = s.rest ps := by
  simp_all [State.clkCheck]

@[simp] theorem State.putMem_rest (k : Nat) (x : MemSt × List EvReq) (s : State) (hw : [.recd, .mem] ⊆ ps) :
    (State.putMem k x s).rest ps = s.rest ps := by
  simp_all [State.putMem, UnitPart.rest, cleared]

@[simp] theorem State.blockPayloads_rest (bank cw : Nat) (s : State) (hw : [.can] ⊆ ps) :
    (State.blockPayloads bank cw s).rest ps = s.rest ps := by
  simp_all [State.blockPayloads]

@[simp] theorem State.readFails_rest (mem bank cw req : Nat) (cells : List Nat) (s : State) (hw : [.eng, .recd, .can, .mdiag, .regs,
      .pair, .portSt] ⊆ ps) :
    (State.readFails mem bank cw req cells s).rest ps = s.rest ps := by
  unfold State.readFails
  repeat' split
  all_goals simp_all

@[simp] theorem State.modMem_rest (k : Nat) (f : MemSt → MemSt) (s : State) (hw : [.recd, .mem] ⊆ ps) :
    (State.modMem k f s).rest ps = s.rest ps := by
  simp_all [State.modMem]

@[simp] theorem State.accessBy_rest (mem bank cw req : Nat) (cells : List Nat) (d : RsOut) (s : State) (hw : [.eng, .recd, .can, .mem,
      .mdiag, .regs, .pair, .portSt] ⊆ ps) :
    (State.accessBy mem bank cw req cells d s).rest ps = s.rest ps := by
  unfold State.accessBy
  repeat' split
  all_goals simp_all

@[simp] theorem State.portAccess_rest (mem bank cw req : Nat) (cells : List Nat) (d : RsOut) (a : MemAccess) (s : State) (hw : [.eng,
      .recd, .can, .mem, .mdiag, .regs, .pair, .portSt] ⊆ ps) :
    (State.portAccess mem bank cw req cells d a s).rest ps = s.rest ps := by
  simp_all [State.portAccess]

@[simp] theorem State.collide_rest (cw mask : Nat) (s : State) (hw : [.recd, .mdiag] ⊆ ps) :
    (State.collide cw mask s).rest ps = s.rest ps := by
  simp_all [State.collide]

@[simp] theorem State.access_rest (mem bank cw req flip : Nat) (a : MemAccess) (port1 : Option MemAccess) (cells : List Nat)
    (s : State) (hw : [.eng, .recd, .can, .mem, .mdiag, .regs, .pair, .portSt] ⊆ ps) :
    (State.access mem bank cw req flip a port1 cells s).rest ps = s.rest ps := by
  unfold State.access
  repeat' split
  all_goals simp_all

@[simp] theorem State.mramAccess_rest (bank cw req flip : Nat) (s : State) (hw : [.recd, .mem, .mdiag] ⊆ ps) :
    (State.mramAccess bank cw req flip s).rest ps = s.rest ps := by
  simp_all [State.mramAccess]

@[simp] theorem State.storeEnd_rest (x : Store) (differs : Option Nat) (s : State) (hw : [.recd, .slotA, .slotB, .store] ⊆ ps) :
    (State.storeEnd x differs s).rest ps = s.rest ps := by
  unfold State.storeEnd
  dsimp only
  repeat' split
  · rw [State.unitEvs_rest _ _ (by simp_all), State.modCfg_rest]
    intro d
    rw [CfgPart.setSlot_rest _ _ _ (by simp_all)]
    simp_all [CfgPart.rest, cleared]
  all_goals simp_all [CfgPart.rest, cleared]

@[simp] theorem State.setRole_rest (role cause : Nat) (s : State) (hw : [.recd, .pair] ⊆ ps) :
    (State.setRole role cause s).rest ps = s.rest ps := by
  simp_all [State.setRole]

@[simp] theorem State.announce_rest (s : State) (hw : [.portSt] ⊆ ps) :
    (State.announce s).rest ps = s.rest ps := by
  simp_all [State.announce]

@[simp] theorem State.failRole_rest (s : State) (hw : [.recd, .can, .pair] ⊆ ps) :
    (State.failRole s).rest ps = s.rest ps := by
  simp_all [State.failRole]

@[simp] theorem State.hotLoad_rest (s : State) (c : Nat) (hw : [.blks] ⊆ ps) :
    (State.hotLoad s c).rest ps = s.rest ps := by
  simp_all [State.hotLoad]

@[simp] theorem State.fillRecord_rest (s : State) (c : Nat) (hw : [.inp] ⊆ ps) :
    (State.fillRecord s c).rest ps = s.rest ps := by
  simp_all [State.fillRecord]

@[simp] theorem State.hotTakeover_rest (s : State) (hw : [.inp, .blks, .pair] ⊆ ps) :
    (State.hotTakeover s).rest ps = s.rest ps := by
  simp_all [State.hotTakeover]

@[simp] theorem State.freshRun_rest (s : State) (hw : [.inp, .blks, .eng, .safety, .alm, .owner] ⊆ ps) :
    (State.freshRun s).rest ps = s.rest ps := by
  simp_all [State.freshRun, PortPart.rest, cleared]
  have e : (((List.range 512).foldl (fun x c => x.reinitChannel c) s).rest ps) = s.rest ps := by simp_all
  rw [← e]
  simp_all [State.rest, cleared]

@[simp] theorem State.coldTakeover_rest (s : State) (hw : [.phase, .fr, .inp, .blks, .eng, .safety, .alm, .recd, .can, .pair,
      .owner] ⊆ ps) :
    (State.coldTakeover s).rest ps = s.rest ps := by
  simp_all [State.coldTakeover]

@[simp] theorem State.takeActive_rest (cause : Nat) (s : State) (hw : [.phase, .fr, .inp, .blks, .eng, .safety, .alm, .recd, .can,
      .pair, .owner, .portSt] ⊆ ps) :
    (State.takeActive cause s).rest ps = s.rest ps := by
  simp_all [State.takeActive]

@[simp] theorem State.takeStandby_rest (cause : Nat) (s : State) (hw : [.inp, .recd, .can, .pair] ⊆ ps) :
    (State.takeStandby cause s).rest ps = s.rest ps := by
  simp_all [State.takeStandby]

@[simp] theorem State.roleByToken_rest (s : State) (hw : [.phase, .fr, .inp, .blks, .eng, .safety, .alm, .recd, .can, .pair, .owner,
      .portSt] ⊆ ps) :
    (State.roleByToken s).rest ps = s.rest ps := by
  simp_all [State.roleByToken]

@[simp] theorem State.holdChange_rest (level : Nat) (own : Bool) (s : State) (hw : [.recd, .pair] ⊆ ps) :
    (State.holdChange level own s).rest ps = s.rest ps := by
  simp_all [State.holdChange]

@[simp] theorem State.nameHolder_rest (u : Nat) (s : State) (hw : [.pair, .wit] ⊆ ps) :
    (State.nameHolder u s).rest ps = s.rest ps := by
  simp_all [State.nameHolder, UnitPart.rest, cleared]

@[simp] theorem State.witnessDecide_rest (s : State) (hw : [.pair, .wit] ⊆ ps) :
    (State.witnessDecide s).rest ps = s.rest ps := by
  unfold State.witnessDecide
  repeat' split
  all_goals simp_all

@[simp] theorem State.putLane_rest (i : Nat) (l : Lane) (s : State) (hw : [.pair] ⊆ ps) :
    (State.putLane i l s).rest ps = s.rest ps := by
  simp_all [State.putLane]

@[simp] theorem State.laneEvent_rest (i : Nat) (up : Bool) (errs : Nat) (s : State) (hw : [.recd] ⊆ ps) :
    (State.laneEvent i up errs s).rest ps = s.rest ps := by
  simp_all [State.laneEvent]

@[simp] theorem State.laneDown_rest (i : Nat) (s : State) (hw : [.recd, .pair] ⊆ ps) :
    (State.laneDown i s).rest ps = s.rest ps := by
  simp_all [State.laneDown]

@[simp] theorem State.standbyOpen_rest (t : Nat) (s : State) (hw : [.phase, .fr, .inp, .blks, .eng, .safety, .alm, .recd, .can, .twi,
      .shown, .pair, .sess, .pend, .outbox, .owner, .portSt, .wire, .trace, .replayIn, .cfgEv, .image, .hdr, .staging, .nextCfg,
      .restage, .slotA, .slotB, .store, .trims] ⊆ ps) :
    (State.standbyOpen t s).rest ps = s.rest ps := by
  simp_all [State.standbyOpen]

@[simp] theorem State.noticeAt_rest (done : Nat) (s : State) (hw : [.fr, .pair] ⊆ ps) :
    (State.noticeAt done s).rest ps = s.rest ps := by
  simp_all [State.noticeAt]

@[simp] theorem State.mirrorEntry_rest (e : Entry) (s : State) (hw : [.fr, .inp] ⊆ ps) :
    (State.mirrorEntry e s).rest ps = s.rest ps := by
  simp_all [State.mirrorEntry]

@[simp] theorem State.forwardedInput_rest (e : Entry) (s : State) (hw : [.inp] ⊆ ps) :
    (State.forwardedInput e s).rest ps = s.rest ps := by
  simp_all [State.forwardedInput]

@[simp] theorem State.mirrorRecord_rest (s : State) (x : Nat × Rec × Bool) (hw : [.inp] ⊆ ps) :
    (State.mirrorRecord s x).rest ps = s.rest ps := by
  simp_all [State.mirrorRecord]

@[simp] theorem State.mirrorCjc_rest (s : State) (x : Nat × Int × Bool × Bool) (hw : [.inp] ⊆ ps) :
    (State.mirrorCjc s x).rest ps = s.rest ps := by
  simp_all [State.mirrorCjc]

@[simp] theorem State.takeImage_rest (l : List (Nat × Inst)) (confirmed : Nat) (s0 : State) (hw : [.blks, .eng, .safety, .alm, .recd,
      .can, .twi, .sess, .pend, .outbox, .owner, .portSt, .wire, .trace, .image, .hdr, .staging, .nextCfg, .restage, .slotA, .slotB,
      .store, .trims] ⊆ ps) :
    (State.takeImage l confirmed s0).rest ps = s0.rest ps := by
  simp_all [State.takeImage, CfgPart.rest, cleared]

@[simp] theorem State.linkReply_rest (code ip udp session seq opcode status : Nat) (body : List Byte) (s : State) (hw : [.can, .sess,
      .pend, .outbox, .portSt, .wire] ⊆ ps) :
    (State.linkReply code ip udp session seq opcode status body s).rest ps = s.rest ps := by
  unfold State.linkReply
  dsimp only
  repeat' split
  all_goals simp_all [PortPart.rest, cleared]

@[simp] theorem State.linkStatus_rest (cfg fw serial : Nat) (s : State) (hw : [.recd, .pair] ⊆ ps) :
    (State.linkStatus cfg fw serial s).rest ps = s.rest ps := by
  simp_all [State.linkStatus]

@[simp] theorem State.linkBlock_rest (b : ContrailBlock) (s : State) (hw : [.fr, .inp, .blks, .eng, .safety, .alm, .recd, .can, .twi,
      .mem, .mdiag, .regs, .pair, .sess, .pend, .outbox, .owner, .portSt, .wire, .trace, .replay, .replayIn, .cfgEv, .image, .hdr,
      .staging, .nextCfg, .restage, .slotA, .slotB, .store, .trims] ⊆ ps) :
    (State.linkBlock b s).rest ps = s.rest ps := by
  unfold State.linkBlock
  dsimp only
  repeat' split
  all_goals simp_all [CfgPart.rest, cleared]

@[simp] theorem State.mailWrite_rest (s : State) (x : Nat × Nat × List Byte) (hw : [.eng, .recd, .can, .mem, .mdiag, .regs, .pair,
      .portSt] ⊆ ps) :
    (State.mailWrite s x).rest ps = s.rest ps := by
  simp_all [State.mailWrite]

@[simp] theorem State.nextSlot_rest (b : Nat) (s : State) (hw : [.blks] ⊆ ps) :
    (State.nextSlot b s).rest ps = s.rest ps := by
  simp_all [State.nextSlot]

@[simp] theorem State.convert_rest (c : Nat) (lo hi tone : Int) (ovLo ovHi compl : Bool) (s : State) (hw : [.blks] ⊆ ps) :
    (State.convert c lo hi tone ovLo ovHi compl s).rest ps = s.rest ps := by
  simp_all [State.convert]

@[simp] theorem State.selfTest_rest (b : Nat) (lo hi : Int) (s : State) (hw : [.blks] ⊆ ps) :
    (State.selfTest b lo hi s).rest ps = s.rest ps := by
  simp_all [State.selfTest]

@[simp] theorem State.restartEntry_rest (c : Nat) (opened : Bool) (s : State) (hw : [.blks] ⊆ ps) :
    (State.restartEntry c opened s).rest ps = s.rest ps := by
  simp_all [State.restartEntry]

@[simp] theorem State.dropEntry_rest (c : Nat) (s : State) (hw : [.blks] ⊆ ps) :
    (State.dropEntry c s).rest ps = s.rest ps := by
  simp_all [State.dropEntry]

@[simp] theorem State.edge_rest (c bt : Nat) (d : DigCell) (s : State) (hw : [.inp, .blks] ⊆ ps) :
    (State.edge c bt d s).rest ps = s.rest ps := by
  unfold State.edge
  dsimp only
  repeat' split
  all_goals simp_all

@[simp] theorem State.startPulse_rest (c level : Nat) (s : State) (hw : [.blks] ⊆ ps) :
    (State.startPulse c level s).rest ps = s.rest ps := by
  simp_all [State.startPulse]

@[simp] theorem State.endPulse_rest (p : Pulse) (termV : Int) (current : Nat) (levelOn : Bool) (s : State) (hw : [.blks] ⊆ ps) :
    (State.endPulse p termV current levelOn s).rest ps = s.rest ps := by
  simp_all [State.endPulse]

@[simp] theorem State.toneSeen_rest (m : Nat) (s : State) (hw : [.blks] ⊆ ps) :
    (State.toneSeen m s).rest ps = s.rest ps := by
  unfold State.toneSeen
  repeat' split
  all_goals simp_all

@[simp] theorem State.setModem_rest (m : Nat) (x : Modem) (s : State) (hw : [.blks] ⊆ ps) :
    (State.setModem m x s).rest ps = s.rest ps := by
  simp_all [State.setModem]

@[simp] theorem State.hartFailed_rest (m addr : Nat) (s : State) (hw : [.eng, .regs] ⊆ ps) :
    (State.hartFailed m addr s).rest ps = s.rest ps := by
  unfold State.hartFailed
  repeat' split
  all_goals simp_all

@[simp] theorem State.loopHeard_rest (cell : Nat) (s : State) (hw : [.blks] ⊆ ps) :
    (State.loopHeard cell s).rest ps = s.rest ps := by
  simp_all [State.loopHeard]

@[simp] theorem State.hears_rest (cell : Nat) (g : HartFrame) (bytes : List Byte) (s : State) (hw : [.inp, .blks] ⊆ ps) :
    (State.hears cell g bytes s).rest ps = s.rest ps := by
  simp_all [State.hears]

@[simp] theorem State.onWire_rest (l : List PortOut) (s : State) (hw : [.wire] ⊆ ps) :
    (State.onWire l s).rest ps = s.rest ps := by
  simp_all [State.onWire, PortPart.rest, cleared]

@[simp] theorem State.sendEth_rest (i dst : Nat) (f : EthOut) (s : State) (hw : [.wire] ⊆ ps) :
    (State.sendEth i dst f s).rest ps = s.rest ps := by
  simp_all [State.sendEth]

@[simp] theorem State.learn_rest (i ip mac : Nat) (s : State) (hw : [.portSt, .wire] ⊆ ps) :
    (State.learn i ip mac s).rest ps = s.rest ps := by
  simp_all [State.learn]

@[simp] theorem State.countFrameErr_rest (i : Nat) (s : State) (hw : [.portSt] ⊆ ps) :
    (State.countFrameErr i s).rest ps = s.rest ps := by
  simp_all [State.countFrameErr]

@[simp] theorem State.countNoMatch_rest (i : Nat) (s : State) (hw : [.portSt] ⊆ ps) :
    (State.countNoMatch i s).rest ps = s.rest ps := by
  simp_all [State.countNoMatch]

@[simp] theorem State.dscIn_rest (i src dst : Nat) (data : List Byte) (s : State) (hw : [.inp, .portSt, .wire] ⊆ ps) :
    (State.dscIn i src dst data s).rest ps = s.rest ps := by
  unfold State.dscIn
  repeat' split
  all_goals simp_all

@[simp] theorem State.udpIn_rest (i src sport dst dport : Nat) (whole : Bool) (data : List Byte) (s : State) (hw : [.fr, .inp, .blks,
      .eng, .safety, .alm, .recd, .can, .twi, .power, .mem, .mdiag, .regs, .pair, .sess, .pend, .outbox, .owner, .portSt, .wire,
      .trace, .replay, .replayIn, .cfgEv, .hdr, .staging, .nextCfg, .restage, .slotA, .slotB, .store, .trims] ⊆ ps) :
    (State.udpIn i src sport dst dport whole data s).rest ps = s.rest ps := by
  simp_all [State.udpIn]

@[simp] theorem State.fragmentIn_rest (i src dst ident off : Nat) (more : Bool) (data : List Byte) (s : State) (hw : [.fr, .inp,
      .blks, .eng, .safety, .alm, .recd, .can, .twi, .power, .mem, .mdiag, .regs, .pair, .sess, .pend, .outbox, .owner, .portSt,
      .wire, .trace, .replay, .replayIn, .cfgEv, .hdr, .staging, .nextCfg, .restage, .slotA, .slotB, .store, .trims] ⊆ ps) :
    (State.fragmentIn i src dst ident off more data s).rest ps = s.rest ps := by
  unfold State.fragmentIn
  dsimp only
  split <;> simp_all

@[simp] theorem State.ethIn_rest (i : Nat) (m : EthMsg) (s : State) (hw : [.fr, .inp, .blks, .eng, .safety, .alm, .recd, .can, .twi,
      .power, .mem, .mdiag, .regs, .pair, .sess, .pend, .outbox, .owner, .portSt, .wire, .trace, .replay, .replayIn, .cfgEv, .hdr,
      .staging, .nextCfg, .restage, .slotA, .slotB, .store, .trims] ⊆ ps) :
    (State.ethIn i m s).rest ps = s.rest ps := by
  unfold State.ethIn
  repeat' split
  all_goals simp_all

@[simp] theorem State.serAborted_rest (s : State) (hw : [.portSt] ⊆ ps) :
    (State.serAborted s).rest ps = s.rest ps := by
  simp_all [State.serAborted]

@[simp] theorem State.serIn_rest (bytes : List Byte) (s : State) (hw : [.fr, .inp, .blks, .eng, .safety, .alm, .recd, .can, .twi,
      .power, .mem, .mdiag, .regs, .pair, .sess, .pend, .outbox, .owner, .portSt, .wire, .trace, .replay, .replayIn, .cfgEv, .hdr,
      .staging, .nextCfg, .restage, .slotA, .slotB, .store, .trims] ⊆ ps) :
    (State.serIn bytes s).rest ps = s.rest ps := by
  unfold State.serIn
  repeat' split
  all_goals simp_all

@[simp] theorem State.takeRx_rest (i : Nat) (x : RxItem) (s : State) (hw : [.fr, .inp, .blks, .eng, .safety, .alm, .recd, .can, .twi,
      .power, .mem, .mdiag, .regs, .pair, .sess, .pend, .outbox, .owner, .portSt, .wire, .trace, .replay, .replayIn, .cfgEv, .hdr,
      .staging, .nextCfg, .restage, .slotA, .slotB, .store, .trims] ⊆ ps) : (s.takeRx i x).rest ps = s.rest ps := by
  cases x <;> simp_all [State.takeRx]

@[simp] theorem State.drainPort_rest (s : State) (i : Nat) (hw : [.fr, .inp, .blks, .eng, .safety, .alm, .recd, .can, .twi, .power,
      .mem, .mdiag, .regs, .pair, .sess, .pend, .outbox, .owner, .portSt, .wire, .trace, .replay, .replayIn, .cfgEv, .hdr, .staging,
      .nextCfg, .restage, .slotA, .slotB, .store, .trims] ⊆ ps) :
    (State.drainPort s i).rest ps = s.rest ps := by
  simp_all [State.drainPort]

@[simp] theorem State.drainPorts_rest (s : State) (hw : [.fr, .inp, .blks, .eng, .safety, .alm, .recd, .can, .twi, .power, .mem,
      .mdiag, .regs, .pair, .sess, .pend, .outbox, .owner, .portSt, .wire, .trace, .replay, .replayIn, .cfgEv, .hdr, .staging,
      .nextCfg, .restage, .slotA, .slotB, .store, .trims] ⊆ ps) :
    (State.drainPorts s).rest ps = s.rest ps := by
  simp_all [State.drainPorts]

end

end Sys2Proof.Machine
end

