-- ==== Sys2Proof/Laws/PerInstr.lean ====
section
/-! SUPPORT. What the syntax of each command says of itself: an opcode row carries a listed opcode and a header in its widths. -/

namespace Sys2Proof.Laws.Wf

open Sys2Proof.Machine

/-- A well-formed command that stands for a packet carries an opcode of R334 to R340, and its header lies in its widths on a port of
this unit (R316). -/
def Statement (i : Instr) : Prop :=
  i.wellFormed = true → ∀ h op torn, packetOf i = some (h, op, torn) → opListed (opCode op) = true ∧ headOk h = true

/-- The first part of a conjunction that holds. -/
theorem left {a b : Bool} (w : (a && b) = true) : a = true := (Bool.and_eq_true_iff.mp w).1

/-- A command that stands for no packet. -/
theorem no_packet {i : Instr} (hp : packetOf i = none) : Statement i := by
  intro _ h op torn e
  rw [hp] at e
  cases e

/-- A command that stands for a packet. -/
theorem of_packet {i : Instr} {h0 : PktHead} {op0 : Op} {b : Bool} (hp : packetOf i = some (h0, op0, b))
    (n : Nat) (hn : opCode op0 = n) (hl : opListed n = true) (hh : i.wellFormed = true → headOk h0 = true) : Statement i := by
  intro w h op torn e
  rw [hp] at e
  cases e
  exact ⟨hn ▸ hl, hh w⟩

theorem frameStrobe (t : Nat) : Statement (.frameStrobe t) :=
  no_packet rfl

theorem blockLatch (t : Nat) (blk : Nat) (meas : List CellMeas) (clk : Nat) : Statement (.blockLatch t blk meas clk) :=
  no_packet rfl

theorem strobeCouplerError (t : Nat) (ch : Nat) : Statement (.strobeCouplerError t ch) :=
  no_packet rfl

theorem cellRecordMissing (t : Nat) (ch : Nat) : Statement (.cellRecordMissing t ch) :=
  no_packet rfl

theorem frameEvaluationStart (t : Nat) (held : Nat) : Statement (.frameEvaluationStart t held) :=
  no_packet rfl

theorem nimbusExchange (t : Nat) (g : Nat) : Statement (.nimbusExchange t g) :=
  no_packet rfl

theorem discrepancyFault (t : Nat) (f : Nat) : Statement (.discrepancyFault t f) :=
  no_packet rfl

theorem horizonPosting (t : Nat) (p : Posting) : Statement (.horizonPosting t p) :=
  no_packet rfl

theorem frameClose (e : FrameEnd) : Statement (.frameClose e) :=
  no_packet rfl

theorem alarmDelayExpiry (t : Nat) (p : Nat) : Statement (.alarmDelayExpiry t p) :=
  no_packet rfl

theorem suppressionHoldEnd (t : Nat) (p : Nat) : Statement (.suppressionHoldEnd t p) :=
  no_packet rfl

theorem shelfExpiry (t : Nat) (p : Nat) : Statement (.shelfExpiry t p) :=
  no_packet rfl

theorem groupObjectCycle (t : Nat) (g : Nat) : Statement (.groupObjectCycle t g) :=
  no_packet rfl

theorem callEscalation (t : Nat) : Statement (.callEscalation t) :=
  no_packet rfl

theorem deadManPre (t : Nat) : Statement (.deadManPre t) :=
  no_packet rfl

theorem deadManExpiry (t : Nat) : Statement (.deadManExpiry t) :=
  no_packet rfl

theorem callLinkLost (t : Nat) (k : Nat) : Statement (.callLinkLost t k) :=
  no_packet rfl

theorem callObjectCycle (t : Nat) (k : Nat) : Statement (.callObjectCycle t k) :=
  no_packet rfl

theorem frameLong (t : Nat) : Statement (.frameLong t) :=
  no_packet rfl

theorem engSilent (t : Nat) (e : Nat) : Statement (.engSilent t e) :=
  no_packet rfl

theorem dscWatchdogExpiry (t : Nat) (i : Nat) : Statement (.dscWatchdogExpiry t i) :=
  no_packet rfl

theorem dscFailsafeRecovery (t : Nat) (i : Nat) : Statement (.dscFailsafeRecovery t i) :=
  no_packet rfl

theorem dscRepeat (t : Nat) (i : Nat) : Statement (.dscRepeat t i) :=
  no_packet rfl

theorem dscErrDecay (t : Nat) (i : Nat) : Statement (.dscErrDecay t i) :=
  no_packet rfl

theorem sessionTimeout (t : Nat) (code : Nat) : Statement (.sessionTimeout t code) :=
  no_packet rfl

theorem leaseLapse (t : Nat) : Statement (.leaseLapse t) :=
  no_packet rfl

theorem offerLapse (t : Nat) : Statement (.offerLapse t) :=
  no_packet rfl

theorem claimWindowClose (t : Nat) : Statement (.claimWindowClose t) :=
  no_packet rfl

theorem packetReceive (t : Nat) (port : Nat) (ip : Nat) (udp : Nat) (bytes : List Byte) : Statement (.packetReceive t port ip udp bytes) :=
  no_packet rfl

theorem forwardedPacket (t : Nat) (code : Nat) (ip : Nat) (udp : Nat) (bytes : List Byte) : Statement (.forwardedPacket t code ip udp bytes) :=
  no_packet rfl

theorem ping (h : PktHead) : Statement (.ping h) :=
  of_packet rfl 0x0001 rfl rfl fun w => w

theorem openSession (h : PktHead) : Statement (.openSession h) :=
  of_packet rfl 0x0002 rfl rfl fun w => w

theorem closeSession (h : PktHead) : Statement (.closeSession h) :=
  of_packet rfl 0x0003 rfl rfl fun w => w

theorem readSummary (h : PktHead) : Statement (.readSummary h) :=
  of_packet rfl 0x0004 rfl rfl fun w => w

theorem readFrameStatus (h : PktHead) : Statement (.readFrameStatus h) :=
  of_packet rfl 0x0005 rfl rfl fun w => w

theorem clearFrameStatus (h : PktHead) : Statement (.clearFrameStatus h) :=
  of_packet rfl 0x0006 rfl rfl fun w => w

theorem warmRestart (h : PktHead) : Statement (.warmRestart h) :=
  of_packet rfl 0x0007 rfl rfl fun w => w

theorem warmRestartBegin (t : Nat) (bist : Bist) : Statement (.warmRestartBegin t bist) :=
  no_packet rfl

theorem traceOpen (h : PktHead) : Statement (.traceOpen h) :=
  of_packet rfl 0x0008 rfl rfl fun w => w

theorem traceClose (h : PktHead) : Statement (.traceClose h) :=
  of_packet rfl 0x0009 rfl rfl fun w => w

theorem replayStart (h : PktHead) : Statement (.replayStart h) :=
  of_packet rfl 0x000B rfl rfl fun w => w

theorem replayData (h : PktHead) (segment : Nat) (bytes : List Byte) : Statement (.replayData h segment bytes) :=
  of_packet rfl 0x000C rfl rfl fun w => left (left (w))

theorem claim (h : PktHead) : Statement (.claim h) :=
  of_packet rfl 0x0101 rfl rfl fun w => w

theorem renew (h : PktHead) : Statement (.renew h) :=
  of_packet rfl 0x0102 rfl rfl fun w => w

theorem handover (h : PktHead) (target : Nat) : Statement (.handover h target) :=
  of_packet rfl 0x0103 rfl rfl fun w => left (w)

theorem accept (h : PktHead) : Statement (.accept h) :=
  of_packet rfl 0x0104 rfl rfl fun w => w

theorem release (h : PktHead) : Statement (.release h) :=
  of_packet rfl 0x0105 rfl rfl fun w => w

theorem readOwner (h : PktHead) : Statement (.readOwner h) :=
  of_packet rfl 0x0106 rfl rfl fun w => w

theorem readObject (h : PktHead) (staging : Bool) (cls : Nat) (ix : Nat) (off : Nat) (len : Nat) : Statement (.readObject h staging cls ix off len) :=
  of_packet rfl 0x0201 rfl rfl fun w => left (left (left (left (w))))

theorem writeObject (h : PktHead) (cls : Nat) (ix : Nat) (off : Nat) (len : Nat) (data : List Byte) (mask : List Byte) : Statement (.writeObject h cls ix off len data mask) :=
  of_packet rfl 0x0202 rfl rfl fun w => left (left (left (left (left (left (w))))))

theorem commit (h : PktHead) : Statement (.commit h) :=
  of_packet rfl 0x0203 rfl rfl fun w => w

theorem discard (h : PktHead) : Statement (.discard h) :=
  of_packet rfl 0x0204 rfl rfl fun w => w

theorem readCrc (h : PktHead) : Statement (.readCrc h) :=
  of_packet rfl 0x0205 rfl rfl fun w => w

theorem readImage (h : PktHead) (slot : Nat) (off : Nat) (len : Nat) : Statement (.readImage h slot off len) :=
  of_packet rfl 0x0206 rfl rfl fun w => left (left (left (w)))

theorem loadImage (h : PktHead) (off : Nat) (data : List Byte) : Statement (.loadImage h off data) :=
  of_packet rfl 0x0207 rfl rfl fun w => left (left (w))

theorem readResults (h : PktHead) (first : Nat) (count : Nat) : Statement (.readResults h first count) :=
  of_packet rfl 0x0301 rfl rfl fun w => left (left (w))

theorem readRecords (h : PktHead) (first : Nat) (count : Nat) : Statement (.readRecords h first count) :=
  of_packet rfl 0x0302 rfl rfl fun w => left (left (w))

theorem readCjc (h : PktHead) : Statement (.readCjc h) :=
  of_packet rfl 0x0303 rfl rfl fun w => w

theorem writeDo (h : PktHead) (ch : Nat) (st : Bool) : Statement (.writeDo h ch st) :=
  of_packet rfl 0x0304 rfl rfl fun w => left (w)

theorem writeAo (h : PktHead) (ch : Nat) (v : Int) : Statement (.writeAo h ch v) :=
  of_packet rfl 0x0305 rfl rfl fun w => left (left (w))

theorem trimZero (h : PktHead) (ch : Nat) (ref : Int) : Statement (.trimZero h ch ref) :=
  of_packet rfl 0x0306 rfl rfl fun w => left (left (w))

theorem trimSpan (h : PktHead) (ch : Nat) (ref : Int) : Statement (.trimSpan h ch ref) :=
  of_packet rfl 0x0307 rfl rfl fun w => left (left (w))

theorem trimComplete (t : Nat) (ch : Nat) : Statement (.trimComplete t ch) :=
  no_packet rfl

theorem clearTotal (h : PktHead) (ch : Nat) : Statement (.clearTotal h ch) :=
  of_packet rfl 0x0308 rfl rfl fun w => left (w)

theorem readPoints (h : PktHead) (first : Nat) (count : Nat) : Statement (.readPoints h first count) :=
  of_packet rfl 0x0401 rfl rfl fun w => left (left (w))

theorem readGroups (h : PktHead) (first : Nat) (count : Nat) : Statement (.readGroups h first count) :=
  of_packet rfl 0x0402 rfl rfl fun w => left (left (w))

theorem ack (h : PktHead) (scope : Nat) (target : Nat) : Statement (.ack h scope target) :=
  of_packet rfl 0x0403 rfl rfl fun w => left (left (w))

theorem shelve (h : PktHead) (p : Nat) (d : Nat) : Statement (.shelve h p d) :=
  of_packet rfl 0x0404 rfl rfl fun w => left (left (w))

theorem unshelve (h : PktHead) (p : Nat) : Statement (.unshelve h p) :=
  of_packet rfl 0x0405 rfl rfl fun w => left (w)

theorem remove (h : PktHead) (p : Nat) : Statement (.remove h p) :=
  of_packet rfl 0x0406 rfl rfl fun w => left (w)

theorem return_ (h : PktHead) (p : Nat) : Statement (.return_ h p) :=
  of_packet rfl 0x0407 rfl rfl fun w => left (w)

theorem readCall (h : PktHead) : Statement (.readCall h) :=
  of_packet rfl 0x0408 rfl rfl fun w => w

theorem selectDuty (h : PktHead) (station : Nat) : Statement (.selectDuty h station) :=
  of_packet rfl 0x0409 rfl rfl fun w => left (w)

theorem readEvents (h : PktHead) (sealLog : Bool) (rsv : Nat) (maxN : Nat) (fromSeq : Nat) : Statement (.readEvents h sealLog rsv maxN fromSeq) :=
  of_packet rfl 0x0501 rfl rfl fun w => left (left (left (w)))

theorem readRecorder (h : PktHead) : Statement (.readRecorder h) :=
  of_packet rfl 0x0502 rfl rfl fun w => w

theorem readTime (h : PktHead) (torn : Bool) : Statement (.readTime h torn) :=
  of_packet rfl 0x0601 rfl rfl fun w => w

theorem stageTime (h : PktHead) (set : List Byte) : Statement (.stageTime h set) :=
  of_packet rfl 0x0602 rfl rfl fun w => left (w)

theorem commitTime (h : PktHead) : Statement (.commitTime h) :=
  of_packet rfl 0x0603 rfl rfl fun w => w

theorem setWeekday (h : PktHead) (w : Nat) : Statement (.setWeekday h w) :=
  of_packet rfl 0x0604 rfl rfl fun w => left (w)

theorem readBackup (h : PktHead) (off : Nat) (len : Nat) : Statement (.readBackup h off len) :=
  of_packet rfl 0x0605 rfl rfl fun w => left (left (w))

theorem writeBackup (h : PktHead) (off : Nat) (len : Nat) (data : List Byte) : Statement (.writeBackup h off len data) :=
  of_packet rfl 0x0606 rfl rfl fun w => left (left (left (w)))

theorem readSafety (h : PktHead) (first : Nat) (count : Nat) : Statement (.readSafety h first count) :=
  of_packet rfl 0x0701 rfl rfl fun w => left (left (w))

theorem safetyReset (h : PktHead) (f : Nat) : Statement (.safetyReset h f) :=
  of_packet rfl 0x0702 rfl rfl fun w => left (w)

theorem confirm (h : PktHead) (crc : Nat) : Statement (.confirm h crc) :=
  of_packet rfl 0x0703 rfl rfl fun w => left (w)

theorem readDsc (h : PktHead) (first : Nat) (count : Nat) : Statement (.readDsc h first count) :=
  of_packet rfl 0x0704 rfl rfl fun w => left (left (w))

theorem dscReset (h : PktHead) (i : Nat) : Statement (.dscReset h i) :=
  of_packet rfl 0x0705 rfl rfl fun w => left (w)

theorem readPair (h : PktHead) : Statement (.readPair h) :=
  of_packet rfl 0x0801 rfl rfl fun w => w

theorem resync (h : PktHead) : Statement (.resync h) :=
  of_packet rfl 0x0802 rfl rfl fun w => w

theorem switchover (h : PktHead) : Statement (.switchover h) :=
  of_packet rfl 0x0803 rfl rfl fun w => w

theorem switchoverHandoff (t : Nat) : Statement (.switchoverHandoff t) :=
  no_packet rfl

theorem readDiag (h : PktHead) (level : Nat) (index : Nat) : Statement (.readDiag h level index) :=
  of_packet rfl 0x0901 rfl rfl fun w => left (left (w))

theorem readMemory (h : PktHead) : Statement (.readMemory h) :=
  of_packet rfl 0x0902 rfl rfl fun w => w

theorem clearCounters (h : PktHead) : Statement (.clearCounters h) :=
  of_packet rfl 0x0903 rfl rfl fun w => w

theorem readCan (h : PktHead) (ctl : Nat) : Statement (.readCan h ctl) :=
  of_packet rfl 0x0A01 rfl rfl fun w => left (w)

theorem readCanobj (h : PktHead) (obj : Nat) : Statement (.readCanobj h obj) :=
  of_packet rfl 0x0A02 rfl rfl fun w => left (w)

theorem writeCanobj (h : PktHead) (obj : Nat) (data : List Byte) : Statement (.writeCanobj h obj data) :=
  of_packet rfl 0x0A03 rfl rfl fun w => left (left (w))

theorem readHart (h : PktHead) (ch : Nat) (addr : Nat) (count : Nat) : Statement (.readHart h ch addr count) :=
  of_packet rfl 0x0B01 rfl rfl fun w => left (left (left (w)))

theorem readIdentity (h : PktHead) : Statement (.readIdentity h) :=
  of_packet rfl 0x0C01 rfl rfl fun w => w

theorem readFirmware (h : PktHead) : Statement (.readFirmware h) :=
  of_packet rfl 0x0C02 rfl rfl fun w => w

theorem conversionComplete (t blk : Nat) (lo hi tone : Int) (ov : PathOver) (compl : Bool) : Statement (.conversionComplete t blk lo hi tone ov compl) :=
  no_packet rfl

theorem selfTestSlot (t : Nat) (blk : Nat) (lo : Int) (hi : Int) : Statement (.selfTestSlot t blk lo hi) :=
  no_packet rfl

theorem excitationEvent (t : Nat) (blk : Nat) (opened : Bool) (compl : Bool) : Statement (.excitationEvent t blk opened compl) :=
  no_packet rfl

theorem blankLineChange (t : Nat) (heldUs : Nat) (level : Bool) : Statement (.blankLineChange t heldUs level) :=
  no_packet rfl

theorem blankLong (t : Nat) (ch : Nat) : Statement (.blankLong t ch) :=
  no_packet rfl

theorem cjcReading (t : Nat) (conn : Nat) (reading : Option Int) : Statement (.cjcReading t conn reading) :=
  no_packet rfl

theorem debouncedEdge (t ch : Nat) (e : EdgeSeen) : Statement (.debouncedEdge t ch e) :=
  no_packet rfl

theorem testPulseStart (t : Nat) (blk : Nat) (level : Nat) : Statement (.testPulseStart t blk level) :=
  no_packet rfl

theorem testPulseEnd (t : Nat) (blk : Nat) (termV : Int) (current : Nat) (levelOn : Bool) : Statement (.testPulseEnd t blk termV current levelOn) :=
  no_packet rfl

theorem fsLowSet (t : Nat) (blk : Nat) (mv : Nat) (heldUs : Nat) : Statement (.fsLowSet t blk mv heldUs) :=
  no_packet rfl

theorem fsLowClear (t : Nat) (blk : Nat) (mv : Nat) (heldUs : Nat) : Statement (.fsLowClear t blk mv heldUs) :=
  no_packet rfl

theorem fsOffSet (t : Nat) (blk : Nat) (mv : Nat) (heldUs : Nat) : Statement (.fsOffSet t blk mv heldUs) :=
  no_packet rfl

theorem fsOffEnd (t : Nat) (blk : Nat) (mv : Nat) (heldUs : Nat) : Statement (.fsOffEnd t blk mv heldUs) :=
  no_packet rfl

theorem logicSilence (t : Nat) (ch : Nat) (silentUs : Nat) (strobe : Bool) : Statement (.logicSilence t ch silentUs strobe) :=
  no_packet rfl

theorem foldback (t : Nat) (ch : Nat) (i : Int) (mw : Nat) (heldUs : Nat) : Statement (.foldback t ch i mw heldUs) :=
  no_packet rfl

theorem foldbackHoldEnd (t : Nat) (ch : Nat) : Statement (.foldbackHoldEnd t ch) :=
  no_packet rfl

theorem foldbackRampStep (t : Nat) (ch : Nat) : Statement (.foldbackRampStep t ch) :=
  no_packet rfl

theorem enableFlagLoss (t : Nat) (blk : Nat) : Statement (.enableFlagLoss t blk) :=
  no_packet rfl

theorem enableFlagSet (t : Nat) (blk : Nat) : Statement (.enableFlagSet t blk) :=
  no_packet rfl

theorem blockPowerLost (t : Nat) (blk : Nat) (mv : Nat) : Statement (.blockPowerLost t blk mv) :=
  no_packet rfl

theorem blockPowerRestore (t : Nat) (blk : Nat) (mv : Nat) (heldUs : Nat) : Statement (.blockPowerRestore t blk mv heldUs) :=
  no_packet rfl

theorem cellTherm (t : Nat) (ch : Nat) (temp : Int) (heldUs : Nat) : Statement (.cellTherm t ch temp heldUs) :=
  no_packet rfl

theorem islandPwr (t : Nat) (blk : Nat) (islandMv : Nat) (fsMv : Nat) (nominalMv : Nat) (heldUs : Nat) : Statement (.islandPwr t blk islandMv fsMv nominalMv heldUs) :=
  no_packet rfl

theorem clockCheck (t : Nat) (dom : Nat) (dev : Int) : Statement (.clockCheck t dom dev) :=
  no_packet rfl

theorem zenLockstep (t : Nat) : Statement (.zenLockstep t) :=
  no_packet rfl

theorem hartRequestDue (t : Nat) (cell : Nat) (cmd : Nat) (addr : Nat) (carrier : Bool) : Statement (.hartRequestDue t cell cmd addr carrier) :=
  no_packet rfl

theorem hartReplyTimeout (t : Nat) (q : HartSilence) : Statement (.hartReplyTimeout t q) :=
  no_packet rfl

theorem hartReply (t cell : Nat) (r : HartChars) : Statement (.hartReply t cell r) :=
  no_packet rfl

theorem canFrameReceived (t : Nat) (ctl : Nat) (m : CanMsg) : Statement (.canFrameReceived t ctl m) :=
  no_packet rfl

theorem canMessageTake (t : Nat) (obj : Nat) (poison : Bool) : Statement (.canMessageTake t obj poison) :=
  no_packet rfl

theorem canTxSuccess (t : Nat) (ctl : Nat) (who : CanWho) : Statement (.canTxSuccess t ctl who) :=
  no_packet rfl

theorem canTxError (t : Nat) (ctl : Nat) (who : CanWho) (err : Nat) (dominant : Bool) : Statement (.canTxError t ctl who err dominant) :=
  no_packet rfl

theorem canBusoffRecovery (t : Nat) (ctl : Nat) (seen : Nat) : Statement (.canBusoffRecovery t ctl seen) :=
  no_packet rfl

theorem canReferenceMessage (t : Nat) (ctl : Nat) : Statement (.canReferenceMessage t ctl) :=
  no_packet rfl

theorem canTtWindow (t : Nat) (obj : Nat) (idle : Bool) : Statement (.canTtWindow t obj idle) :=
  no_packet rfl

theorem isotpTimeout (t : Nat) (ctl : Nat) : Statement (.isotpTimeout t ctl) :=
  no_packet rfl

theorem ethFrameReceived (t : Nat) (port : Nat) (m : EthMsg) : Statement (.ethFrameReceived t port m) :=
  no_packet rfl

theorem fragDrop (t : Nat) (port : Nat) (src : Nat) : Statement (.fragDrop t port src) :=
  no_packet rfl

theorem arpWaitTimeout (t : Nat) (port : Nat) (hop : Nat) : Statement (.arpWaitTimeout t port hop) :=
  no_packet rfl

theorem arpEntryAgeOut (t : Nat) (port : Nat) (ip : Nat) : Statement (.arpEntryAgeOut t port ip) :=
  no_packet rfl

theorem gratuitousArp (t : Nat) (port : Nat) : Statement (.gratuitousArp t port) :=
  no_packet rfl

theorem portLink (t : Nat) (port : Nat) (up : Bool) (speed : Nat) : Statement (.portLink t port up speed) :=
  no_packet rfl

theorem plcaStatus (t : Nat) (p : PlcaSeen) : Statement (.plcaStatus t p) :=
  no_packet rfl

theorem serFrameReceived (t : Nat) (bytes : List Byte) : Statement (.serFrameReceived t bytes) :=
  no_packet rfl

theorem serGapTimeout (t : Nat) (gapUs : Nat) : Statement (.serGapTimeout t gapUs) :=
  no_packet rfl

theorem modbusRequest (t : Nat) (r : RtuRequest) : Statement (.modbusRequest t r) :=
  no_packet rfl

theorem eventRecordWrite (t : Nat) : Statement (.eventRecordWrite t) :=
  no_packet rfl

theorem lostRecordAdmit (t : Nat) : Statement (.lostRecordAdmit t) :=
  no_packet rfl

theorem operatingSecond (t : Nat) : Statement (.operatingSecond t) :=
  no_packet rfl

theorem twilightLock (t : Nat) (mv : Nat) : Statement (.twilightLock t mv) :=
  no_packet rfl

theorem twilightToBackup (t : Nat) (mv : Nat) : Statement (.twilightToBackup t mv) :=
  no_packet rfl

theorem twilightToRail (t : Nat) (mv : Nat) : Statement (.twilightToRail t mv) :=
  no_packet rfl

theorem twilightUnlock (t : Nat) (mv : Nat) (heldUs : Nat) : Statement (.twilightUnlock t mv heldUs) :=
  no_packet rfl

theorem twilightContentLost (t : Nat) (mv : Nat) : Statement (.twilightContentLost t mv) :=
  no_packet rfl

theorem rtcSecond (t : Nat) : Statement (.rtcSecond t) :=
  no_packet rfl

theorem bakLowCheck (t : Nat) (mv : Nat) (temp : Int) : Statement (.bakLowCheck t mv temp) :=
  no_packet rfl

theorem rtcFreeze (t : Nat) : Statement (.rtcFreeze t) :=
  no_packet rfl

theorem rtcRelease (t : Nat) : Statement (.rtcRelease t) :=
  no_packet rfl

theorem rtcFreezeTimeout (t : Nat) : Statement (.rtcFreezeTimeout t) :=
  no_packet rfl

theorem twilightTimeCommit (t : Nat) : Statement (.twilightTimeCommit t) :=
  no_packet rfl

theorem twilightSetWday (t : Nat) (w : Nat) : Statement (.twilightSetWday t w) :=
  no_packet rfl

theorem twilightLoadAlarms (t : Nat) : Statement (.twilightLoadAlarms t) :=
  no_packet rfl

theorem twilightBramCommit (t : Nat) : Statement (.twilightBramCommit t) :=
  no_packet rfl

theorem twilightRegisterWrite (t : Nat) (off : Nat) (v : Nat) : Statement (.twilightRegisterWrite t off v) :=
  no_packet rfl

theorem rtcAlarmStamp (t : Nat) (alarm : Nat) : Statement (.rtcAlarmStamp t alarm) :=
  no_packet rfl

theorem feedState (t : Nat) (feed : Nat) (mv : Nat) (heldUs : Nat) : Statement (.feedState t feed mv heldUs) :=
  no_packet rfl

theorem fsFeed (t : Nat) (feed : Nat) (mv : Nat) (heldUs : Nat) : Statement (.fsFeed t feed mv heldUs) :=
  no_packet rfl

theorem supplyDecline (t : Nat) (mv : Nat) (heldUs : Nat) : Statement (.supplyDecline t mv heldUs) :=
  no_packet rfl

theorem supplyRecovery (t : Nat) (mv : Nat) (heldUs : Nat) (bist : Bist) : Statement (.supplyRecovery t mv heldUs bist) :=
  no_packet rfl

theorem powerOn (t : Nat) (held : Bool) (bist : Bist) : Statement (.powerOn t held bist) :=
  no_packet rfl

theorem roleDecision (t : Nat) : Statement (.roleDecision t) :=
  no_packet rfl

theorem resetButtonRelease (t : Nat) (closedMs : Nat) (openMs : Nat) (bist : Bist) : Statement (.resetButtonRelease t closedMs openMs bist) :=
  no_packet rfl

theorem resetInputStuck (t : Nat) (bist : Bist) : Statement (.resetInputStuck t bist) :=
  no_packet rfl

theorem resetInputFreed (t : Nat) (openMs : Nat) (bist : Bist) : Statement (.resetInputFreed t openMs bist) :=
  no_packet rfl

theorem offEntry (t : Nat) (openMs : Nat) : Statement (.offEntry t openMs) :=
  no_packet rfl

theorem wake (t : Nat) (closedMs : Nat) (alarm : Option Nat) (bist : Bist) : Statement (.wake t closedMs alarm bist) :=
  no_packet rfl

theorem correctionWriteback (t mem bank cw req : Nat) (a : MemCycle) : Statement (.correctionWriteback t mem bank cw req a) :=
  no_packet rfl

theorem hazeStep (t : Nat) (mem : Nat) (bank : Nat) (cw : Nat) (march : Bool) (words : List Nat) : Statement (.hazeStep t mem bank cw march words) :=
  no_packet rfl

theorem hazeYield (t : Nat) (mem : Nat) (bank : Nat) (cw : Nat) (march : Bool) : Statement (.hazeYield t mem bank cw march) :=
  no_packet rfl

theorem hazePassEnd (t : Nat) (mem : Nat) (march : Bool) : Statement (.hazePassEnd t mem march) :=
  no_packet rfl

theorem configStoreComplete (t : Nat) (differs : Option Nat) : Statement (.configStoreComplete t differs) :=
  no_packet rfl

theorem haloHoldChange (t : Nat) (level : Nat) (own : Bool) : Statement (.haloHoldChange t level own) :=
  no_packet rfl

theorem witnessTokenDecision (t : Nat) : Statement (.witnessTokenDecision t) :=
  no_packet rfl

theorem witnessStartTimeout (t : Nat) : Statement (.witnessStartTimeout t) :=
  no_packet rfl

theorem tokenChange (t : Nat) (token : Nat) : Statement (.tokenChange t token) :=
  no_packet rfl

theorem activeYieldB (t : Nat) (heldUs : Nat) : Statement (.activeYieldB t heldUs) :=
  no_packet rfl

theorem selfCheckFail (t : Nat) : Statement (.selfCheckFail t) :=
  no_packet rfl

theorem laneError (t : Nat) (lane : Nat) : Statement (.laneError t lane) :=
  no_packet rfl

theorem laneSilence (t : Nat) (lane : Nat) : Statement (.laneSilence t lane) :=
  no_packet rfl

theorem laneUp (t : Nat) (lane : Nat) : Statement (.laneUp t lane) :=
  no_packet rfl

theorem contrailBlockReceive (t : Nat) (r : LinkReceipt) : Statement (.contrailBlockReceive t r) :=
  no_packet rfl

theorem standbyStrobe (t : Nat) : Statement (.standbyStrobe t) :=
  no_packet rfl

theorem standbyNoticeTimeout (t : Nat) : Statement (.standbyNoticeTimeout t) :=
  no_packet rfl

theorem digestCompare (t lane frame partner : Nat) : Statement (.digestCompare t lane frame partner) :=
  no_packet rfl

theorem resyncAutoStart (t : Nat) : Statement (.resyncAutoStart t) :=
  no_packet rfl

theorem resyncCopyDone (e : ResyncEnd) : Statement (.resyncCopyDone e) :=
  no_packet rfl

theorem resyncCompareDone (t : Nat) (ok : Bool) : Statement (.resyncCompareDone t ok) :=
  no_packet rfl

theorem canRxError (t : Nat) (ctl : Nat) (err : Nat) (eight : Bool) : Statement (.canRxError t ctl err eight) :=
  no_packet rfl

theorem canProtocolException (t : Nat) (ctl : Nat) (fmt : Nat) : Statement (.canProtocolException t ctl fmt) :=
  no_packet rfl

theorem witnessHolderGraceEnd (t : Nat) : Statement (.witnessHolderGraceEnd t) :=
  no_packet rfl

theorem hartCarrierEnd (t : Nat) (cell : Nat) : Statement (.hartCarrierEnd t cell) :=
  no_packet rfl

theorem switchCurrentLimit (t : Nat) (ch : Nat) (rail : Bool) : Statement (.switchCurrentLimit t ch rail) :=
  no_packet rfl

theorem thermalShutdown (t : Nat) (ch : Nat) : Statement (.thermalShutdown t ch) :=
  no_packet rfl

theorem serAbort (t : Nat) : Statement (.serAbort t) :=
  no_packet rfl

end Sys2Proof.Laws.Wf
end

