-- ==== Sys2Proof/Laws/StartsFrame.lean ====
section
/-! SUPPORT. What a start-up may write. -/

namespace Sys2Proof.Machine

section
variable {ps : List Part}

@[simp] theorem State.sramClear_rest (s : State) (hw : [.phase, .fr, .inp, .blks, .eng, .safety, .alm, .recd, .can, .shown, .power,
      .mem, .mdiag, .regs, .pair, .sess, .pend, .owner, .portSt, .trace, .replay, .replayIn, .cfgEv, .rtcEv, .image, .hdr, .staging,
      .nextCfg, .restage, .store, .trims] ⊆ ps) :
    (State.sramClear s).rest ps = s.rest ps := by
  simp_all [State.sramClear, State.rest, PortPart.rest, CfgPart.rest, UnitPart.rest, cleared]

@[simp] theorem State.modFails_rest (k : Nat) (f : Nat → Nat) (s : State) (hw : [.fw1, .fw2] ⊆ ps) :
    (State.modFails k f s).rest ps = s.rest ps := by
  unfold State.modFails
  apply State.modUnt_rest
  intro u
  split <;> simp_all [UnitPart.rest, cleared]

@[simp] theorem State.zenithStarts_rest (s : State) (hw : [.recd, .clock] ⊆ ps) :
    (State.zenithStarts s).rest ps = s.rest ps := by
  simp_all [State.zenithStarts, State.rest, PortPart.rest, CfgPart.rest, UnitPart.rest, cleared]

theorem State.loadOnce_rest (s : State) {x : State × Option (Nat × Nat)} (e : s.loadOnce = some x) (hw : [.phase, .fr, .inp, .blks,
      .eng, .safety, .alm, .recd, .can, .shown, .clock, .power, .fw1, .fw2, .runSlot, .mem, .mdiag, .regs, .pair, .sess, .pend,
      .owner, .portSt, .trace, .replay, .replayIn, .cfgEv, .rtcEv, .image, .hdr, .staging, .nextCfg, .restage, .store, .trims] ⊆ ps) :
    x.1.rest ps = s.rest ps := by
  unfold State.loadOnce at e
  dsimp only at e
  split at e
  · cases e
  · cases e
    simp_all [UnitPart.rest, cleared]

@[simp] theorem State.bistMarks_rest (b : Bist) (s : State) (hw : [.blks, .power, .mem, .mdiag, .regs, .pair] ⊆ ps) :
    (State.bistMarks b s).rest ps = s.rest ps := by
  unfold State.bistMarks
  dsimp only
  repeat' split
  all_goals simp_all [UnitPart.rest, cleared]

@[simp] theorem State.clearMarks_rest (l : List (Nat × Nat × Nat × Nat)) (s : State) (hw : [.mem, .mdiag] ⊆ ps) :
    (s.clearMarks l).1.rest ps = s.rest ps := by
  unfold State.clearMarks
  have : ∀ (l : List (Nat × Nat × Nat × Nat)) (a : State × List EvReq), (l.foldl (fun x c =>
      let r := memMarch c.1 c.2.1 c.2.2.1 0 c.2.2.2 (tabGet {} x.1.unt.mem c.1)
      ((x.1.modUnt fun u => { u with mem := tabSet {} u.mem c.1 r.1 }).modMdiag fun d => { d with memMarch := true }, x.2 ++ r.2))
      a).1.rest ps = a.1.rest ps := by
    intro l
    induction l with
    | nil => intro a; rfl
    | cons c l ih => intro a; rw [List.foldl_cons, ih]; simp_all [UnitPart.rest, cleared]
  exact this l (s, [])

@[simp] theorem State.markRefused_rest (l : List Nat) (s : State) (hw : [.slotA, .slotB] ⊆ ps) :
    (State.markRefused l s).rest ps = s.rest ps := by
  simp_all [State.markRefused]

@[simp] theorem State.loadConfig_rest (s : State) (hw : [.power, .image, .hdr, .staging, .slotA,
      .slotB] ⊆ ps) : s.loadConfig.1.rest ps = s.rest ps := by
  unfold State.loadConfig
  dsimp only
  split <;> simp_all [CfgPart.rest, cleared]

@[simp] theorem State.configure_rest (mask : Nat) (was : BlkPart) (s : State) (hw : [.blks, .eng, .alm, .recd, .can, .twi] ⊆ ps) :
    (State.configure mask was s).rest ps = s.rest ps := by
  simp_all [State.configure]
  simp_all [State.rest, cleared]

@[simp] theorem State.strobeZero_rest (s : State) (hw : [.mode, .fr, .recd, .twi, .power, .fw1, .fw2] ⊆ ps) :
    (State.strobeZero s).rest ps = s.rest ps := by
  simp_all [State.strobeZero]

@[simp] theorem State.beginRole_rest (s : State) (hw : [.mode, .fr, .recd, .twi, .power, .fw1, .fw2, .pair] ⊆ ps) :
    (State.beginRole s).rest ps = s.rest ps := by
  simp_all [State.beginRole]

@[simp] theorem State.bootRest_rest (b : Bist) (cause : Nat) (stuck : Bool) (was : BlkPart) (skip : Option (Nat × Nat)) (s : State)
    (hw : [.mode, .fr, .blks, .eng, .alm, .recd, .can, .twi, .power, .fw1, .fw2, .mem, .mdiag, .regs, .pair, .image, .hdr, .staging,
      .slotA, .slotB] ⊆ ps) :
    (State.bootRest b cause stuck was skip s).rest ps = s.rest ps := by
  simp_all [State.bootRest]

@[simp] theorem State.bootDead_rest (s : State) (hw : [.mode, .pair] ⊆ ps) :
    (State.bootDead s).rest ps = s.rest ps := by
  simp_all [State.bootDead]

@[simp] theorem State.witnessStart_rest (cause : Nat) (s : State) (hw : [.pair, .wit] ⊆ ps) :
    (State.witnessStart cause s).rest ps = s.rest ps := by
  simp_all [State.witnessStart, UnitPart.rest, cleared]

@[simp] theorem State.boot_rest (b : Bist) (cause : Nat) (stuck : Bool) (s0 : State) (hw : [.mode, .phase, .fr, .inp, .blks, .eng,
      .safety, .alm, .recd, .can, .twi, .shown, .clock, .power, .fw1, .fw2, .runSlot, .mem, .mdiag, .regs, .pair, .wit, .sess, .pend,
      .owner, .portSt, .trace, .replay, .replayIn, .cfgEv, .rtcEv, .image, .hdr, .staging, .nextCfg, .restage, .slotA, .slotB, .store,
      .trims] ⊆ ps) :
    (State.boot b cause stuck s0).rest ps = s0.rest ps := by
  unfold State.boot
  dsimp only
  split
  · simp_all
  · rename_i x e
    have h1 := State.loadOnce_rest (ps := ps) _ e (by simp_all)
    repeat' split
    · simp_all
    · simp_all
    · rename_i y f _
      have h2 := State.loadOnce_rest (ps := ps) _ f (by simp_all)
      simp_all
    · rename_i y f _ _
      have h2 := State.loadOnce_rest (ps := ps) _ f (by simp_all)
      simp_all
    · rename_i y f _ _
      have h2 := State.loadOnce_rest (ps := ps) _ f (by simp_all)
      simp_all

@[simp] theorem State.orderlyStop_rest (reason : Nat) (s : State) (hw : [.mode, .recd, .power, .pair, .store] ⊆ ps) :
    (State.orderlyStop reason s).rest ps = s.rest ps := by
  simp_all [State.orderlyStop, CfgPart.rest, cleared]

@[simp] theorem State.bootHeld_rest (b : Bist) (s : State) (hw : [.mode, .phase, .fr, .inp, .blks, .eng, .safety, .alm, .recd, .can,
      .shown, .power, .mem, .mdiag, .regs, .pair, .wit, .sess, .pend, .owner, .portSt, .trace, .replay, .replayIn, .cfgEv, .rtcEv,
      .image, .hdr, .staging, .nextCfg, .restage, .store, .trims] ⊆ ps) :
    (State.bootHeld b s).rest ps = s.rest ps := by
  simp_all [State.bootHeld]

@[simp] theorem State.bootOn_rest (b : Bist) (stuck : Bool) (s : State) (hw : [.mode, .phase, .fr, .inp, .blks, .eng, .safety, .alm,
      .recd, .can, .twi, .shown, .clock, .power, .fw1, .fw2, .runSlot, .mem, .mdiag, .regs, .pair, .wit, .sess, .pend, .owner,
      .portSt, .trace, .replay, .replayIn, .cfgEv, .rtcEv, .image, .hdr, .staging, .nextCfg, .restage, .slotA, .slotB, .store,
      .trims] ⊆ ps) :
    (State.bootOn b stuck s).rest ps = s.rest ps := by
  simp_all [State.bootOn]

@[simp] theorem State.blocksOff_rest (s : State) (hw : [.blks] ⊆ ps) :
    (State.blocksOff s).rest ps = s.rest ps := by
  simp_all [State.blocksOff]

end

end Sys2Proof.Machine
end

