-- ==== Sys2Proof/Laws/Table.lean ====
section
/-! SUPPORT. Sparse tables: what a read gives after a write, and that every operation keeps the canonical form. -/

namespace Sys2Proof.Machine
set_option Elab.async false

variable {α : Type}

theorem tabGetD_insert (d : Nat → α) (t : Tab α) (k j : Nat) (v : α) :
    tabGetD d (tabInsert t k v) j = if k = j then v else tabGetD d t j := by
  induction t with
  | nil => simp [tabInsert, tabGetD]
  | cons e r ih =>
    obtain ⟨a, w⟩ := e
    unfold tabInsert
    split
    · simp [tabGetD]
    · split
      · rename_i h; subst h; simp only [tabGetD]; split <;> rfl
      · simp only [tabGetD, ih]
        rename_i h
        by_cases h1 : a = j
        · subst h1; simp [h]
        · simp [h1]

theorem tabGetD_erase_ne (d : Nat → α) (t : Tab α) {k j : Nat} (h : k ≠ j) : tabGetD d (tabErase t k) j = tabGetD d t j := by
  induction t with
  | nil => rfl
  | cons e r ih =>
    obtain ⟨a, w⟩ := e
    simp only [tabErase]
    split
    · rename_i h1; subst h1; rw [ih]; simp [tabGetD, h]
    · simp only [tabGetD, ih]

theorem tabGetD_erase_self (d : Nat → α) (t : Tab α) (k : Nat) : tabGetD d (tabErase t k) k = d k := by
  induction t with
  | nil => rfl
  | cons e r ih =>
    obtain ⟨a, w⟩ := e
    simp only [tabErase]
    split
    · exact ih
    · rename_i h; simp [tabGetD, h, ih]

variable [DecidableEq α]

/-- A write leaves every other key as it was. -/
theorem tabGetD_set_ne (d : Nat → α) (t : Tab α) {k j : Nat} (v : α) (h : k ≠ j) : tabGetD d (tabSetD d t k v) j = tabGetD d t j := by
  unfold tabSetD
  split
  · exact tabGetD_erase_ne d t h
  · rw [tabGetD_insert, if_neg h]

@[simp] theorem tabGet_set_ne (d : α) (t : Tab α) {k j : Nat} (v : α) (h : k ≠ j) : tabGet d (tabSet d t k v) j = tabGet d t j :=
  tabGetD_set_ne _ t v h

@[simp] theorem tabGet_mod_ne (d : α) (t : Tab α) {k j : Nat} (f : α → α) (h : k ≠ j) : tabGet d (tabMod d t k f) j = tabGet d t j :=
  tabGet_set_ne d t _ h

/-- A write is read back, the default value too. -/
theorem tabGetD_set_self (d : Nat → α) (t : Tab α) (k : Nat) (v : α) : tabGetD d (tabSetD d t k v) k = v := by
  unfold tabSetD
  split
  · rename_i h; rw [tabGetD_erase_self, h]
  · rw [tabGetD_insert, if_pos rfl]

@[simp] theorem tabGet_set_self (d : α) (t : Tab α) (k : Nat) (v : α) : tabGet d (tabSet d t k v) k = v := tabGetD_set_self _ t k v

@[simp] theorem tabGet_mod_self (d : α) (t : Tab α) (k : Nat) (f : α → α) : tabGet d (tabMod d t k f) k = f (tabGet d t k) :=
  tabGet_set_self d t k _

/-! ## The canonical form -/

omit [DecidableEq α] in
theorem tabSorted_all {b : Nat} {t : Tab α} (h : tabSorted (some b) t = true) : ∀ e ∈ t, b < e.1 := by
  induction t generalizing b with
  | nil => simp
  | cons e r ih =>
    obtain ⟨a, w⟩ := e
    simp only [tabSorted, Bool.and_eq_true, decide_eq_true_eq] at h
    intro e he
    rcases List.mem_cons.1 he with rfl | he
    · exact h.1
    · exact Nat.lt_trans h.1 (ih h.2 e he)

omit [DecidableEq α] in
theorem tabSorted_weaken {b c : Nat} {t : Tab α} (h : tabSorted (some b) t = true) (hc : c ≤ b) : tabSorted (some c) t = true := by
  cases t with
  | nil => rfl
  | cons e r =>
    obtain ⟨a, w⟩ := e
    simp only [tabSorted, Bool.and_eq_true, decide_eq_true_eq] at h ⊢
    exact ⟨by omega, h.2⟩

omit [DecidableEq α] in
theorem tabSorted_none {b : Nat} {t : Tab α} (h : tabSorted (some b) t = true) : tabSorted none t = true := by
  cases t with
  | nil => rfl
  | cons e r => exact (Bool.and_eq_true_iff.1 h).2

omit [DecidableEq α] in
theorem tabSorted_erase {b : Option Nat} {t : Tab α} {k : Nat} (h : tabSorted b t = true) : tabSorted b (tabErase t k) = true := by
  induction t generalizing b with
  | nil => cases b <;> rfl
  | cons e r ih =>
    obtain ⟨a, w⟩ := e
    simp only [tabErase]
    split
    · cases b with
      | none => exact ih (tabSorted_none h)
      | some b =>
        simp only [tabSorted, Bool.and_eq_true, decide_eq_true_eq] at h
        exact ih (tabSorted_weaken h.2 (Nat.le_of_lt h.1))
    · cases b with
      | none => exact ih h
      | some b =>
        simp only [tabSorted, Bool.and_eq_true, decide_eq_true_eq] at h ⊢
        exact ⟨h.1, ih h.2⟩

omit [DecidableEq α] in
theorem tabSorted_insert {b : Option Nat} {t : Tab α} {k : Nat} {v : α} (h : tabSorted b t = true) (hb : ∀ x, b = some x → x < k) :
    tabSorted b (tabInsert t k v) = true := by
  induction t generalizing b with
  | nil => cases b with
    | none => rfl
    | some x => simp [tabInsert, tabSorted, hb x rfl]
  | cons e r ih =>
    obtain ⟨a, w⟩ := e
    have hr : tabSorted (some a) r = true := by
      cases b with
      | none => exact h
      | some x => exact (Bool.and_eq_true_iff.1 h).2
    have wrap (t' : Tab α) (y : Nat) (z : α) (h1 : tabSorted (some y) t' = true) (h2 : ∀ x, b = some x → x < y) :
        tabSorted b ((y, z) :: t') = true := by
      cases b with
      | none => exact h1
      | some x => simp [tabSorted, h1, h2 x rfl]
    have ha : ∀ x, b = some x → x < a := by
      rintro x rfl
      simp only [tabSorted, Bool.and_eq_true, decide_eq_true_eq] at h
      exact h.1
    unfold tabInsert
    split
    · rename_i hk
      exact wrap _ _ _ (by simp [tabSorted, hk, hr]) hb
    · split
      · rename_i hk; subst hk; exact wrap _ _ _ hr ha
      · rename_i h1 h2
        exact wrap _ _ _ (ih hr (by rintro x ⟨⟩; omega)) ha

omit [DecidableEq α] in
theorem mem_tabErase {t : Tab α} {k : Nat} {e : Nat × α} (h : e ∈ tabErase t k) : e ∈ t := by
  induction t with
  | nil => exact h
  | cons x r ih =>
    obtain ⟨a, w⟩ := x
    simp only [tabErase] at h
    split at h
    · exact List.mem_cons_of_mem _ (ih h)
    · rcases List.mem_cons.1 h with rfl | h
      · exact List.mem_cons_self
      · exact List.mem_cons_of_mem _ (ih h)

omit [DecidableEq α] in
theorem mem_tabInsert {t : Tab α} {k : Nat} {v : α} {e : Nat × α} (h : e ∈ tabInsert t k v) : e = (k, v) ∨ e ∈ t := by
  induction t with
  | nil => simpa [tabInsert] using h
  | cons x r ih =>
    obtain ⟨a, w⟩ := x
    unfold tabInsert at h
    split at h
    · rcases List.mem_cons.1 h with h | h
      · exact .inl h
      · exact .inr h
    · split at h
      · rcases List.mem_cons.1 h with h | h
        · exact .inl h
        · exact .inr (List.mem_cons_of_mem _ h)
      · rcases List.mem_cons.1 h with h | h
        · exact .inr (h ▸ List.mem_cons_self)
        · rcases ih h with h | h
          · exact .inl h
          · exact .inr (List.mem_cons_of_mem _ h)

/-- Every entry after a write was there before or is the one written. -/
theorem mem_tabSetD {d : Nat → α} {t : Tab α} {k : Nat} {v : α} {e : Nat × α} (h : e ∈ tabSetD d t k v) : e = (k, v) ∨ e ∈ t := by
  unfold tabSetD at h
  split at h
  · exact .inr (mem_tabErase h)
  · exact mem_tabInsert h

/-- A write keeps the canonical form. -/
theorem tabWf_set {d : Nat → α} {t : Tab α} (k : Nat) (v : α) (h : tabWf d t = true) : tabWf d (tabSetD d t k v) = true := by
  simp only [tabWf, Bool.and_eq_true, List.all_eq_true, decide_eq_true_eq] at h ⊢
  unfold tabSetD
  split
  · exact ⟨tabSorted_erase h.1, fun e he => h.2 e (mem_tabErase he)⟩
  · rename_i hv
    refine ⟨tabSorted_insert h.1 (by rintro _ ⟨⟩), fun e he => ?_⟩
    rcases mem_tabInsert he with rfl | he
    · exact hv
    · exact h.2 e he

omit [DecidableEq α] in
theorem tabGetD_unlisted {d : Nat → α} {t : Tab α} {k : Nat} (h : ∀ e ∈ t, e.1 ≠ k) : tabGetD d t k = d k := by
  induction t with
  | nil => rfl
  | cons e r ih =>
    obtain ⟨a, w⟩ := e
    simp only [tabGetD]
    rw [if_neg (h _ List.mem_cons_self), ih fun e he => h e (List.mem_cons_of_mem _ he)]

end Sys2Proof.Machine
end

