-- ==== Sys2Proof/Laws/Rows.lean ====
section
/-! SUPPORT. What the two shared forms of a command can do: a happening at an instant (`act`) and a packet given by its header and
opcode (`runRow`). -/

namespace Sys2Proof.Machine
set_option Elab.async false

/-! ## Happenings -/

/-- A happening answers the state in which time has passed, or its effect on it. -/
theorem act_next {ok : Bool} {t : Nat} {c : State → Bool} {f : State → State} {s u : State} (h : act ok t c f s = .next u) :
    u = s.tick t ∨ u = f (s.tick t) := by
  unfold act at h
  split at h
  · dsimp only at h
    split at h <;> cases h <;> simp
  · cases h

/-- A happening whose operands exist and whose condition holds has its effect. -/
theorem act_goes {ok : Bool} {t : Nat} {c : State → Bool} {f : State → State} {s : State} (h : ok = true) (hc : c (s.tick t) = true) :
    act ok t c f s = .next (f (s.tick t)) := by
  simp [act, h, hc]

/-- A happening whose operands exist and whose condition does not hold lets time pass. -/
theorem act_idles {ok : Bool} {t : Nat} {c : State → Bool} {f : State → State} {s : State} (h : ok = true) (hc : c (s.tick t) = false) :
    act ok t c f s = .next (s.tick t) := by
  simp [act, h, hc]

/-- At an instant that is not before the present, time passes to that instant. -/
theorem State.tick_eq {t : Nat} {s : State} (h : s.now ≤ t) : s.tick t = { s with now := t } := by
  simp [State.tick, Nat.max_eq_right h]

/-! ## Packets -/

theorem runRow_next {h : PktHead} {fits okLen torn : Bool} {op : Op} {s u : State} (e : runRow h fits okLen torn op s = .next u) :
    u = s ∨ u = s.standbyCmd (s.codeOf h.port) (opCode op) h ∨
      opAlarm op = true ∧ u = s.modAlm (fun a => { a with waiting := a.waiting ++ [(h, op)] }) ∨
      u = s.ownerStep1.runCmd false torn (s.codeOf h.port) (opCode op) h (if okLen then some op else none) := by
  unfold runRow at e
  split at e
  · cases e
  · split at e
    · cases e; simp
    · dsimp only at e
      split at e
      · cases e; simp
      · split at e
        · cases e; simp_all
        · cases e; simp

section
variable {ps : List Part}

/-- What a packet may write when its own opcode writes the parts `ps`. -/
theorem State.runCmd_writes {op : Op} (hw : whatPackets ⊆ ps) (hp : op = .warmRestart → .power ∈ ps)
    (ho : ∀ torn c s, (runOp op torn c s).1.rest ps = s.rest ps) (traced torn b : Bool) (code opcode : Nat) (h : PktHead) (s : State) :
    (s.runCmd traced torn code opcode h (if b then some op else none)).rest ps = s.rest ps := by
  have hset : ∀ c x, (State.runReply c op torn x).rest ps = x.rest ps := by
    intro c x
    unfold State.runReply
    split
    · simp_all [whatPackets]
    · dsimp only
      rw [State.activeSends_rest _ _ (by simp_all [whatPackets]), State.settle_rest _ _ _ (by simp_all [whatPackets]) hp, ho]
  unfold State.runCmd
  dsimp only
  cases b <;> simp only [Bool.false_eq_true, if_false, if_true] <;> repeat' split
  all_goals simp_all [whatPackets]

/-- What an opcode row may write. -/
theorem runRow_writes {h : PktHead} {fits okLen torn : Bool} {op : Op} {s u : State} (e : runRow h fits okLen torn op s = .next u)
    (hw : whatPackets ⊆ ps) (hp : op = .warmRestart → .power ∈ ps) (ha : opAlarm op = true → .alm ∈ ps)
    (ho : ∀ torn c s, (runOp op torn c s).1.rest ps = s.rest ps) : u.rest ps = s.rest ps := by
  rcases runRow_next e with rfl | rfl | ⟨h1, rfl⟩ | rfl
  · rfl
  · simp_all [whatPackets]
  · simp_all
  · rw [State.runCmd_writes hw hp ho]
    simp_all [whatPackets]

/-- What a happening may write when its effect writes the parts `ps`. -/
theorem act_writes {ok : Bool} {t : Nat} {c : State → Bool} {f : State → State} {s u : State} (e : act ok t c f s = .next u)
    (hw : .now ∈ ps) (hf : ∀ s, (f s).rest ps = s.rest ps) : u.rest ps = s.rest ps := by
  rcases act_next e with rfl | rfl <;> simp_all
end

/-! ## Frames -/

theorem Part.same_trans {p : Part} {s r u : State} (h1 : p.same s r) (h2 : p.same r u) : p.same s u := by
  cases p <;> simp only [Part.same] at h1 h2 ⊢ <;> first | exact h2.trans h1 | exact ⟨h2.1.trans h1.1, h2.2.trans h1.2⟩

theorem State.sameBut_trans {ps qs : List Part} {s r u : State} (h1 : s.sameBut ps r) (h2 : r.sameBut qs u) :
    s.sameBut (ps ++ qs) u :=
  ⟨h2.1.trans h1.1, h2.2.1.trans h1.2.1, fun p hp =>
    Part.same_trans (h1.2.2 p fun h => hp (List.mem_append_left _ h)) (h2.2.2 p fun h => hp (List.mem_append_right _ h))⟩

theorem State.sameBut_mono {ps qs : List Part} {s u : State} (h : s.sameBut ps u) (hs : ∀ p ∈ ps, p ∈ qs) : s.sameBut qs u :=
  ⟨h.1, h.2.1, fun p hp => h.2.2 p fun x => hp (hs p x)⟩

theorem State.sameBut_refl (ps : List Part) (s : State) : s.sameBut ps s :=
  ⟨rfl, rfl, fun p _ => by cases p <;> simp [Part.same]⟩

/-! ## A packet that passes the checks -/

@[simp] theorem State.isLocal_codeOf (s : State) (i : Nat) (h : i < 6) : s.isLocal (s.codeOf i) = true := by
  unfold State.isLocal State.codeOf
  have : ∀ b : Bool, (i + 8 * b2n b) / 8 = b2n b := by intro b; cases b <;> simp [b2n] <;> omega
  exact decide_eq_true (this _)

theorem opListed_opCode (o : Op) : opListed (opCode o) = true := by
  cases o <;> (simp only [opCode]; decide)

@[simp] theorem State.ownerStep1_steady {s : State} (h : s.ownerSteady = true) : s.ownerStep1 = s := by
  simp only [State.ownerSteady, Bool.and_eq_true, Bool.not_eq_true'] at h
  simp [State.ownerStep1, State.lapseLease, State.lapseOffer, h.1, h.2]

theorem State.sessOf_modSess {s : State} {k : Nat} {f : Session → Session} : (s.modSess k f).sessOf k = f (s.sessOf k) := by
  simp [State.sessOf, State.modSess, State.modPort]

theorem State.sessOf_modSess_ne {s : State} {k j : Nat} {f : Session → Session} (h : k ≠ j) :
    (s.modSess k f).sessOf j = s.sessOf j := by
  simp [State.sessOf, State.modSess, State.modPort, h]

/-- The session in which the opcode of an accepted packet runs. -/
theorem State.accepted_sess {s : State} {h : PktHead} {opc : Nat} (hid : (s.sessOf (s.codeOf h.port)).id ≠ 0)
    (hs : h.session = (s.sessOf (s.codeOf h.port)).id) :
    (s.accepted h opc).sessOf (s.codeOf h.port) = { s.sessOf (s.codeOf h.port) with
      lastSeq := h.seq, lastOp := opc, busy := true, reply := none, heard := true, ip := h.ip, udp := h.udp } := by
  have hl : ∀ (x : State) (k : Nat), (x.renewLease k).sessOf = x.sessOf := by
    intro x k; unfold State.renewLease; split <;> rfl
  unfold State.accepted State.advance
  rw [State.sessOf_modSess, hl]
  unfold State.heardFrom
  rw [State.sessOf_modSess]
  simp [hid, hs]

theorem State.accepted_sess_ne {s : State} {h : PktHead} {opc k : Nat} (hk : k ≠ s.codeOf h.port) :
    (s.accepted h opc).sessOf k = s.sessOf k := by
  have hl : ∀ (x : State) (k : Nat), (x.renewLease k).sessOf = x.sessOf := by
    intro x k; unfold State.renewLease; split <;> rfl
  unfold State.accepted State.advance
  rw [State.sessOf_modSess_ne (Ne.symm hk), hl]
  unfold State.heardFrom
  rw [State.sessOf_modSess_ne (Ne.symm hk)]

/-- Acceptance writes the session and the lease only. -/
theorem State.accepted_rest {ps : List Part} (h : PktHead) (opc : Nat) (s : State) (hw : [.sess, .owner] ⊆ ps) :
    (s.accepted h opc).rest ps = s.rest ps := by
  simp_all [State.accepted]

theorem State.accepted_sameBut (h : PktHead) (opc : Nat) (s : State) : s.sameBut [.sess, .owner] (s.accepted h opc) :=
  State.sameBut_of_rest (State.accepted_rest h opc s (by simp))

@[simp] theorem State.accepted_outbox (h : PktHead) (opc : Nat) (s : State) : (s.accepted h opc).port.outbox = s.port.outbox :=
  (s.accepted_sameBut h opc).2.2 .outbox (by simp)
@[simp] theorem State.accepted_pend (h : PktHead) (opc : Nat) (s : State) : (s.accepted h opc).port.pend = s.port.pend :=
  (s.accepted_sameBut h opc).2.2 .pend (by simp)
@[simp] theorem State.accepted_unt (h : PktHead) (opc : Nat) (s : State) : (s.accepted h opc).unt = s.unt := by
  unfold State.accepted State.advance State.renewLease State.heardFrom
  dsimp only
  split <;> rfl
@[simp] theorem State.accepted_phase (h : PktHead) (opc : Nat) (s : State) : (s.accepted h opc).phase = s.phase :=
  (s.accepted_sameBut h opc).2.2 .phase (by simp)
@[simp] theorem State.accepted_fr (h : PktHead) (opc : Nat) (s : State) : (s.accepted h opc).fr = s.fr :=
  (s.accepted_sameBut h opc).2.2 .fr (by simp)
@[simp] theorem State.accepted_cfg (h : PktHead) (opc : Nat) (s : State) : (s.accepted h opc).cfg = s.cfg := by
  unfold State.accepted State.advance State.renewLease State.heardFrom
  dsimp only
  split <;> rfl
@[simp] theorem State.accepted_now (h : PktHead) (opc : Nat) (s : State) : (s.accepted h opc).now = s.now :=
  (s.accepted_sameBut h opc).2.2 .now (by simp)
@[simp] theorem State.accepted_replayIn (h : PktHead) (opc : Nat) (s : State) : (s.accepted h opc).port.replayIn = s.port.replayIn :=
  (s.accepted_sameBut h opc).2.2 .replayIn (by simp)

theorem State.accepted_owner (h : PktHead) (opc : Nat) (s : State) : (s.accepted h opc).port.owner = s.leased h := by
  have : (s.heardFrom (s.codeOf h.port) h).port.owner = s.port.owner := rfl
  unfold State.accepted State.leased State.advance State.renewLease
  dsimp only
  rw [this]
  split
  · simp [State.modSess, State.modPort, State.modOwner, this]
    rfl
  · simp [State.modSess, State.modPort, this]

/-- A row whose packet passes steps 1 to 8 runs its opcode on the accepted state, and its reply is settled. -/
theorem runRow_ready {h : PktHead} {torn : Bool} {op : Op} {s : State} (hr : s.ready h (opCode op))
    (hA : opAlarm op = true → s.alm.next = 0) :
    let r := runOp op torn (makeCaller (s.codeOf h.port) h.session (opCode op) h) (s.accepted h (opCode op))
    runRow h true true torn op s = .next ((State.settle (makeCaller (s.codeOf h.port) h.session (opCode op) h) op r).activeSends
      (opMirror op (s.accepted h (opCode op)) r.1)) := by
  obtain ⟨hm, hrole, hwi, hp, hst, hv, hf, hs, hopen, hid, hses, hseq, hb, ho, hmode⟩ := hr
  have hl : ∀ (x : State) (k : Nat), (x.renewLease k).sessOf = x.sessOf := by
    intro x k; unfold State.renewLease; split <;> rfl
  have hh : (s.heardFrom (s.codeOf h.port) h).sessOf (s.codeOf h.port) =
      { s.sessOf (s.codeOf h.port) with heard := true, ip := h.ip, udp := h.udp } := by
    unfold State.heardFrom
    rw [State.sessOf_modSess]
    simp [hid, hses]
  have hsn : h.session ≠ 0 := hses ▸ hid
  have hchk : sessionCheck ((s.heardFrom (s.codeOf h.port) h).sessOf (s.codeOf h.port)) h.session h.seq (opCode op) = .go := by
    rw [hh]; simp [sessionCheck, hid, hses, hseq, hb]
  have hal : (opAlarm op && decide (s.alm.next ≠ 0)) = false := by
    cases h1 : opAlarm op
    · rfl
    · simp [hA h1]
  have hown : ((s.heardFrom (s.codeOf h.port) h).renewLease (s.codeOf h.port)).port.owner.owner = s.port.owner.owner := by
    unfold State.renewLease; split <;> simp [State.heardFrom, State.modSess, State.modPort, State.modOwner]
  have hst2 : opStatus (s.accepted h (opCode op)) (s.codeOf h.port) (opCode op) (some op) false = stOk := by
    have h1 : (s.accepted h (opCode op)).port.owner.owner = s.port.owner.owner := by
      unfold State.accepted State.advance; exact hown
    have hk := State.accepted_rest (ps := [.sess, .owner]) h (opCode op) s (by simp)
    have h2 : (s.accepted h (opCode op)).port.replay = s.port.replay := State.same_of_rest (p := .replay) hk (by simp)
    have h3 : (s.accepted h (opCode op)).paired = s.paired := by
      simp only [State.paired, State.im, State.isWitness, State.accepted_unt, State.accepted_cfg]
    have h4 : (s.accepted h (opCode op)).isWitness = s.isWitness := by simp only [State.isWitness, State.accepted_unt]
    unfold opStatus
    rw [h1, h2, h3, h4, opListed_opCode]
    simp only [Bool.not_true, Bool.false_eq_true, if_false, Option.isNone_some, Bool.not_false, Bool.and_true, hmode]
    split
    · rename_i hx
      simp only [Bool.and_eq_true, decide_eq_true_eq] at hx
      exact absurd (ho hx.1) hx.2
    · rfl
  have hback : ∀ (c : Caller) (x : State), c.code = s.codeOf h.port → x.unt = s.unt → x.cfg = s.cfg → x.handsBack c op = false := by
    intro c x hc hx hy
    have : x.isLocal c.code = true := by
      have := State.isLocal_codeOf s h.port hp
      simp only [State.isLocal, State.unitB, State.paired, State.isWitness, State.im, hx, hy, hc] at this ⊢
      exact this
    simp [State.handsBack, this]
  have hx : (s.accepted h (opCode op)).unt = s.unt := State.accepted_unt _ _ _
  unfold runRow
  simp only [Bool.not_true, Bool.false_or, decide_eq_true_eq, Nat.not_le.2 hp, if_false, if_true, State.live, hm, decide_true,
    Bool.false_eq_true, hrole, hal, State.ownerStep1_steady hst]
  unfold State.runCmd
  simp only [headStatus, hv, hf, hs, ne_eq, not_true_eq_false, if_false, or_self, hsn, and_false, hopen, hchk]
  have e : ((s.heardFrom (s.codeOf h.port) h).renewLease (s.codeOf h.port)).advance (s.codeOf h.port) (opCode op) h =
      s.accepted h (opCode op) := rfl
  rw [e, hst2]
  simp only [not_true_eq_false, if_false]
  unfold State.runReply
  rw [hback _ _ rfl hx (State.accepted_cfg _ _ _)]
  rfl

/-! ## Replies -/

@[simp] theorem State.emit_outbox (r : Reply) (s : State) : (s.emit r).port.outbox = s.port.outbox ++ [r] := by
  unfold State.emit
  dsimp only
  repeat' split
  all_goals simp [State.sendDatagram, State.sendIp, State.modPortSt, State.modPort, State.modIso, State.modCan]

/-- A packet that is sent, by a unit that is no standby, outside the inputs of a trace. -/
theorem State.sendReply_eq {r : Reply} {s : State} (hr : s.unt.pair.role ≠ 2) (hw : s.port.replayIn.within = false) :
    s.sendReply r = s.emit r := by
  simp [State.sendReply, hr, hw]

/-- The trace segment that follows a reply on SER0 (R373). -/
theorem State.serialTrace_sends {s : State} (hr : s.unt.pair.role ≠ 2) (hw : s.port.replayIn.within = false) :
    ∃ l, (l = [] ∨ ∃ x, l = [x] ∧ x.opcode = 0x000A) ∧ s.serialTrace.port.outbox = s.port.outbox ++ l := by
  unfold State.serialTrace
  split
  · exact ⟨[], .inl rfl, by simp⟩
  · split
    · exact ⟨[], .inl rfl, by simp⟩
    · dsimp only
      unfold State.sendTrace
      split
      · dsimp only
        rw [State.sendReply_eq (by exact hr) (by exact hw), State.emit_outbox]
        exact ⟨[_], .inr ⟨_, rfl, rfl⟩, rfl⟩
      · exact ⟨[], .inl rfl, by simp [State.modPort]⟩

/-- A packet and the trace segment that follows it on SER0 (R373). -/
theorem State.sendAnswer_sends {r : Reply} {s : State} {h : PktHead} (hr : s.unt.pair.role ≠ 2) (hw : s.port.replayIn.within = false)
    (hc : r.code % 8 = 5 → h.port = 5) :
    (∃ l, trailing h l ∧ (s.sendAnswer r).port.outbox = s.port.outbox ++ r :: l) ∧
      (s.sendAnswer r).rest ([.can, .outbox, .portSt, .wire] ++ if h.port = 5 then [.trace] else []) =
        s.rest ([.can, .outbox, .portSt, .wire] ++ if h.port = 5 then [.trace] else []) := by
  have hk := State.sameBut_of_rest (State.emit_rest (ps := [.can, .outbox, .portSt, .wire]) r s (by simp))
  unfold State.sendAnswer
  rw [State.sendReply_eq hr hw]
  dsimp only
  split
  · rename_i h5
    replace h5 := h5.1
    obtain ⟨l, hl, e⟩ := State.serialTrace_sends (s := s.emit r) (by rw [hk.2.2 .pair (by simp)]; exact hr)
      (by rw [hk.2.2 .replayIn (by simp)]; exact hw)
    refine ⟨⟨l, ?_, by rw [e]; simp⟩, by simp [hc h5]⟩
    rcases hl with rfl | hl
    · exact .inl rfl
    · exact .inr ⟨hc h5, hl⟩
  · exact ⟨⟨[], .inl rfl, by simp⟩, by simp⟩

theorem State.sessOf_same {s u : State} (h : u.port.sess = s.port.sess) (k : Nat) : u.sessOf k = s.sessOf k := by
  unfold State.sessOf; rw [h]

/-- What carries an answer. -/
def answerParts (h : PktHead) : List Part := [.can, .sess, .outbox, .portSt, .wire] ++ if h.port = 5 then [.trace] else []

/-- An answer to an accepted packet: the reply is sent, and the session keeps it. -/
theorem State.answer_replied {s r : State} {h : PktHead} {opc st : Nat} {body : List Byte}
    (hid : (s.sessOf (s.codeOf h.port)).id ≠ 0) (hs : h.session = (s.sessOf (s.codeOf h.port)).id) (hport : h.port < 6)
    (hrole : r.unt.pair.role ≠ 2) (hwi : r.port.replayIn.within = false) (hsess : r.port.sess = (s.accepted h opc).port.sess)
    (hout : r.port.outbox = s.port.outbox) (hpend : r.port.pend = s.port.pend) :
    s.replied (r.answer (makeCaller (s.codeOf h.port) h.session opc h) st body) h opc st body ∧
      r.sameBut (answerParts h) (r.answer (makeCaller (s.codeOf h.port) h.session opc h) st body) := by
  have h5 : (s.replyTo h opc st body).code % 8 = 5 → h.port = 5 := by
    intro e
    have : (h.port + 8 * b2n s.unitB) % 8 = 5 := e
    omega
  have hsn : h.session ≠ 0 := hs ▸ hid
  let f : Session → Session := fun x =>
    if x.id = h.session ∧ x.lastSeq = h.seq ∧ h.session ≠ 0 then { x with busy := false, reply := some (s.replyTo h opc st body) } else x
  obtain ⟨⟨l, hl, hout2⟩, hrest⟩ := State.sendAnswer_sends (h := h) (r := s.replyTo h opc st body)
    (s := r.modSess (s.codeOf h.port) f) hrole hwi h5
  have hsame := State.sameBut_of_rest hrest
  show s.replied (State.sendAnswer (s.replyTo h opc st body) (r.modSess (s.codeOf h.port) f)) h opc st body ∧
    r.sameBut (answerParts h) (State.sendAnswer (s.replyTo h opc st body) (r.modSess (s.codeOf h.port) f))
  have hses := State.sessOf_same (hsame.2.2 .sess (by split <;> simp))
  refine ⟨⟨⟨l, hl, ?_⟩, ?_, ?_, fun k hk => ?_⟩, ?_⟩
  · rw [hout2, show (r.modSess (s.codeOf h.port) f).port.outbox = r.port.outbox from rfl, hout]
  · exact (hsame.2.2 .pend (by split <;> simp)).trans hpend
  · rw [hses, State.sessOf_modSess, State.sessOf_same hsess, State.accepted_sess hid hs]
    simp [f, hs, hid]
  · rw [hses, State.sessOf_modSess_ne (Ne.symm hk), State.sessOf_same hsess, State.accepted_sess_ne hk]
  · refine State.sameBut_mono (State.sameBut_trans (State.sameBut_of_rest (State.modSess_rest (ps := [.sess]) _ r f (by simp))) hsame) ?_
    intro p hp
    unfold answerParts
    split at hp <;> simp_all <;> tauto

/-- A reply held back from an accepted packet. -/
theorem State.pendReply_waits {s r : State} {h : PktHead} {op : Op} {due : Option Nat} {o : Option (Nat × List Byte)}
    (hid : (s.sessOf (s.codeOf h.port)).id ≠ 0) (hs : h.session = (s.sessOf (s.codeOf h.port)).id)
    (hsess : r.port.sess = (s.accepted h (opCode op)).port.sess)
    (hout : r.port.outbox = s.port.outbox) (hp : r.port.pend = s.port.pend) :
    s.waits (r.pendReply (makeCaller (s.codeOf h.port) h.session (opCode op) h) due op o) h op due o := by
  have hget : ∀ k, (r.pendReply (makeCaller (s.codeOf h.port) h.session (opCode op) h) due op o).sessOf k =
      (s.accepted h (opCode op)).sessOf k := by
    intro k; exact State.sessOf_same hsess k
  refine ⟨hout, by simp [State.pendReply, State.modPort, makeCaller, hp], ?_, fun k hk => ?_⟩
  · rw [hget, State.accepted_sess hid hs]
  · rw [hget, State.accepted_sess_ne hk]

theorem State.pendReply_sameBut (c : Caller) (due : Option Nat) (op : Op) (o : Option (Nat × List Byte)) (r : State) :
    r.sameBut [.pend] (r.pendReply c due op o) :=
  State.sameBut_of_rest (State.pendReply_rest c due op o r (by simp))

theorem State.activeSends_sameBut (l : List ContrailBlock) (s : State) : s.sameBut [.wire] (s.activeSends l) :=
  State.sameBut_of_rest (State.activeSends_rest l s (by simp))

/-- What the active sends its standby is no reply. -/
theorem State.replied_sends {s u : State} {h : PktHead} {opc st : Nat} {b : List Byte} (l : List ContrailBlock) (hr : s.replied u h opc st b) :
    s.replied (u.activeSends l) h opc st b := by
  have hk := u.activeSends_sameBut l
  have hs := State.sessOf_same (hk.2.2 .sess (by simp))
  obtain ⟨⟨x, hx, h1⟩, h2, h3, h4⟩ := hr
  exact ⟨⟨x, hx, (hk.2.2 .outbox (by simp)).trans h1⟩, (hk.2.2 .pend (by simp)).trans h2, (hs _).trans h3, fun k hk => (hs k).trans (h4 k hk)⟩

theorem State.waits_sends {s u : State} {h : PktHead} {op : Op} {due : Option Nat} {d : Option (Nat × List Byte)} (l : List ContrailBlock)
    (hr : s.waits u h op due d) : s.waits (u.activeSends l) h op due d := by
  have hk := u.activeSends_sameBut l
  have hs := State.sessOf_same (hk.2.2 .sess (by simp))
  exact ⟨(hk.2.2 .outbox (by simp)).trans hr.1, (hk.2.2 .pend (by simp)).trans hr.2.1, (hs _).trans hr.2.2.1, fun k hk => (hs k).trans (hr.2.2.2 k hk)⟩

/-- An opcode leaves sessions, replies and the role to the packet that carries it. -/
structure State.tame (s r : State) (h : PktHead) (opc : Nat) : Prop where
  sess : r.port.sess = (s.accepted h opc).port.sess
  outbox : r.port.outbox = s.port.outbox
  pend : r.port.pend = s.port.pend
  role : r.unt.pair.role = s.unt.pair.role
  within : r.port.replayIn.within = s.port.replayIn.within
  phase : r.phase = s.phase
  frame : r.fr.frameNo = s.fr.frameNo

theorem State.tame_accepted (s : State) (h : PktHead) (opc : Nat) : s.tame (s.accepted h opc) h opc :=
  ⟨rfl, by simp, by simp, by simp, by simp, by simp, by simp⟩

/-- What serving a packet may write beside the lease. -/
def replyParts (h : PktHead) : List Part := [.can, .sess, .pend, .outbox, .portSt, .wire] ++ if h.port = 5 then [.trace] else []

section
variable {h : PktHead} {torn : Bool} {op : Op} {s r : State}

theorem State.ready_id (hr : s.ready h (opCode op)) : (s.sessOf (s.codeOf h.port)).id ≠ 0 := hr.2.2.2.2.2.2.2.2.2.1
theorem State.ready_session (hr : s.ready h (opCode op)) : h.session = (s.sessOf (s.codeOf h.port)).id := hr.2.2.2.2.2.2.2.2.2.2.1
theorem State.ready_role (hr : s.ready h (opCode op)) : s.unt.pair.role ≠ 2 := hr.2.1
theorem State.ready_within (hr : s.ready h (opCode op)) : s.port.replayIn.within = false := hr.2.2.1
theorem State.ready_port (hr : s.ready h (opCode op)) : h.port < 6 := hr.2.2.2.1
theorem State.ready_live (hr : s.ready h (opCode op)) : s.mode = .running := hr.1

theorem State.answer_tame {st : Nat} {b : List Byte} (hr : s.ready h (opCode op)) (ht : s.tame r h (opCode op)) :
    s.replied (r.answer (makeCaller (s.codeOf h.port) h.session (opCode op) h) st b) h (opCode op) st b ∧
      r.sameBut (answerParts h) (r.answer (makeCaller (s.codeOf h.port) h.session (opCode op) h) st b) :=
  State.answer_replied (State.ready_id hr) (State.ready_session hr) (State.ready_port hr) (ht.role ▸ State.ready_role hr)
    (ht.within.trans (State.ready_within hr)) ht.sess ht.outbox ht.pend

theorem State.sends_of {ps : List Part} {u : State} (l : List ContrailBlock) (hu : r.sameBut ps u) (hs : ∀ p ∈ ps, p ∈ replyParts h) :
    r.sameBut (replyParts h) (u.activeSends l) ∧ (.owner ∉ ps → (u.activeSends l).port.owner = r.port.owner) := by
  have hk := State.sameBut_trans hu (u.activeSends_sameBut l)
  refine ⟨State.sameBut_mono hk ?_, fun ho => hk.2.2 .owner (by simp [ho])⟩
  intro p hp
  rcases List.mem_append.1 hp with hp | hp
  · exact hs p hp
  · simp at hp; subst hp; simp [replyParts]

theorem answer_in_reply {p : Part} (hp : p ∈ answerParts h) : p ∈ replyParts h := by
  unfold answerParts at hp
  unfold replyParts
  split at hp <;> simp_all <;> tauto

/-- An opcode that answers when it is processed. -/
theorem runRow_now {st : Nat} {b : List Byte} (hr : s.ready h (opCode op)) (hA : opAlarm op = true → s.alm.next = 0)
    (ho : runOp op torn (makeCaller (s.codeOf h.port) h.session (opCode op) h) (s.accepted h (opCode op)) = (r, .now st b))
    (ht : s.tame r h (opCode op)) (hw : op ≠ .warmRestart) :
    ∃ u, runRow h true true torn op s = .next u ∧ s.replied u h (opCode op) st b ∧ u.port.owner = r.port.owner ∧
      r.sameBut (replyParts h) u := by
  refine ⟨_, runRow_ready hr hA, ?_⟩
  rw [ho]
  simp only [State.settle, State.deliver, hw, false_and, if_false]
  obtain ⟨h1, h2⟩ := State.answer_tame hr ht (st := st) (b := b)
  obtain ⟨h3, h4⟩ := State.sends_of (opMirror op (s.accepted h (opCode op)) r) h2 fun p hp => answer_in_reply hp
  exact ⟨State.replied_sends _ h1, h4 (by unfold answerParts; split <;> simp), h3⟩

/-- An opcode that answers when frame `n` is complete. -/
theorem runRow_sent {n st : Nat} {b : List Byte} (hr : s.ready h (opCode op)) (hA : opAlarm op = true → s.alm.next = 0)
    (ho : runOp op torn (makeCaller (s.codeOf h.port) h.session (opCode op) h) (s.accepted h (opCode op)) = (r, .sent n st b))
    (ht : s.tame r h (opCode op)) (hw : op ≠ .warmRestart) :
    ∃ u, runRow h true true torn op s = .next u ∧ s.repliedAt u h op n st b ∧ u.port.owner = r.port.owner ∧
      r.sameBut (replyParts h) u := by
  refine ⟨_, runRow_ready hr hA, ?_⟩
  rw [ho]
  simp only [State.settle, State.deliver, hw, false_and, if_false, ht.phase, ht.frame, State.repliedAt]
  by_cases hc : s.phase = .complete ∧ n ≤ s.fr.frameNo
  · simp only [hc, decide_true, Bool.and_self, if_true]
    obtain ⟨h1, h2⟩ := State.answer_tame hr ht (st := st) (b := b)
    obtain ⟨h3, h4⟩ := State.sends_of (opMirror op (s.accepted h (opCode op)) r) h2 fun p hp => answer_in_reply hp
    exact ⟨State.replied_sends _ h1, h4 (by unfold answerParts; split <;> simp), h3⟩
  · have hd : (decide (s.phase = .complete) && decide (n ≤ s.fr.frameNo)) = false := by
      simpa [Bool.and_eq_false_iff, imp_iff_not_or] using hc
    simp only [hd, hc, if_false, Bool.false_eq_true]
    obtain ⟨h3, h4⟩ := State.sends_of (h := h) (opMirror op (s.accepted h (opCode op)) r) (State.pendReply_sameBut _ _ _ _ _)
      (by simp [replyParts])
    exact ⟨State.waits_sends _ (State.pendReply_waits (State.ready_id hr) (State.ready_session hr) ht.sess ht.outbox ht.pend),
      h4 (by simp), h3⟩

/-- An opcode that reads the open frame. -/
theorem runRow_form (hr : s.ready h (opCode op)) (hA : opAlarm op = true → s.alm.next = 0)
    (ho : runOp op torn (makeCaller (s.codeOf h.port) h.session (opCode op) h) (s.accepted h (opCode op)) = (r, .form))
    (ht : s.tame r h (opCode op)) (hw : op ≠ .warmRestart) :
    ∃ u, runRow h true true torn op s = .next u ∧ s.repliedFrame u h op (r.formBody op).2 ∧ u.port.owner = r.port.owner ∧
      r.sameBut (replyParts h) u := by
  refine ⟨_, runRow_ready hr hA, ?_⟩
  rw [ho]
  simp only [State.settle, State.deliver, hw, false_and, if_false, ht.phase, ht.frame, State.repliedFrame]
  by_cases hc : s.phase = .complete
  · simp only [hc, decide_true, if_true]
    obtain ⟨h1, h2⟩ := State.answer_tame hr ht (st := stOk) (b := (r.formBody op).2)
    obtain ⟨h3, h4⟩ := State.sends_of (opMirror op (s.accepted h (opCode op)) r) h2 fun p hp => answer_in_reply hp
    exact ⟨State.replied_sends _ h1, h4 (by unfold answerParts; split <;> simp), h3⟩
  · simp only [hc, decide_false, if_false, Bool.false_eq_true]
    obtain ⟨h3, h4⟩ := State.sends_of (h := h) (opMirror op (s.accepted h (opCode op)) r) (State.pendReply_sameBut _ _ _ _ _)
      (by simp [replyParts])
    exact ⟨State.waits_sends _ (State.pendReply_waits (State.ready_id hr) (State.ready_session hr) ht.sess ht.outbox ht.pend),
      h4 (by simp), h3⟩

/-- An opcode whose reply another rule decides. -/
theorem runRow_hold (hr : s.ready h (opCode op)) (hA : opAlarm op = true → s.alm.next = 0)
    (ho : runOp op torn (makeCaller (s.codeOf h.port) h.session (opCode op) h) (s.accepted h (opCode op)) = (r, .hold))
    (ht : s.tame r h (opCode op)) :
    ∃ u, runRow h true true torn op s = .next u ∧ s.waits u h op none none ∧ u.port.owner = r.port.owner ∧
      r.sameBut (replyParts h) u := by
  refine ⟨_, runRow_ready hr hA, ?_⟩
  rw [ho]
  simp only [State.settle]
  obtain ⟨h3, h4⟩ := State.sends_of (h := h) (opMirror op (s.accepted h (opCode op)) r) (State.pendReply_sameBut _ _ _ _ _)
    (by simp [replyParts])
  exact ⟨State.waits_sends _ (State.pendReply_waits (State.ready_id hr) (State.ready_session hr) ht.sess ht.outbox ht.pend),
    h4 (by simp), h3⟩

/-- The parts that an opcode writes beside serving the packet. -/
theorem State.served_of {u : State} {ps : List Part} (hq : (s.accepted h (opCode op)).sameBut ps r) (h2 : u.port.owner = r.port.owner)
    (h3 : r.sameBut (replyParts h) u) (ho : r.port.owner = (s.accepted h (opCode op)).port.owner) : s.served u h ps :=
  ⟨(h2.trans ho).trans (State.accepted_owner _ _ _),
    State.sameBut_mono (State.sameBut_trans (State.sameBut_trans (State.accepted_sameBut h _ s) hq) h3) (by
      intro p hp
      simp only [List.mem_append] at hp ⊢
      rcases hp with (hp | hp) | hp
      · left; simp at hp; rcases hp with rfl | rfl <;> simp [servingParts]
      · exact .inr hp
      · left
        unfold replyParts at hp
        unfold servingParts
        split at hp <;> simp_all <;> tauto)⟩

/-- An opcode that only answers. -/
theorem runRow_onlyReplied {st : Nat} {b : List Byte} (hr : s.ready h (opCode op)) (hA : opAlarm op = true → s.alm.next = 0)
    (ho : runOp op torn (makeCaller (s.codeOf h.port) h.session (opCode op) h) (s.accepted h (opCode op)) =
      (s.accepted h (opCode op), .now st b)) (hw : op ≠ .warmRestart) :
    ∃ u, runRow h true true torn op s = .next u ∧ s.onlyReplied u h (opCode op) st b := by
  obtain ⟨u, e, h1, h2, h3⟩ := runRow_now hr hA ho (s.tame_accepted h _) hw
  have := State.served_of (ps := []) (State.sameBut_refl _ _) h2 h3 rfl
  exact ⟨u, e, h1, this.1, by simpa using this.2⟩

/-- An opcode that only reads the open frame. -/
theorem runRow_onlyReads {b : List Byte} (hr : s.ready h (opCode op)) (hA : opAlarm op = true → s.alm.next = 0)
    (ho : runOp op torn (makeCaller (s.codeOf h.port) h.session (opCode op) h) (s.accepted h (opCode op)) =
      (s.accepted h (opCode op), .form)) (hb : ((s.accepted h (opCode op)).formBody op).2 = b) (hw : op ≠ .warmRestart) :
    ∃ u, runRow h true true torn op s = .next u ∧ s.onlyReads u h op b := by
  obtain ⟨u, e, h1, h2, h3⟩ := runRow_form hr hA ho (s.tame_accepted h _) hw
  have := State.served_of (ps := []) (State.sameBut_refl _ _) h2 h3 rfl
  exact ⟨u, e, hb ▸ h1, this.1, by simpa using this.2⟩

end

end Sys2Proof.Machine
end

