-- ==== Sys2Proof/Tests/Slice0.lean ====
section
/-! SUPPORT. Tests: ill-formed commands that WellFormed refuses, one command at a time on a small state, and for every
statement states that meet its hypotheses. Expected values come from the rules named in the comments. -/

open Sys2Proof Sys2Proof.Machine

namespace Sys2Proof.Tests
set_option Elab.async false

/-! ## WellFormed: one ill-formed term for each check -/

/-- A header of a packet on port 0. -/
def hd (session seq : Nat) : PktHead := { session := session, seq := seq }

theorem test_wf_head : ([{ hd 5 1 with port := 6 }, { hd 5 1 with ip := 2 ^ 32 }, { hd 5 1 with udp := 2 ^ 16 }, { hd 5 1 with version := 256 },
    { hd 5 1 with flags := 128 }, hd 65536 1, hd 5 (2 ^ 32), { hd 5 1 with status := 65536 }] : List PktHead).all
      (fun h => !(Instr.ping h).wellFormed) = true := by decide

theorem test_wf_frames : ([.blockLatch 0 64 (List.replicate 8 {}) 0, .blockLatch 0 0 [] 0, .blockLatch 0 0 (List.replicate 8 {}) (2 ^ 32),
    .strobeCouplerError 0 512, .cellRecordMissing 0 512, .frameEvaluationStart 0 65536, .nimbusExchange 0 4, .discrepancyFault 0 32,
    .horizonPosting 0 { header := BitVec.ofNat 64 (2 ^ 49) }, .horizonPosting 0 (posting 0 0 0 0 3 0 false (.result 0)),
    .horizonPosting 0 (posting 0 2 32 2 4 0 false (.safety 0)), .horizonPosting 0 (posting 0 2 0 2 5 0 false (.safety 0)),
    .horizonPosting 0 (posting 0 0 0 6 2 0 false (.words [0])), .horizonPosting 0 (posting 0 0 0 7 1 0 false .fin), .engSilent 0 16] : List Instr).all
      (fun i => !i.wellFormed) = true := by decide

theorem test_wf_alarms : ([.alarmDelayExpiry 0 2048, .suppressionHoldEnd 0 2048, .shelfExpiry 0 2048, .groupObjectCycle 0 64,
    .callLinkLost 0 16, .callObjectCycle 0 16, .dscWatchdogExpiry 0 32, .dscFailsafeRecovery 0 32, .dscRepeat 0 32, .dscErrDecay 0 32,
    .sessionTimeout 0 6, .sessionTimeout 0 16, .packetReceive 0 6 0 0 [], .packetReceive 0 0 (2 ^ 32) 0 [],
    .packetReceive 0 0 0 65536 [], .forwardedPacket 0 7 0 0 []] : List Instr).all (fun i => !i.wellFormed) = true := by decide

theorem test_wf_configuration : ([.replayData (hd 5 1) (2 ^ 32) [], .replayData (hd 5 1) 0 (List.replicate 8169 0), .handover (hd 5 1) 256, .readObject (hd 5 1) true 256 0 0 0,
    .readObject (hd 5 1) true 0 65536 0 0, .readObject (hd 5 1) true 0 0 65536 0, .readObject (hd 5 1) true 0 0 0 65536,
    .writeObject (hd 5 1) 0 0 0 1 [] [0], .writeObject (hd 5 1) 0 0 0 1 [0] [], .readImage (hd 5 1) 256 0 0,
    .readImage (hd 5 1) 0 (2 ^ 32) 0, .readImage (hd 5 1) 0 0 65536, .loadImage (hd 5 1) (2 ^ 32) [],
    .confirm (hd 5 1) (2 ^ 32)] : List Instr).all (fun i => !i.wellFormed) = true := by decide +kernel

theorem test_wf_channels : ([.readResults (hd 5 1) 512 1, .readRecords (hd 5 1) 0 256, .writeDo (hd 5 1) 512 true,
    .writeAo (hd 5 1) 0 2147483648, .trimZero (hd 5 1) 512 0, .trimSpan (hd 5 1) 0 (-2147483649), .trimComplete 0 512,
    .clearTotal (hd 5 1) 512, .readPoints (hd 5 1) 2048 1, .readGroups (hd 5 1) 64 1, .ack (hd 5 1) 4 0, .shelve (hd 5 1) 0 2048,
    .unshelve (hd 5 1) 2048, .remove (hd 5 1) 2048, .return_ (hd 5 1) 2048, .selectDuty (hd 5 1) 256] : List Instr).all
      (fun i => !i.wellFormed) = true := by decide

theorem test_wf_unit : ([.readEvents (hd 5 1) false (2 ^ 23) 0 0, .readEvents (hd 5 1) false 0 256 0, .stageTime (hd 5 1) [],
    .setWeekday (hd 5 1) 8, .readBackup (hd 5 1) 128 1, .writeBackup (hd 5 1) 0 1 [], .readSafety (hd 5 1) 32 1, .safetyReset (hd 5 1) 32,
    .readDsc (hd 5 1) 0 64, .dscReset (hd 5 1) 32, .readDiag (hd 5 1) 4 0, .readDiag (hd 5 1) 0 512, .readCan (hd 5 1) 4,
    .readCanobj (hd 5 1) 512, .writeCanobj (hd 5 1) 512 [], .readHart (hd 5 1) 0 16 1] : List Instr).all
      (fun i => !i.wellFormed) = true := by decide

theorem test_wf_blocks : ([.conversionComplete 0 64 0 0 0 {} false, .selfTestSlot 0 64 0 0, .excitationEvent 0 64 false false,
    .blankLong 0 512, .cjcReading 0 16 none, .debouncedEdge 0 512 ⟨0, []⟩, .testPulseStart 0 64 0, .testPulseEnd 0 64 0 0 false,
    .fsLowSet 0 64 0 0, .fsLowClear 0 64 0 0, .fsOffSet 0 64 0 0, .fsOffEnd 0 64 0 0, .logicSilence 0 512 0 false, .foldback 0 512 0 0 0,
    .foldbackHoldEnd 0 512, .foldbackRampStep 0 512] : List Instr).all (fun i => !i.wellFormed) = true := by decide

theorem test_wf_supplies : ([.enableFlagLoss 0 64, .enableFlagSet 0 64, .blockPowerLost 0 64 0, .blockPowerRestore 0 64 0 0,
    .cellTherm 0 0 128 0, .cellTherm 0 512 0 0, .islandPwr 0 0 65536 0 0 0, .clockCheck 0 7 0, .clockCheck 0 0 32768,
    .switchCurrentLimit 0 512 true, .thermalShutdown 0 512, .feedState 0 2 0 0, .fsFeed 0 8 0 0, .wake 0 0 (some 2) {},
    .rtcAlarmStamp 0 2, .twilightSetWday 0 7, .twilightRegisterWrite 0 256 0] : List Instr).all (fun i => !i.wellFormed) = true := by
  decide

theorem test_wf_ports : ([.hartRequestDue 0 32 0 0 false, .hartRequestDue 0 0 1 0 false, .hartRequestDue 0 0 0 16 false,
    .hartRequestDue 0 0 2 0 false, .hartReplyTimeout 0 ⟨32, false⟩, .hartReply 0 32 {}, .hartCarrierEnd 0 32, .canFrameReceived 0 4 {},
    .canFrameReceived 0 0 { id := 2048 }, .canFrameReceived 0 0 { fmt := 3 }, .canMessageTake 0 512 false,
    .canTxSuccess 0 0 (.object 128 false), .canTxError 0 0 .transport 8 false, .canBusoffRecovery 0 4 0, .canReferenceMessage 0 4,
    .canTtWindow 0 512 true, .isotpTimeout 0 2] : List Instr).all (fun i => !i.wellFormed) = true := by decide

theorem test_wf_memories : ([.canRxError 0 4 1 false, .canProtocolException 0 0 3, .ethFrameReceived 0 3 .bad, .fragDrop 0 3 0,
    .arpWaitTimeout 0 0 (2 ^ 32), .arpEntryAgeOut 0 3 0, .gratuitousArp 0 3, .portLink 0 0 true 4, .correctionWriteback 0 23 0 0 0 ⟨0, .read, none, []⟩,
    .correctionWriteback 0 0 2 0 0 ⟨0, .read, none, []⟩, .correctionWriteback 0 0 0 0 20 ⟨0, .read, none, []⟩,
    .correctionWriteback 0 0 0 0 16 ⟨256 ^ 40, .read, none, []⟩, .correctionWriteback 0 0 0 0 16 ⟨0, .write 31 [0, 0], none, []⟩,
    .correctionWriteback 0 0 0 0 16 ⟨0, .write 0 [], none, []⟩, .correctionWriteback 0 0x14 7 0 8 ⟨0, .read, some .read, []⟩,
    .correctionWriteback 0 0x14 8 0 8 ⟨0, .read, some (.write 32 [0]), []⟩, .hazeStep 0 22 0 0 false [],
    .hazeStep 0 0 0 4095 false [0, 0], .hazeStep 0 0 0 0 false (List.replicate 17 0), .contrailBlockReceive 0 ⟨0x8000, [0], .missing⟩,
    .resyncCopyDone ⟨0, { hosts := { owner := { owner := some 0 } } }⟩, .hazeYield 0 0 0 4096 false,
    .hazePassEnd 0 22 false, .haloHoldChange 0 4 true, .tokenChange 0 3, .laneError 0 2, .laneSilence 0 2, .laneUp 0 2,
    .digestCompare 0 0 0 (2 ^ 32), .digestCompare 0 2 0 0] : List Instr).all (fun i => !i.wellFormed) = true := by decide

theorem test_wf_accepts : ([.ping (hd 5 1), .blockLatch 0 63 (List.replicate 8 {}) 0, .horizonPosting 0 (posting 3 2 31 2 4 65535 true (.safety 0)),
    .correctionWriteback 0 0x16 7 65535 13 ⟨0, .read, none, []⟩, .correctionWriteback 0 0x14 8 2047 8 ⟨0, .write 0 [0], some .read, []⟩,
    .hazeStep 0 0x15 3 4080 true (List.replicate 16 0), .sessionTimeout 0 13, .writeObject (hd 5 1) 0 0 0 1 [0] [0]] : List Instr).all
      (fun i => i.wellFormed) = true := by decide +kernel


/-! ## States for the witnesses -/

/-- An image with some instances: class, instance and content. -/
def img (l : List (Nat × Nat × Nat)) : Image := l.map fun e => (objKey e.1 e.2.1, BitVec.ofNat 2048 e.2.2)

/-- A node after reset under an image, with session 5 open on port 0, which owns the node. -/
def talk (im : Image) : State :=
  { State.reset with cfg := { image := im }, port := { sess := [(0, { id := 5 })], owner := { owner := some 0 } } }

/-- A synchronised active unit A of a pair, its link up, with the same session and owner. -/
def duo (im : Image) : State :=
  { talk im with unt := { pair := { role := 1, sync := 3, lane0 := { up := true }, partnerSerial := 1 } } }

/-- `State.ready` as a check. -/
def readyOk (s : State) (h : PktHead) (op : Nat) : Bool :=
  let x := s.sessOf (s.codeOf h.port)
  decide (s.mode = .running) && decide (s.unt.pair.role ≠ 2) && !s.port.replayIn.within && decide (h.port < 6) && s.ownerSteady && decide (h.version = 1) &&
    decide (h.flags = 0) && decide (h.status = 0) && decide (op ≠ 2) && decide (x.id ≠ 0) && decide (h.session = x.id) &&
    decide (h.seq = (x.lastSeq + 1) % 2 ^ 32) && !x.busy && (!opOwnerOnly op || decide (s.port.owner.owner = some (s.codeOf h.port))) &&
    decide (opModeStatus op s.port.replay s.paired s.isWitness = stOk)

theorem ready_of {s : State} {h : PktHead} {op : Nat} (w : readyOk s h op = true) : s.ready h op := by
  simp only [readyOk, Bool.and_eq_true, decide_eq_true_eq, Bool.or_eq_true, Bool.not_eq_true'] at w
  obtain ⟨⟨⟨⟨⟨⟨⟨⟨⟨⟨⟨⟨⟨⟨a, b⟩, r⟩, c⟩, d⟩, e⟩, f⟩, g⟩, o⟩, i⟩, j⟩, k⟩, l⟩, m⟩, n⟩ := w
  exact ⟨a, b, r, c, d, e, f, g, o, i, j, k, l, fun q => m.resolve_left (by simp [q]), n⟩

/-! ## Witnesses: the packets -/

/-- Opcodes of a single node whose statements take `State.ready` as their premise. -/
def singleOps : List Nat :=
  [0x0001, 0x0003, 0x0004, 0x0005, 0x0006, 0x0007, 0x0008, 0x0009, 0x000B, 0x000C, 0x0101, 0x0102, 0x0103, 0x0104, 0x0105, 0x0106,
   0x0201, 0x0202, 0x0203, 0x0204, 0x0205, 0x0206, 0x0207, 0x0301, 0x0302, 0x0303, 0x0304, 0x0305, 0x0306, 0x0307, 0x0308, 0x0401,
   0x0402, 0x0403, 0x0404, 0x0405, 0x0406, 0x0407, 0x0408, 0x0409, 0x0501, 0x0502, 0x0601, 0x0602, 0x0603, 0x0604, 0x0605, 0x0606,
   0x0701, 0x0702, 0x0703, 0x0704, 0x0705, 0x0901, 0x0902, 0x0903, 0x0A01, 0x0A02, 0x0A03, 0x0B01, 0x0C01, 0x0C02]

theorem talk_ready (op : Nat) (m : op ∈ singleOps) : (talk []).ready (hd 5 1) op :=
  ready_of ((by decide +kernel : ∀ op ∈ singleOps, readyOk (talk []) (hd 5 1) op = true) op m)

/-- The premises of a packet whose parameters are numbers in range; and the backup RAM behind a locked interface. -/
theorem test_wit_ImmediateReads : (∀ op ∈ [0x0001, 0x0005, 0x0106, 0x0502, 0x0902, 0x0C01, 0x0C02, 0x0206, 0x0501, 0x0605, 0x0901, 0x0A01,
      0x0201], (talk []).ready (hd 5 1) op) ∧ (duo (img [(0xD, 0, 1)])).ready (hd 5 1) 0x0801 ∧
    ({ talk [] with twi := { locked := true } } : State).ready (hd 5 1) 0x0605 :=
  ⟨fun op m => talk_ready op ((by decide : ∀ op ∈ [0x0001, 0x0005, 0x0106, 0x0502, 0x0902, 0x0C01, 0x0C02, 0x0206, 0x0501, 0x0605, 0x0901,
    0x0A01, 0x0201], op ∈ singleOps) op m), ready_of (by decide +kernel), ready_of (by decide +kernel)⟩

theorem test_wit_ReadsOfTheFrame : (talk []).ready (hd 5 1) 0x0004 ∧ (talk []).ready (hd 5 1) 0x0205 ∧ (talk []).ready (hd 5 1) 0x0303 ∧
    (talk []).ready (hd 5 1) 0x0408 :=
  ⟨talk_ready _ (by decide), talk_ready _ (by decide), talk_ready _ (by decide), talk_ready _ (by decide)⟩

/-- Runs at the ends of their ranges, and a channel with a modem. -/
theorem test_wit_ReadsOfRuns : (∀ op ∈ [0x0301, 0x0302, 0x0401, 0x0402, 0x0701, 0x0704, 0x0A02, 0x0B01, 0x0201],
      (talk (img [(1, 511, 2 ^ 80)])).ready (hd 5 1) op) ∧
    (448 + 64 ≤ 512 ∧ 512 < 449 + 64 ∧ 1920 + 128 ≤ 2048 ∧ 2048 < 1921 + 128 ∧ 0 + 64 ≤ 64 ∧ 64 < 1 + 64 ∧ 0 + 32 ≤ 32 ∧ 32 < 1 + 32 ∧
      15 + 1 ≤ 16 ∧ 16 < 15 + 2) ∧
    (chModemCell (img [(1, 511, 2 ^ 80)]) 511 ≠ 0 ∧ chModemCell (img [(1, 511, 2 ^ 80)]) 0 = 0 ∧
      objRangeOk 1 511 255 1 = true ∧ objRangeOk 1 511 255 2 = false ∧ objRangeOk 15 0 0 1 = false) :=
  ⟨fun op m => ready_of ((by decide +kernel : ∀ op ∈ [0x0301, 0x0302, 0x0401, 0x0402, 0x0701, 0x0704, 0x0A02, 0x0B01, 0x0201],
      readyOk (talk (img [(1, 511, 2 ^ 80)])) (hd 5 1) op = true) op m), by decide, by decide +kernel⟩

/-- An OPEN_SESSION on a port with a session that owns the node, and on one without. -/
theorem test_wit_SessionsOpenAndClose : ((talk []).mode = .running ∧ (talk []).unt.pair.role ≠ 2 ∧
      (talk []).port.replayIn.within = false ∧ (hd 0 9).port < 6 ∧ (talk []).ownerSteady = true ∧ (hd 0 9).version = 1 ∧
      (hd 0 9).flags = 0 ∧ (hd 0 9).status = 0 ∧ (hd 0 9).session = 0 ∧ ((talk []).sessOf 0).id ≠ 0 ∧ ((talk []).sessOf 1).id = 0 ∧
      (talk []).phase ≠ .complete ∧ tabWf (fun _ => ({} : Session)) (talk []).port.sess = true) ∧ (talk []).ready (hd 5 1) 0x0003 :=
  ⟨by decide +kernel, talk_ready _ (by decide)⟩

/-- A claim on a port with and without CLAIM_EN and with ownership held and vacant; an offer to port 1 and its own port; an ACCEPT
with an offer, on a port with and without CLAIM_EN, and without one. -/
theorem test_wit_OwnershipRequests :
    (let offered (im : Image) : State :=
      { talk im with port := { sess := [(0, { id := 5 })], owner := { owner := some 1, offer := some (0, 0) } } }
    (∀ op ∈ [0x0101, 0x0103, 0x0105], (talk []).ready (hd 5 1) op) ∧ (talk (img [(0xE, 0, 0)])).ready (hd 5 1) 0x0101 ∧
      ({ talk [] with port := { sess := [(0, { id := 5 })] } } : State).ready (hd 5 1) 0x0101 ∧
      (offered []).ready (hd 5 1) 0x0104 ∧ (offered (img [(0xE, 0, 0)])).ready (hd 5 1) 0x0104 ∧ (talk []).ready (hd 5 1) 0x0104) ∧
    (poClaimEn (talk []).im 0 = true ∧ (talk []).port.owner.owner = some 0 ∧ poClaimEn (img [(0xE, 0, 0)]) 0 = false ∧
      (talk []).hasPort 5 = true ∧ (5 : Nat) ≠ (talk []).codeOf 0 ∧ poClaimEn (talk []).im (5 % 8) = true ∧ (talk []).hasPort 6 = false ∧
      (talk []).hasPort 8 = false ∧ (talk []).port.owner.offer = none ∧ (talk []).port.trace = none) :=
  ⟨⟨fun op m => talk_ready op ((by decide : ∀ op ∈ [0x0101, 0x0103, 0x0105], op ∈ singleOps) op m), ready_of (by decide +kernel),
    ready_of (by decide +kernel), ready_of (by decide +kernel), ready_of (by decide +kernel), talk_ready _ (by decide)⟩, by decide +kernel⟩

/-- A new packet of the owner, and the packet before sent again. -/
theorem test_wit_PacketsRenewTheLease : packetOf (.ping (hd 5 1)) = some (hd 5 1, .ping, false) ∧ (Instr.ping (hd 5 1)).wellFormed = true ∧
    opCode .ping ≠ 0x0002 ∧ ((opAlarm .ping = true → (talk []).alm.next = 0) ∧ (talk []).mode = .running ∧ (talk []).unt.pair.role ≠ 2 ∧ (talk []).ownerSteady = true ∧
      (talk []).port.owner.owner = some ((talk []).codeOf (hd 5 1).port) ∧ ((talk []).sessOf 0).id ≠ 0 ∧
      (hd 5 1).session = ((talk []).sessOf 0).id ∧ ((talk []).sessOf 0).busy = false ∧
      (hd 5 1).seq = (((talk []).sessOf 0).lastSeq + 1) % 2 ^ 32) ∧
    ((hd 5 1).seq = ({ id := 5, lastSeq := 1, lastOp := 1, reply := some {} } : Session).lastSeq ∧
      opCode .ping = ({ id := 5, lastSeq := 1, lastOp := 1, reply := some {} } : Session).lastOp ∧
      ({ id := 5, lastSeq := 1, lastOp := 1, reply := some {} } : Session).reply.isSome = true) ∧ (talk []).ready (hd 5 1) 0x0102 :=
  ⟨rfl, by decide, by decide, by decide +kernel, by decide, talk_ready _ (by decide)⟩

/-- TRACE_OPEN with and without TRACE_EN and with a trace already open; a segment that does not follow, and one that does. -/
theorem test_wit_UnitRequests : (∀ op ∈ [0x0006, 0x0007, 0x0008, 0x0009, 0x000B, 0x000C], (talk []).ready (hd 5 1) op) ∧
    imTraceEn (talk []).im = false ∧ imTraceEn (img [(0, 0, 2 ^ 514)]) = true ∧ (talk (img [(0, 0, 2 ^ 514)])).ready (hd 5 1) 0x0008 ∧
    (talk (img [(0, 0, 2 ^ 514)])).port.trace = none ∧ replayAdd (talk []).fwCrc 1 [] (talk []).port.replayIn = none ∧
    replayAdd (talk []).fwCrc 0 [1] (talk []).port.replayIn = some { next := 1, bytes := [1] } :=
  ⟨fun op m => talk_ready op ((by decide : ∀ op ∈ [0x0006, 0x0007, 0x0008, 0x0009, 0x000B, 0x000C], op ∈ singleOps) op m),
    by decide +kernel, by decide +kernel, ready_of (by decide +kernel), rfl, by decide +kernel, by decide +kernel⟩

/-- A mask over MODE of CHCFG 0, one over ENTRY_FIRST (bits 64 to 67), and loads that end at the image and past it. -/
theorem test_wit_StagingImage : (∀ op ∈ [0x0202, 0x0204, 0x0207], (talk []).ready (hd 5 1) op) ∧ objRangeOk 1 0 0 1 = true ∧
    masksRo (objOffset 1 0 0) [0xFF] = false ∧ objRangeOk 1 0 8 1 = true ∧ masksRo (objOffset 1 0 8) [0x01] = true ∧
    objRangeOk 1 511 256 1 = false ∧ (imageLength - 1) + 1 ≤ imageLength ∧ imageLength < imageLength + 1 :=
  ⟨fun op m => talk_ready op ((by decide : ∀ op ∈ [0x0202, 0x0204, 0x0207], op ∈ singleOps) op m), by decide, by decide +kernel, by decide,
    by decide +kernel, by decide, by decide, by decide⟩

/-- A staging image with reserved bit 24 of HDR set is refused with RESERVED_SET. -/
theorem test_wit_RefusedCommitsChangeNothing : ∃ body, ({ talk [] with cfg := { staging := img [(0, 0, 2 ^ 24)] } } : State).ready (hd 5 1) 0x0203 ∧
    commitCheck (img [(0, 0, 2 ^ 24)]) (talk []).facts = some (stReservedSet, body) :=
  match h : commitCheck (img [(0, 0, 2 ^ 24)]) (talk []).facts with
  | some (st, body) => by
    have e : (commitCheck (img [(0, 0, 2 ^ 24)]) (talk []).facts).map (·.1) = some stReservedSet := by decide +kernel
    rw [h] at e
    exact ⟨body, ready_of (by decide +kernel), by rw [show st = stReservedSet from Option.some.inj e]⟩
  | none => by
    have e : (commitCheck (img [(0, 0, 2 ^ 24)]) (talk []).facts).map (·.1) = some stReservedSet := by decide +kernel
    rw [h] at e
    cases e

/-- The work estimate of an image is no number of the manual (R44), so this witness takes one that fits. A CONFIRM of the CRC in
force before and after it is confirmed, and of another CRC. -/
theorem test_wit_ConfigurationRequests (fits : ∀ im f k, Config.frameWork im f k ≤ 360000) : (talk []).ready (hd 5 1) 0x0203 ∧
    commitCheck (talk []).cfg.staging (talk []).facts = none ∧ (sameSettings [] [] = true ∧ sameSettings (img [(1, 0, 1)]) [] = false) ∧
    (talk []).ready (hd 5 1) 0x0703 ∧ (7 : Nat) < 2 ^ 32 ∧ (7 : Nat) ≠ (talk []).cfg.hdr.safeCrc ∧ (talk []).cfg.hdr.safeCrc = 0 ∧
    (talk []).cfg.hdr.confirmed = 0 ∧ ({ confirmed := 1 } : Header).confirmed ≠ ({} : Header).safeCrc :=
  ⟨talk_ready _ (by decide), by
    have l : imPeriod [] * 9 / 10 = 360000 := by decide +kernel
    have n : ∀ f, frameBudget [] f = none := fun f => by
      unfold frameBudget
      dsimp only
      rw [l, if_neg (Nat.not_lt.mpr (fits _ _ _))]
    have e : stage1 [] (talk []).facts = [] ∧ stage2 [] = [] ∧ stage3 [] (allocate []) (talk []).facts = [] ∧ stage4 [] = [] ∧
      stage5 [] = [] ∧ (allocate []).refused = [] ∧ loopBudget [] = none := by decide +kernel
    obtain ⟨a, b, c, d, f, g, i⟩ := e
    show commitCheck [] (talk []).facts = none
    simp [commitCheck, a, b, c, d, f, g, i, n], by decide +kernel, talk_ready _ (by decide), by decide +kernel⟩

/-- DO, AO and PI channels, a DO that group 3 names, and an AO with another source. -/
def outs : Image := img [(1, 0, 8), (1, 1, 8), (1, 510, 6), (1, 511, 9), (2, 510, 0), (2, 509, 1), (6, 3, 1 + 2 ^ 16)]

theorem test_wit_ChannelWrites : ((talk outs).ready (hd 5 1) 0x0304 ∧ (talk outs).ready (hd 5 1) 0x0305 ∧ (talk outs).ready (hd 5 1) 0x0308) ∧
    (chMode outs 0 = 8 ∧ outNamed outs 0 = false ∧ chMode outs 1 = 8 ∧ outNamed outs 1 = true ∧ chMode outs 510 = 6 ∧ aoSrc outs 510 ≠ 1 ∧
      chMode outs 511 = 9 ∧ chMode outs 2 ≠ 9 ∧ (-2147483648 : Int) ≤ -2147483648 ∧ (2147483647 : Int) < 2147483648) :=
  ⟨⟨ready_of (by decide +kernel), ready_of (by decide +kernel), ready_of (by decide +kernel)⟩, by decide +kernel⟩

/-- An input channel, the second channel of a pair, a channel of a safety function, and a trim that runs. -/
theorem test_wit_TrimsStart : (let im := img [(1, 0, 1), (1, 2, 3), (1, 3, 3 + 2 ^ 8), (1, 511, 5 + 2 ^ 71)]
    ∀ span : Bool, (talk im).ready (hd 5 1) (if span then 0x0307 else 0x0306)) ∧
    (let im := img [(1, 0, 1), (1, 2, 3), (1, 3, 3 + 2 ^ 8), (1, 511, 5 + 2 ^ 71)]
    isAnalogIn (chMode im 0) = true ∧ isPairedPart im 0 = false ∧ chSafeOwned im 0 = false ∧ isPairedPart im 3 = true ∧
      chSafeOwned im 511 = true ∧ isAnalogIn (chMode im 511) = true ∧ isPairedPart im 511 = false ∧ isAnalogIn (chMode im 4) = false) ∧
    ({ talk [] with cfg := { trims := [{}] } } : State).ready (hd 5 1) 0x0306 :=
  ⟨fun span => by cases span <;> exact ready_of (by decide +kernel), by decide +kernel, ready_of (by decide +kernel)⟩

/-- Points: 0 enabled without SHELVE_OK, 1 with a logic source, 2047 with SHELVE_OK, SHELVE_MAX 1,440 and ACK_LOC 0. -/
def points : Image := img [(5, 0, 1), (5, 1, 3), (5, 2047, 1 + 2 ^ 10 + 1440 * 2 ^ 176 + 2 ^ 192), (7, 15, 1)]
/-- The same node with point 2047 in alarm state `st`. -/
def alarmed (st : Nat) : State := { talk points with alm := { pts := [(2047, { state := st })] } }

theorem test_wit_AlarmRequests :
    (∀ op ∈ [0x0403, 0x0404, 0x0405, 0x0406, 0x0407, 0x0409], ∀ st ∈ [almNormal, almUnack, almReturn, almShelved, almSuppressed, almOut],
      (alarmed st).ready (hd 5 1) op) ∧
    (alEn points 2047 = true ∧ 1440 ≤ alShelveMax points 2047 ∧ alShelveOk points 2047 = true ∧ alEn points 0 = true ∧
      alShelveOk points 0 = false ∧ alEn points 2 = false ∧ alLogic points 1 = true ∧ alLogic points 2047 = false ∧
      ackAllowed points 0 2047 = true ∧ ackAllowed points 0 0 = false ∧ [2047] = ackScope points 0 none ∧
      [2047] = ackScope points 0 (some 0) ∧ isCabin points 15 = true ∧ isCabin points 14 = false ∧
      (tabGet {} (alarmed almOut).alm.pts 2047).state = almOut ∧ (alarmed almOut).alm.next = 0) ∧
    (let s : State := { talk points with alm := { next := 1 } }
    packetOf (.remove (hd 5 1) 2047) = some (hd 5 1, .remove 2047, false) ∧ (Instr.remove (hd 5 1) 2047).wellFormed = true ∧
      opAlarm (.remove 2047) = true ∧ s.mode = .running ∧ s.unt.pair.role ≠ 2 ∧ s.alm.next ≠ 0) :=
  ⟨fun op m st n => ready_of ((by decide +kernel : ∀ op ∈ [0x0403, 0x0404, 0x0405, 0x0406, 0x0407, 0x0409],
      ∀ st ∈ [almNormal, almUnack, almReturn, almShelved, almSuppressed, almOut], readyOk (alarmed st) (hd 5 1) op = true) op m st n),
    by decide +kernel, rfl, by decide +kernel⟩

/-- A staging set: 2199-12-31 23:59:59.999; one with a reserved bit; one with month 13. -/
def setOf (y mo d h mi s ms : Nat) : Nat := pack [(10, ms), (22, 0), (6, s), (2, 0), (6, mi), (2, 0), (5, h), (11, 0), (5, d), (3, 0), (4, mo),
  (4, 0), (8, y), (8, 0)]

theorem test_wit_ClockRequests : (∀ op ∈ [0x0601, 0x0602, 0x0603, 0x0604, 0x0606], (talk []).ready (hd 5 1) op) ∧
    stReserved (ofBytes (toBytes 12 (2 ^ 95))) = true ∧ stReserved (ofBytes (toBytes 12 (setOf 199 12 31 23 59 59 999))) = false ∧
    stValid (setOf 199 12 31 23 59 59 999) = true ∧ stValid (setOf 199 13 31 23 59 59 999) = false ∧ stValid (setOf 1 2 29 0 0 0 0) = false ∧
    ({ talk [] with twi := { stage := setOf 199 12 31 23 59 59 999 } } : State).ready (hd 5 1) 0x0603 ∧ 127 + 1 ≤ 128 ∧ 128 < 127 + 2 ∧
    (toBytes 12 (2 ^ 95)).length = 12 ∧ (∀ op ∈ [0x0601, 0x0602, 0x0603, 0x0604, 0x0606],
      ({ talk [] with twi := { locked := true, stage := setOf 199 12 31 23 59 59 999 } } : State).ready (hd 5 1) op) :=
  ⟨fun op m => talk_ready op ((by decide : ∀ op ∈ [0x0601, 0x0602, 0x0603, 0x0604, 0x0606], op ∈ singleOps) op m), by decide, by decide,
    by decide, by decide, by decide, ready_of (by decide +kernel), by decide, by decide, by decide,
    fun op m => ready_of ((by decide +kernel : ∀ op ∈ [0x0601, 0x0602, 0x0603, 0x0604, 0x0606],
      readyOk { talk [] with twi := { locked := true, stage := setOf 199 12 31 23 59 59 999 } } (hd 5 1) op = true) op m)⟩

/-- The image of a pair whose unit A has serial 1, and units that may resynchronise and that may switch over. -/
def pairIm : Image := img [(0xD, 0, 1 + 2 ^ 16)]
def mayResync : State := { duo pairIm with unt := { pair := { role := 1, lane0 := { up := true }, partnerSerial := 1, holdA := 2 } } }
def maySwitch : State := { duo pairIm with unt := { pair := { role := 1, sync := 3, token := 1, holdB := 1 } } }

/-- The premises of a resynchronisation and of a switchover, met and not met; a free and a named transmit object. -/
theorem test_wit_SafetyPairAndDiagnosticRequests : (∀ op ∈ [0x0702, 0x0705, 0x0903, 0x0A03], (talk []).ready (hd 5 1) op) ∧
    mayResync.ready (hd 5 1) 0x0802 ∧ maySwitch.ready (hd 5 1) 0x0803 ∧ (duo pairIm).ready (hd 5 1) 0x0802 ∧
    (duo pairIm).ready (hd 5 1) 0x0803 ∧
    (mayResync.resyncReady = true ∧ (duo pairIm).resyncReady = false ∧ maySwitch.switchoverReady = true ∧
      (duo pairIm).switchoverReady = false) ∧
    (let im := img [(6, 0, 2 ^ 5 + 510 * 2 ^ 32), (0xA, 510, 3), (0xA, 511, 3 + 8 * 2 ^ 96)]
    coEn im 511 = true ∧ coTx im 511 = true ∧ objNamedTx im 511 = false ∧ coSize im 511 = 8 ∧ objNamedTx im 510 = true ∧
      coEn im 509 = false) :=
  ⟨fun op m => talk_ready op ((by decide : ∀ op ∈ [0x0702, 0x0705, 0x0903, 0x0A03], op ∈ singleOps) op m), ready_of (by decide +kernel),
    ready_of (by decide +kernel), ready_of (by decide +kernel), ready_of (by decide +kernel), by decide +kernel, by decide +kernel⟩

/-! ## Witnesses: frames -/

/-- Frame 0 complete at 1,000, its strobe at 0; frame 0 under evaluation; and frame 0 with END from all engines. -/
def complete (im : Image) : State := { talk im with phase := .complete, fr := { doneAt := 1000 } }
def evaluating (im : Image) : State := { talk im with phase := .evaluate }
def ended (im : Image) : State := { evaluating im with eng := { ends := 65535 } }

/-- The target of frame 1 is 400,000; a commit waits. A replay whose snapshot has been taken. -/
theorem test_wit_StrobeOpensTheNextFrame : (complete []).mode = .running ∧ (complete []).phase = .complete ∧
    (complete []).strobesItself = true ∧ (complete []).strobeDue = 400000 ∧ (complete []).port.replay = false ∧
    ({ complete [] with cfg := { next := some {}, restage := true } } : State).strobeDue ≤ 400000 ∧
    (complete []).unt.pair.hot ≠ some ((complete []).fr.frameNo + 1) ∧
    ({ complete [] with port := { replay := true, replayIn := { begun := true } } } : State).strobeDue ≤ 400000 := by decide +kernel

theorem test_wit_EvaluationStarts : (talk []).mode = .running ∧ (talk []).phase = .gather ∧ (talk []).idleStandby = false ∧
    (talk []).inputsIn = true ∧ (talk []).port.replay = false ∧
    (let s := { talk (img [(1, 511, 7)]) with inp := { arrived := 2 ^ 511 } }
    s.inputsIn = true ∧ chMode s.im 511 = 7 ∧ chPairFn s.im (511 - 511 % 2) ≠ 2) := by decide +kernel

/-- Function 31, whose inputs have differed for its last frame but one. -/
def differing : State :=
  let f : SafeFn := { started := true, state := sfReleased }
  { evaluating (img [(4, 31, 1 + 496 * 2 ^ 16 + 2 ^ 96)]) with
    safe := { fnA := [(31, f)], fnB := [(31, f)], exA := [(31, { d := true, bad := false })], exB := [(31, { bad := false })] } }

theorem test_wit_NimbusPairs : (evaluating []).atBarrier 0 = true ∧ (evaluating []).atBarrier 3 = true ∧
    differing.atBarrier (31 / 8) = true ∧ differing.safe.doneFn.testBit 31 = false ∧ sfEn differing.im 31 = true := by decide +kernel

/-- Connection 31 as a slave or a master in RUNNING or FAILSAFE, with W = 100 (4,000,000 cycles) and CYCLE = 1, and its CRCs confirmed. -/
def connected (slave : Bool) (d : Dsc) : State :=
  { evaluating (img [(9, 31, 1 + 2 * b2n slave + 2 ^ 24 + 100 * 2 ^ 48)]) with
    safe := { dscA := [(31, d)], dscB := [(31, d)] }, fr := { prevLen := 400000 } }

theorem test_wit_ConnectionTimers :
    (let s := connected true { started := true, state := dscRunning, elapsed := 4000000 }
    s.atBarrier (31 / 8) = true ∧ s.safe.doneDsc.testBit 31 = false ∧ s.dscWould 31 (fun a b =>
      decide (a.state ≠ dscFailsafe) && decide (b.state = dscFailsafe) && decide (b.cause = 1)) = true) ∧
    (connected true { started := true, state := dscFailsafe, fsAge := 4000000 }).dscWould 31 (fun a b =>
      decide (a.state = dscFailsafe) && decide (b.state = dscConnecting)) = true ∧
    (let s := connected false { started := true, state := dscRunning, waiting := true }
    dscSlave s.im 31 = false ∧ s.dscWould 31 (fun a b => b.pdu.isSome && decide (a.state = b.state) &&
      decide (dscCycle s.im 31 ≤ a.sinceTx + 1)) = true) ∧
    (dscElapse 400000 ({ errCnt := 1, errAge := 3600000 * 400000 - 400000 } : Dsc)).errCnt = 0 := by decide +kernel

/-- An entry of each kind, one of each wrong frame and poisoned, one that its engine does not serve, and END before and after its
region's barrier. -/
theorem test_wit_PostingsEnterTheirSlots :
    (let s : State := { evaluating (img [(1, 511, 1)]) with safe := { passed := 8 } }
    s.mode = .running ∧ s.idleStandby = false ∧ s.phase = .evaluate ∧ s.fr.frameNo % 65536 = 0 ∧ s.safe.passed.testBit 3 = true ∧
      s.safe.passed.testBit 0 = false ∧ s.serves (posting 3 1 511 0 4 0 false (.result 0)) = true ∧
      s.serves (posting 0 0 511 0 4 0 false (.result 0)) = false) ∧
    ([posting 3 1 511 0 4 0 false (.result 0), posting 3 1 511 1 1 0 true (.doState true), posting 3 1 511 1 1 0 false (.current 0),
      posting 3 3 31 2 4 0 false (.safety 0), posting 3 2 24 2 4 0 false (.safety 0), posting 0 2 31 2 4 0 false (.safety 0),
      posting 3 0 5 3 4 0 false (.event 1 2 3 4 5), posting 0 0 0 4 1 0 false (.words [7]), posting 3 2 0 7 0 0 false .fin,
      posting 0 2 0 7 0 0 false .fin, posting 0 0 0 7 0 1 true .fin] : List Posting).all Posting.fits = true := by decide +kernel

theorem test_wit_FrameCloses : (ended []).zenithReady = true ∧
    (let s := { ended (img [(1, 0, 8), (1, 511, 6)]) with eng := { ends := 65535, poison := 65535 } }
    s.zenithReady = true ∧ s.eng.poison.testBit (s.outSource 0) = true ∧ s.eng.poison.testBit (s.outSource 511) = true ∧
      chMode s.im 0 = 8 ∧ chMode s.im 511 = 6) := by decide +kernel

theorem test_wit_LongFramesAreReported : (talk []).mode = .running ∧ (talk []).phase ≠ .complete ∧ (talk []).fr.longNow = false ∧
    2 * (talk []).fr.strobeAt + 3 * (talk []).P ≤ 2 * 600000 := by decide +kernel

theorem test_wit_RegionReports :
    (let s := talk (img [(1, 511, 7)])
    s.mode = .running ∧ s.phase = .gather ∧ s.waitsFor 511 = true ∧ s.fr.strobeAt + usC 200 ≤ 80000) ∧
    ((evaluating []).isSilent 15 = true ∧ ((evaluating []).regOf 3).silent.testBit 3 = false ∧
      (evaluating []).fr.strobeAt + 8 * (evaluating []).P ≤ 3200000) ∧
    ((1501 : Int).natAbs > 1500 ∧ (-1500 : Int).natAbs ≤ 1500 ∧ ((talk []).regOf 3).clkFault = false ∧ (talk []).awake = true ∧
      4999 < 5000 ∧ 10000 ≤ 10000) := by decide +kernel

/-! ## Witnesses: alarms, the engineer call, ownership and arriving packets -/

/-- Point 2047 with a channel-quality source (true while its channel is unconfigured) and suppression by point 0. -/
def onePoint (a : AlmPt) : State :=
  { ended (img [(5, 2047, 1 + 4 * 2 ^ 4 + 2 ^ 11)]) with alm := { pts := [(2047, a)] } }

theorem test_wit_AlarmTimers :
    ((onePoint {}).zenithReady = true ∧ alEn (onePoint {}).im 2047 = true ∧ (onePoint {}).alm.next ≤ 2047 ∧
      ((onePoint {}).pointOf 2047).c = false ∧ (((onePoint {}).tick 5).pointsTo 2048 |>.pointOf 2047).c = true) ∧
    (let a : AlmPt := { supp := true, h := 1, state := almSuppressed }
    ((onePoint a).pointOf 2047).supp = true ∧ (((onePoint a).tick 5).pointsTo 2048 |>.pointOf 2047).supp = false) ∧
    (let a : AlmPt := { state := almShelved, shelf := 1 }
    ((onePoint a).pointOf 2047).trig.testBit 4 = false ∧ (((onePoint a).tick 5).pointsTo 2048 |>.pointOf 2047).trig.testBit 4 = true) ∧
    (let s : State := { ended (img [(6, 63, 2 ^ 5 + 2 ^ 48)]) with alm := { grps := [(63, { sent := some 0x00FFFF0000000070 })] } }
    grObjEn s.im 63 = true ∧ s.alm.grpNext ≤ 63 ∧
      (let x : Grp := tabGet ({} : Grp) ((s.tick 5).groupsTo 63).alm.grps 63
      grObjCycle s.im 63 ≤ x.since + 1 ∧ x.sent = some (groupPayload s.im ((s.tick 5).groupsTo 63).alm.pts 63
        (tabGet ({} : Grp) ((s.tick 5).groupsTo 64).alm.grps 63).out x.fo))) := by decide +kernel

/-- The engineer call with stations 0 (wired) and 15 (on CAN, OBJ_CYCLE 1), T_PRE 1 s, and an unacknowledged point. -/
def calling (c : CallSys) (x : Station) : State :=
  { ended (img [(5, 0, 1), (7, 0, 1), (7, 15, 1 + 2 ^ 5 + 2 ^ 72), (8, 0, 1 + 2 ^ 48)]) with
    alm := { call := c, stations := [(15, x)], pts := [(0, { state := if c.cs = 1 then almUnack else almNormal })] } }

theorem test_wit_EngineerCallTimers :
    ((calling {} {}).zenithReady = true ∧ (calling {} {}).alm.callDone = false) ∧
    (let y := ((calling { cs := 1, esc := 1, duty := some 0 } {}).tick 5).callNow
    y.alm.call.cs = 2 ∧ y.alm.call.esc = 0) ∧
    ((calling { dmState := 1, dm := 2 } {}).tick 5).callNow.alm.call.dmState = 2 ∧
    ((calling { dmState := 2, dm := 1 } {}).tick 5).callNow.alm.call.dmState = 3 ∧
    (tabGet ({} : Station) ((calling {} { quiet := 2999 }).tick 5).callNow.alm.stations 15).lost = true ∧
    (let s := calling {} { sent := some 4096 }
    let y := (s.tick 5).callNow
    caObjCycle s.im 15 ≤ (tabGet ({} : Station) s.alm.stations 15).since + 1 ∧ (tabGet ({} : Station) y.alm.stations 15).sent = some 4096 ∧
      (tabGet ({} : Station) y.alm.stations 15).tx ≠ (tabGet ({} : Station) s.alm.stations 15).tx) := by decide +kernel

/-- A silent session of owner 13 (port 5 of unit B), a lease and an offer just over, and two claims of one priority. -/
theorem test_wit_OwnershipTimers :
    (let s : State := { evaluating [] with port := { sess := [(13, { id := 5, quiet := 29999 })], owner := { owner := some 13 } } }
    isCode 13 = true ∧ s.mode = .running ∧ s.phase = .evaluate ∧ (s.sessOf 13).id ≠ 0 ∧ (s.sessOf 13).heard = false ∧
      framesOf s.P (msC 30000) ≤ (s.sessOf 13).quiet + 1) ∧
    (let s : State := { talk [] with fr := { total := 800000001 } }
    s.leaseOver = true ∧ s.phase ≠ .complete ∧ s.port.owner.owner = some 0) ∧
    (let s : State := { talk [] with fr := { total := 800000001 }, port := { owner := { offer := some (1, 0) } } }
    s.offerOver = true) ∧
    (let s : State := { ended [] with fr := { total := 100000000 }, port := { owner := { window := some 0, claims := [{ code := 0 }, { code := 1 }] } } }
    s.zenithReady = true ∧ 0 + windowCycles ≤ s.fr.total ∧ s.port.owner.claims ≠ []) := by decide +kernel

/-- The bytes of a PING from session 5. -/
def pingBytes : List Byte := replyBytes { kind := 0, session := 5, seq := 1, opcode := 0x0001 }

theorem test_wit_PacketsAreStamped :
    (parsePacket 5 0 0 [] = none ∧ (parsePacket 5 1 2 pingBytes).map (·.head.seq) = some 1 ∧ (talk []).mode = .running ∧
      (talk []).engSilentStands = false ∧ (talk []).holdsBack 5 = false) ∧
    (let s : State := { talk [] with port := { st := [(5, { rxWait := [.message []] })] } }
    s.mode = .running ∧ s.holdsBack 5 = true) ∧
    (let s : State := { duo [] with unt := { pair := { role := 2 } } }
    s.unt.pair.role = 2 ∧ s.forwards = false ∧ (parsePacket 5 1 2 pingBytes).map (fun p => headStatus p.head) = some stOk ∧
      ({ duo [] with unt := { pair := { role := 2, sync := 1, lane0 := { up := true } } } } : State).forwards = true ∧
      (parsePacket 5 1 2 (replyBytes { kind := 0, session := 5, seq := 1, opcode := 0x0001, status := 1 })).map
        (fun p => decide (headStatus p.head = stOk)) = some false) ∧
    (isCode 13 = true ∧ (duo []).mode = .running ∧ (duo []).unt.pair.role = 1 ∧ (duo []).isLocal 13 = false ∧ (duo []).forwards = true ∧
      (duo []).engSilentStands = false ∧ (parsePacket (13 % 8) 1 2 pingBytes).isSome = true) := by decide +kernel

/-- A bad escape, a packet whole, and Modbus requests: two registers of the map, a register outside it, a function not supported. -/
theorem test_wit_SerialPort :
    (poModbus (talk []).im 5 = false ∧ serUnstuff [0x7D] = none ∧ serUnstuff pingBytes = some pingBytes ∧ pingBytes.length ≤ 8192 ∧
      pingBytes ≠ [] ∧ (parsePacket 5 0 0 pingBytes).isSome = true ∧ 10000 < 10001 ∧ (talk []).holdsBack 5 = false ∧ 750 < 751) ∧
    (let s := talk (img [(0xE, 5, 2 ^ 258 + 2 ^ 264)])
    poModbus s.im 5 = true ∧ (mbAnswer (poMbAddr s.im 5) s.mbReg (mbFrame [1, 3, 0xFF, 0xFF, 0, 1])).map (·.2) = some true ∧
      (mbAnswer (poMbAddr s.im 5) s.mbReg (mbFrame [1, 1, 0, 0, 0, 1])).map (·.2) = some true ∧
      (mbAnswer (poMbAddr s.im 5) s.mbReg (mbFrame [1, 8, 0, 0, 0, 1])).map (·.2) = some false ∧
      mbAnswer (poMbAddr s.im 5) s.mbReg (mbFrame [2, 3, 0, 0, 0, 1]) = none ∧ nth (mbFrame [2, 3, 0, 0, 0, 1]) 0 ≠ poMbAddr s.im 5) := by
  decide +kernel

/-- A trim whose 16 frames are over, with too few records and with enough, and its reply waiting. -/
def trimming (x : Trim) : State :=
  { ended (img [(1, 511, 1)]) with
    cfg := { image := img [(1, 511, 1)], trims := [x] }, fr := { frameNo := 16 }, port := { pend := [{ op := .trimZero 511 0 }] } }

theorem test_wit_TrimsComplete : isCh 511 = true ∧ (trimming { ch := 511 }).zenithReady = true ∧
    (trimming { ch := 511 }).trimEnding = some { ch := 511 } ∧ (trimOutcome (img [(1, 511, 1)]) { ch := 511 }).1 ≠ stOk ∧
    (trimming { ch := 511, count := 8 }).trimEnding = some { ch := 511, count := 8 } ∧
    (trimOutcome (img [(1, 511, 1)]) { ch := 511, count := 8 }).1 = stOk ∧ (trimming { ch := 511 }).cfg.next = none ∧
    (trimming { ch := 511 }).port.replay = false ∧ (trimming { ch := 511 }).port.pend = [{ op := .trimZero 511 0 }] ∧
    (let s := { trimming { ch := 511, count := 8 } with cfg := { image := img [(1, 511, 1)], trims := [{ ch := 511, count := 8 }], next := some {} } }
    s.trimEnding = some { ch := 511, count := 8 } ∧ s.cfg.next ≠ none) := by decide +kernel

/-! ## Witnesses: blocks and their cells -/

/-- Block 63 powered on a node of an image, with parts of its own. -/
def last (l : List (Nat × Nat × Nat)) (k : Blk) (p : BlkPart) : State :=
  { talk (img l) with blks := { p with blk := [(63, { k with powered := true })] } }

theorem test_wit_BlocksLatch :
    (let s := last [(1, 511, 8), (1, 510, 6)] {} {}
    s.awaitsLatch 63 = true ∧ 511 / 8 = 63 ∧ s.inp.arrived.testBit 511 = false ∧ s.follows = false ∧ chMode s.im 511 = 8 ∧
      (s.outOf 511).silent = false ∧ chMode s.im 510 = 6 ∧ 503 / 8 ≠ 63 ∧ s.blks.behind.testBit 63 = false) ∧
    (let s := { last [] {} {} with inp := { arrived := 2 ^ 511 } }
    s.awaitsLatch 63 = true ∧ s.inp.arrived.testBit 511 = true) ∧
    (let s := last [] { latched := some 0 } {}
    s.mode = .running ∧ s.blkRuns (511 / 8) = true ∧ (s.blkOf (511 / 8)).latched = some s.fr.frameNo ∧
      (s.blkOf (511 / 8)).latchAt + usC 1 < max s.now 401) := by decide +kernel

/-- Channel 511: a PT100 in entry 15 of block 63. -/
def converting (q : BlkAcq) (p : BlkPart) : State :=
  last [(1, 511, 3 + 15 * 2 ^ 64 + 2 ^ 68 + 2 ^ 138 + 2 ^ 144)] {} { p with seqr := [(63, { q with pos := 15, owner := some 511 })] }

theorem test_wit_ConversionsAndExcitation :
    (let s := converting {} {}
    s.blkRuns 63 = true ∧ (s.seqOf 63).pos < 16 ∧ s.converting 63 = some 511 ∧ usesExc (s.bim 63) 511 = true ∧ s.blanked 511 = false ∧
      (s.seqOf 63).tainted = false ∧ (s.seqOf 63).early = false ∧ (s.seqOf 63).starts < 2) ∧
    ((converting { starts := 2 } {}).converting 63 = some 511 ∧ 2 ≤ ((converting { starts := 2 } {}).seqOf 63).starts) ∧
    ((converting { tainted := true } {}).converting 63 = some 511 ∧ ((converting { tainted := true } {}).seqOf 63).tainted = true) ∧
    ((converting { early := true } {}).converting 63 = some 511 ∧ ((converting { early := true } {}).seqOf 63).early = true) ∧
    (let s := last [] {} {}
    s.blkRuns 63 = true ∧ 16 ≤ (s.seqOf 63).pos ∧ s.converting 63 ≠ some 511 ∧ s.mode = .running ∧ 15 < 16) ∧
    (let s := converting {} { acq := [(511, { blankFrom := some 0 })] }
    s.blkRuns (511 / 8) = true ∧ (s.acqOf 511).blankFrom = some 0 ∧ 0 + msC (100 * chBlankMax (s.cim 511) 511) < 40000001 ∧
      ¬0 + msC (100 * chBlankMax (s.cim 511) 511) < 40000000) := by decide +kernel

/-- Channel 511 with a test pulse of its kind and of width 2 (20 µs) in slot 0, and the block latched at 0. -/
def pulsing (mode kind : Nat) (k : Blk) (o : OutCell) : State :=
  last [(1, 511, mode + kind * 2 ^ 36 + 2 ^ 76)] { k with latched := some 0 } { out := [(511, o)] }

/-- A channel that the line blanks, and one that it does not; an edge that one sample completes; pulses of each kind that start, and
that end. -/
theorem test_wit_BlankingEdgesAndTestPulses :
    (let s := last [(1, 511, 3 + 2 ^ 139)] {} {}
    s.mode = .running ∧ 50 ≤ 50 ∧ s.blks.blank ≠ true ∧ isAnalogIn (chMode (s.cim 511) 511) = true ∧
      blankedNow (s.cim 511) 511 (s.blankIn (511 / 8)) true = true ∧ isAnalogIn (chMode (s.cim 0) 0) = false ∧
      blankedNow (s.cim 511) 511 (s.blankIn (511 / 8)) false = false) ∧
    (let s := pulsing 7 3 {} {}
    s.blkRuns (511 / 8) = true ∧ chMode (s.cim 511) 511 = 7 ∧ chMode (last [(1, 511, 9)] {} {}).im 511 = 9 ∧ (s.digOf 511).frozen = false ∧
      (s.digOf 511).thawAt ≤ 0 ∧ (samplesEdge (s.cim 511) 511 [(30000, 1)] (s.digOf 511)).isSome = true) ∧
    (let s := pulsing 8 2 {} {}
    s.mode = .running ∧ s.blkRuns 63 = true ∧ (s.blkOf 63).pulse = none ∧ (s.blkOf 63).latched = some s.fr.frameNo ∧
      (s.blkOf 63).pulseIn ≠ some s.fr.frameNo ∧ (s.blkOf 63).latchAt + blkLeast 100 ≤ 40000 ∧ 40000 ≤ (s.blkOf 63).latchAt + blkMost 100 ∧
      s.pulseDue 63 = some 511 ∧ s.pulseDue 0 = none) ∧
    ((pulsing 8 1 { fsOff := true } {}).pulseDue 63 = some 511 ∧ testKind (pulsing 8 1 {} { applied := true }).im 511 = 1 ∧
      (pulsing 8 1 {} { applied := true }).blkRuns 63 = true) ∧
    (let ending (p : Pulse) : Bool := decide (((pulsing 8 2 { pulse := some p } {}).blkOf 63).pulse = some p) && decide (p.ch / 8 = 63) &&
      pulseAtEnd 8000 p && (pulsing 8 2 { pulse := some p } {}).blkRuns 63
    ending { ch := 511, kind := 1, width := 2 } = true ∧ ending { ch := 511, kind := 2, width := 2 } = true ∧
      ending { ch := 511, kind := 3, width := 2 } = true) := by decide +kernel

theorem test_wit_FieldSupplyOfBlocks : ((last [] {} {}).blkRuns 63 = true ∧ 19199 < 19200 ∧ 15999 < 16000) ∧
    ((last [] { fsOff := true } {}).blkRuns 63 = true ∧ ((last [] { fsOff := true } {}).blkOf 63).fsOff = true) ∧
    (let s := last [(1, 511, 8), (1, 510, 6)] {} {}
    s.blkRuns 63 = true ∧ chMode (s.bim 63) 511 = 8 ∧ chMode (s.bim 63) 510 = 6) ∧
    ((last [] {} {}).isWitness = false ∧ ((last [] {} {}).blkOf 63).powered = true ∧ 13999 < 14000 ∧
      ((last [] {} {}).blkOf 62).powered = false) ∧
    ({ last [] {} {} with unt := { ident := { witness := true } } } : State).isWitness = true := by decide +kernel

/-- An AO-I cell whose strobes are silent, one with the foldback hold over, one whose ramp reaches the command, one whose ramp does not,
and one held at 0 mA; a DO cell that is driven. -/
theorem test_wit_CellProtections :
    (let s := last [(1, 511, 6)] {} { loop := [(511, { limit := some 3, cmd := 1000003 })] }
    s.blkRuns (511 / 8) = true ∧ isOutMode (chMode (s.cim 511) 511) = true ∧ (s.outOf 511).silent = false ∧
      s.silenceOver 511 0 false = true ∧ s.silenceOver 511 10000 true = true ∧ s.silenceOver 511 9999 true = false ∧
      (s.blkOf (511 / 8)).fsOff = false ∧ 1200 < 1201 ∧ (s.loopOf 511).limit.isSome = true ∧ (s.loopOf 511).ramp = false ∧
      (s.loopOf 511).foldAt + msC 1000 ≤ 400000000) ∧
    (let s (cmd : Int) (k : Blk) := { last [(1, 511, 6)] k { loop := [(511, { limit := some 3, ramp := true, cmd := cmd })] } with
      fr := { frameNo := 1 } }
    (s 1000003 {}).outputsOff 63 = false ∧ ((s 1000003 {}).loopOf 511).limit = some 3 ∧ ((s 1000003 {}).loopOf 511).ramp = true ∧
      ((s 1000003 {}).loopOf 511).foldAt + msC 100 ≤ 40000000 ∧ (s 1000003 {}).aoHeld 511 = false ∧
      ((s 1000003 {}).loopOf 511).cmd ≤ 3 + 1000000 ∧ 3 + 1000000 < ((s 1000004 {}).loopOf 511).cmd ∧
      (s 1000003 { withheld := true }).aoHeld 511 = true) ∧
    (let s := last [(1, 511, 8)] {} {}
    s.blkRuns (511 / 8) = true ∧ chMode (s.cim 511) 511 = 8 ∧ (s.tick 5).fed 511 = true) ∧ (150 : Int) < 151 ∧ (134 : Int) < 135 := by
  decide +kernel

theorem test_wit_BlockFlags : (last [] {} {}).blkRuns 63 = true ∧ (last [] {} {}).flagOn = false ∧
    (let s := { last [] {} {} with fr := { frameNo := 1 } }
    s.blkRuns 63 = true ∧ s.flagOn = true) ∧
    (5 * 5000 < 100 * ((5251 : Nat) - (5000 : Nat) : Int).natAbs ∧ 100 * ((5250 : Nat) - (5000 : Nat) : Int).natAbs ≤ 5 * 5000 ∧
      ((last [] {} {}).blkOf 63).islandPwr = false) := by decide +kernel

/-! ## Witnesses: modem cells, CAN controllers and Ethernet ports -/

/-- Modem cell 31 on channel 511, AO-I. -/
def modem (x : Modem) : State :=
  { talk (img [(1, 511, 6 + 8 * 2 ^ 80)]) with blks := { modem := [(31, x)] } }

/-- A due request; one whose reply from address 15 to command 0 is valid, whose third attempt fails, and a carrier. -/
theorem test_wit_HartTransactions :
    (let s := modem { service := true }
    s.mode = .running ∧ s.unt.pair.role ≠ 2 ∧ modemChannel s.im 31 = some 511 ∧ chMode s.im 511 = 6 ∧ (s.modemOf 31).carrier = false ∧
      s.port.replay = false ∧ hartDue 5 (s.devicesOf 31) { cmd := 0, addr := 0 } (s.modemOf 31) = true) ∧
    (let s := modem { service := true, req := some { cmd := 0, addr := 15 }, attempt := 2 }
    let heard (l : List Byte) : Bool := (hartParse l).any fun g => hartAnswers (s.devicesOf 31) g (s.modemOf 31)
    (s.modemOf 31).req = some { cmd := 0, addr := 15 } ∧ (s.modemOf 31).waiting = false ∧ (s.modemOf 31).sentAt + msC 305 ≤ 122000000 ∧
      (s.modemOf 31).attempt < 3 ∧ heard [0x06, 0x8F, 0, 2, 0, 0, 0x8B] = true ∧ heard [0x06, 0x0F, 0, 2, 0, 0, 0x0B] = false ∧
      (hartParse [0x06, 0x0F, 0, 2, 0, 0, 0x0B]).isSome = true ∧ hartParse [0x06, 0x8F, 0, 2, 0, 0, 0x8A] = none ∧
      (hartParse [0x01, 0x8F, 0, 2, 0, 0, 0x8C]).any (·.burst) = true) ∧
    3 ≤ ((modem { service := true, req := some { cmd := 3, addr := 0 }, attempt := 3 }).modemOf 31).attempt ∧
    ((modem { carrier := true }).modemOf 31).carrier = true := by decide +kernel

/-- Controller 3 on, Classical CAN and FD, with filter 255 and its object 511; controller 1 carries command packets. -/
def bus (o : CanObj) (flt obj : Nat) : State :=
  { talk (img [(0, 0, 2 ^ 1024 + 2 ^ 1536 + 2 ^ 1537), (0xE, 4, 2 ^ 319 + 5 * 2 ^ 288), (0xA, 511, obj), (0xB, 255, flt)]) with
    can := { ctls := [(1, { state := 0 }), (3, { state := 0 })], objs := [(511, o)] } }

/-- Filter 255 takes standard identifiers 0 to 2047 into object 127 of its controller. -/
def fltAll : Nat := 1 + 127 * 2 ^ 8 + 2047 * 2 ^ 64

theorem test_wit_CanReception :
    (let s := bus {} fltAll (1 + 8 * 2 ^ 96)
    s.canOn 3 = true ∧ (0 : Nat) ≤ ctlProto s.im 3 ∧ isRequest s.im 3 {} = false ∧ s.holdsBack 4 = false ∧ canDecide s.im 3 {} s.can.objs = .store 511 ∧
      canDecide s.im 3 { fmt := 1 } s.can.objs = .format ∧ ctlProto s.im 3 = 1 ∧ canDecide s.im 3 { id := 2048 } s.can.objs = .noMatch ∧
      s.restricted 3 = false) ∧
    (let s := bus {} (fltAll + 2 ^ 5) 1
    s.canOn 3 = true ∧ canDecide s.im 3 {} s.can.objs = .reject) ∧
    (let s := bus { locked := true } fltAll (1 + 8 * 2 ^ 96)
    s.canOn 3 = true ∧ canDecide s.im 3 {} s.can.objs = .locked) ∧
    (let s := bus { new := true } fltAll (1 + 8 * 2 ^ 96)
    s.mode = .running ∧ coEn s.im 511 = true ∧ coTx s.im 511 = false ∧ (s.objOf 511).new = true ∧ s.unt.pair.role ≠ 2 ∧ s.port.replay = false ∧
      (let d := { s with cfg := { image := img [(0xD, 0, 1), (0xA, 511, 1 + 8 * 2 ^ 96)] }, unt := { pair := { role := 2, sync := 1, lane0 := { up := true } } } }
      d.paired = true ∧ d.forwards = true ∧ coEn d.im 511 = true ∧ coTx d.im 511 = false) ∧ s.restricted 3 = false ∧
      ({ s with port := { replay := true } } : State).restricted 3 = true) ∧
    (let s := bus {} 0 0
    s.canOn 1 = true ∧ isRequest s.im 1 { id := 5, data := [0x10#8, 0x08#8] } = true ∧
      (isoReceive 5 [0x10#8, 0x08#8] (tabGet {} s.can.iso 1)).whole = none ∧ ctlProto s.im 1 < 1) ∧
    (let s := { bus {} 0 0 with can := { ctls := [(1, { state := 0 })], iso := [(1, { rxLen := 20, rxNext := 1, rxBuf := pingBytes.take 14 })] } }
    s.canOn 1 = true ∧ isRequest s.im 1 { id := 5, data := 0x21#8 :: pingBytes.drop 14 } = true ∧ s.engSilentStands = false ∧
      (isoReceive 5 (0x21#8 :: pingBytes.drop 14) (tabGet {} s.can.iso 1)).whole = some (pingBytes.take 20) ∧ s.holdsBack 4 = false ∧
      ({ s with port := { st := [(4, { rxWait := [.message []] })] } } : State).holdsBack 4 = true ∧
      (parsePacket 4 0 0 (pingBytes.take 20)).isSome = true) := by decide +kernel

theorem test_wit_CanTransmission :
    (let s := bus { txPend := true } 0 (3 + 2 ^ 112)
    (s.tick 5).attempts 3 (.object 127 false) = true ∧ coTt s.im (128 * 3 + 127) = false ∧ coRetry s.im (128 * 3 + 127) ≠ 0 ∧
      coRetry s.im (128 * 3 + 127) ≤ (s.objOf (128 * 3 + 127)).errors + 1) ∧
    (let s := bus { txPend := true } 0 3
    (s.tick 5).attempts 3 (.object 127 false) = true ∧ coRetry s.im (128 * 3 + 127) = 0 ∧
      ((bus { txPend := true } 0 3).tick 5).attempts 3 (.object 127 true) = true) ∧
    (let s := { bus {} 0 0 with can := { ctls := [(3, { state := 0, refPend := true, tmRun := true })] } }
    (s.tick 5).attempts 3 .reference = true) ∧
    (let s := { bus {} 0 0 with can := { ctls := [(1, { state := 0 })], iso := [(1, isoSend 0 pingBytes {})] } }
    (s.tick 5).attempts 1 .transport = true ∧ (isoFrame (tpDl s.im 1) (tabGet {} s.can.iso 1)).isSome = true) ∧
    (let s := { bus {} 0 0 with can := { ctls := [(3, { state := 2 })] } }
    s.mode = .running ∧ ctlEn s.im 3 = true ∧ (s.ctlOf 3).state = 2 ∧ 128 ≤ 128) ∧
    (let im := img [(0, 0, 2 ^ 1536 + 2 ^ 1540 + 1000 * 2 ^ 1680), (0xA, 511, 3 + 2 ^ 6)]
    let s := { talk im with can := { ctls := [(3, { state := 0, cycleAt := some 0 })] } }
    s.canSends 3 = true ∧ ctlTmEn s.im 3 = true ∧ (s.ctlOf 3).refPend = false ∧ 0 + usC (ctlCycleLen s.im 3) ≤ 400000 ∧
      s.canSends (511 / 128) = true ∧ ttDue s.im 511 0 (s.ctlOf (511 / 128)) = true ∧
      (s.objOf 511).ttDone ≠ (s.ctlOf (511 / 128)).cycleAt) ∧
    (let s := { bus {} 0 0 with can := { iso := [(1, { rxLen := 20 })] } }
    s.mode = .running ∧ 0 < (isoTimeout 400000000 (tabGet {} s.can.iso 1)).2) := by decide +kernel

/-- Port 2 with address 7, host 8, mask 0 and gateway 6; a deferred frame that holds it back; unit A of a pair that announces SVC_IP. -/
theorem test_wit_EthernetPorts :
    (let s := { talk (img [(0xE, 2, 1 + 2 ^ 34 + 7 * 2 ^ 64 + 6 * 2 ^ 128 + 8 * 2 ^ 224)]) with
      port := { st := [(2, { reasm := [{ src := 9 }], arp := [{ ip := 6, mac := 5 }] })] } }
    (s.mode = .running ∧ s.addressed 2 7 = true ∧ 7 = s.ownIp 2 ∧ poHostIp s.im 2 = 8 ∧ 9 ≠ poHostIp s.im 2 ∧ (47199 : Nat) ≠ 47200 ∧
      (47199 : Nat) ≠ 47201 ∧ etherSize (.echoRequest 0 0 (List.replicate 1472 0#8)) ≤ 1518 ∧ 1518 < etherSize (.echoRequest 0 0 (List.replicate 1473 0#8)) ∧
      s.holdsBack 2 = false ∧ (parsePacket 2 8 1 pingBytes).isSome = true ∧ s.engSilentStands = false) ∧
    ((s.portOf 2).reasm.any (fun r => decide (r.src = 9) && decide (r.since + msC 250 ≤ 100000000)) = true ∧ (s.portOf 2).linkUp ≠ true ∧
      linkSpeed s.im 2 1 = true ∧ poPlcaEn s.im 2 = true ∧ (s.portOf 2).plca ≠ true)) ∧
    (let s := { talk [] with port := { st := [(2, { rxWait := [.frame .bad] })] } }
    s.holdsBack 2 = true ∧ rxBytes (s.portOf 2).rxWait + etherSize (.echoRequest 0 0 []) ≤ 4096 ∧
      4096 < rxBytes [.frame (.udp 0 0 0 0 (List.replicate 1400 0#8)), .frame (.udp 0 0 0 0 (List.replicate 1400 0#8))] + etherSize (.udp 0 0 0 0 (List.replicate 1400 0#8))) ∧
    (let s := { duo (img [(0xD, 0, 1), (0xE, 2, 1 + 3 * 2 ^ 128)]) with port := { st := [(2, { announce := 3 })] } }
    s.mode = .running ∧ s.servesSvc 2 = true ∧ 0 < (s.portOf 2).announce ∧
      (s.portOf 2).announceAt + msC (100 * (3 - (s.portOf 2).announce)) ≤ 0) := by decide +kernel

/-! ## Witnesses: recorder, calendar, supplies, start-ups and memories -/

theorem test_wit_RecorderRows :
    (let s := { talk [] with recd := { queue := [{ code := 0x0C01 }], nextSeq := 65535 } }
    s.zenithRuns = true ∧ s.recd.queue = [{ code := 0x0C01 }]) ∧
    (let s := { talk [] with recd := { lost := 1 } }
    s.zenithRuns = true ∧ 0 < s.recd.lost ∧ s.recd.queue.length < queuePlaces) ∧
    (EvRec.sealed { code := 0x0901 } = true ∧ EvRec.sealed { code := 0x0E01 } = false ∧ (talk []).recd.opS < ((talk []).tick 400000000).wholeSeconds ∧
      (talk []).recd.opS / 86400 = ((talk []).tick 400000000).wholeSeconds / 86400) := by decide +kernel

theorem test_wit_CalendarSupply : 2999 < 3000 ∧ 2899 < 2900 ∧ 3000 < 3001 ∧ 3100 < 3101 ∧
    ({ talk [] with twi := { onBackup := true } } : State).twi.onBackup = true ∧ 1799 < 1800 := by decide +kernel

/-- One second before midnight on 28 February 2003, alarm 1 enabled for every second and armed. -/
def calendar (h m s : Nat) : State :=
  { talk [] with twi := { year := 3, month := 2, day := 28, hour := h, min := m, sec := s, valid := true, alSet := 2#256 ^ 64, a1 := { armed := true } } }

/-- Alarm 1 is enabled and armed for every second. A commit in the cycle of the increment, and a weekday set in it. -/
theorem test_wit_CalendarSecond :
    ((calendar 23 59 58).twi.sec < 59 ∧ (calendar 23 58 59).twi.min < 59 ∧ (calendar 22 59 59).twi.hour < 23 ∧
      sameTick 5 (calendar 23 59 59).twi.setAt = false ∧ sameTick 5 (some 0) = true ∧ sameTick 12207 (some 0) = false) ∧
    (let s := calendar 23 59 59
    s.twi.sec = 59 ∧ s.twi.min = 59 ∧ s.twi.hour = 23 ∧ alarmEn 1 s.twi = true ∧ (alarmSt 1 s.twi).armed = true ∧ alarmEn 0 s.twi = false ∧
      ∀ u, Machine.exec (.rtcSecond 5) s = .next u → u.twi.valid = true ∧ alarmDate 1 u.twi u.twi.month u.twi.day u.twi.wday = true ∧
        alarmTime 1 u.twi u.twi.hour u.twi.min u.twi.sec = true) := by
  refine ⟨by decide +kernel, rfl, rfl, rfl, by decide +kernel, rfl, by decide +kernel, ?_⟩
  intro u h
  cases h
  decide +kernel

theorem test_wit_TheCalendarWraps :
    (let s := { talk [] with twi := { year := 199, month := 12, day := 31, hour := 23, min := 59, sec := 59 } }
    sameTick (max s.now 5) s.twi.setAt = false ∧
      (s.twi.year, s.twi.month, s.twi.day, s.twi.hour, s.twi.min, s.twi.sec) = (199, 12, 31, 23, 59, 59)) := by decide

/-- A staged leap day, 29 February 2000, 23:59:59.999. -/
def leapDay : Nat := 999 + 59 * 2 ^ 32 + 59 * 2 ^ 40 + 23 * 2 ^ 48 + 29 * 2 ^ 64 + 2 * 2 ^ 72

theorem test_wit_CalendarRegisters :
    (let s := { talk (img [(0xC, 0, 1)]) with twi := { wbuf := [(127, some 7#8)], stage := leapDay } }
    s.twi.locked = false ∧ s.twi.wbuf = [(127, some 7#8)] ∧ stValid s.twi.stage = true ∧ stValid 0 = false ∧
      fld (rtcBits s.im) (64 * 0) 64 ≠ fld s.twi.alSet (64 * 0) 64 ∧ fld (rtcBits s.im) (64 * 1) 64 = fld s.twi.alSet (64 * 1) 64) ∧
    (let s := { talk [] with twi := { frozenAt := some 0, locked := true } }
    s.twi.frozenAt = some 0 ∧ 0 + msC 2 ≤ 800000 ∧ s.twi.locked = true) ∧
    (let s := { talk [] with twi := { a1 := { fired := true } } }
    s.mode = .running ∧ s.twi.locked = false ∧ (alarmSt 1 s.twi).fired = true ∧ s.port.replay = false ∧ s.unt.pair.role ≠ 2) := by
  decide +kernel

theorem test_wit_FeedsAndStops : (talk []).awake = true ∧ 15999 < 16000 ∧ 17999 < 18000 ∧ (talk []).isWitness = false ∧
    (duo (img [(0xD, 0, 1)])).paired = true ∧ (duo (img [(0xD, 0, 1)])).awake = true ∧ (talk []).unt.power.enableSeen = true ∧
    (talk []).paired = false ∧ (talk []).zenithRuns = true ∧ ({ talk [] with mode := .held } : State).zenithRuns = false := by
  decide +kernel

/-- A node that can start, in a mode and with its power state. -/
def stopped (m : RunMode) (p : Power) : State := { talk [] with mode := m, unt := { fw1 := { valid := true }, power := p } }

theorem test_wit_StartUps : (fwTake (stopped .off {}).unt.fw1 (stopped .off {}).unt.fw2).isSome = true ∧ ({} : Bist).lockstep = 0 ∧
    (stopped .dead {}).unt.power.enable = true ∧ (stopped .off { enable := false }).unt.power.enable = false ∧
    ((stopped .stopped {}).mode = .stopped ∧ (stopped .stopped {}).unt.power.enable = true) ∧
    ((stopped .running { restartDue := true }).awake = true ∧ (stopped .running { restartDue := true }).unt.power.restartDue = true) ∧
    ((stopped .dead {}).mode = .dead ∧ (stopped .dead {}).unt.power.rstIgnored = false) ∧
    ((stopped .held {}).mode = .held ∧ (stopped .held {}).unt.power.heldAt + msC 10000 ≤ 4000000000) ∧ (stopped .running {}).mode ≠ .held ∧
    (let s := { stopped .off {} with twi := { alSet := 5#256, a0 := { fired := true } } }
    s.mode = .off ∧ s.alarmWakes 0 = true ∧ (none : Option Nat).all (· < 2) = true) ∧
    (let s := { stopped .deciding {} with unt := { pair := { unitB := true } } }
    s.mode = .deciding ∧ s.unt.power.haloFault = false ∧ (s.tick 800000000).tokenAway = true) ∧
    (let s := { stopped .deciding {} with unt := { pair := { unitB := true, token := 2 } } }
    s.mode = .deciding ∧ s.unt.power.haloFault = false ∧ s.unt.pair.token ≠ 0 ∧ s.unt.pair.token = s.ownToken) := by decide +kernel

/-- The conditions under which each start-up comes about; its outcome is a next state in each. -/
theorem test_wit_StartUpVacatesOwnership :
    ((stopped .stopped {}).mode = .stopped ∧ (stopped .stopped {}).unt.power.enable = true ∧ 18500 ≤ 18500 ∧ 100000 ≤ 100000) ∧
    ((stopped .held { restartDue := true }).awake = true ∧ (stopped .held { restartDue := true }).unt.power.restartDue = true) ∧
    ((stopped .dead {}).mode = .dead ∧ (stopped .dead {}).unt.power.rstIgnored = false) ∧
    ((stopped .held {}).mode = .held ∧ (stopped .held {}).unt.power.heldAt + msC 10000 ≤ 4000000000) ∧
    ((stopped .off {}).mode = .off ∧ (100 ≤ 100 ∨ ∃ k, (none : Option Nat) = some k ∧ (stopped .off {}).alarmWakes k = true)) ∧
    (∀ b held s, ∃ u, Machine.exec (.powerOn 0 held b) s = .next u) ∧ (∀ s, ∃ u, Machine.exec (.roleDecision 0) s = .next u) := by
  refine ⟨by decide, by decide, by decide, by decide, ⟨by decide, .inl (by decide)⟩, ?_, ?_⟩
  · intro b held s; exact ⟨_, rfl⟩
  · intro s; exact ⟨_, rfl⟩

/-- A zero codeword is clean, one byte of it wrong is corrected, and five are not; a word of MRAM with one bit wrong and with two. -/
theorem test_wit_MemoriesAndStores :
    (memHas 0x14 31 2047 = true ∧ memHas 0x15 3 4095 = true ∧ memHas 0x0F 1 1023 = true ∧ memHas 0x16 7 65535 = true ∧
      memHas 0x15 3 (4080 + 16 - 1) = true ∧ (talk []).awake = true ∧ (talk []).mode = .running ∧ accFits .read = true ∧
      accFits (.write 31 [7]) = true ∧ accWhole (.write 31 [7]) = false ∧ accWhole (.write 0 (List.replicate 32 7)) = true) ∧
    (memReach (talk []).live 0x0F 0x13 = true ∧ memReach (talk []).live 0x14 0x0B = true ∧ memReach (talk []).live 0x16 0x0D = true) ∧
    (rawDecode 0 = .clean ∧ rawDecode 1 = .corrected (rawBytes 0) ∧ rawDecode 0x0102030405 = .uncorrectable ∧
      memWord 3 4095 ((talk []).memOf 0x15) ^^^ 1 = 1 ∧ ((List.range 72).filter (2 ^ 71 : Nat).testBit).length = 1 ∧
      ((List.range 72).filter (3 : Nat).testBit).length = 2) ∧
    (readPoisons 0x0F 1 1023 0x13 = some (15, 1) ∧ readPoisons 0x14 0x0C 512 0x0B = none ∧ commandBuffer 0x14 0x0C 1792 = some 5) ∧
    ((List.replicate 16 0).length ≤ 16 ∧ [0, 1].any (· ≠ 0) = true ∧ ((talk []).memOf 0x15).marchFail < 0xFFFF ∧
      (({ talk [] with unt := { mem := [(0x15, { again := some (3, 4080, true) })] } } : State).memOf 0x15).again = some (3, 4080, true) ∧
      (∀ w ∈ List.replicate 16 0, w = 0) ∧ (∀ k < 2, rawDecode (memWord 3 (4080 + k) ((talk []).memOf 0x15) ^^^ [0, 0].getD k 0) = .clean)) ∧
    (8 * msC 1000 - ((talk []).memOf 0x15).scrubFrom ≤ 8 * msC 1000 ∧ 32 * msC 1000 < 32 * msC 1000 + 1 - ((talk []).memOf 0x15).scrubFrom ∧
      ({ talk [] with cfg := { store := some { slot := 1, retried := true } } } : State).cfg.store = some { slot := 1, retried := true } ∧
      ({ slot := 1 } : Store).retried = false) := by decide +kernel

/-! ## Witnesses: the pair and the whole node -/

/-- A unit of a pair in a mode, with the pair as it sees it. -/
def unit (m : RunMode) (p : Pair) : State :=
  { talk (img [(0xD, 0, 3 + 2 ^ 8)]) with mode := m, unt := { pair := p } }

theorem test_wit_LanesHoldsAndDigests :
    (let s := unit .running { sync := 3, lane1 := { up := true, recent := [0, 0, 0, 0, 0, 0, 0] } }
    s.unitUp = true ∧ ((s.laneOf 1).recent.filter fun a => decide (max s.now 399999 < a + msC 1)).length + 1 = 8 ∧
      ((s.laneOf 1).recent.filter fun a => decide (max s.now 400000 < a + msC 1)).length + 1 < 8 ∧ (s.laneOf 1).up = true ∧
      (s.laneOf (1 - 1)).up = false ∧ (s.laneOf 0).up = false ∧ (s.laneOf 0).broken = false ∧
      (s.laneOf 0).cleanAt + msC 100 ≤ max s.now 40000000 ∧ (s.laneOf (1 - 0)).up = true) ∧
    (let s := unit .held { sync := 2, holdB := 3 }
    s.awake = true ∧ s.paired = true ∧ s.partnerHold = 3 ∧ 3 < 4 ∧ ¬(s.unt.pair.role = 2 ∧ (s.unt.pair.sync = 1 ∨ s.unt.pair.sync = 2))) ∧
    (let s := unit .running { role := 2, sync := 2, holdB := 2 }
    s.awake = true ∧ s.paired = true ∧ s.partnerHold = 2 ∧ s.unt.pair.role = 2 ∧ s.unt.pair.sync = 2) ∧
    (let s : State := { talk [] with unt := { ident := { witness := true } } }
    s.awake = true ∧ s.isWitness = true ∧ s.unt.pair.unitB = false) ∧
    (let s := unit .running { sync := 2, digest := some (7, 9), lane1 := { up := true } }
    (s.laneOf 1).up = true ∧ s.mode = .running ∧ s.paired = true ∧ s.unt.pair.digest = some (7, 9) ∧ s.unt.pair.sync = 2 ∧ 2 ≤ s.unt.pair.sync ∧
      (unit .running {}).unt.pair.digest = none) := by decide +kernel

/-- A block of one codeword that is whole, and one that ends within a codeword beyond correction. -/
theorem test_wit_ContrailBlocks :
    (let s := unit .running { role := 2, sync := 2, lane1 := { up := true } }
    s.mode = .running ∧ s.paired = true ∧ s.linkUp = true ∧ s.unt.pair.role = 2 ∧ s.follows = true ∧ s.phase = .gather ∧ 511 < 512 ∧
      1 ≠ s.fr.frameNo ∧ 32 * 1023 + 32 ≤ 0x8000 ∧ (mailPieces 32 (32 * 1023) (List.replicate 32 7#8)).any s.mailRefused = false) ∧
    (let s := unit .running { role := 1, lane0 := { up := true } }
    s.linkUp = true ∧ s.unt.pair.role = 1) ∧
    (let s : State := { unit .running { lane0 := { up := true } } with
      unt := { mem := [(0x14, { words := [(wordKey 8 1, 0x0102030405)] })], pair := { lane0 := { up := true } } } }
    s.linkUp = true ∧ (mailPieces 33 0 (List.replicate 33 7#8)).any s.mailRefused = true) := by decide +kernel

theorem test_wit_RoleChanges :
    (let s := unit .running { role := 2, unitB := true }
    s.mode = .running ∧ s.paired = true ∧ s.unt.pair.token ≠ 2 ∧ s.unt.pair.role = 2 ∧ 2 = s.ownToken ∧ s.idleStandby = true ∧
      s.unt.pair.token ≠ 1 ∧ ¬(s.unt.pair.role = 2 ∧ 1 = s.ownToken) ∧ ¬(s.unt.pair.role = 1 ∧ 1 = s.partnerToken)) ∧
    (let s := unit .running { role := 1, unitB := true, holdA := 2 }
    s.mode = .running ∧ s.paired = true ∧ s.unt.pair.token ≠ 1 ∧ 1 = s.partnerToken ∧ s.unt.pair.unitB = true ∧ s.unt.pair.token = 0 ∧
      s.partnerHold = 2 ∧ s.idleStandby = false ∧ s.fr.strobeAt + 16 * s.P ≤ 6400000) ∧
    (let s := unit .running { role := 1, switchAt := some 7, acked := some 8 }
    s.unt.pair.lowered = false ∧ s.unt.pair.switchAt = some 7 ∧ s.unt.pair.acked = some 8 ∧ 7 + 1 ≤ 8) := by decide +kernel

/-- A witness with a holder and the two holds. -/
def halo (w : Witness) (a b : Nat) : State :=
  { talk [] with unt := { ident := { witness := true, order := 2 }, pair := { holdA := a, holdB := b }, wit := w } }

theorem test_wit_WitnessTokens : (halo {} 2 1).awake = true ∧ (halo {} 2 1).isWitness = true ∧
    ((halo {} 2 1).unt.wit.holder = none ∧ (halo {} 2 1).holdOf 0 = 2 ∧ (halo {} 2 1).holdOf 1 ≠ 2) ∧
    ((halo {} 1 2).holdOf 1 = 2 ∧ (halo {} 1 2).holdOf 0 ≠ 2) ∧
    (let s := halo { holder := some 1 } 1 0
    s.unt.wit.holder = some 1 ∧ s.unt.wit.grace = false ∧ s.holdOf 1 ≠ 2 ∧ s.holdOf (1 - 1) = 1) ∧
    ((halo { holder := some 1 } 1 2).holdOf 1 = 2 ∧ (halo { holder := some 1, grace := true } 1 0).unt.wit.grace = true) ∧
    (¬((halo {} 2 2).holdOf 0 = 2 ∧ (halo {} 2 2).holdOf 1 ≠ 2) ∧ ¬((halo {} 2 2).holdOf 1 = 2 ∧ (halo {} 2 2).holdOf 0 ≠ 2) ∧
      (halo {} 2 2).unt.wit.startAt + msC 2000 ≤ 800000000) ∧
    (let s := halo { holder := some 1, grace := true } 1 0
    s.unt.wit.namedAt + usC 100 ≤ 40000 ∧ s.holdOf 1 ≠ 2 ∧ s.holdOf (1 - 1) = 1) ∧
    (halo { holder := some 1, grace := true } 1 2).holdOf 1 = 2 := by decide +kernel

theorem test_wit_StandbyAndResync :
    (let s := { unit .running { role := 2, sync := 3, marker := 1 } with phase := .complete }
    s.mode = .running ∧ s.follows = true ∧ s.port.replay = false ∧ s.phase = .complete ∧ s.fr.frameNo < s.unt.pair.marker ∧
      s.unt.pair.markerAt + usC 5 < 2001) ∧
    (let s := { unit .running { role := 1, sync := 3 } with phase := .complete }
    s.paired = true ∧ s.unt.pair.role = 1 ∧ s.unt.pair.sync = 3 ∧ s.phase = .complete ∧ s.unt.pair.noticed = false ∧
      s.fr.doneAt + usC 100 ≤ 40000) ∧
    (let s := unit .running { role := 1, holdA := 2, lane0 := { up := true }, readyFrom := some 0 }
    paAuto s.im = true ∧ s.resyncReady = true ∧ s.unt.pair.tries < 3 ∧ s.unt.pair.readyFrom = some 0 ∧ 0 + msC (1000 * paHold s.im) ≤ 400000000) ∧
    (let s := unit .running { role := 2, sync := 1 }
    s.paired = true ∧ s.unt.pair.sync = 1 ∧ s.unt.pair.role = 2 ∧
      ({ sess := [(1, { id := 5 })], owner := { owner := some 1, claims := [{ code := 1 }] } } : Hosts).sessioned = true) ∧
    (let s := unit .running { role := 1, sync := 2, agreed := 16 }
    s.mode = .running ∧ s.paired = true ∧ s.unt.pair.sync = 2 ∧ 16 ≤ s.unt.pair.agreed) := by decide +kernel

theorem test_wit_StepServesTheFront : ({ talk [] with pending := [.ping (hd 5 1)] } : State).pending = .ping (hd 5 1) :: [] ∧
    (talk []).pending = [] := by decide +kernel

theorem test_wit_CommandsWriteOnlyTheirParts : (Instr.rtcFreeze 5).wellFormed = true ∧
    ∃ u, Machine.exec (.rtcFreeze 5) (talk []) = .next u := ⟨by decide, _, rfl⟩

theorem test_wit_NamedCommandsComplete : (Instr.trimSpan (hd 5 1) 511 0).wellFormed = true ∧
    Machine.exec (.blockLatch 0 64 [] 0) (talk []) = .fault .noSuchUnit := ⟨by decide +kernel, rfl⟩

theorem test_wit_CalendarStaysLegal : (calendar 23 59 59).twi.legal ∧ (calendar 23 59 59).twi.ramWf ∧
    ∃ u, Machine.step { calendar 23 59 59 with pending := [.rtcSecond 5] } = .next u :=
  ⟨by unfold Twi.legal; decide +kernel, by unfold Twi.ramWf; decide +kernel, _, rfl⟩

theorem test_wit_OwnersHaveSessions : (talk []).ownersOpen ∧ (talk []).port.replayIn.within = false ∧
    ∃ u, Machine.step { talk [] with pending := [.roleDecision 5] } = .next u := by
  refine ⟨⟨?_, ?_⟩, rfl, _, rfl⟩
  · intro k h
    cases h
    decide +kernel
  · intro c h
    cases h

/-- A packet from session 5, one of a version that is not 1, a repeated one, and one whose opcode only the owner may send. -/
theorem test_wit_PacketChecks :
    packetOf (.ping (hd 5 1)) = some (hd 5 1, .ping, false) ∧
    (let s := talk []
    let x := s.sessOf (s.codeOf (hd 5 1).port)
    opCode .ping ≠ 0x0002 ∧ (Instr.ping (hd 5 1)).wellFormed = true ∧ opAlarm .ping = false ∧ s.mode = .running ∧ s.unt.pair.role ≠ 2 ∧
      s.port.replayIn.within = false ∧ s.ownerSteady = true ∧ (hd 5 1).version = 1 ∧ (hd 5 1).flags = 0 ∧ (hd 5 1).status = 0 ∧ x.id ≠ 0 ∧
      (hd 5 1).session = x.id ∧ (hd 5 1).seq = (x.lastSeq + 1) % 2 ^ 32 ∧ (hd 6 1).session ≠ x.id ∧
      ({ hd 5 1 with version := 2 } : PktHead).version ≠ 1 ∧ ({ hd 5 1 with flags := 1 } : PktHead).flags ≠ 0) ∧
    (let s := { talk [] with port := { sess := [(0, { id := 5, lastSeq := 1, lastOp := 0x0001, reply := some {} })] } }
    let x := s.sessOf (s.codeOf (hd 5 1).port)
    (hd 5 1).seq = x.lastSeq ∧ x.reply = some {} ∧ ({} : Reply).code = s.codeOf 0 ∧ (hd 5 3).seq ≠ (x.lastSeq + 1) % 2 ^ 32 ∧
      (hd 5 3).seq ≠ x.lastSeq) ∧
    (let s := { talk [] with port := { sess := [(0, { id := 5, lastSeq := 1, lastOp := 0x0001, busy := true })] } }
    (s.sessOf (s.codeOf (hd 5 2).port)).busy = true ∧ (hd 5 2).seq = ((s.sessOf (s.codeOf (hd 5 2).port)).lastSeq + 1) % 2 ^ 32) ∧
    (let s := { talk [] with port := { sess := [(0, { id := 5 })], owner := { owner := some 1 } } }
    opOwnerOnly 0x0103 = true ∧ s.port.owner.owner ≠ some (s.codeOf (hd 5 1).port)) := ⟨rfl, by decide +kernel⟩

end Sys2Proof.Tests
end

section
/-! PROOFS. What a command can answer: each one is a happening at an instant or a packet given by its header and opcode, and operands
that lie in their ranges name units that exist (log 2). -/

namespace Sys2Proof.Machine

/-! ## The form of a command -/

/-- The range of an access (R467) is what its meaning asks. -/
theorem accOk_eq_accFits (a : MemAccess) : accOk a = accFits a := by
  cases a <;> rfl

/-- The range of the access on the second port, where there is one, is what its meaning asks. -/
theorem all_accOk_eq_map_accFits (a : Option MemAccess) : a.all accOk = (a.map accFits).getD true := by
  cases a with
  | none => rfl
  | some x => exact accOk_eq_accFits x

/-- A command that stands for a packet is the row of that packet. Operands in their ranges fit the packet and agree with its LENGTH, and
the packet came on a port of this unit. -/
theorem exec_packet {i : Instr} {h : PktHead} {op : Op} {torn : Bool} (hp : packetOf i = some (h, op, torn)) :
    ∃ fits okLen, (∀ s, exec i s = runRow h fits okLen torn op s) ∧
      (i.wellFormed = true → fits = true ∧ okLen = true ∧ headOk h = true) := by
  cases i with
  -- no parameter with a range
  | ping | openSession | closeSession | readSummary | readFrameStatus | clearFrameStatus | warmRestart | traceOpen | traceClose
  | replayStart | claim | renew | accept | release | readOwner | commit | discard | readCrc | readCjc | readCall | readRecorder
  | readTime | commitTime | readPair | resync | switchover | readMemory | clearCounters | readIdentity | readFirmware =>
    cases hp
    exact ⟨true, true, fun _ => rfl, fun w => ⟨rfl, rfl, w⟩⟩
  -- one parameter with a range
  | handover | writeDo | clearTotal | unshelve | remove | return_ | selectDuty | setWeekday | safetyReset | confirm | dscReset
  | readCan | readCanobj =>
    cases hp
    exact ⟨_, true, fun _ => rfl, fun w => have ⟨hh, ho⟩ := Bool.and_eq_true_iff.mp w; ⟨ho, rfl, hh⟩⟩
  -- several parameters with ranges, or bytes whose number the LENGTH gives
  | replayData | readObject | writeObject | readImage | loadImage | readResults | readRecords | writeAo | trimZero | trimSpan
  | readPoints | readGroups | ack | shelve | readEvents | stageTime | readBackup | writeBackup | readSafety | readDsc | readDiag
  | writeCanobj | readHart =>
    cases hp
    exact ⟨_, _, fun _ => rfl, fun w => by simp_all [Instr.wellFormed, isCh, chOk, isI32, i32Ok]⟩
  | _ => cases hp

/-- A command that stands for no packet is a happening. What it asks of its operands does not depend on the state, and operands in their
ranges meet it. -/
theorem exec_happening {i : Instr} (hp : packetOf i = none) :
    ∃ ok, (∀ s, ∃ t cond f, exec i s = act ok t cond f s) ∧ (i.wellFormed = true → ok = true) := by
  cases i with
  -- the whole node: no unit to name
  | frameStrobe | frameEvaluationStart | frameClose | frameLong | leaseLapse | offerLapse | claimWindowClose
  | warmRestartBegin | switchoverHandoff | blankLineChange | zenLockstep | plcaStatus | serFrameReceived
  | serGapTimeout | serAbort | modbusRequest | eventRecordWrite | lostRecordAdmit | operatingSecond | twilightLock | twilightToBackup
  | twilightToRail | twilightUnlock | twilightContentLost | rtcSecond | bakLowCheck | rtcFreeze | rtcRelease | rtcFreezeTimeout
  | twilightTimeCommit | twilightSetWday | twilightLoadAlarms | twilightBramCommit | twilightRegisterWrite | supplyDecline
  | supplyRecovery | powerOn | roleDecision | resetButtonRelease | resetInputStuck | resetInputFreed | offEntry | configStoreComplete
  | witnessTokenDecision | witnessStartTimeout | witnessHolderGraceEnd | activeYieldB | selfCheckFail | standbyStrobe
  | standbyNoticeTimeout | resyncAutoStart | resyncCompareDone =>
    dsimp only [exec]
    exact ⟨true, fun _ => ⟨_, _, _, rfl⟩, fun _ => rfl⟩
  -- units that exist: all that the ranges ask
  | strobeCouplerError | cellRecordMissing | trimComplete | blankLong | debouncedEdge | logicSilence | foldback | foldbackHoldEnd
  | foldbackRampStep | switchCurrentLimit | thermalShutdown | conversionComplete | selfTestSlot | excitationEvent | testPulseStart
  | testPulseEnd | fsLowSet | fsLowClear | fsOffSet | fsOffEnd | enableFlagLoss | enableFlagSet | blockPowerLost | blockPowerRestore
  | nimbusExchange | discrepancyFault | groupObjectCycle | engSilent | dscWatchdogExpiry | dscFailsafeRecovery | dscRepeat | dscErrDecay
  | sessionTimeout | cjcReading | hartReplyTimeout | hartReply | hartCarrierEnd | canMessageTake | canBusoffRecovery
  | canReferenceMessage | canTtWindow | isotpTimeout | ethFrameReceived | gratuitousArp | rtcAlarmStamp | feedState | fsFeed | wake
  | hazeStep | hazeYield | hazePassEnd | haloHoldChange | tokenChange | laneError | laneSilence | laneUp | contrailBlockReceive | resyncCopyDone =>
    dsimp only [exec]
    exact ⟨_, fun _ => ⟨_, _, _, rfl⟩, id⟩
  -- the evaluation of one alarm point
  | alarmDelayExpiry | suppressionHoldEnd | shelfExpiry =>
    dsimp only [exec, execAlarmDelayExpiry, execSuppressionHoldEnd, execShelfExpiry, pointRow]
    exact ⟨_, fun _ => ⟨_, _, _, rfl⟩, id⟩
  -- the evaluation of the engineer call, as a whole or for one station
  | callEscalation | deadManPre | deadManExpiry =>
    dsimp only [exec, execCallEscalation, execDeadManPre, execDeadManExpiry, callRow]
    exact ⟨true, fun _ => ⟨_, _, _, rfl⟩, fun _ => rfl⟩
  | callLinkLost | callObjectCycle =>
    dsimp only [exec, execCallLinkLost, execCallObjectCycle, callRow]
    exact ⟨_, fun _ => ⟨_, _, _, rfl⟩, id⟩
  -- a unit that exists, and one range that its meaning does not ask
  | horizonPosting | canFrameReceived | canTxSuccess | canRxError | canProtocolException | fragDrop | arpWaitTimeout | arpEntryAgeOut
  | portLink | digestCompare =>
    dsimp only [exec]
    exact ⟨_, fun _ => ⟨_, _, _, rfl⟩, Laws.Wf.left⟩
  -- a unit that exists, and two ranges that its meaning does not ask
  | blockLatch | packetReceive | forwardedPacket | cellTherm | islandPwr | clockCheck | canTxError =>
    dsimp only [exec]
    exact ⟨_, fun _ => ⟨_, _, _, rfl⟩, Laws.Wf.left ∘ Laws.Wf.left⟩
  -- a modem cell and the address of a device on it; the command has a range that its meaning does not ask
  | hartRequestDue =>
    dsimp only [exec]
    exact ⟨_, fun _ => ⟨_, _, _, rfl⟩, fun w => by simp_all [Instr.wellFormed]⟩
  -- a codeword and what each port does with it
  | correctionWriteback t mem bank cw req a =>
    dsimp only [exec]
    refine ⟨_, fun _ => ⟨_, _, _, rfl⟩, fun w => ?_⟩
    simp only [Instr.wellFormed, Bool.and_eq_true] at w
    obtain ⟨⟨⟨⟨⟨hmem, -⟩, -⟩, hacc⟩, hport1⟩, hbank⟩ := w
    rw [all_accOk_eq_map_accFits] at hport1
    rw [accOk_eq_accFits] at hacc
    exact Bool.and_eq_true_iff.2 ⟨Bool.and_eq_true_iff.2 ⟨Bool.and_eq_true_iff.2 ⟨hmem, hacc⟩, hport1⟩, hbank⟩
  | _ => cases hp

/-- A well-formed command that stands for a packet is that packet as a row whose parameters fit and whose LENGTH agrees. -/
theorem exec_packet_wellFormed {i : Instr} {h : PktHead} {op : Op} {torn : Bool} (hp : packetOf i = some (h, op, torn))
    (w : i.wellFormed = true) (s : State) : exec i s = runRow h true true torn op s := by
  obtain ⟨fits, okLen, he, hw⟩ := exec_packet hp
  obtain ⟨rfl, rfl, -⟩ := hw w
  exact he s

/-! ## Outcomes -/

/-- An outcome that is a next state, or the fault `noSuchUnit` of a command whose operands do not all lie in their ranges
(`named` false). -/
def Completes (named : Bool) (o : Out) : Prop :=
  (∃ u, o = .next u) ∨ (o = .fault .noSuchUnit ∧ named = false)

theorem act_completes {named ok : Bool} (hok : named = true → ok = true) (t : Nat) (cond : State → Bool) (f : State → State) (s : State) :
    Completes named (act ok t cond f s) := by
  cases ok with
  | true => exact .inl ⟨_, rfl⟩
  | false => exact .inr ⟨rfl, Bool.eq_false_iff.2 fun hn => Bool.false_ne_true (hok hn)⟩

theorem port_of_headOk {h : PktHead} (hh : headOk h = true) : h.port < 6 := by
  simp_all [headOk]

theorem runRow_completes {named fits : Bool} {h : PktHead} (hfits : named = true → fits = true) (hhead : named = true → headOk h = true)
    (okLen torn : Bool) (op : Op) (s : State) : Completes named (runRow h fits okLen torn op s) := by
  unfold runRow
  split
  · rename_i hbad
    refine .inr ⟨rfl, Bool.eq_false_iff.2 fun hn => ?_⟩
    have hport := port_of_headOk (hhead hn)
    simp [hfits hn] at hbad
    omega
  · dsimp only
    repeat' split
    all_goals exact .inl ⟨_, rfl⟩

theorem exec_completes (i : Instr) (s : State) : Completes i.wellFormed (exec i s) := by
  cases hp : packetOf i with
  | none =>
    obtain ⟨ok, he, hok⟩ := exec_happening hp
    obtain ⟨t, cond, f, he⟩ := he s
    rw [he]
    exact act_completes hok t cond f s
  | some p =>
    obtain ⟨fits, okLen, he, hw⟩ := exec_packet hp
    rw [he s]
    exact runRow_completes (fun w => (hw w).1) (fun w => (hw w).2.2) okLen p.2.2 p.2.1 s

/-- Settles O56: a command is a happening or a packet, and either one completes. -/
theorem namedCommandsComplete : Obligations.NamedCommandsComplete := by
  refine ⟨fun i s w => ?_, fun i s f hf => ?_, fun i s r hr => ?_⟩
  · rcases exec_completes i s with hu | ⟨-, hn⟩
    · exact hu
    · simp [w] at hn
  · rcases exec_completes i s with ⟨u, hu⟩ | ⟨he, hn⟩
    · cases hu.symm.trans hf
    · cases he.symm.trans hf
      exact ⟨rfl, hn⟩
  · rcases exec_completes i s with ⟨u, hu⟩ | ⟨he, -⟩
    · cases hu.symm.trans hr
    · cases he.symm.trans hr

end Sys2Proof.Machine
end

section
/-! PROOFS. What proofs about frames and latches share: bits of masks, readings of folds, and the parts that an operation leaves. -/

namespace Sys2Proof.Machine

/-! ## Masks and folds -/

theorem testBit_setBit (m i j : Nat) (v : Bool) : (setBit m i v).testBit j = if i = j then v else m.testBit j := by
  unfold setBit
  split
  · rename_i h
    split
    · rename_i hij; rw [h, hij]
    · rfl
  · rename_i h
    rw [Nat.testBit_xor, Nat.testBit_two_pow]
    split
    · rename_i hij; subst hij; cases v <;> simp_all
    · rename_i hij; simp [hij]

/-- A fold whose step at `a` gives the reading `g` the value `v`, and whose other steps leave it, ends with `v`. -/
theorem foldl_reads {α β γ : Type} {g : β → γ} {f : β → α → β} {l : List α} {a : α} {v : γ} (ha : a ∈ l)
    (hself : ∀ b, g (f b a) = v) (hne : ∀ b, ∀ x ∈ l, x ≠ a → g (f b x) = g b) (b : β) : g (l.foldl f b) = v := by
  obtain ⟨front, back, rfl⟩ := List.append_of_mem ha
  rw [List.foldl_append, List.foldl_cons]
  refine List.foldlRecOn (motive := fun b => g b = v) back f (hself _) fun b hb x hx => ?_
  by_cases hxa : x = a
  · rw [hxa, hself]
  · rw [hne b x (by simp [hx]) hxa, hb]

/-! ## Parts that stay the same -/

section
variable {ps : List Part} {s u : State} (h : s.sameBut ps u)
include h
theorem State.sameBut.now (hp : .now ∉ ps) : u.now = s.now := h.2.2 .now hp
theorem State.sameBut.mode (hp : .mode ∉ ps) : u.mode = s.mode := h.2.2 .mode hp
theorem State.sameBut.inp (hp : .inp ∉ ps) : u.inp = s.inp := h.2.2 .inp hp
theorem State.sameBut.blks (hp : .blks ∉ ps) : u.blks = s.blks := h.2.2 .blks hp
theorem State.sameBut.pair (hp : .pair ∉ ps) : u.unt.pair = s.unt.pair := h.2.2 .pair hp
theorem State.sameBut.replay (hp : .replay ∉ ps) : u.port.replay = s.port.replay := h.2.2 .replay hp
theorem State.sameBut.phase (hp : .phase ∉ ps) : u.phase = s.phase := h.2.2 .phase hp
theorem State.sameBut.fr (hp : .fr ∉ ps) : u.fr = s.fr := h.2.2 .fr hp
theorem State.sameBut.eng (hp : .eng ∉ ps) : u.eng = s.eng := h.2.2 .eng hp
theorem State.sameBut.safe (hp : .safety ∉ ps) : u.safe = s.safe := h.2.2 .safety hp
theorem State.sameBut.alm (hp : .alm ∉ ps) : u.alm = s.alm := h.2.2 .alm hp
theorem State.sameBut.can (hp : .can ∉ ps) : u.can = s.can := h.2.2 .can hp
theorem State.sameBut.shown (hp : .shown ∉ ps) : u.shown = s.shown := h.2.2 .shown hp
theorem State.sameBut.im (hp : .image ∉ ps) : u.im = s.im := h.2.2 .image hp
theorem State.sameBut.image (hp : .image ∉ ps) : u.cfg.image = s.cfg.image := h.2.2 .image hp
theorem State.sameBut.mdiag (hp : .mdiag ∉ ps) : u.unt.mdiag = s.unt.mdiag := h.2.2 .mdiag hp
theorem State.sameBut.owner (hp : .owner ∉ ps) : u.port.owner = s.port.owner := h.2.2 .owner hp
theorem State.sameBut.pend (hp : .pend ∉ ps) : u.port.pend = s.port.pend := h.2.2 .pend hp
theorem State.sameBut.replayIn (hp : .replayIn ∉ ps) : u.port.replayIn = s.port.replayIn := h.2.2 .replayIn hp
theorem State.sameBut.cfgEv (hp : .cfgEv ∉ ps) : u.port.cfgEv = s.port.cfgEv := h.2.2 .cfgEv hp
theorem State.sameBut.rtcEv (hp : .rtcEv ∉ ps) : u.port.rtcEv = s.port.rtcEv := h.2.2 .rtcEv hp
end

theorem State.sameBut_trans_self {ps : List Part} {s r u : State} (h1 : s.sameBut ps r) (h2 : r.sameBut ps u) : s.sameBut ps u :=
  State.sameBut_mono (State.sameBut_trans h1 h2) fun _ hp => (List.mem_append.1 hp).elim id id

end Sys2Proof.Machine
end

section
/-! PROOFS. FRAME_CLOSE: the outputs that the frame distributes, what readers see of it, and what follows its completion
(R37, R62, R394, R475, R477). -/

namespace Sys2Proof.Machine

/-! ## The output image (R38, R477) -/

theorem State.zenithOut_isSome_congr {s u : State} (h : u.im = s.im) (c : Nat) : (u.zenithOut c).isSome = (s.zenithOut c).isSome := by
  unfold State.zenithOut
  rw [h]
  split
  · rfl
  · split <;> rfl

/-- The source of a command depends on the running image only. -/
theorem State.outSource_congr {s u : State} (h : u.im = s.im) (c : Nat) : u.outSource c = s.outSource c := by
  simp [State.outSource, State.zenithOut_isSome_congr h, h]

/-- One step of `State.keptOutputs`. -/
def State.keepOutput (s : State) (o : OutImg) (c : Nat) : OutImg :=
  let bad := s.eng.poison.testBit (s.outSource c)
  if chMode s.im c = 8 then { o with dos := setBit o.dos c (if bad then s.eng.outWas.dos.testBit c else s.eng.out.dos.testBit c) }
  else if chMode s.im c = 6 then { o with aos := tabSet 0 o.aos c (if bad then tabGet 0 s.eng.outWas.aos c else tabGet 0 s.eng.out.aos c) }
  else o

theorem State.keptOutputs_eq (s : State) : s.keptOutputs = (List.range 512).foldl s.keepOutput {} := rfl

theorem State.keepOutput_dos_ne (s : State) (o : OutImg) {c k : Nat} (h : k ≠ c) :
    (s.keepOutput o k).dos.testBit c = o.dos.testBit c := by
  unfold State.keepOutput
  dsimp only
  split
  · exact (testBit_setBit ..).trans (if_neg h)
  · split <;> rfl

theorem State.keepOutput_aos_ne (s : State) (o : OutImg) {c k : Nat} (h : k ≠ c) :
    tabGet 0 (s.keepOutput o k).aos c = tabGet 0 o.aos c := by
  unfold State.keepOutput
  dsimp only
  split
  · rfl
  · split
    · exact tabGet_set_ne _ _ _ h
    · rfl

/-- A DO channel of a poisoned source keeps its command of the frame before. -/
theorem State.keptOutputs_dos {s : State} {c : Nat} (hc : c < 512) (hp : s.eng.poison.testBit (s.outSource c) = true)
    (hm : chMode s.im c = 8) : s.keptOutputs.dos.testBit c = s.eng.outWas.dos.testBit c := by
  rw [State.keptOutputs_eq]
  refine foldl_reads (g := fun o : OutImg => o.dos.testBit c) (f := s.keepOutput) (List.mem_range.2 hc) (fun o => ?_)
    (fun o k _ hk => s.keepOutput_dos_ne o hk) _
  simp [State.keepOutput, hm, hp, testBit_setBit]

/-- An AO-I channel of a poisoned source keeps its command of the frame before. -/
theorem State.keptOutputs_aos {s : State} {c : Nat} (hc : c < 512) (hp : s.eng.poison.testBit (s.outSource c) = true)
    (hm : chMode s.im c = 6) : tabGet 0 s.keptOutputs.aos c = tabGet 0 s.eng.outWas.aos c := by
  rw [State.keptOutputs_eq]
  refine foldl_reads (g := fun o : OutImg => tabGet 0 o.aos c) (f := s.keepOutput) (List.mem_range.2 hc) (fun o => ?_)
    (fun o k _ hk => s.keepOutput_aos_ne o hk) _
  simp [State.keepOutput, hm, hp]

/-- The engine part aside from the results and the output image. -/
def EngPart.besideOutputs (e : EngPart) : EngPart := { e with res := [], out := {} }

theorem EngPart.fields_of_besideOutputs {a b : EngPart} (h : a.besideOutputs = b.besideOutputs) :
    a.outWas = b.outWas ∧ a.shadow = b.shadow ∧ a.noUpd = b.noUpd ∧ a.poison = b.poison :=
  ⟨congrArg (·.outWas) h, congrArg (·.shadow) h, congrArg (·.noUpd) h, congrArg (·.poison) h⟩

theorem State.zenithOutput_eng (s : State) (c : Nat) : (s.zenithOutput c).eng.besideOutputs = s.eng.besideOutputs := by
  unfold State.zenithOutput
  split
  · split <;> rfl
  · rfl

/-- The Zenith controller's outputs write the results and the output image of the engine part only. -/
theorem State.zenithOutputs_eng (s : State) : s.zenithOutputs.eng.besideOutputs = s.eng.besideOutputs := by
  unfold State.zenithOutputs
  exact foldl_keep (fun x => x.eng.besideOutputs) State.zenithOutput State.zenithOutput_eng _ s

/-! ## The Zenith controller's part of the frame -/

/-- The steps of `State.zenithFrame` before the outputs: trims, alarms, the engineer call, sessions and claims. -/
def State.beforeOutputs (s : State) : State := (s.trimStep.callNow.bothSides State.sessionsStep).bothSides State.closeWindow

/-- The state whose output image `State.zenithFrame` distributes. -/
def State.readyOutputs (s : State) : State := s.beforeOutputs.zenithOutputs

theorem State.zenithFrame_eq (s : State) : s.zenithFrame = s.readyOutputs.distribute.poisonReport := rfl

theorem State.beforeOutputs_sameBut (s : State) :
    s.sameBut [.alm, .can, .sess, .pend, .outbox, .owner, .portSt, .wire, .trace, .replayIn, .nextCfg, .restage, .trims] s.beforeOutputs :=
  State.sameBut_of_rest (by simp [State.beforeOutputs])

theorem State.zenithOutputs_sameBut (s : State) : s.sameBut [.eng] s.zenithOutputs := State.sameBut_of_rest (by simp)

theorem State.readyOutputs_im (s : State) : s.readyOutputs.im = s.im := by
  rw [State.readyOutputs, (State.zenithOutputs_sameBut _).im (by decide), s.beforeOutputs_sameBut.im (by decide)]

theorem State.readyOutputs_mdiag (s : State) : s.readyOutputs.unt.mdiag = s.unt.mdiag := by
  rw [State.readyOutputs, (State.zenithOutputs_sameBut _).mdiag (by decide), s.beforeOutputs_sameBut.mdiag (by decide)]

theorem State.readyOutputs_besideOutputs (s : State) : s.readyOutputs.eng.besideOutputs = s.eng.besideOutputs := by
  rw [State.readyOutputs, State.zenithOutputs_eng, s.beforeOutputs_sameBut.eng (by decide)]

/-- The outputs and shadows of the frame before, the symbols without update and the poisoned sources stand until the distribution. -/
theorem State.readyOutputs_eng (s : State) : s.readyOutputs.eng.outWas = s.eng.outWas ∧ s.readyOutputs.eng.shadow = s.eng.shadow ∧
    s.readyOutputs.eng.noUpd = s.eng.noUpd ∧ s.readyOutputs.eng.poison = s.eng.poison :=
  EngPart.fields_of_besideOutputs s.readyOutputs_besideOutputs

theorem State.poisonReport_nPoisoned (s : State) : s.poisonReport.unt.mdiag.nPoisoned =
    if s.eng.poison = 0 then s.unt.mdiag.nPoisoned else satN 16 (s.unt.mdiag.nPoisoned + 1) := by
  unfold State.poisonReport
  split
  · rfl
  · exact congrArg ModDiag.nPoisoned (State.same_of_rest (p := .mdiag) (State.unitEvs_rest (ps := [.recd]) _ _ (by simp)) (by decide))

/-! ## What is sent loads no message object (R394) -/

section
variable (s : State)

@[simp] theorem State.emit_loads (r : Reply) : (s.emit r).can.loads = s.can.loads := by
  unfold State.emit
  dsimp only
  repeat' split
  all_goals rfl

@[simp] theorem State.sendReply_loads (r : Reply) : (s.sendReply r).can.loads = s.can.loads := by
  unfold State.sendReply
  split
  · rfl
  · exact s.emit_loads r

@[simp] theorem State.sendTrace_loads (st : Nat) (data : List Byte) : (s.sendTrace st data).can.loads = s.can.loads := by
  unfold State.sendTrace
  split
  · exact State.sendReply_loads _ _
  · rfl

@[simp] theorem State.serialTrace_loads : s.serialTrace.can.loads = s.can.loads := by
  unfold State.serialTrace
  split
  · rfl
  · split
    · rfl
    · exact State.sendTrace_loads _ _ _

@[simp] theorem State.endTrace_loads (overflow : Bool) : (s.endTrace overflow).can.loads = s.can.loads := by
  unfold State.endTrace
  dsimp only
  split
  · exact s.sendTrace_loads _ _
  · rfl

@[simp] theorem State.deliver_loads (c : Caller) (op : Op) (st : Nat) (body : List Byte) :
    (s.deliver c op st body).can.loads = s.can.loads := by
  have answer : (s.answer c st body).can.loads = s.can.loads := by
    unfold State.answer State.sendAnswer
    dsimp only
    split <;> simp
  unfold State.deliver
  dsimp only
  split <;> exact answer

@[simp] theorem State.replies_loads : s.replies.can.loads = s.can.loads := by
  unfold State.replies
  exact foldl_keep (fun x => x.can.loads) State.replyDue (fun _ _ => State.deliver_loads ..) _ _

@[simp] theorem State.sendTraceBytes_loads (x : Nat × List Byte) : (s.sendTraceBytes x).can.loads = s.can.loads :=
  foldl_keep (fun y => y.can.loads) _ (fun _ _ => State.sendTrace_loads ..) _ s

@[simp] theorem State.traceStep_loads (late : Bool) : (s.traceStep late).can.loads = s.can.loads := by
  have flush (x : State) : x.flushTrace.can.loads = x.can.loads := by
    unfold State.flushTrace
    split
    · rfl
    · split
      · rfl
      · exact foldl_keep (fun x => x.can.loads) _ State.sendTraceBytes_loads _ _
  have events (es : List EvReq) : s.sameBut [.recd] (s.unitEvs es) := State.sameBut_of_rest (by simp)
  unfold State.traceStep
  split
  · rfl
  · dsimp only
    split
    · rfl
    · split
      · rw [State.endTrace_loads, (events _).can (by decide)]
      · exact flush _

end

/-! ## The two host sides (R70) -/

section
variable {f : State → State} (s : State)

/-- What acts on the host side of a recorded run leaves the live one. -/
theorem State.withinTrace_hosts (hf : ∀ x, (f x).port.replayIn = x.port.replayIn) : (s.withinTrace f).hosts = s.hosts := by
  unfold State.withinTrace
  split
  · simp [State.hosts, State.takeHosts, hf]
  · rfl

theorem State.withinTrace_loads (hf : ∀ x, (f x).can.loads = x.can.loads) : (s.withinTrace f).can.loads = s.can.loads := by
  unfold State.withinTrace
  split
  · simp [State.takeHosts, hf]
  · rfl

end

/-! ## Replies (R323) -/

theorem State.replies_sameBut (s : State) : s.sameBut [.can, .power, .sess, .pend, .outbox, .portSt, .wire, .trace] s.replies :=
  State.sameBut_of_rest (by simp)

/-- A due reply leaves the list of pending replies; the others stay. -/
theorem State.replies_pend (s : State) : ∀ p ∈ s.replies.port.pend, ∀ n, p.due = some n → s.fr.frameNo < n := by
  intro p hp n hn
  unfold State.replies at hp
  have hkeep (x : State) (q : Pending) : (x.replyDue q).port.pend = x.port.pend :=
    State.sameBut.pend (ps := [.can, .power, .sess, .outbox, .portSt, .wire, .trace]) (State.sameBut_of_rest (by simp)) (by decide)
  rw [foldl_keep (fun x => x.port.pend) State.replyDue hkeep, State.modPort_port, List.mem_filter] at hp
  simpa [hn] using hp.2

/-- The live side of the replies that leave as a frame completes. -/
theorem State.bothReplies_hosts (s : State) : (s.bothSides State.replies).hosts = s.replies.hosts :=
  State.withinTrace_hosts _ fun x => (State.replies_sameBut x).replayIn (by decide)

theorem State.bothReplies_loads (s : State) : (s.bothSides State.replies).can.loads = s.can.loads :=
  (State.withinTrace_loads _ State.replies_loads).trans s.replies_loads

/-! ## The complete frame -/

/-- The events of the frame's requests are admitted, and none is left for the next frame (R63). -/
theorem State.recordEvents_port (l : List EvReq) (s : State) : (s.recordEvents l).port.cfgEv = [] ∧ (s.recordEvents l).port.rtcEv = [] ∧
    (s.recordEvents l).port.owner.ev = [] := ⟨rfl, rfl, rfl⟩

theorem State.recordEvents_sameBut (l : List EvReq) (s : State) :
    s.sameBut [.alm, .recd, .owner, .replayIn, .cfgEv, .rtcEv] (s.recordEvents l) := State.sameBut_of_rest (by simp)

theorem State.zenithFrame_sameBut (s : State) : s.sameBut [.blks, .eng, .alm, .recd, .can, .mdiag, .sess, .pend, .outbox, .owner,
    .portSt, .wire, .trace, .replayIn, .nextCfg, .restage, .trims] s.zenithFrame := State.sameBut_of_rest (by simp)

theorem State.transmit_loads (s : State) : s.transmit.can.loads = [] := rfl

/-- What `State.closeFrame` does after the frame has been published. -/
def State.afterPublish (reqs : List EvReq) (late : Bool) (s : State) : State :=
  ((s.pairClose reqs).traceStep late).bothSides State.replies

/-- The state that `State.closeFrame` publishes. -/
def State.toPublish (s : State) : State := s.zenithFrame.transmit.recordEvents s.zenithFrame.transmit.frameRequests

theorem State.closeFrame_eq (t : Nat) (late : Bool) (s : State) :
    s.closeFrame t late = (s.toPublish.publish t).afterPublish s.zenithFrame.transmit.frameRequests late := rfl

section
variable (reqs : List EvReq) (late : Bool) (s : State)

theorem State.pairClose_sameBut : s.sameBut [.recd, .pair, .wire] (s.pairClose reqs) := State.sameBut_of_rest (by simp)

theorem State.traceStep_sameBut : s.sameBut [.recd, .can, .outbox, .portSt, .wire, .trace] (s.traceStep late) :=
  State.sameBut_of_rest (by simp)

theorem State.afterPublish_sameBut : s.sameBut [.recd, .can, .power, .pair, .sess, .pend, .outbox, .owner, .portSt, .wire, .trace,
    .replayIn] (s.afterPublish reqs late) := State.sameBut_of_rest (by simp [State.afterPublish])

theorem State.afterPublish_owner : (s.afterPublish reqs late).port.owner = s.port.owner := calc
  (s.afterPublish reqs late).port.owner
    = ((s.pairClose reqs).traceStep late).replies.port.owner := congrArg Hosts.owner (State.bothReplies_hosts _)
  _ = ((s.pairClose reqs).traceStep late).port.owner := (State.replies_sameBut _).owner (by decide)
  _ = (s.pairClose reqs).port.owner := (State.traceStep_sameBut _ _).owner (by decide)
  _ = s.port.owner := (s.pairClose_sameBut reqs).owner (by decide)

theorem State.afterPublish_loads : (s.afterPublish reqs late).can.loads = s.can.loads := calc
  (s.afterPublish reqs late).can.loads
    = ((s.pairClose reqs).traceStep late).can.loads := State.bothReplies_loads _
  _ = (s.pairClose reqs).can.loads := State.traceStep_loads _ _
  _ = s.can.loads := by rw [(s.pairClose_sameBut reqs).can (by decide)]

/-- No due reply is left once the replies of the frame have left. -/
theorem State.afterPublish_pend : ∀ p ∈ (s.afterPublish reqs late).port.pend, ∀ n, p.due = some n → s.fr.frameNo < n := by
  have hpend : (s.afterPublish reqs late).port.pend = ((s.pairClose reqs).traceStep late).replies.port.pend :=
    congrArg Hosts.pend (State.bothReplies_hosts _)
  have hfr : ((s.pairClose reqs).traceStep late).fr = s.fr :=
    ((State.traceStep_sameBut _ _).fr (by decide)).trans ((s.pairClose_sameBut reqs).fr (by decide))
  rw [hpend, ← hfr]
  exact State.replies_pend _

end

section
variable (t : Nat) (s : State)

theorem State.publish_sameBut : s.sameBut [.phase, .fr, .blks, .shown] (s.publish t) := State.sameBut_of_rest (by simp)

theorem State.publish_phase : (s.publish t).phase = .complete := rfl

theorem State.publish_fr : (s.publish t).fr = { s.fr with doneAt := t, longLive := s.fr.longLive && s.fr.longNow } := rfl

/-- Readers see the results, the points and the safety states of the published frame, and its image (R37). -/
theorem State.publish_shown : let u := s.publish t
    u.shown.frame = s.fr.frameNo ∧ u.shown.image = s.im ∧ u.shown.res = u.eng.res ∧ u.shown.points = u.alm.pts ∧
      u.shown.safe = s.safe.resA := ⟨rfl, rfl, rfl, rfl, rfl⟩

end

/-! ## The outputs and the counters of a frame's close -/

section
variable (s : State)

theorem State.poisonReport_sameBut : s.sameBut [.recd, .mdiag] s.poisonReport := State.sameBut_of_rest (by simp)

theorem State.distribute_sameBut : s.sameBut [.blks, .eng] s.distribute := State.sameBut_of_rest (by simp)

theorem State.distribute_out : s.distribute.eng.out = s.keptOutputs ∧ s.distribute.eng.outWas = s.keptOutputs := by
  simp only [State.distribute, State.modBlks_eng, State.modEng_eng, and_self]

theorem State.distribute_shadow : s.distribute.eng.shadow = shadowAfter s.eng.noUpd s.eng.shadow s.keptOutputs ∧
    s.distribute.eng.noUpd = 0 := by
  simp only [State.distribute, State.modBlks_eng, State.modEng_eng, and_self]

theorem State.distribute_poison : s.distribute.eng.poison = s.eng.poison := by
  simp only [State.distribute, State.modBlks_eng, State.modEng_eng]

/-- The engine part after the Zenith controller's steps is that of the distribution. -/
theorem State.zenithFrame_eng : s.zenithFrame.eng = s.readyOutputs.distribute.eng := (State.poisonReport_sameBut _).eng (by decide)

/-- The output image of a frame is the one that its channels keep or take, and it is what the next frame keeps. -/
theorem State.zenithFrame_out : s.zenithFrame.eng.out = s.readyOutputs.keptOutputs ∧
    s.zenithFrame.eng.outWas = s.zenithFrame.eng.out := by
  obtain ⟨hout, hwas⟩ := s.readyOutputs.distribute_out
  rw [s.zenithFrame_eng, hout, hwas]
  exact ⟨rfl, rfl⟩

theorem State.zenithFrame_shadow : s.zenithFrame.eng.shadow = shadowAfter s.eng.noUpd s.eng.shadow s.zenithFrame.eng.out ∧
    s.zenithFrame.eng.noUpd = 0 := by
  obtain ⟨-, hshadow, hnoUpd, -⟩ := s.readyOutputs_eng
  rw [s.zenithFrame_out.1, s.zenithFrame_eng, ← hshadow, ← hnoUpd]
  exact s.readyOutputs.distribute_shadow

/-- An output of a poisoned source keeps its command of the frame before (R477). -/
theorem State.zenithFrame_kept {c : Nat} (hc : c < 512) (hp : s.eng.poison.testBit (s.outSource c) = true) :
    (chMode s.im c = 8 → s.zenithFrame.eng.out.dos.testBit c = s.eng.outWas.dos.testBit c) ∧
      (chMode s.im c = 6 → tabGet 0 s.zenithFrame.eng.out.aos c = tabGet 0 s.eng.outWas.aos c) := by
  obtain ⟨hwas, -, -, hpoison⟩ := s.readyOutputs_eng
  rw [← hpoison, ← State.outSource_congr s.readyOutputs_im] at hp
  rw [s.zenithFrame_out.1, ← hwas, ← s.readyOutputs_im]
  exact ⟨State.keptOutputs_dos hc hp, State.keptOutputs_aos hc hp⟩

/-- A poisoned frame is counted (R477, R488). -/
theorem State.zenithFrame_nPoisoned : s.zenithFrame.unt.mdiag.nPoisoned =
    if s.eng.poison = 0 then s.unt.mdiag.nPoisoned else satN 16 (s.unt.mdiag.nPoisoned + 1) := by
  obtain ⟨-, -, -, hpoison⟩ := s.readyOutputs_eng
  rw [State.zenithFrame_eq, State.poisonReport_nPoisoned, (State.distribute_sameBut _).mdiag (by decide), s.readyOutputs_mdiag,
    State.distribute_poison, hpoison]

end

/-! ## FRAME_CLOSE -/

theorem frameClose_goes {s : State} (h : s.zenithReady = true) (t : Nat) (late : Bool) :
    exec (.frameClose ⟨t, late⟩) s = .next ((s.tick t).closeFrame t late) := act_goes rfl h

section
variable (t : Nat) (late : Bool) (s : State)

theorem State.closeFrame_from_publish : (s.toPublish.publish t).sameBut [.recd, .can, .power, .pair, .sess, .pend, .outbox, .owner,
    .portSt, .wire, .trace, .replayIn] (s.closeFrame t late) := by
  rw [State.closeFrame_eq]
  exact State.afterPublish_sameBut ..

theorem State.toPublish_from_zenithFrame : s.zenithFrame.sameBut [.alm, .recd, .can, .owner, .portSt, .wire, .replayIn, .cfgEv, .rtcEv]
    s.toPublish := State.sameBut_of_rest (by simp [State.toPublish])

theorem State.closeFrame_eng : (s.closeFrame t late).eng = s.zenithFrame.eng := calc
  (s.closeFrame t late).eng
    = (s.toPublish.publish t).eng := (s.closeFrame_from_publish t late).eng (by decide)
  _ = s.toPublish.eng := (State.publish_sameBut ..).eng (by decide)
  _ = s.zenithFrame.eng := s.toPublish_from_zenithFrame.eng (by decide)

theorem State.closeFrame_mdiag : (s.closeFrame t late).unt.mdiag = s.zenithFrame.unt.mdiag := calc
  (s.closeFrame t late).unt.mdiag
    = (s.toPublish.publish t).unt.mdiag := (s.closeFrame_from_publish t late).mdiag (by decide)
  _ = s.toPublish.unt.mdiag := (State.publish_sameBut ..).mdiag (by decide)
  _ = s.zenithFrame.unt.mdiag := s.toPublish_from_zenithFrame.mdiag (by decide)

end

section
variable (t : Nat) (late : Bool) (s : State)

theorem State.closeFrame_sameBut : s.sameBut [.phase, .fr, .blks, .eng, .alm, .recd, .can, .shown, .power, .mdiag, .pair, .sess, .pend,
    .outbox, .owner, .portSt, .wire, .trace, .replayIn, .cfgEv, .rtcEv, .nextCfg, .restage, .trims] (s.closeFrame t late) :=
  State.sameBut_of_rest (by simp)

theorem State.toPublish_fr : s.toPublish.fr = s.fr :=
  (s.toPublish_from_zenithFrame.fr (by decide)).trans (s.zenithFrame_sameBut.fr (by decide))

theorem State.toPublish_im : s.toPublish.im = s.im := by
  rw [s.toPublish_from_zenithFrame.im (by decide), s.zenithFrame_sameBut.im (by decide)]

theorem State.toPublish_safe : s.toPublish.safe = s.safe := by
  rw [s.toPublish_from_zenithFrame.safe (by decide), s.zenithFrame_sameBut.safe (by decide)]

theorem State.closeFrame_phase : (s.closeFrame t late).phase = .complete := by
  rw [(s.closeFrame_from_publish t late).phase (by decide), State.publish_phase]

theorem State.closeFrame_fr : let u := s.closeFrame t late
    u.fr.doneAt = t ∧ u.fr.frameNo = s.fr.frameNo ∧ u.fr.strobeAt = s.fr.strobeAt := by
  dsimp only
  rw [(s.closeFrame_from_publish t late).fr (by decide), State.publish_fr, s.toPublish_fr]
  exact ⟨rfl, rfl, rfl⟩

theorem State.closeFrame_shown : let u := s.closeFrame t late
    u.shown.frame = s.fr.frameNo ∧ u.shown.image = s.im ∧ u.shown.res = u.eng.res ∧ u.shown.points = u.alm.pts ∧
      u.shown.safe = s.safe.resA := by
  have hfrom := s.closeFrame_from_publish t late
  have hshown := s.toPublish.publish_shown t
  dsimp only at hshown ⊢
  rw [hfrom.shown (by decide), hfrom.eng (by decide), hfrom.alm (by decide), ← s.toPublish_fr, ← s.toPublish_im, ← s.toPublish_safe]
  exact hshown

theorem State.toPublish_loads : s.toPublish.can.loads = [] := by
  rw [State.toPublish, (State.recordEvents_sameBut _ _).can (by decide), State.transmit_loads]

theorem State.closeFrame_loads : (s.closeFrame t late).can.loads = [] := by
  rw [State.closeFrame_eq, State.afterPublish_loads, (State.publish_sameBut ..).can (by decide), s.toPublish_loads]

/-- No event of the frame is left (R63). -/
theorem State.closeFrame_events : let u := s.closeFrame t late
    u.port.cfgEv = [] ∧ u.port.rtcEv = [] ∧ u.port.owner.ev = [] := by
  have hfrom := s.closeFrame_from_publish t late
  have howner : (s.closeFrame t late).port.owner = s.toPublish.port.owner := by
    rw [State.closeFrame_eq, State.afterPublish_owner, (State.publish_sameBut ..).owner (by decide)]
  dsimp only
  rw [hfrom.cfgEv (by decide), hfrom.rtcEv (by decide), howner, (State.publish_sameBut ..).cfgEv (by decide),
    (State.publish_sameBut ..).rtcEv (by decide)]
  exact State.recordEvents_port _ _

/-- No due reply is left. -/
theorem State.closeFrame_pend : ∀ p ∈ (s.closeFrame t late).port.pend, ∀ n, p.due = some n → s.fr.frameNo < n := by
  have hno : (s.toPublish.publish t).fr.frameNo = s.fr.frameNo := by rw [State.publish_fr, s.toPublish_fr]
  rw [State.closeFrame_eq, ← hno]
  exact State.afterPublish_pend _ _ _

end

/-- Settles O21: the frame publishes what the Zenith controller's steps have made final, and nothing that follows writes it. -/
theorem frameCloses : Obligations.FrameCloses := by
  intro t late s hready
  refine ⟨_, frameClose_goes hready t late, ?_⟩
  have hsame := (s.tick t).closeFrame_sameBut t late
  have heng := (s.tick t).closeFrame_eng t late
  obtain ⟨hdone, hframeNo, hstrobe⟩ := (s.tick t).closeFrame_fr t late
  obtain ⟨hframe, himage, hres, hpoints, hsafe⟩ := (s.tick t).closeFrame_shown t late
  obtain ⟨hshadow, hnoUpd⟩ := (s.tick t).zenithFrame_shadow
  obtain ⟨hcfgEv, hrtcEv, hownerEv⟩ := (s.tick t).closeFrame_events t late
  have hpoisoned := (s.tick t).zenithFrame_nPoisoned
  rw [← State.closeFrame_mdiag t late] at hpoisoned
  rw [← heng] at hshadow hnoUpd
  refine ⟨State.closeFrame_phase .., hdone, hframeNo, hstrobe, hsame.image (by decide), hframe, himage, hres, hpoints, hsafe,
    hsame.safe (by decide), ?_, hshadow, hnoUpd, State.closeFrame_loads .., hcfgEv, hrtcEv, hownerEv,
    (s.tick t).closeFrame_pend t late, fun c hc hp => ?_, hpoisoned⟩
  · rw [heng]
    exact (s.tick t).zenithFrame_out.2
  · rw [heng]
    rw [← State.outSource_congr (s := s) (u := s.tick t) rfl] at hp
    exact (s.tick t).zenithFrame_kept hc hp

end Sys2Proof.Machine
end

section
/-! PROOFS. BLOCK_LATCH and STROBE_COUPLER_ERROR: what stays in the other blocks, the records that a latch writes, and the outputs that
take the shadow (R34, R35, R59, R169, R207, R211). -/

namespace Sys2Proof.Machine

/-! ## The other blocks -/

theorem BlkPart.onlyBlock.refl (b : Nat) (x : BlkPart) : x.onlyBlock b x :=
  ⟨fun _ _ => ⟨rfl, rfl, rfl, rfl, rfl⟩, fun _ _ => ⟨rfl, rfl, rfl⟩, rfl, rfl⟩

theorem BlkPart.onlyBlock.trans {b : Nat} {x y z : BlkPart} (h : x.onlyBlock b y) (k : y.onlyBlock b z) : x.onlyBlock b z := by
  obtain ⟨hcell, hblk, hmodem, hblank⟩ := h
  obtain ⟨kcell, kblk, kmodem, kblank⟩ := k
  refine ⟨fun c hc => ?_, fun j hj => ?_, kmodem.trans hmodem, kblank.trans hblank⟩
  · obtain ⟨ha, hd, ho, hl, he⟩ := hcell c hc
    obtain ⟨ka, kd, ko, kl, ke⟩ := kcell c hc
    exact ⟨ka.trans ha, kd.trans hd, ko.trans ho, kl.trans hl, ke.trans he⟩
  · obtain ⟨hs, hb, hg⟩ := hblk j hj
    obtain ⟨ks, kb, kg⟩ := kblk j hj
    exact ⟨ks.trans hs, kb.trans hb, kg.trans hg⟩

/-- A fold whose steps keep to block `b` keeps to it. -/
theorem BlkPart.onlyBlock.foldl {α : Type} {b : Nat} {x : BlkPart} {s : State} {f : State → α → State} {l : List α}
    (hs : x.onlyBlock b s.blks) (h : ∀ u : State, ∀ a ∈ l, u.blks.onlyBlock b (f u a).blks) : x.onlyBlock b (l.foldl f s).blks :=
  List.foldlRecOn (motive := fun u => x.onlyBlock b u.blks) l f hs fun u hu a ha => hu.trans (h u a ha)

section
variable {b c : Nat} (hc : c / 8 = b) (s : State)
include hc

theorem ne_of_block {k : Nat} (hk : k / 8 ≠ b) : c ≠ k := by
  rintro rfl
  exact hk hc

theorem State.modAcq_onlyBlock (f : AcqCh → AcqCh) : s.blks.onlyBlock b (s.modAcq c f).blks :=
  ⟨fun _ hk => ⟨tabGet_mod_ne _ _ _ (ne_of_block hc hk), rfl, rfl, rfl, rfl⟩, fun _ _ => ⟨rfl, rfl, rfl⟩, rfl, rfl⟩

theorem State.modDig_onlyBlock (f : DigCell → DigCell) : s.blks.onlyBlock b (s.modDig c f).blks :=
  ⟨fun _ hk => ⟨rfl, tabGet_mod_ne _ _ _ (ne_of_block hc hk), rfl, rfl, rfl⟩, fun _ _ => ⟨rfl, rfl, rfl⟩, rfl, rfl⟩

theorem State.modOut_onlyBlock (f : OutCell → OutCell) : s.blks.onlyBlock b (s.modOut c f).blks :=
  ⟨fun _ hk => ⟨rfl, rfl, tabGet_mod_ne _ _ _ (ne_of_block hc hk), rfl, rfl⟩, fun _ _ => ⟨rfl, rfl, rfl⟩, rfl, rfl⟩

theorem State.modLoop_onlyBlock (f : LoopCell → LoopCell) : s.blks.onlyBlock b (s.modLoop c f).blks :=
  ⟨fun _ hk => ⟨rfl, rfl, rfl, tabGet_mod_ne _ _ _ (ne_of_block hc hk), rfl⟩, fun _ _ => ⟨rfl, rfl, rfl⟩, rfl, rfl⟩

theorem State.modCell_onlyBlock (f : CellDiag → CellDiag) : s.blks.onlyBlock b (s.modCell c f).blks :=
  ⟨fun _ hk => ⟨rfl, rfl, rfl, rfl, tabGet_mod_ne _ _ _ (ne_of_block hc hk)⟩, fun _ _ => ⟨rfl, rfl, rfl⟩, rfl, rfl⟩

theorem State.reinitCell_onlyBlock : s.blks.onlyBlock b (s.reinitCell c).blks := by
  refine ⟨fun k hk => ?_, fun k hk => ?_, rfl, rfl⟩
  · have hne := ne_of_block hc hk
    simp [State.reinitCell, hne]
  · have hne : c / 8 ≠ k := fun h => hk (h.symm.trans hc)
    exact ⟨tabGet_mod_ne _ _ _ hne, tabGet_mod_ne _ _ _ hne, rfl⟩

end

section
variable (b : Nat) (s : State)

theorem State.modSeq_onlyBlock (f : BlkAcq → BlkAcq) : s.blks.onlyBlock b (s.modSeq b f).blks :=
  ⟨fun _ _ => ⟨rfl, rfl, rfl, rfl, rfl⟩, fun _ hk => ⟨tabGet_mod_ne _ _ _ hk.symm, rfl, rfl⟩, rfl, rfl⟩

theorem State.modBlk_onlyBlock (f : Blk → Blk) : s.blks.onlyBlock b (s.modBlk b f).blks :=
  ⟨fun _ _ => ⟨rfl, rfl, rfl, rfl, rfl⟩, fun _ hk => ⟨rfl, tabGet_mod_ne _ _ _ hk.symm, rfl⟩, rfl, rfl⟩

end

theorem div_of_blkChannels {b c : Nat} (h : c ∈ blkChannels b) : c / 8 = b := by
  obtain ⟨i, hi, rfl⟩ := List.mem_map.1 h
  have := List.mem_range.1 hi
  omega

theorem div_of_cellsOf {b : Nat} {meas : List CellMeas} {x : Nat × CellMeas} (h : x ∈ cellsOf b meas) : x.1 / 8 = b :=
  div_of_blkChannels (List.of_mem_zip h).1

/-- Events of the unit write no block. -/
@[simp] theorem State.unitEvs_blks (es : List EvReq) (s : State) : (s.unitEvs es).blks = s.blks :=
  State.same_of_rest (p := .blks) (State.unitEvs_rest (ps := [.recd]) es s (by simp)) (by decide)

/-! ## The steps of a latch keep to their block -/

section
variable {b : Nat} (s : State)

theorem State.latchCell_onlyBlock {c : Nat} (hc : c / 8 = b) (m : CellMeas) : s.blks.onlyBlock b (s.latchCell c m).2.blks := by
  unfold State.latchCell
  dsimp only
  split
  · exact .refl b _
  · exact (s.modLoop_onlyBlock hc _).trans (State.modOut_onlyBlock hc _ _)
  · exact s.modDig_onlyBlock hc _
  · exact s.modDig_onlyBlock hc _
  · exact s.modOut_onlyBlock hc _
  · exact s.modAcq_onlyBlock hc _

theorem State.putRecord_blks (c : Nat) (r : Rec) : (s.putRecord c r).blks = s.blks := by
  unfold State.putRecord
  split <;> rfl

theorem State.latchChannel_onlyBlock {x : Nat × CellMeas} (hx : x.1 / 8 = b) : s.blks.onlyBlock b (s.latchChannel x).blks := by
  unfold State.latchChannel
  dsimp only
  rw [State.putRecord_blks]
  exact (s.latchCell_onlyBlock hx _).trans (State.modCell_onlyBlock hx _ _)

theorem State.applyShadow_onlyBlock {x : Nat × CellMeas} (hx : x.1 / 8 = b) : s.blks.onlyBlock b (s.applyShadow x).blks := by
  unfold State.applyShadow
  dsimp only
  split
  · exact .refl b _
  · split
    · exact s.modOut_onlyBlock hx _
    · split
      · exact (s.modOut_onlyBlock hx _).trans (State.modLoop_onlyBlock hx _ _)
      · exact s.modOut_onlyBlock hx _

variable (b)

theorem State.pulseGone_onlyBlock : s.blks.onlyBlock b (s.pulseGone b).blks := by
  unfold State.pulseGone
  split
  · split
    · exact (s.modBlk_onlyBlock b _).trans (State.modDig_onlyBlock (by omega) _ _)
    · exact .refl b _
  · exact .refl b _

theorem State.supplyBack_onlyBlock : s.blks.onlyBlock b (s.supplyBack b).blks := s.modBlk_onlyBlock b _

theorem State.reblank_onlyBlock : s.blks.onlyBlock b (s.reblank b).blks := by
  have hcells : s.blks.onlyBlock b ((blkChannels b).foldl (fun x c =>
      if isAnalogIn (chMode (s.bim b) c) then x.modAcq c (acqBlank s.now (s.blanked c)) else x) s).blks := by
    refine .foldl (.refl b _) fun u c hc => ?_
    split
    · exact u.modAcq_onlyBlock (div_of_blkChannels hc) _
    · exact .refl b _
  unfold State.reblank
  dsimp only
  split
  · split
    · exact hcells.trans (State.modSeq_onlyBlock b _ _)
    · exact hcells
  · exact hcells

theorem applyCycle_onlyBlock (old new : Image) : s.blks.onlyBlock b (applyCycle old new b s).blks := by
  unfold applyCycle
  split
  · exact .refl b _
  · exact (s.modSeq_onlyBlock b _).foldl fun u _ hc => u.modAcq_onlyBlock (div_of_blkChannels hc) _

theorem applySources_onlyBlock (old new : Image) : s.blks.onlyBlock b (applySources old new b s).blks := by
  unfold applySources
  split
  · exact .refl b _
  · exact s.modSeq_onlyBlock b _

theorem applyBlock_onlyBlock (old new : Image) : s.blks.onlyBlock b (applyBlock old new s b).blks := by
  have hcells : s.blks.onlyBlock b ((blkChannels b).foldl (fun x c => if reinitsChannel old new c then x.reinitCell c else x) s).blks := by
    refine .foldl (.refl b _) fun u c hc => ?_
    split
    · exact u.reinitCell_onlyBlock (div_of_blkChannels hc)
    · exact .refl b _
  unfold applyBlock
  exact ((hcells.trans (applyCycle_onlyBlock b _ old new)).trans (applySources_onlyBlock b _ old new)).trans (State.reblank_onlyBlock b _)

/-- The mark that a block still runs under the image before is no part of a block. -/
theorem State.behind_onlyBlock (m : Nat) : s.blks.onlyBlock b (s.modBlks fun k => { k with behind := m }).blks :=
  ⟨fun _ _ => ⟨rfl, rfl, rfl, rfl, rfl⟩, fun _ _ => ⟨rfl, rfl, rfl⟩, rfl, rfl⟩

theorem State.takeConfig_onlyBlock : s.blks.onlyBlock b (s.takeConfig b).blks := by
  unfold State.takeConfig
  split
  · exact (s.behind_onlyBlock b _).trans (applyBlock_onlyBlock b _ _ _)
  · exact .refl b _

theorem State.couplerError_onlyBlock {c : Nat} (hc : c / 8 = b) (cause : Nat) : s.blks.onlyBlock b (s.couplerError c cause).blks := by
  unfold State.couplerError
  dsimp only
  rw [State.unitEvs_blks]
  exact s.modCell_onlyBlock hc _

theorem State.latchFaults_onlyBlock : s.blks.onlyBlock b (s.latchFaults b).blks := by
  unfold State.latchFaults
  dsimp only
  refine .foldl (.foldl ?_ fun u c hc => ?_) fun u c hc => ?_
  · rw [← State.unitEvs_blks _ s]
    exact State.modBlk_onlyBlock b _ _
  · exact (u.couplerError_onlyBlock b (div_of_blkChannels (List.mem_filter.1 hc).1) 2).trans
      (State.modCell_onlyBlock (div_of_blkChannels (List.mem_filter.1 hc).1) _ _)
  · rw [← State.unitEvs_blks _ u]
    exact State.modCell_onlyBlock (div_of_blkChannels hc) _ _
end

/-! ## The cells of a block -/

theorem mem_cellsOf {b c : Nat} (hc : c / 8 = b) (meas : List CellMeas) : (c, meas.getD (c % 8) {}) ∈ cellsOf b meas := by
  have hlen : c % 8 < (meas ++ List.replicate 8 ({} : CellMeas)).length := by simp; omega
  have hch : c % 8 < (blkChannels b).length := by simp [blkChannels]; omega
  have hzip : c % 8 < (cellsOf b meas).length := by rw [cellsOf, List.length_zip]; omega
  refine List.mem_iff_getElem.2 ⟨c % 8, hzip, ?_⟩
  have hkey : (blkChannels b)[c % 8] = c := by simp [blkChannels]; omega
  have hval : (meas ++ List.replicate 8 ({} : CellMeas))[c % 8] = meas.getD (c % 8) {} := by
    rw [List.getElem_append, List.getD_eq_getElem?_getD]
    split
    · rename_i h; simp [h]
    · rename_i h
      rw [List.getElem_replicate, List.getElem?_eq_none (Nat.le_of_not_lt h), Option.getD_none]
  simp only [cellsOf, List.getElem_zip, hkey, hval]

theorem cellsOf_keys (b : Nat) (meas : List CellMeas) : (cellsOf b meas).map Prod.fst = blkChannels b :=
  List.map_fst_zip (by simp [blkChannels])

/-- The cell of channel `c` stands once among the cells of its block. -/
theorem cellsOf_split {b c : Nat} (hc : c / 8 = b) (meas : List CellMeas) : ∃ front back,
    cellsOf b meas = front ++ (c, meas.getD (c % 8) {}) :: back ∧ (∀ x ∈ front, x.1 ≠ c) ∧ ∀ x ∈ back, x.1 ≠ c := by
  obtain ⟨front, back, h⟩ := List.append_of_mem (mem_cellsOf hc meas)
  have hnodup : ((cellsOf b meas).map Prod.fst).Nodup := by
    rw [cellsOf_keys]
    exact List.nodup_range.map fun i j (hij : 8 * b + i = 8 * b + j) => by omega
  rw [h, List.map_append, List.map_cons, List.nodup_append, List.nodup_cons] at hnodup
  obtain ⟨-, ⟨hback, -⟩, hfront⟩ := hnodup
  exact ⟨front, back, h, fun x hx => hfront _ (List.mem_map_of_mem hx) _ List.mem_cons_self,
    fun x hx hxc => hback (List.mem_map.2 ⟨x, hx, hxc⟩)⟩

/-! ## What a latched channel leaves -/

/-- What the latch of channels leaves in every case: all but the input image and the cells, and the debounced states. -/
structure State.latchSteady (s u : State) : Prop where
  same : s.sameBut [.inp, .blks] u
  blk : u.blks.blk = s.blks.blk
  seqr : u.blks.seqr = s.blks.seqr
  acqWas : u.blks.acqWas = s.blks.acqWas
  blank : u.blks.blank = s.blks.blank
  behind : u.blks.behind = s.blks.behind
  was : u.blks.was = s.blks.was
  stale : u.inp.stale = s.inp.stale
  debounced : ∀ k, (u.digOf k).state = (s.digOf k).state

/-- Channel `c` has in `u` the cell and the record that it has in `s`. -/
structure State.cellKept (c : Nat) (s u : State) : Prop where
  acq : u.acqOf c = s.acqOf c
  dig : u.digOf c = s.digOf c
  out : u.outOf c = s.outOf c
  loop : u.loopOf c = s.loopOf c
  cell : u.cellOf c = s.cellOf c
  arrived : u.inp.arrived.testBit c = s.inp.arrived.testBit c
  record : u.recOf c = s.recOf c

theorem State.latchSteady.refl (s : State) : s.latchSteady s := ⟨State.sameBut_refl _ s, rfl, rfl, rfl, rfl, rfl, rfl, rfl, fun _ => rfl⟩

theorem State.latchSteady.trans {s u v : State} (h : s.latchSteady u) (k : u.latchSteady v) : s.latchSteady v :=
  ⟨State.sameBut_trans_self h.same k.same, k.blk.trans h.blk, k.seqr.trans h.seqr, k.acqWas.trans h.acqWas, k.blank.trans h.blank,
    k.behind.trans h.behind, k.was.trans h.was, k.stale.trans h.stale, fun c => (k.debounced c).trans (h.debounced c)⟩

theorem State.cellKept.refl (c : Nat) (s : State) : s.cellKept c s := ⟨rfl, rfl, rfl, rfl, rfl, rfl, rfl⟩

theorem State.cellKept.trans {c : Nat} {s u v : State} (h : s.cellKept c u) (k : u.cellKept c v) : s.cellKept c v :=
  ⟨k.acq.trans h.acq, k.dig.trans h.dig, k.out.trans h.out, k.loop.trans h.loop, k.cell.trans h.cell, k.arrived.trans h.arrived,
    k.record.trans h.record⟩

/-! ## The record of a channel depends on its own cell -/

section
variable {s u : State} (hs : s.latchSteady u)
include hs

theorem State.latchSteady.now : u.now = s.now := hs.same.now (by decide)
theorem State.latchSteady.im : u.im = s.im := hs.same.im (by decide)
theorem State.latchSteady.eng : u.eng = s.eng := hs.same.eng (by decide)

theorem State.latchSteady.bim (b : Nat) : u.bim b = s.bim b := by
  have him : u.cfg.image = s.cfg.image := hs.same.image (by decide)
  simp [State.bim, hs.behind, hs.was, him]

theorem State.latchSteady.cim (c : Nat) : u.cim c = s.cim c := hs.bim (c / 8)

theorem State.latchSteady.blkOf (b : Nat) : u.blkOf b = s.blkOf b := by simp [State.blkOf, hs.blk]

theorem State.latchSteady.seqOf (b : Nat) : u.seqOf b = s.seqOf b := by simp [State.seqOf, hs.seqr]

theorem State.latchSteady.flagOn : u.flagOn = s.flagOn := by
  have hmode : u.mode = s.mode := hs.same.mode (by decide)
  have hreplay : u.port.replay = s.port.replay := hs.same.replay (by decide)
  have hpair : u.unt.pair = s.unt.pair := hs.same.pair (by decide)
  simp [State.flagOn, State.live, hmode, hreplay, hpair, hs.same.fr (by decide)]

theorem State.latchSteady.follows : u.follows = s.follows := by
  have hpair : u.unt.pair = s.unt.pair := hs.same.pair (by decide)
  simp [State.follows, hpair]

theorem State.latchSteady.withheldBlk (b : Nat) : u.withheldBlk b = s.withheldBlk b := by
  simp [State.withheldBlk, hs.blkOf, hs.flagOn]

/-- The blanking of a channel depends on debounced states of its block, which a latch leaves. -/
theorem State.latchSteady.blanked (c : Nat) : u.blanked c = s.blanked c := by
  simp [State.blanked, State.blankIn, hs.cim, hs.bim, hs.blank, hs.debounced]

variable {c : Nat} (hk : s.cellKept c u)
include hk

theorem State.cellStat_kept : u.cellStat c = s.cellStat c := by
  simp [State.cellStat, hs.seqOf, hs.blkOf, hs.withheldBlk, hk.cell, hk.out]

theorem State.aoBlkOff_kept : u.aoBlkOff c = s.aoBlkOff c := by
  simp [State.aoBlkOff, hs.blkOf, hk.out]

theorem State.targetOf_kept : u.targetOf c = s.targetOf c := by
  simp [State.targetOf, State.outputsOff, State.blkRuns, hs.blkOf, hs.withheldBlk, hs.cim, hk.out, hk.loop]

theorem State.frozenNow_kept : u.frozenNow c = s.frozenNow c := by
  simp [State.frozenNow, hs.now, hk.dig]

theorem State.acqShown_kept (m : CellMeas) : u.acqShown c m = s.acqShown c m := by
  simp [State.acqShown, hs.now, hs.acqWas, hk.acq]

/-- A channel whose cell stands gives the same record (R101, R169, R195, R203). -/
theorem State.latchCell_kept (m : CellMeas) : (u.latchCell c m).1 = (s.latchCell c m).1 := by
  unfold State.latchCell
  simp only [hs.cim, hs.blkOf, hs.now, hs.seqOf, hs.blanked, hs.eng, hk.out, hk.loop, hk.dig, State.cellStat_kept hs hk,
    State.aoBlkOff_kept hs hk, State.targetOf_kept hs hk, State.frozenNow_kept hs hk, State.acqShown_kept hs hk]
  split <;> rfl

end

/-! ## The latch of one channel -/

/-- A record does not change the debounced state (R195). -/
theorem digRecord_state (im : Image) (c : Nat) (m : CellMeas) (fsLow frozen : Bool) (stat : Nat) (d : DigCell) :
    (digRecord im c m fsLow frozen stat d).2.state = d.state := by
  unfold digRecord
  exact List.foldlRecOn (motive := fun e => e.state = d.state) m.levels (sampleRun im c frozen) rfl
    fun e he x _ => (rfl : (sampleRun im c frozen e x).state = e.state).trans he

section
variable (s : State) (c : Nat)

theorem State.debounced_modDig {f : DigCell → DigCell} (hf : (f (s.digOf c)).state = (s.digOf c).state) (k : Nat) :
    ((s.modDig c f).digOf k).state = (s.digOf k).state := by
  unfold State.digOf at hf ⊢
  rw [State.modDig_blks_dig]
  by_cases h : c = k
  · subst h; rw [tabGet_mod_self, hf]
  · rw [tabGet_mod_ne _ _ _ h]

theorem State.latchCell_steady (m : CellMeas) : s.latchSteady (s.latchCell c m).2 := by
  have hsame : s.sameBut [.inp, .blks] (s.latchCell c m).2 := State.sameBut_of_rest (by simp)
  revert hsame
  unfold State.latchCell
  dsimp only
  split <;> intro hsame
  case h_3 | h_4 => exact ⟨hsame, rfl, rfl, rfl, rfl, rfl, rfl, rfl, s.debounced_modDig c (digRecord_state ..)⟩
  all_goals exact ⟨hsame, rfl, rfl, rfl, rfl, rfl, rfl, rfl, fun _ => rfl⟩

theorem State.putRecord_steady (r : Rec) : s.latchSteady (s.putRecord c r) := by
  have hsame : s.sameBut [.inp, .blks] (s.putRecord c r) := State.sameBut_of_rest (by simp)
  revert hsame
  unfold State.putRecord
  split <;> exact fun hsame => ⟨hsame, rfl, rfl, rfl, rfl, rfl, rfl, rfl, fun _ => rfl⟩

theorem State.modCell_steady (f : CellDiag → CellDiag) : s.latchSteady (s.modCell c f) :=
  ⟨State.sameBut_of_rest (by simp), rfl, rfl, rfl, rfl, rfl, rfl, rfl, fun _ => rfl⟩

theorem State.latchChannel_steady (x : Nat × CellMeas) : s.latchSteady (s.latchChannel x) :=
  ((s.latchCell_steady x.1 x.2).trans (State.modCell_steady _ _ _)).trans (State.putRecord_steady _ _ _)

variable {c} {k : Nat} (h : k ≠ c)
include h

theorem State.modAcq_cellKept (f : AcqCh → AcqCh) : s.cellKept c (s.modAcq k f) :=
  ⟨by simp [State.acqOf, h], rfl, rfl, rfl, rfl, rfl, rfl⟩

theorem State.modDig_cellKept (f : DigCell → DigCell) : s.cellKept c (s.modDig k f) :=
  ⟨rfl, by simp [State.digOf, h], rfl, rfl, rfl, rfl, rfl⟩

theorem State.modOut_cellKept (f : OutCell → OutCell) : s.cellKept c (s.modOut k f) :=
  ⟨rfl, rfl, by simp [State.outOf, h], rfl, rfl, rfl, rfl⟩

theorem State.modLoop_cellKept (f : LoopCell → LoopCell) : s.cellKept c (s.modLoop k f) :=
  ⟨rfl, rfl, rfl, by simp [State.loopOf, h], rfl, rfl, rfl⟩

theorem State.modCell_cellKept (f : CellDiag → CellDiag) : s.cellKept c (s.modCell k f) :=
  ⟨rfl, rfl, rfl, rfl, by simp [State.cellOf, h], rfl, rfl⟩

theorem State.latchCell_cellKept (m : CellMeas) : s.cellKept c (s.latchCell k m).2 := by
  unfold State.latchCell
  dsimp only
  split
  · exact .refl c s
  · exact (s.modLoop_cellKept h _).trans (State.modOut_cellKept _ h _)
  · exact s.modDig_cellKept h _
  · exact s.modDig_cellKept h _
  · exact s.modOut_cellKept h _
  · exact s.modAcq_cellKept h _

theorem State.putRecord_cellKept (r : Rec) : s.cellKept c (s.putRecord k r) := by
  unfold State.putRecord
  split
  · exact .refl c s
  · refine ⟨rfl, rfl, rfl, rfl, rfl, (testBit_setBit ..).trans (if_neg h), ?_⟩
    unfold State.recOf
    rw [State.modInp_inp]
    dsimp only
    split
    · rfl
    · exact tabGet_set_ne _ _ _ h

end

theorem State.latchChannel_cellKept (s : State) {c : Nat} {x : Nat × CellMeas} (h : x.1 ≠ c) : s.cellKept c (s.latchChannel x) :=
  ((s.latchCell_cellKept h x.2).trans (State.modCell_cellKept _ h _)).trans (State.putRecord_cellKept _ h _)

/-! ## The records of a block (R59) -/

/-- The state once block `b` has latched its channels. -/
def State.latchRecords (b : Nat) (meas : List CellMeas) (s : State) : State :=
  (cellsOf b meas).foldl State.latchChannel (s.pulseGone b)

section
variable (l : List (Nat × CellMeas)) (s : State)

theorem State.latchChannels_steady : s.latchSteady (l.foldl State.latchChannel s) :=
  List.foldlRecOn (motive := s.latchSteady) l _ (.refl s) fun u hu x _ => hu.trans (u.latchChannel_steady x)

theorem State.latchChannels_cellKept {c : Nat} (h : ∀ x ∈ l, x.1 ≠ c) : s.cellKept c (l.foldl State.latchChannel s) :=
  List.foldlRecOn (motive := s.cellKept c) l _ (.refl c s) fun u hu x hx => hu.trans (u.latchChannel_cellKept (h x hx))

end

/-- Channel `c` latches once: the channels before it leave its cell, and the channels after it leave what its latch gives. -/
theorem State.latchRecords_at {b c : Nat} (hc : c / 8 = b) (meas : List CellMeas) (s : State) : ∃ v,
    (s.pulseGone b).latchSteady v ∧ (s.pulseGone b).cellKept c v ∧
      (v.latchChannel (c, meas.getD (c % 8) {})).cellKept c (s.latchRecords b meas) := by
  obtain ⟨front, back, hl, hfront, hback⟩ := cellsOf_split hc meas
  refine ⟨front.foldl State.latchChannel (s.pulseGone b), State.latchChannels_steady .., State.latchChannels_cellKept _ _ hfront, ?_⟩
  rw [State.latchRecords, hl, List.foldl_append, List.foldl_cons]
  exact State.latchChannels_cellKept _ _ hback

/-- A cell outside the block is as before. -/
theorem State.latchRecords_other {b c : Nat} (hc : c / 8 ≠ b) (meas : List CellMeas) (s : State) :
    (s.pulseGone b).cellKept c (s.latchRecords b meas) :=
  State.latchChannels_cellKept _ _ fun _ hx hxc => hc (hxc ▸ div_of_cellsOf hx)

section
variable (s : State) (c : Nat) (r : Rec)

theorem State.putRecord_arrived : (s.putRecord c r).inp.arrived.testBit c = true := by
  unfold State.putRecord
  split
  · assumption
  · exact (testBit_setBit ..).trans (if_pos rfl)

theorem State.putRecord_keeps (h : s.inp.arrived.testBit c = true ∨ s.follows = true) : (s.putRecord c r).recOf c = s.recOf c := by
  unfold State.putRecord
  split
  · rfl
  · rename_i hn
    have hf : s.follows = true := h.resolve_left hn
    simp [State.recOf, hf]

theorem State.putRecord_enters (ha : s.inp.arrived.testBit c = false) (hf : s.follows = false) : (s.putRecord c r).recOf c = r := by
  simp [State.putRecord, State.recOf, ha, hf]

theorem State.latchCell_inp (m : CellMeas) : (s.latchCell c m).2.inp = s.inp :=
  State.same_of_rest (p := .inp) (State.latchCell_rest (ps := [.blks]) c m s (by simp)) (by decide)

end

theorem staysSafe_awake {o : OutCell} (h : o.silent = false) (stream : Bool) : staysSafe o stream = false := by simp [staysSafe, h]

section
variable (s : State) (c : Nat) (m : CellMeas)

/-- The state after the latch of a channel, before its record enters the input image. -/
def State.afterCell : State := (s.latchCell c m).2.modCell c fun d => { d with statAcc := d.statAcc ||| s.cellStat c }

theorem State.latchChannel_eq : s.latchChannel (c, m) = (s.afterCell c m).putRecord c (s.latchCell c m).1 := rfl

theorem State.afterCell_inp : (s.afterCell c m).inp = s.inp := s.latchCell_inp c m

theorem State.afterCell_follows : (s.afterCell c m).follows = s.follows :=
  ((s.latchCell_steady c m).trans (State.modCell_steady _ _ _)).follows

theorem State.latchChannel_keeps (h : s.inp.arrived.testBit c = true ∨ s.follows = true) :
    (s.latchChannel (c, m)).recOf c = s.recOf c := by
  rw [State.latchChannel_eq, State.putRecord_keeps _ _ _ (by rwa [State.afterCell_inp, State.afterCell_follows]), State.recOf,
    State.afterCell_inp, State.recOf]

theorem State.latchChannel_enters (ha : s.inp.arrived.testBit c = false) (hf : s.follows = false) :
    (s.latchChannel (c, m)).recOf c = (s.latchCell c m).1 := by
  rw [State.latchChannel_eq, State.putRecord_enters _ _ _ (by rwa [State.afterCell_inp]) (by rwa [State.afterCell_follows])]

theorem State.latchChannel_out : (s.latchChannel (c, m)).outOf c = (s.latchCell c m).2.outOf c := by
  rw [State.latchChannel_eq, State.outOf, State.putRecord_blks, State.afterCell, State.modCell_blks_out, State.outOf]

/-- A latch neither begins nor ends a safe state. -/
theorem State.latchCell_silent : ((s.latchCell c m).2.outOf c).silent = (s.outOf c).silent := by
  unfold State.latchCell
  dsimp only
  split
  case h_2 => simp [State.outOf]
  case h_5 => simp [State.outOf, doRecord]
  all_goals rfl

/-- A DO cell that is not in its safe state takes the shadow with its record (R203). -/
theorem State.latchCell_applied (hm : chMode (s.cim c) c = 8) (hs : (s.outOf c).silent = false) :
    ((s.latchCell c m).2.outOf c).applied = s.eng.shadow.dos.testBit c := by
  simp only [State.latchCell, hm, staysSafe_awake hs]
  simp [State.outOf, doRecord]

end

/-! ## Before the records: a test pulse that is over (R87) -/

section
variable (b : Nat) (s : State)

theorem State.pulseGone_sameBut : s.sameBut [.blks] (s.pulseGone b) := State.sameBut_of_rest (by simp)

theorem State.pulseGone_inp : (s.pulseGone b).inp = s.inp := (s.pulseGone_sameBut b).inp (by decide)

theorem State.pulseGone_follows : (s.pulseGone b).follows = s.follows := by
  have hpair : (s.pulseGone b).unt.pair = s.unt.pair := (s.pulseGone_sameBut b).pair (by decide)
  simp [State.follows, hpair]

theorem State.pulseGone_out : (s.pulseGone b).blks.out = s.blks.out := by
  unfold State.pulseGone
  split
  · split <;> rfl
  · rfl

theorem State.pulseGone_behind : (s.pulseGone b).blks.behind = s.blks.behind := by
  unfold State.pulseGone
  split
  · split <;> rfl
  · rfl

end

section
variable {b c : Nat} (hc : c / 8 = b) (meas : List CellMeas) (s : State)
include hc

/-- Every record of the block is there (R59). -/
theorem State.latchRecords_arrived : (s.latchRecords b meas).inp.arrived.testBit c = true := by
  obtain ⟨v, -, -, hend⟩ := State.latchRecords_at hc meas s
  rw [hend.arrived, State.latchChannel_eq]
  exact State.putRecord_arrived _ _ _

/-- A record that was written missing stays, and so does one that comes from the active (R59, R57). -/
theorem State.latchRecords_keeps (h : s.inp.arrived.testBit c = true ∨ s.follows = true) :
    (s.latchRecords b meas).recOf c = s.recOf c := by
  obtain ⟨v, hsteady, hkept, hend⟩ := State.latchRecords_at hc meas s
  have hv : v.inp.arrived.testBit c = true ∨ v.follows = true := by
    rwa [hkept.arrived, hsteady.follows, State.pulseGone_inp, State.pulseGone_follows]
  rw [hend.record, State.latchChannel_keeps _ _ _ hv, hkept.record, State.recOf, State.pulseGone_inp, State.recOf]

/-- The record of a channel that is not there yet is that of its cell at the latch (R35). -/
theorem State.latchRecords_enters (ha : s.inp.arrived.testBit c = false) (hf : s.follows = false) :
    (s.latchRecords b meas).recOf c = ((s.pulseGone b).latchCell c (meas.getD (c % 8) {})).1 := by
  obtain ⟨v, hsteady, hkept, hend⟩ := State.latchRecords_at hc meas s
  have hav : v.inp.arrived.testBit c = false := by rwa [hkept.arrived, State.pulseGone_inp]
  have hfv : v.follows = false := by rwa [hsteady.follows, State.pulseGone_follows]
  rw [hend.record, State.latchChannel_enters _ _ _ hav hfv, State.latchCell_kept hsteady hkept]

theorem State.latchRecords_silent : ((s.latchRecords b meas).outOf c).silent = (s.outOf c).silent := by
  obtain ⟨v, -, hkept, hend⟩ := State.latchRecords_at hc meas s
  rw [hend.out, State.latchChannel_out, State.latchCell_silent, hkept.out, State.outOf, State.pulseGone_out, State.outOf]

/-- A DO cell under the running image that is not in its safe state takes the shadow. -/
theorem State.latchRecords_applied (hb : s.blks.behind.testBit b = false) (hm : chMode s.im c = 8) (hs : (s.outOf c).silent = false) :
    ((s.latchRecords b meas).outOf c).applied = s.eng.shadow.dos.testBit c := by
  obtain ⟨v, hsteady, hkept, hend⟩ := State.latchRecords_at hc meas s
  have him : (s.pulseGone b).im = s.im := (s.pulseGone_sameBut b).im (by decide)
  have hcim : v.cim c = s.im := by
    rw [hsteady.cim, State.cim, State.bim, State.pulseGone_behind, hc, hb, ← him, if_neg (by decide), State.im]
  have hsv : (v.outOf c).silent = false := by rwa [hkept.out, State.outOf, State.pulseGone_out]
  rw [hend.out, State.latchChannel_out, State.latchCell_applied _ _ _ (by rwa [hcim]) hsv, hsteady.eng,
    (s.pulseGone_sameBut b).eng (by decide)]

end

/-! ## The outputs of a block (R207, R209, R210) -/

/-- The state once block `b` has applied its shadow. -/
def State.latchOutputs (b : Nat) (meas : List CellMeas) (s : State) : State :=
  (cellsOf b meas).foldl State.applyShadow (((s.latchRecords b meas).takeConfig b).supplyBack b)

theorem State.latchBlock_eq (b : Nat) (meas : List CellMeas) (clk : Nat) (s : State) : s.latchBlock b meas clk =
    (((s.latchOutputs b meas).takeEdges b).latchFaults b).modBlk b fun k => { k with
      latchAt := s.now, latched := some s.fr.frameNo, clkCount := clk
      link := pairLinks (((s.latchOutputs b meas).takeEdges b).bim b) b } := rfl

theorem loopApply_cmd (cmd : Int) (held : Bool) (l : LoopCell) : (loopApply cmd held l).cmd = cmd := by
  unfold loopApply
  split
  · split <;> rfl
  · rfl

section
variable (s : State)

theorem State.applyShadow_cellKept {c : Nat} {x : Nat × CellMeas} (h : x.1 ≠ c) : s.cellKept c (s.applyShadow x) := by
  unfold State.applyShadow
  dsimp only
  split
  · exact .refl c s
  · split
    · exact s.modOut_cellKept h _
    · split
      · exact (s.modOut_cellKept h _).trans (State.modLoop_cellKept _ h _)
      · exact s.modOut_cellKept h _

variable {c : Nat} (hs : (s.outOf c).silent = false) (m : CellMeas)
include hs

/-- A DO cell keeps the command that it has taken with its record. -/
theorem State.applyShadow_do (hm : chMode s.im c = 8) : ((s.applyShadow (c, m)).outOf c).applied = (s.outOf c).applied ∧
    ((s.applyShadow (c, m)).outOf c).silent = false := by
  simp only [State.applyShadow, isOutMode, hm, staysSafe_awake hs]
  simp [State.outOf]

/-- An AO-I cell takes its current from the shadow. -/
theorem State.applyShadow_ao (hm : chMode s.im c = 6) : ((s.applyShadow (c, m)).loopOf c).cmd = s.shadowCurrent c ∧
    ((s.applyShadow (c, m)).outOf c).silent = false := by
  simp only [State.applyShadow, isOutMode, hm, staysSafe_awake hs]
  simp [State.outOf, State.loopOf, loopApply_cmd]

end

theorem State.applyShadows_cellKept {c : Nat} {l : List (Nat × CellMeas)} (h : ∀ x ∈ l, x.1 ≠ c) (s : State) :
    s.cellKept c (l.foldl State.applyShadow s) :=
  List.foldlRecOn (motive := s.cellKept c) l _ (.refl c s) fun u hu x hx => hu.trans (u.applyShadow_cellKept (h x hx))

theorem State.applyShadows_sameBut (l : List (Nat × CellMeas)) (s : State) : s.sameBut [.blks] (l.foldl State.applyShadow s) :=
  State.sameBut_of_rest (by simp)

theorem State.latchRecords_sameBut (b : Nat) (meas : List CellMeas) (s : State) : s.sameBut [.inp, .blks] (s.latchRecords b meas) :=
  State.sameBut_of_rest (by simp [State.latchRecords])

/-- Records change neither the configuration of a block nor the marks of missing records. -/
theorem State.latchRecords_marks (b : Nat) (meas : List CellMeas) (s : State) :
    (s.latchRecords b meas).blks.behind = s.blks.behind ∧ (s.latchRecords b meas).inp.stale = s.inp.stale := by
  have hsteady : (s.pulseGone b).latchSteady (s.latchRecords b meas) := State.latchChannels_steady ..
  exact ⟨by rw [hsteady.behind, State.pulseGone_behind], by rw [hsteady.stale, State.pulseGone_inp]⟩

/-- The end of a field supply fault changes no cell and no record (R207). -/
theorem State.supplyBack_cellKept (b c : Nat) (s : State) : s.cellKept c (s.supplyBack b) := ⟨rfl, rfl, rfl, rfl, rfl, rfl, rfl⟩

theorem State.supplyBack_sameBut (b : Nat) (s : State) : s.sameBut [.blks] (s.supplyBack b) := State.sameBut_of_rest (by simp)

theorem State.takeConfig_of_current {b : Nat} {s : State} (h : s.blks.behind.testBit b = false) : s.takeConfig b = s := by
  simp [State.takeConfig, h]

section
variable {b c : Nat} (hc : c / 8 = b) (meas : List CellMeas) {s : State} (hb : s.blks.behind.testBit b = false)
  (hs : (s.outOf c).silent = false)
include hc hb hs

/-- The cell of an output applies the shadow once: the cells before it leave it as its latch does, and the cells after it leave what
it has applied. -/
theorem State.latchOutputs_at : ∃ v : State, v.im = s.im ∧ v.eng = s.eng ∧ v.outOf c = (s.latchRecords b meas).outOf c ∧
    (v.outOf c).silent = false ∧ (v.applyShadow (c, meas.getD (c % 8) {})).cellKept c (s.latchOutputs b meas) := by
  obtain ⟨front, back, hl, hfront, hback⟩ := cellsOf_split hc meas
  have hbehind : (s.latchRecords b meas).blks.behind.testBit b = false := by rwa [(s.latchRecords_marks b meas).1]
  have hkept := ((s.latchRecords b meas).supplyBack_cellKept b c).trans (State.applyShadows_cellKept hfront _)
  have hsame := State.sameBut_trans_self ((s.latchRecords b meas).supplyBack_sameBut b) (State.applyShadows_sameBut front _)
  refine ⟨front.foldl State.applyShadow ((s.latchRecords b meas).supplyBack b), ?_, ?_, hkept.out, ?_, ?_⟩
  · rw [hsame.im (by decide), (s.latchRecords_sameBut b meas).im (by decide)]
  · rw [hsame.eng (by decide), (s.latchRecords_sameBut b meas).eng (by decide)]
  · rw [hkept.out, State.latchRecords_silent hc, hs]
  · rw [State.latchOutputs, State.takeConfig_of_current hbehind, hl, List.foldl_append, List.foldl_cons]
    exact State.applyShadows_cellKept hback _

theorem State.latchOutputs_do (hm : chMode s.im c = 8) : ((s.latchOutputs b meas).outOf c).applied = s.eng.shadow.dos.testBit c ∧
    ((s.latchOutputs b meas).outOf c).silent = false := by
  obtain ⟨v, him, -, hout, hsv, hend⟩ := State.latchOutputs_at hc meas hb hs
  obtain ⟨happlied, hsilent⟩ := State.applyShadow_do _ hsv (meas.getD (c % 8) {}) (by rwa [him])
  rw [hend.out]
  exact ⟨by rw [happlied, hout, State.latchRecords_applied hc _ _ hb hm hs], hsilent⟩

theorem State.latchOutputs_ao (hm : chMode s.im c = 6) : ((s.latchOutputs b meas).loopOf c).cmd = s.shadowCurrent c ∧
    ((s.latchOutputs b meas).outOf c).silent = false := by
  obtain ⟨v, him, heng, -, hsv, hend⟩ := State.latchOutputs_at hc meas hb hs
  obtain ⟨hcmd, hsilent⟩ := State.applyShadow_ao _ hsv (meas.getD (c % 8) {}) (by rwa [him])
  rw [hend.out, hend.loop]
  exact ⟨by rw [hcmd, State.shadowCurrent, heng, State.shadowCurrent], hsilent⟩

end

/-! ## After the outputs -/

section
variable (b : Nat) (s : State)

theorem State.takeEdges_blks : (s.takeEdges b).blks = s.blks := rfl

theorem State.takeEdges_inp : (s.takeEdges b).inp.arrived = s.inp.arrived ∧ (s.takeEdges b).inp.recs = s.inp.recs ∧
    (s.takeEdges b).inp.stale = s.inp.stale := ⟨rfl, rfl, rfl⟩

theorem State.latchFaults_inp : (s.latchFaults b).inp = s.inp :=
  State.same_of_rest (p := .inp) (State.latchFaults_rest (ps := [.blks, .recd]) b s (by simp)) (by decide)

theorem State.couplerError_cells (c cause : Nat) : (s.couplerError c cause).blks.out = s.blks.out ∧
    (s.couplerError c cause).blks.loop = s.blks.loop := by
  simp [State.couplerError]

/-- The diagnostics of a latch write no output. -/
theorem State.latchFaults_cells : (s.latchFaults b).blks.out = s.blks.out ∧ (s.latchFaults b).blks.loop = s.blks.loop := by
  simp [State.latchFaults, State.couplerError_cells, foldl_keep (fun x => x.blks.out), foldl_keep (fun x => x.blks.loop)]

theorem State.sendBlock_sameBut : s.sameBut [.wire] (s.sendBlock b) := State.sameBut_of_rest (by simp)

end

/-! ## BLOCK_LATCH -/

section
variable (b : Nat) (meas : List CellMeas) (clk : Nat) (s : State)

theorem State.latchBlock_blk : let k := (s.latchBlock b meas clk).blkOf b
    k.latched = some s.fr.frameNo ∧ k.latchAt = s.now ∧ k.clkCount = clk := by
  rw [State.latchBlock_eq]
  simp [State.blkOf]

theorem State.latchRecords_onlyBlock : s.blks.onlyBlock b (s.latchRecords b meas).blks :=
  (s.pulseGone_onlyBlock b).foldl fun u _ hx => u.latchChannel_onlyBlock (div_of_cellsOf hx)

theorem State.latchOutputs_onlyBlock : s.blks.onlyBlock b (s.latchOutputs b meas).blks :=
  (((s.latchRecords_onlyBlock b meas).trans (State.takeConfig_onlyBlock b _)).trans (State.supplyBack_onlyBlock b _)).foldl
    fun u _ hx => u.applyShadow_onlyBlock (div_of_cellsOf hx)

theorem State.latchBlock_onlyBlock : s.blks.onlyBlock b (s.latchBlock b meas clk).blks := by
  have hedges : s.blks.onlyBlock b ((s.latchOutputs b meas).takeEdges b).blks := by
    rw [State.takeEdges_blks]
    exact s.latchOutputs_onlyBlock b meas
  rw [State.latchBlock_eq]
  exact (hedges.trans (State.latchFaults_onlyBlock b _)).trans (State.modBlk_onlyBlock b _ _)

theorem State.latchOutputs_inp : (s.latchOutputs b meas).inp = (s.latchRecords b meas).inp :=
  State.same_of_rest (p := .inp) (ps := [.blks]) (by simp [State.latchOutputs]) (by decide)

/-- After the records nothing changes what the input image holds of them. -/
theorem State.latchBlock_inp : let u := s.latchBlock b meas clk
    u.inp.arrived = (s.latchRecords b meas).inp.arrived ∧ u.inp.recs = (s.latchRecords b meas).inp.recs ∧ u.inp.stale = s.inp.stale := by
  obtain ⟨harrived, hrecs, hstale⟩ := (s.latchOutputs b meas).takeEdges_inp b
  dsimp only
  rw [State.latchBlock_eq, State.modBlk_inp, State.latchFaults_inp, harrived, hrecs, hstale, State.latchOutputs_inp,
    (s.latchRecords_marks b meas).2]
  exact ⟨rfl, rfl, rfl⟩

/-- After the outputs nothing changes what a cell applies. -/
theorem State.latchBlock_cells : let u := s.latchBlock b meas clk
    u.blks.out = (s.latchOutputs b meas).blks.out ∧ u.blks.loop = (s.latchOutputs b meas).blks.loop := by
  obtain ⟨hout, hloop⟩ := ((s.latchOutputs b meas).takeEdges b).latchFaults_cells b
  dsimp only
  rw [State.latchBlock_eq, State.modBlk_blks_out, State.modBlk_blks_loop, hout, hloop, State.takeEdges_blks]
  exact ⟨rfl, rfl⟩

/-- The state that BLOCK_LATCH answers. -/
def State.latched : State := (s.latchBlock b meas clk).sendBlock b

theorem State.latched_blks : (s.latched b meas clk).blks = (s.latchBlock b meas clk).blks :=
  ((s.latchBlock b meas clk).sendBlock_sameBut b).blks (by decide)

theorem State.latched_inp : (s.latched b meas clk).inp = (s.latchBlock b meas clk).inp :=
  ((s.latchBlock b meas clk).sendBlock_sameBut b).inp (by decide)

theorem State.latched_blk : let k := (s.latched b meas clk).blkOf b
    k.latched = some s.fr.frameNo ∧ k.latchAt = s.now ∧ k.clkCount = clk := by
  rw [State.blkOf, State.latched_blks]
  exact s.latchBlock_blk b meas clk

theorem State.latched_arrived (c : Nat) :
    (s.latched b meas clk).inp.arrived.testBit c = (s.latchRecords b meas).inp.arrived.testBit c := by
  rw [State.latched_inp, (s.latchBlock_inp b meas clk).1]

theorem State.latched_recOf (c : Nat) : (s.latched b meas clk).recOf c = (s.latchRecords b meas).recOf c := by
  rw [State.recOf, State.latched_inp, (s.latchBlock_inp b meas clk).2.1, State.recOf]

theorem State.latched_outOf (c : Nat) : (s.latched b meas clk).outOf c = (s.latchOutputs b meas).outOf c := by
  rw [State.outOf, State.latched_blks, (s.latchBlock_cells b meas clk).1, State.outOf]

theorem State.latched_loopOf (c : Nat) : (s.latched b meas clk).loopOf c = (s.latchOutputs b meas).loopOf c := by
  rw [State.loopOf, State.latched_blks, (s.latchBlock_cells b meas clk).2, State.loopOf]

/-- A channel of another block keeps its record (R59). -/
theorem State.latched_other {c : Nat} (hc : c / 8 ≠ b) : (s.latched b meas clk).recOf c = s.recOf c ∧
    (s.latched b meas clk).inp.arrived.testBit c = s.inp.arrived.testBit c := by
  have hkept := s.latchRecords_other hc meas
  rw [State.latched_recOf, State.latched_arrived, hkept.record, hkept.arrived, State.recOf, State.pulseGone_inp]
  exact ⟨rfl, rfl⟩

end

theorem blockLatch_goes {b : Nat} {s : State} (hb : b < 64) (h : s.awaitsLatch b = true) (t clk : Nat) (meas : List CellMeas) :
    exec (.blockLatch t b meas clk) s = .next ((s.tick t).latched b meas clk) := by
  dsimp only [exec, execBlockLatch]
  exact act_goes (c := fun s => s.awaitsLatch b) (decide_eq_true hb) h

theorem strobeCouplerError_goes {ch t : Nat} {s : State} (hch : ch < 512) (hmode : s.mode = .running) (hruns : s.blkRuns (ch / 8) = true)
    (hlatched : (s.blkOf (ch / 8)).latched = some s.fr.frameNo) (hlate : (s.blkOf (ch / 8)).latchAt + usC 1 < max s.now t) :
    exec (.strobeCouplerError t ch) s = .next ((s.tick t).modCell ch fun d => { d with downErr := true }) := by
  dsimp only [exec, execStrobeCouplerError]
  refine act_goes (decide_eq_true hch) ?_
  simp only [State.live, Bool.and_eq_true, decide_eq_true_eq]
  exact ⟨⟨⟨hmode, hruns⟩, hlatched⟩, hlate⟩

/-- Settles O30: a latch writes each record of its block once and each output takes the shadow once, and what follows in the latch
changes neither. -/
theorem blocksLatch : Obligations.BlocksLatch := by
  refine ⟨fun t b clk meas s hb hawaits => ?_, fun t ch s hch hmode hruns hlatched hlate => ?_⟩
  · refine ⟨_, blockLatch_goes hb hawaits t clk meas, ?_⟩
    obtain ⟨hframe, hat, hclk⟩ := (s.tick t).latched_blk b meas clk
    refine ⟨hframe, hat, hclk, ?_, ?_, fun c hc => ⟨?_, fun h => ?_, fun ha hf => ?_, fun hbehind hsilent =>
      ⟨fun hm => ?_, fun hm => ?_⟩⟩, fun c hc => (s.tick t).latched_other b meas clk hc⟩
    · rw [State.latched_blks]
      exact (s.tick t).latchBlock_onlyBlock b meas clk
    · obtain ⟨-, -, hstale⟩ := (s.tick t).latchBlock_inp b meas clk
      rw [State.latched_inp]
      exact hstale
    · rw [State.latched_arrived]
      exact State.latchRecords_arrived hc meas _
    · rw [State.latched_recOf]
      exact State.latchRecords_keeps hc meas (s.tick t) h
    · rw [State.latched_recOf]
      exact State.latchRecords_enters hc meas (s.tick t) ha hf
    · rw [State.latched_outOf]
      exact State.latchOutputs_do hc meas (s := s.tick t) hbehind hsilent hm
    · rw [State.latched_loopOf, State.latched_outOf]
      exact State.latchOutputs_ao hc meas (s := s.tick t) hbehind hsilent hm
  · refine ⟨_, strobeCouplerError_goes hch hmode hruns hlatched hlate, ?_, fun c hc => ?_, (s.tick t).modCell_onlyBlock rfl _,
      State.sameBut_of_rest (by simp)⟩
    · simp [State.cellOf]
    · simp [State.cellOf, hc.symm]

end Sys2Proof.Machine
end

section
/-! PROOFS. The frame of every command (R43, R356, R509): a happening is framed by its effect, and a packet by its opcode. -/

namespace Sys2Proof.Machine

/-- The outcome `o` of a command on `s` writes the parts `qs` at most, and time does not run backwards. -/
def Framed (qs : List Part) (s : State) (o : Out) : Prop := ∀ u, o = .next u → s.sameBut qs u ∧ s.now ≤ u.now

section
variable {ps : List Part} {ok : Bool} {t : Nat} {c : State → Bool} {f : State → State} {s : State}

/-- A happening writes the time and what its effect writes. -/
theorem act_framed (hnow : .now ∉ ps) (hf : ∀ x, (f x).rest ps = x.rest ps) : Framed (.now :: ps) s (act ok t c f s) := by
  intro u e
  have hu : u.rest ps = (s.tick t).rest ps := by
    rcases act_next e with rfl | rfl
    · rfl
    · exact hf _
  have hsame := State.sameBut_of_rest hu
  refine ⟨State.sameBut_trans (ps := [.now]) (State.sameBut_of_rest (State.tick_rest s t (List.Subset.refl _))) hsame, ?_⟩
  rw [hsame.now hnow, State.tick_now]
  exact Nat.le_max_left ..

/-- A happening whose effect serves packets. -/
theorem act_framed_packets (hnow : .now ∉ whatPackets ++ ps) (hf : ∀ x, (f x).rest (whatPackets ++ ps) = x.rest (whatPackets ++ ps)) :
    Framed (whatPackets ++ .now :: ps) s (act ok t c f s) := fun u e =>
  have ⟨hsame, hle⟩ := act_framed hnow hf u e
  ⟨State.sameBut_mono hsame List.perm_middle.symm.subset, hle⟩
end

/-- A happening writes its listed parts and time. What its effect writes is the frame lemma of that effect. -/
theorem happening_framed {i : Instr} (hp : packetOf i = none) (s : State) : Framed (touches i) s (exec i s) := by
  cases i with
  -- the effect as a whole has its frame lemma
  | warmRestartBegin | supplyRecovery | powerOn | resetButtonRelease | resetInputStuck | resetInputFreed | wake
  | canReferenceMessage | canTtWindow | canProtocolException | cjcReading | twilightLock | twilightToBackup | twilightToRail
  | twilightUnlock | twilightContentLost | rtcSecond | rtcFreeze | rtcRelease | rtcFreezeTimeout | twilightSetWday
  | twilightLoadAlarms | twilightBramCommit | twilightRegisterWrite | strobeCouplerError | selfTestSlot | blankLong | fsLowSet
  | fsLowClear | fsOffSet | fsOffEnd | logicSilence | foldback | foldbackHoldEnd | foldbackRampStep | enableFlagLoss
  | enableFlagSet | blockPowerRestore | cellTherm | islandPwr | hartRequestDue | hartCarrierEnd | switchCurrentLimit
  | thermalShutdown | switchoverHandoff | eventRecordWrite | lostRecordAdmit | operatingSecond | offerLapse | fragDrop
  | arpWaitTimeout | arpEntryAgeOut | serGapTimeout | serAbort | groupObjectCycle | standbyNoticeTimeout | frameLong
  | witnessTokenDecision | witnessStartTimeout | canBusoffRecovery | canRxError | hazeYield | hazePassEnd | bakLowCheck
  | twilightTimeCommit | blockPowerLost | haloHoldChange | laneError | laneSilence | laneUp | digestCompare | resyncCompareDone
  | engSilent | fsFeed | isotpTimeout | discrepancyFault | dscWatchdogExpiry | dscFailsafeRecovery | dscRepeat | dscErrDecay
  | feedState | gratuitousArp | portLink | plcaStatus | canMessageTake | rtcAlarmStamp | selfCheckFail | canTxSuccess | hazeStep
  | resyncAutoStart | clockCheck | activeYieldB | nimbusExchange | blockLatch | zenLockstep | cellRecordMissing | supplyDecline
  | horizonPosting | offEntry | correctionWriteback | leaseLapse | roleDecision | claimWindowClose | tokenChange | resyncCopyDone =>
    dsimp only [exec, touches]
    exact act_framed (by decide) fun x => by simp (disch := decide)
  | sessionTimeout | frameClose | frameStrobe | standbyStrobe | packetReceive | canFrameReceived | ethFrameReceived
  | serFrameReceived | frameEvaluationStart =>
    dsimp only [exec, touches]
    exact act_framed_packets (by decide) fun x => by simp (disch := decide)
  -- the evaluation of one alarm point, and that of the engineer call
  | alarmDelayExpiry | suppressionHoldEnd | shelfExpiry =>
    dsimp only [exec, touches, execAlarmDelayExpiry, execSuppressionHoldEnd, execShelfExpiry, pointRow]
    exact act_framed (by decide) fun x => by simp (disch := decide)
  | callEscalation | deadManPre | deadManExpiry | callLinkLost | callObjectCycle =>
    dsimp only [exec, touches, execCallEscalation, execDeadManPre, execDeadManExpiry, execCallLinkLost, execCallObjectCycle, callRow]
    exact act_framed (by decide) fun x => by simp (disch := decide)
  -- the effect depends on what the state or the operands hold
  | conversionComplete | testPulseStart | testPulseEnd | debouncedEdge | modbusRequest | configStoreComplete | trimComplete =>
    dsimp only [exec, touches]
    exact act_framed (by decide) fun x => by split <;> simp (disch := decide)
  | forwardedPacket =>
    dsimp only [exec, touches]
    exact act_framed_packets (by decide) fun x => by split <;> simp (disch := decide)
  | hartReplyTimeout | canTxError =>
    dsimp only [exec, touches]
    exact act_framed (by decide) fun x => by dsimp only; split <;> simp (disch := decide)
  | excitationEvent | hartReply =>
    dsimp only [exec, touches]
    exact act_framed (by decide) fun x => by (repeat' split) <;> simp (disch := decide)
  -- the effect goes through all blocks, or through the pieces of a block in the mailbox
  | blankLineChange =>
    dsimp only [exec, touches]
    exact act_framed (by decide) fun x => by simp
  | contrailBlockReceive =>
    dsimp only [exec, touches]
    exact act_framed_packets (by decide) fun x => by
      rw [State.noteReady_rest _ (by decide), State.linkBlock_rest _ _ (by decide)]
      exact foldl_rest x State.mailWrite (fun y a => State.mailWrite_rest y a (by decide)) _
  -- the grace of the witness
  | witnessHolderGraceEnd =>
    dsimp only [exec, touches]
    exact act_framed (by decide) fun x => by simp [UnitPart.rest, cleared]
  | _ => cases hp

/-- A packet writes what its opcode writes beside serving it, and no time passes. -/
theorem runRow_framed {ps : List Part} {h : PktHead} {fits okLen torn : Bool} {op : Op} {s : State} (hnow : .now ∉ ps)
    (hserve : whatPackets ⊆ ps) (hpower : op = .warmRestart → .power ∈ ps) (halm : opAlarm op = true → .alm ∈ ps)
    (hop : ∀ torn c x, (runOp op torn c x).1.rest ps = x.rest ps) : Framed ps s (runRow h fits okLen torn op s) := fun _ e =>
  have hsame := State.sameBut_of_rest (runRow_writes e hserve hpower halm hop)
  ⟨hsame, (hsame.now hnow).ge⟩

/-- A packet writes its listed parts. What its opcode writes is the frame lemma of that opcode. -/
theorem packet_framed {i : Instr} (hp : packetOf i ≠ none) (s : State) : Framed (touches i) s (exec i s) := by
  cases i with
  | ping | openSession | closeSession | readSummary | readFrameStatus | clearFrameStatus | warmRestart | traceOpen | traceClose
  | replayStart | replayData | claim | renew | handover | accept | release | readOwner | readObject | writeObject | commit
  | discard | readCrc | readImage | loadImage | readResults | readRecords | readCjc | writeDo | writeAo | trimZero | trimSpan
  | clearTotal | readPoints | readGroups | ack | shelve | unshelve | remove | return_ | readCall | selectDuty | readEvents
  | readRecorder | readTime | stageTime | commitTime | setWeekday | readBackup | writeBackup | readSafety | safetyReset
  | confirm | readDsc | dscReset | readPair | resync | switchover | readDiag | readMemory | clearCounters | readCan
  | readCanobj | writeCanobj | readHart | readIdentity | readFirmware =>
    dsimp only [exec, touches]
    exact runRow_framed (by decide) (by decide) (by simp) (by simp [opAlarm]) fun torn c x => by simp (disch := decide) [runOp]
  | _ => exact absurd rfl hp

/-- Settles O55: a command is a happening or a packet, and either one keeps to its parts. -/
theorem commandsWriteOnlyTheirParts : Obligations.CommandsWriteOnlyTheirParts := by
  intro i s u
  by_cases hp : packetOf i = none
  · exact happening_framed hp s u
  · exact packet_framed hp s u

end Sys2Proof.Machine
end

section
/-! PROOFS. The machine after reset (R43, R321, R343, R451, R500). -/

namespace Sys2Proof.Machine

/-- Every channel of the empty image is OFF (R541). -/
theorem chMode_empty {c : Nat} (hc : c < 4096) : chMode [] c = 0 := by
  have hcls : objKey clsCHCFG c / 4096 = 1 := by
    change (1 * 4096 + c) / 4096 = 1
    omega
  have hinst : inst [] clsCHCFG c = 0#2048 := by
    change emptyInst (objKey clsCHCFG c) = 0#2048
    unfold emptyInst
    rw [hcls]
    rfl
  rw [chMode, imF, hinst, fld, BitVec.toNat_zero, Nat.zero_shiftRight, Nat.zero_mod]

/-- The block of an output without power drives nothing (R211). -/
theorem State.drives_of_unpowered {s : State} {c : Nat} (h : (s.blkOf (c / 8)).powered = false) : s.drives c = false := by
  simp [State.drives, doDrive, State.outputsOff, State.blkRuns, h]

/-- Settles O59: every part stands at its Reset value, and no block has power. -/
theorem resetLeaves : Obligations.ResetLeaves :=
  ⟨rfl, rfl, rfl, rfl, rfl, rfl, rfl, fun _ => rfl, rfl, rfl, rfl, fun _ hc => chMode_empty (by omega),
    fun _ => State.drives_of_unpowered rfl, by simp [Twi.legal, State.reset, daysIn], by simp [Twi.ramWf, State.reset, tabWf, tabSorted],
    by simp [State.ownersOpen, State.reset]⟩

end Sys2Proof.Machine
end

section
/-! PROOFS. The requests of the unit (R69, R70, R72, R334, R501): what each opcode leaves of the state, and that its reply leaves
the trace that it has opened or closed. -/

namespace Sys2Proof.Machine

/-! ## A trace with nothing to send -/

/-- No bytes of the trace wait to be sent. -/
def State.traceIdle (s : State) : Prop := ∀ t, s.port.trace = some t → t.out = []

/-- On SER0 a reply is followed by a segment of the trace only where bytes wait (R373). -/
theorem State.serialTrace_idle {s : State} (h : s.traceIdle) : s.serialTrace = s := by
  unfold State.serialTrace
  split
  · rfl
  · next t ht => rw [h t ht]

theorem State.traceIdle_congr {s u : State} (e : u.port.trace = s.port.trace) (h : s.traceIdle) : u.traceIdle := fun t ht =>
  h t (e.symm.trans ht)

theorem State.sendAnswer_trace {s : State} (h : s.traceIdle) (r : Reply) : (s.sendAnswer r).port.trace = s.port.trace := by
  have hsent : (s.sendReply r).port.trace = s.port.trace :=
    State.same_of_rest (p := .trace) (State.sendReply_rest (ps := [.can, .outbox, .portSt, .wire]) r s (by decide)) (by decide)
  unfold State.sendAnswer
  dsimp only
  split
  · rw [State.serialTrace_idle (State.traceIdle_congr hsent h), hsent]
  · exact hsent

/-- A reply leaves a trace with nothing to send as it is. -/
theorem State.settle_trace (c : Caller) (op : Op) {x : Run} (h : x.1.traceIdle) : (State.settle c op x).port.trace = x.1.port.trace := by
  have hdeliver (st : Nat) (b : List Byte) : (x.1.deliver c op st b).port.trace = x.1.port.trace := by
    have hanswer : (x.1.answer c st b).port.trace = x.1.port.trace := State.sendAnswer_trace (s := x.1.modSess _ _) h _
    unfold State.deliver
    dsimp only
    split <;> exact hanswer
  unfold State.settle
  dsimp only
  split
  · exact hdeliver ..
  · split
    · exact hdeliver ..
    · rfl
  · split
    · exact hdeliver ..
    · rfl
  · rfl

/-! ## Opcodes whose reply leaves when their frame is complete -/

section
variable {h : PktHead} {op : Op} {torn : Bool} {s r : State} {n st : Nat} {b : List Byte}

/-- What serving a packet may write beside the lease stands among the parts that serving it may write. -/
theorem servingParts_of_replyParts {p : Part} (hp : p ∈ replyParts h) : p ∈ servingParts h := by
  unfold replyParts at hp
  unfold servingParts
  split at hp <;> simp_all <;> tauto

/-- An opcode that writes no part of those that serve its packet, nor the frame, is tame. -/
theorem State.tame_of_sameBut {ps : List Part} {opc : Nat} (hq : (s.accepted h opc).sameBut ps r)
    (hps : ∀ p ∈ [Part.sess, .outbox, .pend, .pair, .replayIn, .phase, .fr], p ∉ ps) : s.tame r h opc := by
  have ht := s.tame_accepted h opc
  exact {
    sess := hq.2.2 .sess (hps _ (by decide))
    outbox := (hq.2.2 .outbox (hps _ (by decide))).trans ht.outbox
    pend := (hq.pend (hps _ (by decide))).trans ht.pend
    role := (congrArg Pair.role (hq.pair (hps _ (by decide)))).trans ht.role
    within := (congrArg Replay.within (hq.replayIn (hps _ (by decide)))).trans ht.within
    phase := (hq.phase (hps _ (by decide))).trans ht.phase
    frame := (congrArg FrameClk.frameNo (hq.fr (hps _ (by decide)))).trans ht.frame }

/-- An opcode that has changed the accepted state to `r`, leaves ownership, and answers when the open frame is complete. -/
theorem runRow_sent_served {ps : List Part} (hr : s.ready h (opCode op)) (hA : opAlarm op = false) (hw : op ≠ .warmRestart)
    (ho : runOp op torn (makeCaller (s.codeOf h.port) h.session (opCode op) h) (s.accepted h (opCode op)) =
      (r, .sent (s.accepted h (opCode op)).fr.frameNo st b))
    (ht : s.tame r h (opCode op)) (hq : (s.accepted h (opCode op)).sameBut ps r)
    (hown : r.port.owner = (s.accepted h (opCode op)).port.owner) :
    ∃ u, runRow h true true torn op s = .next u ∧ s.repliedAt u h op s.fr.frameNo st b ∧ s.served u h ps ∧
      r.sameBut (replyParts h) u ∧ (r.traceIdle → u.port.trace = r.port.trace) := by
  obtain ⟨u, e, hreply, howner, hsame⟩ := runRow_sent hr (by simp [hA]) ho ht hw
  rw [State.accepted_fr] at hreply
  refine ⟨u, e, hreply, State.served_of hq howner hsame hown, hsame, fun hidle => ?_⟩
  obtain rfl : u = _ := Host.Outcome.next.inj (e.symm.trans (runRow_ready hr (by simp [hA])))
  rw [ho, (State.activeSends_sameBut _ _).2.2 .trace (by decide)]
  exact State.settle_trace _ _ hidle

end

/-! ## The requests -/

theorem not_mem_replyParts {h : PktHead} {p : Part} (hp : p ∉ [.can, .sess, .pend, .outbox, .portSt, .wire, .trace]) : p ∉ replyParts h := by
  unfold replyParts
  split <;> simp_all

theorem State.replied_modPower {s u : State} {h : PktHead} {opc st : Nat} {b : List Byte} (f : Power → Power)
    (hr : s.replied u h opc st b) : s.replied (u.modPower f) h opc st b := hr

theorem State.setTrace_sameBut (x : Option Trace) (s : State) : s.sameBut [.trace] (s.modPort fun p => { p with trace := x }) :=
  State.sameBut_of_rest (State.modPort_rest _ _ fun p => by simp [PortPart.rest, cleared])

section
variable {h : PktHead} {s : State}

/-- CLEAR_FRAME_STATUS (R72). -/
theorem clearFrameStatus_served (hr : s.ready h 0x0006) : ∃ u, exec (.clearFrameStatus h) s = .next u ∧
    s.repliedAt u h .clearFrameStatus s.fr.frameNo stOk [] ∧ u.fr = { s.fr with clr := true } ∧ s.served u h [.fr] := by
  obtain ⟨u, e, hreply, hserved, hsame, -⟩ := runRow_sent_served (op := .clearFrameStatus) (torn := false) (ps := [.fr]) hr rfl
    (by decide) rfl { s.tame_accepted h _ with } (State.sameBut_of_rest (State.modFr_rest _ _ (by decide))) rfl
  refine ⟨u, e, hreply, ?_, hserved⟩
  rw [hsame.fr (not_mem_replyParts (by decide)), State.modFr_fr, State.accepted_fr]

/-- The reply of an accepted WARM_RESTART makes the restart due as it leaves (R501). -/
theorem warmRestart_served (hr : s.ready h 0x0007) : ∃ u, exec (.warmRestart h) s = .next u ∧
    s.repliedAt u h .warmRestart s.fr.frameNo stOk [] ∧
    u.unt.power = { s.unt.power with restartDue := if s.phase = .complete then true else s.unt.power.restartDue } ∧
    s.served u h [.power] := by
  have ht := s.tame_accepted h (opCode .warmRestart)
  have hin : (s.accepted h (opCode .warmRestart)).port.replayIn.within = false := ht.within.trans hr.2.2.1
  refine ⟨_, runRow_ready (op := .warmRestart) (torn := false) hr (by simp [opAlarm]), ?_⟩
  simp only [runOp, State.done, State.settle, ht.phase, ht.frame, le_refl, decide_true, Bool.and_true, decide_eq_true_eq,
    State.repliedAt, and_true]
  generalize opMirror .warmRestart (s.accepted h (opCode .warmRestart)) (s.accepted h (opCode .warmRestart)) = l
  split
  · obtain ⟨hreplied, hanswer⟩ := State.answer_tame hr ht (st := stOk) (b := [])
    simp only [State.deliver, hin, Bool.not_false, and_self, if_true]
    generalize State.answer _ _ _ (s.accepted h (opCode .warmRestart)) = a at hreplied hanswer ⊢
    have hsends := State.activeSends_sameBut l (a.modPower fun p => { p with restartDue := true })
    have hpower : a.unt.power = (s.accepted h (opCode .warmRestart)).unt.power :=
      hanswer.2.2 .power (by unfold answerParts; split <;> decide)
    have howner := hanswer.owner (by unfold answerParts; split <;> decide)
    refine ⟨State.replied_sends _ (State.replied_modPower _ hreplied), ?_, ?_, ?_⟩
    · rw [hsends.2.2 .power (by decide), ← s.accepted_unt h (opCode .warmRestart), ← hpower]
      rfl
    · rw [hsends.owner (by decide), ← s.accepted_owner h (opCode .warmRestart), ← howner]
      rfl
    · have hset := State.sameBut_of_rest (State.modPower_rest (ps := [.power]) a (fun p => { p with restartDue := true }) (by decide))
      refine State.sameBut_mono (State.sameBut_trans (State.sameBut_trans
        (State.sameBut_trans (State.accepted_sameBut h _ s) hanswer) hset) hsends) fun p hp => ?_
      simp only [List.mem_append, List.mem_cons, servingParts] at hp ⊢
      rcases hp with ((hp | hp) | hp) | hp
      · tauto
      · have := servingParts_of_replyParts (answer_in_reply hp)
        simp only [List.mem_append, List.mem_cons, servingParts] at this
        tauto
      · tauto
      · tauto
  · have hwaits := State.pendReply_waits (due := some s.fr.frameNo) (o := some (stOk, ([] : List Byte)))
      (State.ready_id (op := .warmRestart) hr) (State.ready_session (op := .warmRestart) hr) ht.sess ht.outbox ht.pend
    have hpend := State.sameBut_trans (State.pendReply_sameBut (makeCaller (s.codeOf h.port) h.session (opCode .warmRestart) h)
      (some s.fr.frameNo) .warmRestart (some (stOk, [])) (s.accepted h (opCode .warmRestart))) (State.activeSends_sameBut l _)
    refine ⟨State.waits_sends _ hwaits, ?_, ?_, ?_⟩
    · rw [hpend.2.2 .power (by decide), State.accepted_unt]
    · rw [hpend.owner (by decide), State.accepted_owner]
    · refine State.sameBut_mono (State.sameBut_trans (State.accepted_sameBut h _ s) hpend) fun p hp => ?_
      simp only [List.mem_append, List.mem_cons, servingParts] at hp ⊢
      tauto

/-- TRACE_OPEN where traces are enabled and none is open (R69). -/
theorem traceOpen_served (hr : s.ready h 0x0008) (hen : imTraceEn s.im = true) (hno : s.port.trace = none) :
    ∃ u, exec (.traceOpen h) s = .next u ∧ s.repliedAt u h .traceOpen s.fr.frameNo stOk (packBytes 6 [(48, s.fr.frameNo + 1)]) ∧
      u.port.trace = some { first := s.fr.frameNo + 1, last := s.fr.frameNo, segment := 0 } ∧ s.served u h [.trace] := by
  have htr : (s.accepted h 0x0008).port.trace = s.port.trace := (s.accepted_sameBut h _).2.2 .trace (by decide)
  have him : (s.accepted h 0x0008).im = s.im := (s.accepted_sameBut h _).im (by decide)
  have ho : opTraceOpen (s.accepted h 0x0008) = ((s.accepted h 0x0008).modPort fun p => { p with
      trace := some { first := s.fr.frameNo + 1, last := s.fr.frameNo, segment := 0 } },
      .sent (s.accepted h 0x0008).fr.frameNo stOk (packBytes 6 [(48, s.fr.frameNo + 1)])) := by
    simp [opTraceOpen, htr, hno, him, hen]
  obtain ⟨u, e, hreply, hserved, -, htrace⟩ := runRow_sent_served (op := .traceOpen) (torn := false) (ps := [.trace]) hr rfl
    (by decide) ho (State.tame_of_sameBut (State.setTrace_sameBut _ _) (by decide)) (State.setTrace_sameBut _ _) rfl
  exact ⟨u, e, hreply, htrace (by intro t ht; cases ht; rfl), hserved⟩

/-- TRACE_CLOSE (R334). -/
theorem traceClose_served (hr : s.ready h 0x0009) : ∃ u, exec (.traceClose h) s = .next u ∧
    s.repliedAt u h .traceClose s.fr.frameNo stOk (packBytes 6 [(48, (s.port.trace.map (·.last)).getD 0)]) ∧
    u.port.trace = none ∧ s.served u h [.trace] := by
  have htr : (s.accepted h (opCode .traceClose)).port.trace = s.port.trace := (s.accepted_sameBut h _).2.2 .trace (by decide)
  obtain ⟨u, e, hreply, hserved, -, htrace⟩ := runRow_sent_served (op := .traceClose) (torn := false) (ps := [.trace]) hr rfl
    (by decide) rfl (State.tame_of_sameBut (State.setTrace_sameBut none _) (by decide)) (State.setTrace_sameBut none _) rfl
  rw [htr] at hreply
  exact ⟨u, e, hreply, htrace (by intro t ht; cases ht), hserved⟩

/-- TRACE_OPEN that traces are not enabled for, or that finds one open (R69). -/
theorem traceOpen_denied (hr : s.ready h 0x0008) {st : Nat}
    (hst : st = if imTraceEn s.im then stBusy else stTraceOff) (hopen : imTraceEn s.im = true → s.port.trace.isSome = true) :
    ∃ u, exec (.traceOpen h) s = .next u ∧ s.onlyReplied u h 0x0008 st [] := by
  have htr : (s.accepted h 0x0008).port.trace = s.port.trace := (s.accepted_sameBut h _).2.2 .trace (by decide)
  have him : (s.accepted h 0x0008).im = s.im := (s.accepted_sameBut h _).im (by decide)
  have ho : opTraceOpen (s.accepted h 0x0008) = (s.accepted h 0x0008, .now st []) := by
    unfold opTraceOpen deny
    rw [htr, him, hst]
    cases hen : imTraceEn s.im
    · rfl
    · simp [hopen hen]
  exact runRow_onlyReplied (op := .traceOpen) (torn := false) hr (by simp [opAlarm]) ho (by decide)

/-- While a node replays, the flag of its downstream symbols is off (R70). -/
theorem State.flagOn_of_replay {u : State} (hu : u.port.replay = true) : u.flagOn = false := by
  simp [State.flagOn, hu]

/-- A node that replays sends nothing of its own on a controller (R70). -/
theorem State.restricted_of_replay {u : State} (hu : u.port.replay = true) (k : Nat) : u.restricted k = true := by
  simp [State.restricted, hu]

/-- REPLAY_START (R70). -/
theorem replayStart_served (hr : s.ready h 0x000B) : ∃ u, exec (.replayStart h) s = .next u ∧
    s.repliedAt u h .replayStart s.fr.frameNo stOk [] ∧ u.port.replay = true ∧ s.served u h [.replay] := by
  have hq : (s.accepted h 0x000B).sameBut [.can, .replay] (opReplayStart (s.accepted h 0x000B)).1 :=
    State.sameBut_of_rest (opReplayStart_rest _ (by decide))
  obtain ⟨u, e, hreply, hserved, hsame, -⟩ := runRow_sent_served (op := .replayStart) (torn := false) hr rfl (by decide) rfl
    (State.tame_of_sameBut hq (by decide)) hq rfl
  refine ⟨u, e, hreply, (hsame.replay (not_mem_replyParts (by decide))).trans rfl, hserved.1, State.sameBut_mono hserved.2 ?_⟩
  intro p hp
  simp only [servingParts, List.mem_append, List.mem_cons] at hp ⊢
  tauto

/-- No segment that REPLAY_DATA adds leaves an input of the trace in work (R334). -/
theorem replayAdd_within {crc segment : Nat} {b : List Byte} {x r : Replay} (hr : replayAdd crc segment b x = some r) :
    r.within = false := by
  unfold replayAdd at hr
  split at hr
  · cases hr
  · split at hr
    · cases hr; rfl
    · dsimp only at hr
      split at hr
      · split at hr <;> cases hr
        rfl
      · cases hr; rfl

theorem exec_replayData {segment : Nat} {bytes : List Byte} (hseg : segment < 2 ^ 32) (hlen : bytes.length ≤ 8168) :
    exec (.replayData h segment bytes) s = runRow h true true false (.replayData segment bytes) s := by
  show runRow h (decide (segment < 2 ^ 32)) (decide (bytes.length ≤ 8168)) false (.replayData segment bytes) s = _
  rw [decide_eq_true hseg, decide_eq_true hlen]

/-- REPLAY_DATA out of order, or with the snapshot of another firmware (R334). -/
theorem replayData_denied {segment : Nat} {bytes : List Byte} (hr : s.ready h 0x000C) (hseg : segment < 2 ^ 32)
    (hlen : bytes.length ≤ 8168) (hadd : replayAdd s.fwCrc segment bytes s.port.replayIn = none) :
    ∃ u, exec (.replayData h segment bytes) s = .next u ∧ s.onlyReplied u h 0x000C stBadValue [] := by
  rw [exec_replayData hseg hlen]
  refine runRow_onlyReplied (op := .replayData segment bytes) hr (by simp [opAlarm]) ?_ (by simp)
  simp [runOp, opReplayData, deny, State.fwCrc] at hadd ⊢
  simp [opCode, hadd]

/-- REPLAY_DATA with the segment that is due (R334). -/
theorem replayData_served {segment : Nat} {bytes : List Byte} {r : Replay} (hr : s.ready h 0x000C) (hseg : segment < 2 ^ 32)
    (hlen : bytes.length ≤ 8168) (hadd : replayAdd s.fwCrc segment bytes s.port.replayIn = some r) :
    ∃ u, exec (.replayData h segment bytes) s = .next u ∧ s.replied u h 0x000C stOk (toBytes 4 (s.replayHeld r)) ∧
      u.port.replayIn = r ∧ s.served u h [.replayIn] := by
  rw [exec_replayData hseg hlen]
  have hq : (s.accepted h 0x000C).sameBut [.replayIn] ((s.accepted h 0x000C).modPort fun p => { p with replayIn := r }) :=
    State.sameBut_of_rest (State.modPort_rest _ _ fun p => by simp [PortPart.rest, cleared])
  have hcrc : (s.accepted h 0x000C).fwCrc = s.fwCrc := by unfold State.fwCrc; rw [State.accepted_unt]
  have hheld : (s.accepted h 0x000C).replayHeld r = s.replayHeld r := by
    unfold State.replayHeld
    rw [(s.accepted_sameBut h 0x000C).im (by decide)]
  have ho : opReplayData segment bytes (s.accepted h 0x000C) =
      ((s.accepted h 0x000C).modPort fun p => { p with replayIn := r }, .now stOk (toBytes 4 (s.replayHeld r))) := by
    simp only [opReplayData, hcrc, State.accepted_replayIn, hadd, ← hheld]
    rfl
  have ht : s.tame ((s.accepted h 0x000C).modPort fun p => { p with replayIn := r }) h 0x000C :=
    { s.tame_accepted h 0x000C with within := (replayAdd_within hadd).trans (State.ready_within (op := .replayData segment bytes) hr).symm }
  obtain ⟨u, e, hreply, howner, hsame⟩ := runRow_now (op := .replayData segment bytes) (torn := false) hr (by simp [opAlarm]) ho ht (by simp)
  exact ⟨u, e, hreply, hsame.replayIn (not_mem_replyParts (by decide)), State.served_of (op := .replayData segment bytes) hq howner hsame rfl⟩

end

/-- Settles O7: each request by the rule of its opcode; what a request refuses leaves the accepted state, and its reply leaves the
trace that it opened or closed because that trace has no bytes to send. -/
theorem unitRequests : Obligations.UnitRequests := by
  refine ⟨fun h s hr => clearFrameStatus_served hr, fun h s hr => warmRestart_served hr, fun h s hr => ?_,
    fun h s hr => traceClose_served hr, fun h s hr => ?_, fun h s segment bytes hr hseg hlen => ?_⟩
  · cases hen : imTraceEn s.im
    · obtain ⟨u, e, hu⟩ := traceOpen_denied (st := stTraceOff) hr (by simp [hen]) (by simp [hen])
      exact ⟨u, e, fun _ => hu, by simp, by simp⟩
    · cases htr : s.port.trace with
      | none =>
        obtain ⟨u, e, hu⟩ := traceOpen_served hr hen htr
        exact ⟨u, e, by simp, by simp, fun _ _ => hu⟩
      | some t =>
        obtain ⟨u, e, hu⟩ := traceOpen_denied (st := stBusy) hr (by simp [hen]) (by simp [htr])
        exact ⟨u, e, by simp, fun _ _ => hu, by simp⟩
  · obtain ⟨u, e, hreply, hrep, hserved⟩ := replayStart_served hr
    exact ⟨u, e, hreply, hrep, State.flagOn_of_replay hrep, State.restricted_of_replay hrep, hserved⟩
  · cases hadd : replayAdd s.fwCrc segment bytes s.port.replayIn with
    | none =>
      obtain ⟨u, e, hu⟩ := replayData_denied hr hseg hlen hadd
      exact ⟨u, e, fun _ => hu, by simp⟩
    | some r =>
      obtain ⟨u, e, hu⟩ := replayData_served hr hseg hlen hadd
      exact ⟨u, e, by simp, by rintro _ ⟨⟩; exact hu⟩

end Sys2Proof.Machine
end

section
/-! PROOFS. The strobe (R45 to R53, R331): what each of its steps leaves of the frame clock, the configuration, the inputs and the
result image; and frames that are long (R47). -/

namespace Sys2Proof.Machine

/-! ## The frame clock -/

/-- The fields of the frame clock that only the scheduler writes at a strobe: without OVERRUN and the counts of entries. -/
def FrameClk.schedule (f : FrameClk) : FrameClk :=
  { f with overrun := false, ovrFrames := 0, nOverrun := 0, asyncCount := 0, deferCount := 0, nDeferred := 0 }

theorem clkOverrun_schedule (P : Nat) (f : FrameClk) : (clkOverrun P f).1.schedule = f.schedule := by
  unfold clkOverrun
  split
  · split <;> rfl
  · split <;> rfl

theorem State.unitEvs_fr (l : List EvReq) (s : State) : (s.unitEvs l).fr = s.fr :=
  State.same_of_rest (p := .fr) (State.unitEvs_rest l s (List.Subset.refl _)) (by decide)

theorem State.unitEvs_inp (l : List EvReq) (s : State) : (s.unitEvs l).inp = s.inp :=
  State.same_of_rest (p := .inp) (State.unitEvs_rest l s (List.Subset.refl _)) (by decide)

theorem State.unitEvs_eng (l : List EvReq) (s : State) : (s.unitEvs l).eng = s.eng :=
  State.same_of_rest (p := .eng) (State.unitEvs_rest l s (List.Subset.refl _)) (by decide)

theorem State.unitEvs_pair (l : List EvReq) (s : State) : (s.unitEvs l).unt.pair = s.unt.pair :=
  State.same_of_rest (p := .pair) (State.unitEvs_rest l s (List.Subset.refl _)) (by decide)

theorem State.unsync_fr (cause : Nat) (s : State) : (s.unsync cause).fr = s.fr :=
  State.same_of_rest (p := .fr) (State.unsync_rest (ps := [.recd, .pair]) cause s (by decide)) (by decide)

theorem State.overrunStep_fr (s : State) : s.overrunStep.fr = (clkOverrun s.P s.fr).1 := by
  unfold State.overrunStep
  dsimp only
  split
  · rw [State.unsync_fr, State.unitEvs_fr, State.modFr_fr]
  · rw [State.unitEvs_fr, State.modFr_fr]

theorem State.assignEntries_schedule (s : State) : s.assignEntries.fr.schedule = s.fr.schedule := by
  have hlock (v : Bool) (l : List Entry) (x : State) : (l.foldl (lockEntry v) x).fr = x.fr :=
    foldl_keep State.fr _ (fun x e => State.same_of_rest (p := .fr) (lockEntry_rest v x e (List.Subset.refl _)) (by decide)) l x
  unfold State.assignEntries
  dsimp only
  split
  · simp only [State.modFr_fr, hlock]
    rfl
  · simp only [State.unitEvs_fr, State.modFr_fr, hlock]
    rfl

/-! ## The inputs -/

theorem State.assignEntries_gather (s : State) :
    s.assignEntries.inp.gather = s.inp.gather.filter (fun e => !decide (e.stamp < s.fr.strobeAt)) := by
  have hlock (v : Bool) (l : List Entry) (x : State) : (l.foldl (lockEntry v) x).inp = x.inp :=
    foldl_keep State.inp _ (fun x e => State.same_of_rest (p := .inp) (lockEntry_rest v x e (List.Subset.refl _)) (by decide)) l x
  unfold State.assignEntries
  dsimp only
  split
  · simp only [State.modFr_inp, hlock]
    rfl
  · simp only [State.unitEvs_inp, State.modFr_inp, hlock]
    rfl

theorem State.hotRecords_gather (s : State) : s.hotRecords.inp.gather = s.inp.gather := by
  unfold State.hotRecords
  split
  · rw [State.modPair_inp]
    refine foldl_keep (fun x => x.inp.gather) _ (fun x c => ?_) _ _
    split <;> rfl
  · rfl

/-! ## The result image -/

/-- What FRAME_CLOSE waits for and closes: results, END entries and poisoned sources. -/
def EngPart.posted (e : EngPart) : Tab Rec × Nat × Nat := (e.res, e.ends, e.poison)

theorem State.engEvs_posted (e : Nat) (l : List EvReq) (s : State) : (s.engEvs e l).eng.posted = s.eng.posted := by
  unfold State.engEvs
  split <;> rfl

theorem applyChannel_posted (old new : Image) (s : State) (c : Nat) : (applyChannel old new s c).eng.posted = s.eng.posted := by
  unfold applyChannel
  extract_lets re s1 s2 h
  have h1 : s1.eng.posted = s.eng.posted := by
    simp only [s1]
    split <;> rfl
  have h2 : s2.eng.posted = s1.eng.posted := by
    simp only [s2]
    split <;> rfl
  split
  · exact h2.trans h1
  · exact h2.trans h1

theorem applyTrims_posted (old new : Image) (nx : NextCfg) (s : State) : (applyTrims old new nx s).eng.posted = s.eng.posted := by
  unfold applyTrims
  dsimp only
  split
  · rfl
  · split
    · exact State.engEvs_posted ..
    · refine congrArg EngPart.posted ((State.sameBut_of_rest (State.frameSide_rest (ps := [.sess, .pend, .owner, .trace, .replayIn]) _
        (State.modCfg _ s) (by decide) fun x => ?_)).eng (by decide))
      exact State.modPort_rest _ _ fun p => by simp [PortPart.rest, cleared]

theorem trimSetEvents_posted (old new : Image) (s : State) : (trimSetEvents old new s).eng.posted = s.eng.posted := by
  unfold trimSetEvents
  refine foldl_keep (fun x => x.eng.posted) _ (fun x c => ?_) _ _
  dsimp only
  split
  · rfl
  · exact State.engEvs_posted ..

theorem State.joinBlock_posted (s : State) (b : Nat) : (s.joinBlock b).eng.posted = s.eng.posted := by
  unfold State.joinBlock
  split
  · rw [State.unitEvs_eng]
    exact (foldl_keep (fun x => x.eng.posted) (fun x c => x.reinitChannel c) (fun x c => rfl) _ _).trans rfl
  · rfl

/-! ## The pair and the host side -/

theorem applyPair_hot (old new : Image) (s : State) : (applyPair old new s).unt.pair.hot = s.unt.pair.hot := by
  have hhold (l : Nat) (x : State) : (x.driveHold l).unt.pair.hot = x.unt.pair.hot := by
    show (ite _ _ _ : Pair).hot = _
    split <;> rfl
  unfold applyPair
  split
  · rfl
  · split <;> exact hhold _ _

theorem State.unsync_hot (cause : Nat) (s : State) : (s.unsync cause).unt.pair.hot = s.unt.pair.hot := by
  have hset (v c : Nat) (x : State) : (x.setSync v c).unt.pair.hot = x.unt.pair.hot := by
    unfold State.setSync
    dsimp only
    split
    · rfl
    · rw [State.unitEvs_pair]
      rfl
  have hnote (x : State) : x.noteReady.unt.pair.hot = x.unt.pair.hot := by
    unfold State.noteReady
    split_ifs <;> rfl
  unfold State.unsync
  dsimp only
  split_ifs
  · rfl
  · rw [hnote]
    exact hset ..
  all_goals
    rw [hnote, State.unitEvs_pair]
    exact hset ..

theorem State.overrunStep_hot (s : State) : s.overrunStep.unt.pair.hot = s.unt.pair.hot := by
  unfold State.overrunStep
  dsimp only
  split
  · rw [State.unsync_hot, State.unitEvs_pair]
    rfl
  · rw [State.unitEvs_pair]
    rfl

/-- What acts within a trace that has begun leaves it begun (R70). -/
theorem State.withinTrace_begun {f : State → State} (hf : ∀ x, (f x).port.replayIn.begun = x.port.replayIn.begun) (s : State) :
    (s.withinTrace f).port.replayIn.begun = s.port.replayIn.begun := by
  unfold State.withinTrace
  split
  · exact hf _
  · rfl

theorem applyPorts_begun (old new : Image) (s : State) : (applyPorts old new s).port.replayIn.begun = s.port.replayIn.begun :=
  congrArg Replay.begun (State.same_of_rest (p := .replayIn) (applyPorts_rest old new s (List.Subset.refl _)) (by decide))

theorem applyTrims_begun (old new : Image) (nx : NextCfg) (s : State) :
    (applyTrims old new nx s).port.replayIn.begun = s.port.replayIn.begun := by
  unfold applyTrims
  dsimp only
  split
  · rfl
  · split
    · rw [State.same_of_rest (p := .replayIn) (State.engEvs_rest _ _ _ (List.Subset.refl _)) (by decide)]
      rfl
    · unfold State.frameSide
      split
      · exact State.withinTrace_begun (fun x => by rfl) _
      · rfl

/-- The staging image that is to be copied again stays so while ports change their configuration (R356). -/
theorem applyPorts_restage {old new : Image} {s : State} (hs : s.cfg.restage = true) : (applyPorts old new s).cfg.restage = true := by
  have hvacate (r : Nat) (x : State) (hx : x.cfg.restage = true) : (x.vacate r).cfg.restage = true := by
    unfold State.vacate State.endOffer
    split
    · split <;> rfl
    · exact hx
  have hclose (x : State) (hx : x.cfg.restage = true) (c : Nat) : (x.closeSession c).cfg.restage = true := by
    unfold State.closeSession
    split
    · exact hx
    · dsimp only
      split
      · exact hvacate 5 (x.dropClaim c) hx
      · exact hx
  have hlink (x : State) (hx : x.cfg.restage = true) (i : Nat) : (restartLink x i).cfg.restage = true :=
    (State.same_of_rest (p := .restage) (restartLink_rest x i (List.Subset.refl _)) (by decide)).trans hx
  unfold applyPorts
  dsimp only
  have hdropped := List.foldlRecOn (motive := fun x : State => x.cfg.restage = true)
    ((((List.range 16).filter fun c => decide (c % 8 < 6))).filter fun c => poClaimEn old (c % 8) && !poClaimEn new (c % 8))
    (fun x c => x.dropClaim c) (List.foldlRecOn (motive := fun x : State => x.cfg.restage = true)
      (((List.range 16).filter fun c => decide (c % 8 < 6)).filter (closesSession old new)) (fun x c => x.closeSession c)
      (List.foldlRecOn (motive := fun x : State => x.cfg.restage = true)
        ((List.range 3).filter fun i => portLink old i != portLink new i) restartLink hs
        fun x hx i _ => hlink x hx i) fun x hx c _ => hclose x hx c) fun x hx c _ => hx
  split
  · split
    · exact hvacate 6 _ hdropped
    · exact hdropped
  · exact hdropped

/-! ## The commit (R331) -/

/-- A commit up to the engines, the alarms, the safety engines and the controllers under the new image. -/
def State.commitEngines (nx : NextCfg) (s0 : State) : State :=
  let s := s0.settleBlocks
  let old := s.cfg.image
  let h := s.cfg.hdr
  let s1 := s.modCfg fun c => { c with
    image := nx.image, next := none, restage := c.restage || decide (nx.source ≠ 0xFF)
    hdr := { h with cfgCrc := nx.cfgCrc, safeCrc := nx.safeCrc, confirmed := newConfirmed h nx.safeCrc, firstFrame := s.fr.frameNo } }
  let s2 := ((List.range 512).foldl (applyChannel old nx.image) s1).modBlks fun k => { k with was := old, behind := 2 ^ 64 - 1 }
  applyCan old nx.image (applyDsc old nx.image (applyAlarms old nx.image s2))

/-- The rest of a commit: ports, pair, clock and trims, the store and its event; `old` is the image before. -/
def State.commitRest (old : Image) (oldCrc : Nat) (nx : NextCfg) (s : State) : State :=
  let s4 := applyTrims old nx.image nx (applyClock old nx.image (applyPair old nx.image (s.bothSides (applyPorts old nx.image))))
  let s5 := if nx.source = 0xFF then s4 else trimSetEvents old nx.image s4
  (s5.storeStart).cfgEv { code := 0x0301, src := nx.source, p1 := nx.cfgCrc, p2 := oldCrc, p3 := nx.safeCrc }

theorem State.applyCommit_eq (nx : NextCfg) (s : State) : s.applyCommit nx =
    (s.commitEngines nx).commitRest s.settleBlocks.cfg.image s.settleBlocks.cfg.hdr.cfgCrc nx := rfl

section
variable (nx : NextCfg) (s : State)

theorem State.settleBlocks_sameBut : s.sameBut [.blks] s.settleBlocks :=
  State.sameBut_of_rest (State.settleBlocks_rest s (by decide))

theorem applyChannels_rest {ps : List Part} (old new : Image) (l : List Nat) (s : State) (hw : [.blks, .eng] ⊆ ps) :
    (l.foldl (applyChannel old new) s).rest ps = s.rest ps :=
  foldl_rest s (applyChannel old new) (fun x c => applyChannel_rest old new x c hw) l

/-- What the engines' part of a commit leaves as it is. -/
theorem State.commitEngines_sameBut :
    s.sameBut [.blks, .eng, .safety, .alm, .recd, .can, .image, .hdr, .nextCfg, .restage] (s.commitEngines nx) := by
  refine State.sameBut_of_rest ?_
  simp (disch := decide) only [State.commitEngines, applyCan_rest, applyDsc_rest, applyAlarms_rest, State.modBlks_rest, applyChannels_rest]
  rw [State.modCfg_rest _ _ fun c => by simp [CfgPart.rest, cleared], State.settleBlocks_rest s (by decide)]

/-- The running image, the image that waits and the staging image that is to be copied, after the engines' part of a commit. -/
theorem State.commitEngines_cfg : (s.commitEngines nx).cfg.image = nx.image ∧ (s.commitEngines nx).cfg.next = none ∧
    (s.cfg.restage = true → (s.commitEngines nx).cfg.restage = true) := by
  unfold State.commitEngines
  extract_lets s0 old h s1 s2
  have hs : s1.sameBut [.blks, .eng, .alm, .safety, .recd, .can] (applyCan old nx.image (applyDsc old nx.image (applyAlarms old nx.image s2))) :=
    State.sameBut_of_rest (by simp (disch := decide) [s2, applyChannels_rest])
  refine ⟨hs.2.2 .image (by decide), hs.2.2 .nextCfg (by decide), fun hr => (hs.2.2 .restage (by decide)).trans ?_⟩
  show (s0.cfg.restage || _) = true
  rw [s.settleBlocks_sameBut.2.2 .restage (by decide), hr, Bool.true_or]

theorem State.commitEngines_posted : (s.commitEngines nx).eng.posted = s.eng.posted := by
  unfold State.commitEngines
  extract_lets s0 old h s1 s2
  have h2 : (applyCan old nx.image (applyDsc old nx.image (applyAlarms old nx.image s2))).eng = s2.eng :=
    (State.sameBut_of_rest (ps := [.alm, .safety, .recd, .can]) (by simp (disch := decide))).eng (by decide)
  have h1 : s2.eng.posted = s1.eng.posted := by
    rw [State.modBlks_eng]
    exact foldl_keep (fun x => x.eng.posted) (applyChannel old nx.image) (applyChannel_posted old nx.image) _ s1
  rw [h2, h1]
  exact congrArg EngPart.posted (s.settleBlocks_sameBut.eng (by decide))

variable (old : Image) (crc : Nat)

/-- The trims' events and the store that end a commit keep every part that is theirs alone. -/
theorem State.commitRest_end : ((applyTrims old nx.image nx (applyClock old nx.image (applyPair old nx.image
    (s.bothSides (applyPorts old nx.image)))))).sameBut [.eng, .recd, .hdr, .slotA, .slotB, .store, .cfgEv] (s.commitRest old crc nx) := by
  refine State.sameBut_of_rest ?_
  unfold State.commitRest
  extract_lets s4 s5
  rw [State.cfgEv_rest _ _ (by decide), State.storeStart_rest _ (by decide)]
  simp only [s5]
  split
  · rfl
  · exact trimSetEvents_rest _ _ _ (by decide)

/-- What the rest of a commit leaves as it is. -/
theorem State.commitRest_sameBut : s.sameBut [.eng, .recd, .can, .twi, .pair, .sess, .pend, .outbox, .owner, .portSt, .wire, .trace,
    .replayIn, .cfgEv, .restage, .hdr, .slotA, .slotB, .store, .trims] (s.commitRest old crc nx) := by
  refine State.sameBut_trans_self (State.sameBut_of_rest ?_) (State.sameBut_mono (s.commitRest_end nx old crc) (by decide))
  rw [applyTrims_rest _ _ _ _ (by decide), applyClock_rest _ _ _ (by decide), applyPair_rest _ _ _ (by decide),
    State.bothSides_rest _ _ (by decide) fun x => applyPorts_rest _ _ x (by decide)]

theorem State.commitRest_posted : (s.commitRest old crc nx).eng.posted = s.eng.posted := by
  unfold State.commitRest
  extract_lets s4 s5
  have h5 : s5.eng.posted = s4.eng.posted := by
    simp only [s5]
    split
    · rfl
    · exact trimSetEvents_posted ..
  have hclock (x : State) : (applyClock old nx.image (applyPair old nx.image x)).eng = x.eng :=
    (State.sameBut_of_rest (ps := [.twi, .pair]) (by simp (disch := decide))).eng (by decide)
  have hports : (s.bothSides (applyPorts old nx.image)).eng = s.eng :=
    (State.sameBut_of_rest (ps := [.recd, .can, .sess, .pend, .outbox, .owner, .portSt, .wire, .trace, .restage, .replayIn])
      (State.bothSides_rest _ _ (by decide) fun x => applyPorts_rest _ _ x (by decide))).eng (by decide)
  have hstore (x : State) : ((x.storeStart).cfgEv { code := 0x0301, src := nx.source, p1 := nx.cfgCrc, p2 := crc, p3 := nx.safeCrc }).eng =
      x.eng := (State.sameBut_of_rest (ps := [.recd, .hdr, .slotA, .slotB, .store, .cfgEv]) (by simp (disch := decide))).eng (by decide)
  rw [hstore, h5, applyTrims_posted, hclock, hports]

theorem State.commitRest_hot : (s.commitRest old crc nx).unt.pair.hot = s.unt.pair.hot := by
  have hports : (s.bothSides (applyPorts old nx.image)).unt.pair = s.unt.pair :=
    (State.sameBut_of_rest (ps := [.recd, .can, .sess, .pend, .outbox, .owner, .portSt, .wire, .trace, .restage, .replayIn])
      (State.bothSides_rest _ _ (by decide) fun x => applyPorts_rest _ _ x (by decide))).pair (by decide)
  rw [(s.commitRest_end nx old crc).pair (by decide),
    (State.sameBut_of_rest (applyTrims_rest _ _ _ _ (List.Subset.refl _))).pair (by decide),
    (State.sameBut_of_rest (applyClock_rest _ _ _ (List.Subset.refl _))).pair (by decide), applyPair_hot, hports]

theorem State.commitRest_begun : (s.commitRest old crc nx).port.replayIn.begun = s.port.replayIn.begun := by
  rw [(s.commitRest_end nx old crc).replayIn (by decide), applyTrims_begun,
    (State.sameBut_of_rest (applyClock_rest _ _ _ (List.Subset.refl _))).replayIn (by decide),
    (State.sameBut_of_rest (applyPair_rest _ _ _ (List.Subset.refl _))).replayIn (by decide)]
  exact (State.withinTrace_begun (applyPorts_begun old nx.image) _).trans (applyPorts_begun old nx.image s)

theorem State.commitRest_restage (hs : s.cfg.restage = true) : (s.commitRest old crc nx).cfg.restage = true := by
  have hwithin (x : State) (hx : x.cfg.restage = true) : (x.withinTrace (applyPorts old nx.image)).cfg.restage = true := by
    unfold State.withinTrace
    split
    · exact applyPorts_restage hx
    · exact hx
  rw [(s.commitRest_end nx old crc).2.2 .restage (by decide),
    (State.sameBut_of_rest (applyTrims_rest _ _ _ _ (List.Subset.refl _))).2.2 .restage (by decide),
    (State.sameBut_of_rest (applyClock_rest _ _ _ (List.Subset.refl _))).2.2 .restage (by decide),
    (State.sameBut_of_rest (applyPair_rest _ _ _ (List.Subset.refl _))).2.2 .restage (by decide)]
  exact hwithin _ (applyPorts_restage hs)

end

/-! ## The steps of a strobe -/

/-- A strobe at `at0` up to the results of the frame that ends. -/
def State.ended (at0 : Nat) (s : State) : State := ((s.modFr (clkStrobe s.P at0)).modTwi twiNewFrame).keepResults

/-- The configuration that was accepted takes effect, and the staging image is copied where that is due. -/
def State.committed (s : State) : State :=
  (match s.cfg.next with
    | some nx => s.applyCommit nx
    | none => s).restageNow

/-- OVERRUN, the entries, and the marks of the frame that opens. -/
def State.assigned (s : State) : State := s.overrunStep.assignEntries.freshFrame

/-- Cells and blocks that come back at the strobe. -/
def State.joined (s : State) : State := (List.range 64).foldl State.joinBlock s.warmCells

theorem State.openFrame_eq (at0 : Nat) (s : State) : s.openFrame at0 =
    ((s.ended at0).committed.assigned.joined.beginReplay.hotRecords.traceBegin.setPhase .gather) := rfl

section
variable (s : State)

theorem State.applyCommit_sameBut (nx : NextCfg) : s.sameBut [.blks, .eng, .safety, .alm, .recd, .can, .twi, .pair, .sess,
    .pend, .outbox, .owner, .portSt, .wire, .trace, .replayIn, .cfgEv, .image, .hdr, .nextCfg, .restage, .slotA, .slotB, .store,
    .trims] (s.applyCommit nx) :=
  State.sameBut_of_rest (State.applyCommit_rest nx s (List.Subset.refl _))

theorem State.restageNow_sameBut : s.sameBut [.staging, .restage] s.restageNow :=
  State.sameBut_of_rest (State.restageNow_rest s (List.Subset.refl _))

theorem State.committed_sameBut : s.sameBut [.blks, .eng, .safety, .alm, .recd, .can, .twi, .pair, .sess, .pend, .outbox, .owner,
    .portSt, .wire, .trace, .replayIn, .cfgEv, .image, .hdr, .nextCfg, .restage, .slotA, .slotB, .store, .trims, .staging] s.committed := by
  unfold State.committed
  split
  · exact State.sameBut_mono (State.sameBut_trans (s.applyCommit_sameBut _) (State.restageNow_sameBut _)) (by decide)
  · exact State.sameBut_mono s.restageNow_sameBut (by decide)

theorem State.committed_posted : s.committed.eng.posted = s.eng.posted := by
  unfold State.committed
  rw [(State.restageNow_sameBut _).eng (by decide)]
  split
  · rw [State.applyCommit_eq, State.commitRest_posted, State.commitEngines_posted]
  · rfl

theorem State.committed_hot : s.committed.unt.pair.hot = s.unt.pair.hot := by
  unfold State.committed
  rw [(State.restageNow_sameBut _).pair (by decide)]
  split
  · rw [State.applyCommit_eq, State.commitRest_hot, (State.commitEngines_sameBut _ s).pair (by decide)]
  · rfl

theorem State.committed_begun : s.committed.port.replayIn.begun = s.port.replayIn.begun := by
  unfold State.committed
  rw [(State.restageNow_sameBut _).replayIn (by decide)]
  split
  · rw [State.applyCommit_eq, State.commitRest_begun, (State.commitEngines_sameBut _ s).replayIn (by decide)]
  · rfl

/-- An accepted configuration is in force after its strobe, and no other waits (R331). -/
theorem State.committed_cfg : s.committed.cfg.next = none ∧ s.committed.cfg.image = (match s.cfg.next with
      | some nx => nx.image
      | none => s.cfg.image) := by
  unfold State.committed
  rw [(State.restageNow_sameBut _).2.2 .nextCfg (by decide), (State.restageNow_sameBut _).image (by decide)]
  split
  · next nx h =>
    obtain ⟨himage, hnext, -⟩ := State.commitEngines_cfg nx s
    rw [State.applyCommit_eq, (State.commitRest_sameBut nx _ _ _).2.2 .nextCfg (by decide),
      (State.commitRest_sameBut nx _ _ _).image (by decide)]
    exact ⟨hnext, himage⟩
  · next h => exact ⟨h, rfl⟩

/-- A staging image that is to be copied is the running image after the strobe (R330, R356). -/
theorem State.committed_staging (hs : s.cfg.restage = true) : s.committed.cfg.staging = s.committed.cfg.image := by
  have hcopy (x : State) (hx : x.cfg.restage = true) : x.restageNow.cfg.staging = x.restageNow.cfg.image := by
    unfold State.restageNow
    rw [if_pos hx]
    rfl
  unfold State.committed
  refine hcopy _ ?_
  split
  · next nx h =>
    rw [State.applyCommit_eq]
    exact State.commitRest_restage nx _ _ _ ((State.commitEngines_cfg nx s).2.2 hs)
  · exact hs

theorem State.freshFrame_sameBut : s.sameBut [.inp, .safety, .alm, .pair] s.freshFrame :=
  State.sameBut_of_rest (State.freshFrame_rest s (List.Subset.refl _))

theorem State.assignEntries_sameBut : s.sameBut [.fr, .inp, .recd, .can] s.assignEntries :=
  State.sameBut_of_rest (State.assignEntries_rest s (List.Subset.refl _))

theorem State.overrunStep_sameBut : s.sameBut [.fr, .recd, .pair] s.overrunStep :=
  State.sameBut_of_rest (State.overrunStep_rest s (List.Subset.refl _))

theorem State.assigned_sameBut : s.sameBut [.fr, .recd, .pair, .inp, .can, .safety, .alm] s.assigned :=
  State.sameBut_mono (State.sameBut_trans (State.sameBut_trans s.overrunStep_sameBut (State.assignEntries_sameBut _))
    (State.freshFrame_sameBut _)) (by decide)

theorem State.assigned_schedule : s.assigned.fr.schedule = s.fr.schedule := by
  unfold State.assigned
  rw [(State.freshFrame_sameBut _).fr (by decide), State.assignEntries_schedule, State.overrunStep_fr, clkOverrun_schedule]

theorem State.assigned_hot : s.assigned.unt.pair.hot = s.unt.pair.hot :=
  (congrArg Pair.hot ((State.assignEntries_sameBut s.overrunStep).pair (by decide))).trans s.overrunStep_hot

theorem State.assigned_gather : s.assigned.inp.gather = s.inp.gather.filter (fun e => decide (s.fr.strobeAt ≤ e.stamp)) := by
  have hstrobe : s.overrunStep.fr.strobeAt = s.fr.strobeAt := by
    rw [State.overrunStep_fr]
    exact (congrArg FrameClk.strobeAt (clkOverrun_schedule s.P s.fr) :)
  show s.overrunStep.assignEntries.inp.gather = _
  rw [State.assignEntries_gather, hstrobe, s.overrunStep_sameBut.inp (by decide)]
  simp only [← decide_not, Nat.not_lt]

theorem State.joined_sameBut : s.sameBut [.blks, .eng, .recd] s.joined := by
  refine State.sameBut_of_rest ?_
  unfold State.joined
  rw [foldl_rest _ _ fun x b => State.joinBlock_rest x b (List.Subset.refl _), State.warmCells_rest s (by decide)]

theorem State.joined_posted : s.joined.eng.posted = s.eng.posted := by
  unfold State.joined
  rw [foldl_keep (fun x => x.eng.posted) State.joinBlock State.joinBlock_posted]
  exact congrArg EngPart.posted ((State.sameBut_of_rest (State.warmCells_rest s (List.Subset.refl _))).eng (by decide))

theorem State.hotRecords_sameBut : s.sameBut [.inp, .pair] s.hotRecords :=
  State.sameBut_of_rest (State.hotRecords_rest s (List.Subset.refl _))

theorem State.hotRecords_skips (hs : s.unt.pair.hot ≠ some s.fr.frameNo) : s.hotRecords = s := if_neg hs

theorem State.traceBegin_sameBut : s.sameBut [.trace] s.traceBegin :=
  State.sameBut_of_rest (State.traceBegin_rest s (List.Subset.refl _))

theorem State.sendFrame_sameBut (bad : Bool) : s.sameBut [.wire] (s.sendFrame bad) :=
  State.sameBut_of_rest (State.sendFrame_rest bad s (List.Subset.refl _))

theorem State.setPhase_sameBut (p : Phase) : s.sameBut [.phase] (s.setPhase p) :=
  State.sameBut_of_rest (State.setPhase_rest s p (List.Subset.refl _))

/-- A replay that has taken its snapshot, or a unit that does not replay, takes none at this strobe (R69). -/
theorem State.beginReplay_skips (hs : s.port.replay = false ∨ s.port.replayIn.begun = true) : s.beginReplay = s := by
  refine if_neg ?_
  rcases hs with h | h <;> simp [h]

/-- Whatever a replay takes over, the strobe's instant is this unit's own (R67). -/
theorem State.beginReplay_strobeAt : s.beginReplay.fr.strobeAt = s.fr.strobeAt := by
  unfold State.beginReplay
  split
  · split
    · split <;> rfl
    · rfl
  · rfl

/-! ## The frame that opens -/

/-- The numbers of the frame that opens follow from the frame before, whether or not its counters are cleared (R45, R50). -/
theorem clkStrobe_follows (P at0 : Nat) (f : FrameClk) :
    let len := at0 - f.strobeAt
    let g := clkStrobe P at0 f
    g.frameNo = f.frameNo + 1 ∧ g.prevLen = len ∧ g.total = f.total + len ∧ g.lag = nextLag P f.lag len ∧
      g.stretched = decide (P < len) ∧ g.shortened = decide (len < P) ∧ g.longRec = f.longNow ∧ g.longNow = false := by
  have hclr : (if f.clr = true then clearClk f else f).strobeAt = f.strobeAt ∧ (if f.clr = true then clearClk f else f).frameNo = f.frameNo ∧
      (if f.clr = true then clearClk f else f).total = f.total ∧ (if f.clr = true then clearClk f else f).lag = f.lag ∧
      (if f.clr = true then clearClk f else f).longNow = f.longNow := by
    split <;> exact ⟨rfl, rfl, rfl, rfl, rfl⟩
  obtain ⟨hat, hno, htotal, hlag, hlong⟩ := hclr
  simp only [clkStrobe, hat, hno, htotal, hlag, hlong, and_self]

variable (at0 : Nat)

/-- The frame clock behind the marks of the frame that opens. -/
theorem State.assigned_clock : (s.ended at0).committed.assigned.fr.schedule = (clkStrobe s.P at0 s.fr).schedule := by
  rw [State.assigned_schedule, (State.committed_sameBut _).fr (by decide)]
  rfl

/-- The state in which every step of the strobe that a takeover or a replay may change has still to come. -/
theorem State.joined_of_strobe : (s.ended at0).committed.sameBut [.fr, .recd, .pair, .inp, .can, .safety, .alm, .blks, .eng]
    (s.ended at0).committed.assigned.joined :=
  State.sameBut_mono (State.sameBut_trans (State.assigned_sameBut _) (State.joined_sameBut _)) (by decide)

/-- Every strobe opens its frame at its own instant. -/
theorem State.openFrame_strobeAt : (s.openFrame at0).fr.strobeAt = at0 := by
  rw [State.openFrame_eq, (State.setPhase_sameBut _ _).fr (by decide), (State.traceBegin_sameBut _).fr (by decide),
    (State.hotRecords_sameBut _).fr (by decide), State.beginReplay_strobeAt, (State.joined_sameBut _).fr (by decide)]
  exact (congrArg FrameClk.strobeAt (s.assigned_clock at0) :)

/-- A strobe at which no replay takes its snapshot. -/
theorem State.openFrame_goesOn (hs : s.port.replay = false ∨ s.port.replayIn.begun = true) : s.openFrame at0 =
    ((s.ended at0).committed.assigned.joined.hotRecords.traceBegin.setPhase .gather) := by
  rw [State.openFrame_eq, State.beginReplay_skips]
  rwa [(State.joined_of_strobe s at0).replay (by decide), (State.joined_of_strobe s at0).replayIn (by decide),
    (State.committed_sameBut _).replay (by decide), State.committed_begun]

end

/-- The open frame waits for its inputs: the state behind the steps of the strobe but for what follows a takeover (R433). -/
theorem State.joined_to_open (x : State) : x.sameBut [.inp, .pair, .trace, .phase] (x.hotRecords.traceBegin.setPhase .gather) :=
  State.sameBut_mono (State.sameBut_trans (State.sameBut_trans x.hotRecords_sameBut (State.traceBegin_sameBut _))
    (State.setPhase_sameBut _ _)) (by decide)

theorem State.traceBegin_setPhase_inp (x : State) (p : Phase) : (x.traceBegin.setPhase p).inp = x.inp :=
  ((State.setPhase_sameBut _ _).inp (by decide)).trans ((State.traceBegin_sameBut _).inp (by decide))

/-- FRAME_STROBE on a unit that issues its own strobes, at the instant of the target. -/
theorem exec_frameStrobe {t : Nat} {s : State} (hm : s.mode = .running) (hp : s.phase = .complete) (hself : s.strobesItself = true)
    (ht : s.strobeDue ≤ t) : exec (.frameStrobe t) s =
      .next (((s.tick t).openFrame s.strobeDue).sendFrame (decide (s.eng.poison ≠ 0))) := by
  dsimp only [exec, execFrameStrobe]
  refine act_goes (f := fun x => (x.openFrame x.strobeDue).sendFrame (decide (x.eng.poison ≠ 0))) rfl ?_
  have hself' : (s.tick t).strobesItself = true := hself
  have ht' : (s.tick t).strobeDue ≤ t := ht
  simp [State.live, hm, hp, hself', ht']

theorem State.doneAt_le_strobeDue (s : State) : s.fr.doneAt ≤ s.strobeDue := Nat.le_max_right _ _

section
variable {s u : State} {at0 : Nat} {bad : Bool} (hs : s.port.replay = false ∨ s.port.replayIn.begun = true)
  (hu : u = (s.openFrame at0).sendFrame bad)
include hs hu

/-- What a takeover, the trace and the links leave of a strobe at which no replay takes its snapshot. -/
theorem State.openFrame_sent : (s.ended at0).committed.assigned.joined.sameBut [.inp, .pair, .trace, .phase, .wire] u := by
  rw [hu, State.openFrame_goesOn s at0 hs]
  exact State.sameBut_trans (State.joined_to_open _) (State.sendFrame_sameBut _ bad)

theorem State.openFrame_schedule : u.fr.schedule = (clkStrobe s.P at0 s.fr).schedule := by
  rw [(State.openFrame_sent hs hu).fr (by decide), (State.joined_sameBut _).fr (by decide), State.assigned_clock]

theorem State.openFrame_cfg : u.cfg.next = none ∧ u.cfg.image = (match s.cfg.next with
      | some nx => nx.image
      | none => s.cfg.image) ∧ (s.cfg.restage = true → u.cfg.staging = u.cfg.image) := by
  have hkeep := State.sameBut_trans (State.joined_of_strobe s at0) (State.openFrame_sent hs hu)
  obtain ⟨hnext, himage⟩ := (s.ended at0).committed_cfg
  refine ⟨(hkeep.2.2 .nextCfg (by decide)).trans hnext, (hkeep.image (by decide)).trans himage, fun hr => ?_⟩
  rw [hkeep.image (by decide), hkeep.2.2 .staging (by decide)]
  exact (s.ended at0).committed_staging hr

theorem State.openFrame_posted : u.eng.posted = ([], 0, 0) := by
  rw [(State.openFrame_sent hs hu).eng (by decide), State.joined_posted, (State.assigned_sameBut _).eng (by decide),
    State.committed_posted]
  rfl

/-- The inputs of the strobe's own steps, behind which only a takeover writes any. -/
theorem State.openFrame_inp : u.inp = (s.ended at0).committed.assigned.joined.hotRecords.inp := by
  rw [hu, State.openFrame_goesOn s at0 hs, (State.sendFrame_sameBut _ bad).inp (by decide), State.traceBegin_setPhase_inp]

theorem State.openFrame_gather : u.inp.gather = s.inp.gather.filter (fun e => decide (at0 ≤ e.stamp)) := by
  have hc := (s.ended at0).committed_sameBut
  rw [State.openFrame_inp hs hu, State.hotRecords_gather, (State.joined_sameBut _).inp (by decide), State.assigned_gather,
    hc.fr (by decide), hc.inp (by decide)]
  rfl

/-- No record has arrived for the frame, unless a hot takeover writes them all (R433). -/
theorem State.openFrame_unread (hhot : s.unt.pair.hot ≠ some (s.fr.frameNo + 1)) : u.inp.arrived = 0 ∧ u.inp.stale = 0 := by
  have hj := State.joined_sameBut (s.ended at0).committed.assigned
  have hno : (s.ended at0).committed.assigned.fr.frameNo = s.fr.frameNo + 1 :=
    (congrArg FrameClk.frameNo (s.assigned_clock at0) :).trans (clkStrobe_follows s.P at0 s.fr).1
  have hskip : (s.ended at0).committed.assigned.joined.unt.pair.hot ≠ some (s.ended at0).committed.assigned.joined.fr.frameNo := by
    rwa [hj.pair (by decide), hj.fr (by decide), State.assigned_hot, State.committed_hot, hno]
  rw [State.openFrame_inp hs hu, State.hotRecords_skips _ hskip, hj.inp (by decide)]
  exact ⟨rfl, rfl⟩

end

/-- Settles O16, by what each step of the strobe leaves: the scheduler's fields of the frame clock, the configuration behind the
commit, the inputs behind the assignment, and a result image that no later step fills. -/
theorem strobeOpensTheNextFrame : Obligations.StrobeOpensTheNextFrame := by
  intro t s hm hp hself ht hreplay len
  have hs : (s.tick t).port.replay = false ∨ (s.tick t).port.replayIn.begun = true := hreplay
  refine ⟨_, exec_frameStrobe hm hp hself ht, ?_⟩
  generalize hu : ((s.tick t).openFrame s.strobeDue).sendFrame (decide (s.eng.poison ≠ 0)) = u
  have hfr : u.fr.schedule = (clkStrobe s.P s.strobeDue s.fr).schedule :=
    State.openFrame_schedule (s := s.tick t) (at0 := s.strobeDue) hs hu.symm
  have hat : u.fr.strobeAt = s.strobeDue := (congrArg FrameClk.strobeAt hfr :)
  obtain ⟨hno, hlen, htotal, hlag, hstretched, hshort, hlong, hnow⟩ := clkStrobe_follows s.P s.strobeDue s.fr
  obtain ⟨hnext, himage, hstaging⟩ := State.openFrame_cfg hs hu.symm
  have hposted := State.openFrame_posted hs hu.symm
  have hgather := State.openFrame_gather hs hu.symm
  have hunread := State.openFrame_unread hs hu.symm
  have hphase : u.phase = .gather := by
    rw [← hu, (State.sendFrame_sameBut _ _).phase (by decide), State.openFrame_eq, State.setPhase_phase]
  exact ⟨hphase, (congrArg FrameClk.frameNo hfr :).trans hno, hat, hat ▸ s.doneAt_le_strobeDue,
    (congrArg FrameClk.prevLen hfr :).trans hlen, (congrArg FrameClk.total hfr :).trans htotal,
    (congrArg FrameClk.lag hfr :).trans hlag, (congrArg FrameClk.stretched hfr :).trans hstretched,
    (congrArg FrameClk.shortened hfr :).trans hshort, (congrArg FrameClk.longRec hfr :).trans hlong,
    (congrArg FrameClk.longNow hfr :).trans hnow, hnext, himage, hstaging, hgather, hunread,
    congrArg Prod.fst hposted, congrArg (fun x => x.2.1) hposted, congrArg (fun x => x.2.2) hposted⟩

/-- What the events of a unit record depends on the record, the stamp and the running of the Zenith controller alone. -/
theorem State.unitEvs_recd_congr {x y : State} (l : List EvReq) (hstamp : x.stamp x.now = y.stamp y.now)
    (hz : x.zenithRuns = y.zenithRuns) (hr : x.recd = y.recd) : (x.unitEvs l).recd = (y.unitEvs l).recd := by
  unfold State.unitEvs
  dsimp only
  rw [hz, hstamp]
  split
  · rw [State.modRecd_recd, State.modRecd_recd, hr]
  · exact hr

/-- Settles O22: the happening has its one effect, and the instant of a strobe is not before the completion of the frame that it
ends. -/
theorem longFramesAreReported : Obligations.LongFramesAreReported := by
  refine ⟨fun t s hm hp hlong ht => ?_, fun t s u e hne => ?_⟩
  · have hlive : (s.tick t).live = true := by simp [State.live, hm]
    have hP : (s.tick t).P = s.P := rfl
    dsimp only [exec, execFrameLong]
    refine ⟨_, act_goes rfl (by simp [hlive, hp, hlong, hP, ht]), ?_, State.unitEvs_recd_congr _ rfl rfl rfl, ?_⟩
    · rw [State.unitEvs_fr]
      rfl
    · exact State.sameBut_of_rest (by simp (disch := decide))
  · dsimp only [exec, execFrameStrobe] at e
    unfold act at e
    rw [if_pos rfl] at e
    dsimp only at e
    split at e
    · next hgo =>
      rw [← Host.Outcome.next.inj e]
      simp only [Bool.and_eq_true, decide_eq_true_eq] at hgo
      obtain ⟨⟨⟨-, hphase⟩, -⟩, -⟩ := hgo
      refine ⟨hphase, ?_⟩
      rw [(State.sendFrame_sameBut _ _).fr (by decide), State.openFrame_strobeAt]
      exact State.doneAt_le_strobeDue _
    · rw [← Host.Outcome.next.inj e] at hne
      exact absurd rfl hne

end Sys2Proof.Machine
end

section
/-! PROOFS. What the regions report (R59, R491, R514, R515): missing records, silent engines, clocks and field feeds. -/

namespace Sys2Proof.Machine

theorem State.unitEvs_unt (l : List EvReq) (s : State) : (s.unitEvs l).unt = s.unt := by
  unfold State.unitEvs
  dsimp only
  split <;> rfl

theorem State.regOf_unitEvs (l : List EvReq) (s : State) (g : Nat) : (s.unitEvs l).regOf g = s.regOf g := by
  unfold State.regOf
  rw [State.unitEvs_unt]

theorem State.regOf_modReg (s : State) (g : Nat) (f : RegDiag → RegDiag) : (s.modReg g f).regOf g = f (s.regOf g) :=
  tabGet_mod_self ..

theorem State.couplerError_unt (s : State) (c cause : Nat) : (s.couplerError c cause).unt = s.unt := State.unitEvs_unt ..

theorem State.cellOf_couplerError (s : State) (c cause : Nat) : (s.couplerError c cause).cellOf c =
    { s.cellOf c with couplers := (s.cellOf c).couplers + 1, standing := true, cause := cause, clean := 0 } := by
  unfold State.couplerError State.cellOf
  rw [State.unitEvs_blks, State.modCell_blks_cell, tabGet_mod_self]

theorem State.cellOf_couplerError_ne (s : State) {c k : Nat} (hk : k ≠ c) (cause : Nat) :
    (s.couplerError c cause).cellOf k = s.cellOf k := by
  unfold State.couplerError State.cellOf
  rw [State.unitEvs_blks, State.modCell_blks_cell, tabGet_mod_ne _ _ _ hk.symm]

/-- CELL_RECORD_MISSING (R59, R514). -/
theorem cellRecordMissing_reports {t ch : Nat} {s : State} (hch : ch < 512) (hm : s.mode = .running) (hp : s.phase = .gather)
    (hw : s.waitsFor ch = true) (ht : s.fr.strobeAt + usC 200 ≤ t) :
    ∃ u, exec (.cellRecordMissing t ch) s = .next u ∧ u.inp = { s.inp with
        arrived := setBit s.inp.arrived ch true
        stale := if s.follows then s.inp.stale else setBit s.inp.stale ch true } ∧
      (u.regOf (ch / 128)).upErrs = (s.regOf (ch / 128)).upErrs + 1 ∧
      u.cellOf ch = { s.cellOf ch with couplers := (s.cellOf ch).couplers + 1, standing := true, cause := 4, clean := 0 } ∧
      ∀ c, c ≠ ch → u.cellOf c = s.cellOf c := by
  have hwt : (s.tick t).waitsFor ch = true := hw
  dsimp only [exec, execCellRecordMissing]
  refine ⟨_, act_goes (decide_eq_true hch) (by simp [State.live, hm, hp, hwt, ht]), ?_⟩
  generalize hr : ((s.tick t).markMissing ch).modReg (ch / 128) (fun r => { r with upErrs := r.upErrs + 1 }) = r
  generalize hv : (r.unitEvs [{ code := 0x0205, src := ch / 128, p1 := ch }]).couplerError ch 4 = v
  have hsends := v.activeSends_sameBut [.cells (s.tick t).fr.frameNo [(ch, tabGet 0#128 (s.tick t).inp.recs ch, true)]]
  have hcell (k : Nat) : (r.unitEvs [{ code := 0x0205, src := ch / 128, p1 := ch }]).cellOf k = s.cellOf k := by
    unfold State.cellOf
    rw [State.unitEvs_blks, ← hr]
    rfl
  have hcells (w : State) (hw : w.blks = v.blks) (k : Nat) : w.cellOf k = v.cellOf k := by rw [State.cellOf, hw, State.cellOf]
  refine ⟨?_, ?_, ?_, fun c hc => ?_⟩
  · rw [hsends.inp (by decide), ← hv, (State.sameBut_of_rest (State.couplerError_rest (ps := [.blks, .recd]) _ _ _ (by decide))).inp (by decide),
      State.unitEvs_inp, ← hr]
    rfl
  · rw [State.regOf, hsends.2.2 .regs (by decide), ← hv, State.couplerError_unt, State.unitEvs_unt, ← hr]
    exact congrArg RegDiag.upErrs (State.regOf_modReg ..)
  · rw [hcells _ (hsends.blks (by decide)), ← hv, State.cellOf_couplerError, hcell]
  · rw [hcells _ (hsends.blks (by decide)), ← hv, State.cellOf_couplerError_ne _ hc, hcell]

/-- ENG_SILENT (R515). -/
theorem engSilent_reports {t e : Nat} {s : State} (he : e < 16) (hm : s.mode = .running) (hp : s.phase = .evaluate)
    (hs : s.isSilent e = true) (hnew : (s.regOf (e / 4)).silent.testBit (e % 4) = false) (ht : s.fr.strobeAt + 8 * s.P ≤ t) :
    ∃ u, exec (.engSilent t e) s = .next u ∧ (u.regOf (e / 4)).silent = setBit (s.regOf (e / 4)).silent (e % 4) true ∧
      u.recd = ((s.tick t).unitEvs [{ code := 0x1112, src := e, p1 := 1, p2 := s.fr.frameNo % 2 ^ 32
                                      p3 := (t - s.fr.strobeAt) % 2 ^ 32 }]).recd ∧ s.sameBut [.now, .recd, .regs] u := by
  have hst : (s.tick t).isSilent e = true := hs
  have hnt : ((s.tick t).regOf (e / 4)).silent.testBit (e % 4) = false := hnew
  have htt : (s.tick t).fr.strobeAt + 8 * (s.tick t).P ≤ t := ht
  dsimp only [exec, execEngSilent]
  refine ⟨_, act_goes (decide_eq_true he) (by simp only [State.live, State.tick_mode, State.tick_phase, hm, hp, hst, hnt, htt]; rfl),
    ?_, State.unitEvs_recd_congr _ rfl rfl rfl, State.sameBut_of_rest (by simp (disch := decide))⟩
  rw [State.regOf_unitEvs]
  exact congrArg RegDiag.silent (State.regOf_modReg ..)

/-! ## Clocks (R514) -/

/-- A clock off by more than 1,500 ppm is at fault. -/
theorem clkJudge_fault {dev : Int} (h : 1500 < dev.natAbs) (k : ClkChk) : (clkJudge dev k).fault = true := by
  simp [clkJudge, h]

/-- A clock that is not at fault comes into none within 1,500 ppm. -/
theorem clkJudge_sound {dev : Int} (h : dev.natAbs ≤ 1500) {k : ClkChk} (hk : k.fault = false) : (clkJudge dev k).fault = false := by
  simp [clkJudge, hk, Nat.not_lt.2 h]

/-- The clock of a region. -/
theorem State.clkCheck_region {dom : Nat} (h : dom < 4) (dev : Int) (s : State) :
    let k := clkJudge dev { dev := (s.regOf dom).clkDev, good := (s.regOf dom).clkGood, fault := (s.regOf dom).clkFault }
    (s.clkCheck dom dev).unt.mdiag = s.unt.mdiag ∧
      (s.clkCheck dom dev).regOf dom = { s.regOf dom with clkDev := k.dev, clkGood := k.good, clkFault := k.fault } := by
  intro k
  unfold State.clkCheck
  dsimp only
  rw [if_pos h, State.unitEvs_unt, State.regOf_unitEvs, State.regOf_modReg]
  exact ⟨rfl, rfl⟩

/-- The clocks of the module. -/
theorem State.clkCheck_module {dom : Nat} (dev : Int) (s : State) :
    (dom = 4 → (s.clkCheck dom dev).unt = { s.unt with mdiag := { s.unt.mdiag with eth := clkJudge dev s.unt.mdiag.eth } }) ∧
    (dom = 5 → (s.clkCheck dom dev).unt = { s.unt with mdiag := { s.unt.mdiag with can := clkJudge dev s.unt.mdiag.can } }) ∧
    (dom = 6 → (s.clkCheck dom dev).unt = { s.unt with mdiag := { s.unt.mdiag with zen := clkJudge dev s.unt.mdiag.zen } }) := by
  refine ⟨?_, ?_, ?_⟩ <;> (rintro rfl; exact State.unitEvs_unt ..)

/-- CLOCK_CHECK (R514). -/
theorem clockCheck_reports {t dom : Nat} {dev : Int} {s : State} (hd : dom < 7) (hm : s.mode = .running) :
    exec (.clockCheck t dom dev) s = .next ((s.tick t).clkCheck dom dev) ∧
      s.sameBut [.now, .recd, .mdiag, .regs] ((s.tick t).clkCheck dom dev) := by
  dsimp only [exec, execClockCheck]
  exact ⟨act_goes (decide_eq_true hd) (by simp [State.live, hm]), State.sameBut_of_rest (by simp (disch := decide))⟩

/-! ## Field feeds (R491) -/

theorem fieldJudge_absent {old mv us : Nat} (hmv : mv < 5000) (hus : 10000 ≤ us) : fieldJudge old mv us = 3 := if_pos ⟨hmv, hus⟩

/-- FS_FEED (R491). -/
theorem fsFeed_reports {t feed mv heldUs : Nat} {s : State} (hf : feed < 8) (ha : s.awake = true) :
    ∃ u, exec (.fsFeed t feed mv heldUs) s = .next u ∧ s.sameBut [.now, .recd, .regs] u ∧ u.regOf (feed / 2) =
      if feed % 2 = 0 then
        { s.regOf (feed / 2) with feedA := { state := fieldJudge (s.regOf (feed / 2)).feedA.state mv heldUs, mv := mv } }
      else { s.regOf (feed / 2) with feedB := { state := fieldJudge (s.regOf (feed / 2)).feedB.state mv heldUs, mv := mv } } := by
  have hat : (s.tick t).awake = true := ha
  dsimp only [exec, execFsFeed]
  refine ⟨_, act_goes (decide_eq_true hf) hat, State.sameBut_of_rest (by simp (disch := decide)), ?_⟩
  rw [State.regOf_unitEvs, State.regOf_modReg]
  split <;> rfl

/-- Settles O23: each report by the effect of its happening. -/
theorem regionReports : Obligations.RegionReports := by
  refine ⟨fun t ch s hch hm hp hw ht => ?_, fun t e s he hm hp hs hnew ht => engSilent_reports he hm hp hs hnew ht,
    fun t dom dev s hd hm => ?_, fun t feed mv heldUs s hf ha => ?_⟩
  · obtain ⟨u, e, hinp, hreg, hcell, hother⟩ := cellRecordMissing_reports hch hm hp hw ht
    exact ⟨u, e, hinp, hreg, by rw [hcell], by rw [hcell], by rw [hcell], hother⟩
  · obtain ⟨e, hsame⟩ := clockCheck_reports (t := t) (dev := dev) hd hm
    obtain ⟨heth, hcan, hzen⟩ := State.clkCheck_module (dom := dom) dev (s.tick t)
    refine ⟨_, e, hsame, fun h => ?_, fun h => ?_, fun h => ?_, fun h => ?_⟩
    · obtain ⟨hdiag, hreg⟩ := State.clkCheck_region h dev (s.tick t)
      rw [hreg]
      exact ⟨hdiag, rfl, fun hdev => clkJudge_fault hdev _, fun hdev hk => clkJudge_sound hdev hk⟩
    · rw [heth h]; exact ⟨rfl, rfl⟩
    · rw [hcan h]; exact ⟨rfl, rfl⟩
    · rw [hzen h]; exact ⟨rfl, rfl⟩
  · obtain ⟨u, e, hsame, hreg⟩ := fsFeed_reports (t := t) (mv := mv) (heldUs := heldUs) hf ha
    refine ⟨u, e, hsame, fun h => ?_, fun h => ?_, fun hmv hus => ?_⟩
    · rw [hreg, if_pos h]; exact ⟨rfl, rfl⟩
    · rw [hreg, if_neg (by omega)]; exact ⟨rfl, rfl⟩
    · rw [hreg]; split <;> exact fieldJudge_absent hmv hus

end Sys2Proof.Machine
end

section
/-! PROOFS. Postings to the Horizon collector (R60 to R64): the slot of each entry, the END of an engine that withheld it, and entries
of another frame. -/

namespace Sys2Proof.Machine

theorem posting_engine_lt (p : Posting) : p.engine < 4 := Nat.mod_lt _ (by decide)

theorem postEngine_div (p : Posting) : postEngine p / 4 = p.region := by
  have := posting_engine_lt p
  unfold postEngine
  omega

theorem postEngine_mod (p : Posting) : postEngine p % 4 = p.engine := by
  have := posting_engine_lt p
  unfold postEngine
  omega

/-! ## A posting of the open frame -/

/-- What the engines hold once the POISON bit of a posting has been taken (R477). -/
def State.postedEng (p : Posting) (s : State) : EngPart := if p.poison then (s.poison (postEngine p) 1).eng else s.eng

theorem State.poisonBit_eq (p : Posting) (s : State) :
    (if p.poison then s.poison (postEngine p) 1 else s) = { s with eng := s.postedEng p } := by
  unfold State.postedEng
  split <;> rfl

/-- A posting of the open frame while its engines are evaluated. -/
theorem exec_horizonPosting {t : Nat} {p : Posting} {s : State} (hfits : p.fits = true) (hm : s.mode = .running)
    (hidle : s.idleStandby = false) (hlo : p.frameLo = s.fr.frameNo % 65536) (hp : s.phase = .evaluate) :
    exec (.horizonPosting t p) s = .next ((s.tick t).post p) := by
  have hidle' : (s.tick t).idleStandby = false := hidle
  dsimp only [exec, execHorizonPosting]
  rw [act_goes hfits (by simp [State.live, hm, hidle', hp])]
  exact congrArg _ (if_pos hlo)

section
variable (p : Posting) (s : State)

/-- The slots that no rule reads take the entry (R61). -/
def State.postedStray (p : Posting) (s : State) : State :=
  { s with eng := { s.postedEng p with stray := tabSet .fin (s.postedEng p).stray (straySlot p) p.body } }

theorem State.postStray_posted : State.postStray p { s with eng := s.postedEng p } = s.postedStray p := rfl

theorem State.post_result {r : Rec} (h : p.body = .result r) : s.post p =
    if s.serves p then { s with eng := { s.postedEng p with res := tabSet 0#128 (s.postedEng p).res p.item r } } else s.postedStray p := by
  simp only [State.post, State.poisonBit_eq, State.postStray_posted, h]
  rfl

theorem State.post_doState {on : Bool} (h : p.body = .doState on) : s.post p =
    if s.serves p then
      { s with eng := { s.postedEng p with out := { (s.postedEng p).out with dos := setBit (s.postedEng p).out.dos p.item on } } }
    else s.postedStray p := by
  simp only [State.post, State.poisonBit_eq, State.postStray_posted, h]
  rfl

theorem State.post_current {i : Int} (h : p.body = .current i) : s.post p =
    if s.serves p then
      { s with eng := { s.postedEng p with out := { (s.postedEng p).out with aos := tabSet 0 (s.postedEng p).out.aos p.item i } } }
    else s.postedStray p := by
  simp only [State.post, State.poisonBit_eq, State.postStray_posted, h]
  rfl

theorem State.post_safety {r : Rec} (h : p.body = .safety r) : s.post p =
    if p.item / 8 ≠ p.region ∨ p.engine < 2 then s.postedStray p
    else if p.engine = 3 then { s with eng := s.postedEng p, safe := { s.safe with resB := tabSet 0#128 s.safe.resB p.item r } }
    else { s with eng := s.postedEng p, safe := { s.safe with resA := tabSet 0#128 s.safe.resA p.item r } } := by
  simp only [State.post, State.poisonBit_eq, State.postStray_posted, h]
  split
  · rfl
  · split <;> simp only [State.modSafe, *]

theorem State.post_event {code src p1 p2 p3 : Nat} (h : p.body = .event code src p1 p2 p3) : s.post p =
    { s with eng := { s.postedEng p with ev := tabSet none (s.postedEng p).ev (evSlot (postEngine p) p.item)
                                                 (some { code := code, src := src, p1 := p1, p2 := p2, p3 := p3 }) } } := by
  unfold State.post
  simp only [State.poisonBit_eq, h]
  rfl

theorem State.post_words {w : List (BitVec 32)} (h : p.body = .words w) : s.post p = s.postedStray p := by
  simp only [State.post, State.poisonBit_eq, State.postStray_posted, h]

theorem State.post_fin (h : p.body = .fin) : s.post p = State.lateEnd (postEngine p) { s with eng := s.postedEng p } := by
  unfold State.post
  simp only [State.poisonBit_eq, h]

end

/-! ## END of an engine (R62) -/

theorem State.endEngine_eng (e : Nat) (s : State) :
    (s.endEngine e).eng = { s.eng with ends := setBit s.eng.ends e true, silentHold := setBit s.eng.silentHold e false } := by
  unfold State.endEngine
  dsimp only
  split
  · rw [State.unitEvs_eng]
    rfl
  · rfl

/-- An engine that has posted END is silent no more (R515). -/
theorem State.endEngine_heard (e : Nat) (s : State) : ((s.endEngine e).regOf (e / 4)).silent.testBit (e % 4) = false := by
  unfold State.endEngine
  dsimp only
  split
  · rw [State.regOf_unitEvs, State.regOf_modReg]
    simp only [testBit_setBit, if_true]
  · next h => exact Bool.eq_false_iff.2 h

theorem State.lateEnd_ends {e : Nat} {s : State} (h : e % 4 < 2 ∨ s.safe.passed.testBit (e / 4) = true) : s.lateEnd e = s.endEngine e := by
  unfold State.lateEnd
  refine if_neg ?_
  rcases h with h | h
  · omega
  · simp [h]

/-- A Nimbus engine before its barrier withholds its END no more, and posts it after passes 2 and 3. -/
theorem State.lateEnd_waits {e : Nat} {s : State} (he : 2 ≤ e % 4) (h : s.safe.passed.testBit (e / 4) = false) :
    s.lateEnd e = s.modEng fun x => { x with silentHold := setBit x.silentHold e false } := by
  unfold State.lateEnd
  exact if_pos ⟨he, by simp [h]⟩

/-! ## A posting of another frame (R62) -/

/-- An engine poisoned by its posting: the report of a frame that is already complete changes no slot. -/
theorem State.poisonNow_keeps (k cause : Nat) (s : State) :
    (s.poisonNow k cause).eng = (s.poison k cause).eng ∧ (s.poisonNow k cause).safe = s.safe ∧
      (s.poisonNow k cause).unt.regs = s.unt.regs ∧ (s.phase ≠ .complete → (s.poisonNow k cause).recd = s.recd) := by
  have hkeep : (s.poison k cause).sameBut [.recd, .mdiag, .pair] (s.poisonNow k cause) := by
    refine State.sameBut_of_rest ?_
    unfold State.poisonNow
    dsimp only
    split
    · split
      · rw [State.unsync_rest _ _ (by decide), State.poisonReport_rest _ (by decide)]
      · exact State.poisonReport_rest _ (by decide)
    · rfl
  refine ⟨hkeep.eng (by decide), hkeep.safe (by decide), hkeep.2.2 .regs (by decide), fun hp => ?_⟩
  unfold State.poisonNow
  rw [if_neg fun h => hp h.1]
  rfl

/-- A posting with another FRAME_LO (R62). -/
theorem horizonPosting_rejected {t : Nat} {p : Posting} {s : State} (hfits : p.fits = true) (hm : s.mode = .running)
    (hidle : s.idleStandby = false) (hlo : p.frameLo ≠ s.fr.frameNo % 65536) :
    ∃ u, exec (.horizonPosting t p) s = .next u ∧
      (u.regOf p.region).hznSeq.testBit p.engine = true ∧ u.eng = (s.poison (postEngine p) 3).eng ∧ u.safe = s.safe ∧
      (s.phase ≠ .complete → u.recd = ((s.tick t).unitEvs
        [{ code := 0x1111, src := postEngine p, p1 := s.fr.frameNo % 65536, p2 := p.frameLo, p3 := p.item + p.kind * 65536 }]).recd) := by
  have hidle' : (s.tick t).idleStandby = false := hidle
  have hgo : exec (.horizonPosting t p) s = .next ((s.tick t).rejectPosting p) := by
    dsimp only [exec, execHorizonPosting]
    rw [act_goes hfits (by simp [State.live, hm, hidle', hlo])]
    exact congrArg _ (if_neg hlo)
  refine ⟨_, hgo, ?_⟩
  unfold State.rejectPosting
  extract_lets e
  generalize hr : ((s.tick t).modReg p.region fun r => { r with hznSeq := setBit r.hznSeq p.engine true }).unitEvs
    [{ code := 0x1111, src := e, p1 := (s.tick t).fr.frameNo % 65536, p2 := p.frameLo, p3 := p.item + p.kind * 65536 }] = r
  obtain ⟨heng, hsafe, hregs, hrecd⟩ := State.poisonNow_keeps e 3 r
  have hkeep : s.sameBut [.now, .regs, .recd] r := hr ▸ State.sameBut_of_rest (by simp (disch := decide))
  refine ⟨?_, ?_, ?_, fun hp => ?_⟩
  · rw [State.regOf, hregs, ← hr, ← State.regOf, State.regOf_unitEvs, State.regOf_modReg]
    simp only [testBit_setBit, if_true]
  · rw [heng]
    unfold State.poison
    rw [State.modEng_eng, State.modEng_eng, hkeep.eng (by decide)]
  · rw [hsafe, hkeep.safe (by decide)]
  · rw [hrecd (by rwa [hkeep.phase (by decide)]), ← hr]
    exact State.unitEvs_recd_congr _ rfl rfl rfl

/-- Settles O20: a posting of the open frame by its payload, any other by its rejection. -/
theorem postingsEnterTheirSlots : Obligations.PostingsEnterTheirSlots := by
  intro t p s hfits hm hidle e g stray
  have hg : (s.tick t).postedEng p = g := rfl
  refine ⟨fun hlo => horizonPosting_rejected hfits hm hidle hlo, fun hlo hp => ?_⟩
  rw [exec_horizonPosting hfits hm hidle hlo hp]
  have hserves : (s.tick t).serves p = s.serves p := rfl
  refine ⟨fun r h => ?_, fun on h => ?_, fun i h => ?_, fun r h => ?_, fun code src p1 p2 p3 h => ?_, fun w h => ?_, fun h hend => ?_,
    fun h heng hpass => ?_⟩
  · rw [State.post_result _ _ h, hserves]
    split <;> rfl
  · rw [State.post_doState _ _ h, hserves]
    split <;> rfl
  · rw [State.post_current _ _ h, hserves]
    split <;> rfl
  · rw [State.post_safety _ _ h]
    split_ifs <;> rfl
  · rw [State.post_event _ _ h, hg]
  · rw [State.post_words _ _ h]
    rfl
  · have hends : e % 4 < 2 ∨ s.safe.passed.testBit (e / 4) = true := by rwa [postEngine_mod, postEngine_div]
    have hheard := State.endEngine_heard e { s.tick t with eng := g }
    rw [postEngine_mod, postEngine_div] at hheard
    rw [State.post_fin _ _ h, hg, State.lateEnd_ends (s := { s.tick t with eng := g }) hends]
    exact ⟨_, rfl, State.endEngine_eng e { s.tick t with eng := g }, hheard⟩
  · have hwaits : s.safe.passed.testBit (e / 4) = false := by rwa [postEngine_div]
    rw [State.post_fin _ _ h, hg,
      State.lateEnd_waits (s := { s.tick t with eng := g }) (by rwa [postEngine_mod]) hwaits]
    rfl

end Sys2Proof.Machine
end

section
/-! PROOFS. Command packets on their way to a frame (R52, R55, R57, R319, R324): discarded and counted, held back, stamped, answered by a
standby or forwarded by it. -/

namespace Sys2Proof.Machine

/-! ## A packet on this unit -/

section
variable {s : State} {code ip udp : Nat} {bytes : List Byte} {p : Packet}

/-- A unit that is no standby stamps a packet while every engine posts END. -/
theorem State.admitPacket_stamps (hrole : s.unt.pair.role ≠ 2) (hsilent : s.engSilentStands = false) :
    s.admitPacket code ip udp bytes p = s.stampEntry 5 (code % 8) (.packet code ip udp bytes) := by
  unfold State.admitPacket
  dsimp only
  rw [if_neg hrole, hsilent, Bool.false_and]
  rfl

/-- Command packets are stamped in a replay too (R70). -/
theorem State.stampEntry_packet_length (hrole : s.unt.pair.role ≠ 2) (index : Nat) (body : EntryBody) :
    (s.stampEntry 5 index body).inp.gather.length = s.inp.gather.length + 1 := by
  have hstamps : s.stamps 5 = true := by simp [State.stamps, hrole]
  unfold State.stampEntry
  dsimp only
  rw [if_pos hstamps]
  exact List.length_append

theorem State.admitPacket_standby (hrole : s.unt.pair.role = 2) : s.admitPacket code ip udp bytes p =
    (s.standbyCmd code p.code p.head).forward (decide (headStatus p.head = stOk)) 5 (code % 8) (.packet code ip udp bytes) :=
  if_pos hrole

theorem State.emit_unt (r : Reply) : (s.emit r).unt = s.unt := by
  unfold State.emit
  dsimp only
  split_ifs <;> rfl

theorem State.emit_forwards (r : Reply) : (s.emit r).forwards = s.forwards := by
  unfold State.forwards State.linkUp
  rw [State.emit_unt]

/-- What a standby answers a packet with (R324). -/
def State.standbyReply (code st : Nat) (p : Packet) : Reply :=
  { code := code, ip := p.head.ip, udp := p.head.udp, session := p.head.session, seq := p.head.seq, opcode := p.code, status := st }

/-- A packet that fails step 1 or 2 is answered by the standby itself. -/
theorem State.admitPacket_refused (hrole : s.unt.pair.role = 2) (hst : headStatus p.head ≠ stOk) :
    s.admitPacket code ip udp bytes p = s.emit (State.standbyReply code (headStatus p.head) p) := by
  rw [State.admitPacket_standby hrole, State.standbyCmd, if_pos hst, decide_eq_false hst]
  rfl

/-- A standby that cannot forward says so (R360). -/
theorem State.admitPacket_unsync (hrole : s.unt.pair.role = 2) (hst : headStatus p.head = stOk) (hf : s.forwards = false) :
    s.admitPacket code ip udp bytes p = s.emit (State.standbyReply code stPartnerUnsync p) := by
  have hnot : ¬(true && (s.emit (State.standbyReply code stPartnerUnsync p)).forwards) = true := by
    rw [State.emit_forwards, hf]
    decide
  rw [State.admitPacket_standby hrole, State.standbyCmd, if_neg (not_not.2 hst), hf, decide_eq_true hst]
  exact if_neg hnot

/-- Every other packet goes to the active. -/
theorem State.admitPacket_forwarded (hrole : s.unt.pair.role = 2) (hst : headStatus p.head = stOk) (hf : s.forwards = true) :
    s.admitPacket code ip udp bytes p =
      s.linkSend [.entry s.fr.frameNo { order := 5, index := code % 8, body := .packet code ip udp bytes }] := by
  have hgoes : (true && s.forwards) = true := by rw [hf, Bool.and_self]
  rw [State.admitPacket_standby hrole, State.standbyCmd, if_neg (not_not.2 hst), hf, decide_eq_true hst]
  exact if_pos hgoes

end

/-! ## A message on its port -/

theorem State.portOf_modPortSt (s : State) (i : Nat) (f : PortSt → PortSt) : (s.modPortSt i f).portOf i = f (s.portOf i) :=
  tabGet_mod_self ({} : PortSt) ..

theorem State.portOf_modPortSt_ne (s : State) {i k : Nat} (hk : k ≠ i) (f : PortSt → PortSt) : (s.modPortSt i f).portOf k = s.portOf k :=
  tabGet_mod_ne ({} : PortSt) _ _ hk.symm

theorem State.modPortSt_sameBut (s : State) (i : Nat) (f : PortSt → PortSt) : s.sameBut [.portSt] (s.modPortSt i f) :=
  State.sameBut_of_rest (by simp)

theorem State.tick_sameBut (s : State) (t : Nat) : s.sameBut [.now] (s.tick t) :=
  State.sameBut_of_rest (State.tick_rest s t (List.Subset.refl _))

/-- A change of one port alone, behind the time that passes. -/
theorem State.port_counted (s : State) (t i : Nat) (f : PortSt → PortSt) :
    ((s.tick t).modPortSt i f).portOf i = f (s.portOf i) ∧ (∀ k, k ≠ i → ((s.tick t).modPortSt i f).portOf k = s.portOf k) ∧
      s.sameBut [.now, .portSt] ((s.tick t).modPortSt i f) :=
  ⟨State.portOf_modPortSt _ i f, fun _ hk => State.portOf_modPortSt_ne _ hk f,
    State.sameBut_trans (s.tick_sameBut t) (State.modPortSt_sameBut _ i f)⟩

/-- PACKET_RECEIVE acts on a running unit: it takes the message, or holds it back on CAN and SER0. -/
theorem exec_packetReceive {t port ip udp : Nat} {bytes : List Byte} {s : State} (hport : port < 6) (hm : s.mode = .running) :
    exec (.packetReceive t port ip udp bytes) s = .next (if port < 3 ∨ (!s.holdsBack port) = true then
      (s.tick t).packetIn port ip udp bytes else (s.tick t).queueRx port (.message bytes)) := by
  dsimp only [exec, execPacketReceive]
  exact act_goes (f := fun x => if port < 3 ∨ (!x.holdsBack port) = true then x.packetIn port ip udp bytes
    else x.queueRx port (.message bytes)) (decide_eq_true hport) (by simp [State.live, hm])

theorem State.packetIn_packet {s : State} {i ip udp : Nat} {bytes : List Byte} {p : Packet} (h : parsePacket i ip udp bytes = some p) :
    s.packetIn i ip udp bytes = s.admitPacket (s.codeOf i) ip udp bytes p := by
  unfold State.packetIn
  rw [h]

/-- A transport message that is no packet is counted and nothing else (R319). -/
theorem State.packetIn_discards {s : State} {i ip udp : Nat} {bytes : List Byte} (h : parsePacket i ip udp bytes = none) :
    s.packetIn i ip udp bytes = s.modPortSt i fun p => { p with pktDiscard := inc16 p.pktDiscard } := by
  unfold State.packetIn
  rw [h]

/-- FORWARDED_PACKET acts on the active of a pair that hears its standby. -/
theorem exec_forwardedPacket {t code ip udp : Nat} {bytes : List Byte} {s : State} (hcode : isCode code = true) (hm : s.mode = .running)
    (hrole : s.unt.pair.role = 1) (hlocal : s.isLocal code = false) (hf : s.forwards = true) :
    exec (.forwardedPacket t code ip udp bytes) s = .next (match parsePacket (code % 8) ip udp bytes with
      | some p => (s.tick t).admitPacket code ip udp bytes p
      | none => s.tick t) := by
  have hlocal' : (s.tick t).isLocal code = false := hlocal
  have hf' : (s.tick t).forwards = true := hf
  dsimp only [exec, execForwardedPacket]
  exact act_goes (f := fun x => match parsePacket (code % 8) ip udp bytes with
    | some p => x.admitPacket code ip udp bytes p
    | none => x) hcode (by simp [State.live, hm, hrole, hlocal', hf'])

/-- Settles O27: a message that waits, that is no packet, or that is one; a packet by the role of the unit and the head of the packet. -/
theorem packetsAreStamped : Obligations.PacketsAreStamped := by
  refine ⟨fun t port ip udp bytes s hport hm => ⟨_, exec_packetReceive hport hm, fun h3 hback => ?_, fun hfree => ?_⟩,
    fun t code ip udp bytes s hcode hm hrole hlocal hf => ⟨_, exec_forwardedPacket hcode hm hrole hlocal hf, fun hnone => ?_,
      fun p hsome hsilent => ?_⟩⟩
  · rw [if_neg (by simp [hback]; omega)]
    exact s.port_counted t port _
  · rw [if_pos (by simpa using hfree)]
    refine ⟨fun hnone => ?_, fun p hsome hrole hsilent => ?_, fun p hsome hrole => ?_⟩
    · rw [State.packetIn_discards hnone]
      exact s.port_counted t port _
    · rw [State.packetIn_packet hsome, State.admitPacket_stamps (s := s.tick t) hrole hsilent]
      exact ⟨rfl, State.stampEntry_packet_length (s := s.tick t) hrole _ _⟩
    · rw [State.packetIn_packet hsome]
      have hinp (r : Reply) : ((s.tick t).emit r).inp = s.inp :=
        (State.sameBut_of_rest (State.emit_rest r (s.tick t) (List.Subset.refl _))).inp (by decide)
      refine ⟨fun hst => ?_, fun hst hf => ?_, fun hst hf => ?_⟩
      · rw [State.admitPacket_refused (s := s.tick t) hrole hst]
        exact ⟨hinp _, State.emit_outbox _ _⟩
      · rw [State.admitPacket_unsync (s := s.tick t) hrole hst hf]
        exact ⟨hinp _, State.emit_outbox _ _⟩
      · rw [State.admitPacket_forwarded (s := s.tick t) hrole hst hf]
        rfl
  · rw [hnone]
  · have hno : (s.tick t).unt.pair.role ≠ 2 := by rw [State.tick_unt, hrole]; decide
    rw [hsome]
    exact State.admitPacket_stamps (s := s.tick t) hno hsilent

end Sys2Proof.Machine
end

section
/-! PROOFS. The start of the evaluation (R59, R62, R196): what packets and other entries leave of the engines, the result of a DI channel,
and END of the Cumulus engines. -/

namespace Sys2Proof.Machine

/-! ## What no entry changes -/

/-- DI states, results and ENDs of the engines, and the number and the instant of the frame. -/
def State.frameResult (s : State) : Tab DiCh × Tab Rec × Nat × Nat × Nat × Nat :=
  (s.eng.di, s.eng.res, s.eng.ends, s.eng.silentHold, s.fr.frameNo, s.fr.strobeAt)

/-- Every part but the engines and the frame clock. -/
def besideEngines : List Part :=
  [.now, .mode, .phase, .inp, .blks, .safety, .alm, .recd, .can, .twi, .shown, .clock, .power, .fw1, .fw2, .runSlot, .mem, .mdiag, .regs,
    .pair, .wit, .sess, .pend, .outbox, .owner, .portSt, .wire, .trace, .replay, .replayIn, .cfgEv, .rtcEv, .image, .hdr, .staging,
    .nextCfg, .restage, .slotA, .slotB, .store, .trims]

theorem State.frameResult_of_rest {s u : State} (h : u.rest besideEngines = s.rest besideEngines) : u.frameResult = s.frameResult := by
  have hs := State.sameBut_of_rest h
  unfold State.frameResult
  rw [hs.eng (by decide), hs.fr (by decide)]

theorem opWriteDo_frameResult (ch : Nat) (st : Bool) (s : State) : (opWriteDo ch st s).1.frameResult = s.frameResult := by
  unfold opWriteDo
  split_ifs <;> rfl

theorem opWriteAo_frameResult (ch : Nat) (v : Int) (s : State) : (opWriteAo ch v s).1.frameResult = s.frameResult := by
  unfold opWriteAo
  split_ifs <;> rfl

theorem opClearTotal_frameResult (ch : Nat) (s : State) : (opClearTotal ch s).1.frameResult = s.frameResult := by
  unfold opClearTotal
  split_ifs <;> rfl

theorem runOp_frameResult (op : Op) (torn : Bool) (c : Caller) (s : State) : (runOp op torn c s).1.frameResult = s.frameResult := by
  cases op with
  | writeDo ch st => exact opWriteDo_frameResult ch st s
  | writeAo ch v => exact opWriteAo_frameResult ch v s
  | clearTotal ch => exact opClearTotal_frameResult ch s
  | clearFrameStatus => rfl
  | _ => exact State.frameResult_of_rest (by simp (disch := decide) [runOp])

theorem State.runReply_frameResult (c : Caller) (o : Op) (torn : Bool) (s : State) :
    (State.runReply c o torn s).frameResult = s.frameResult := by
  unfold State.runReply
  dsimp only
  split
  · exact State.frameResult_of_rest (by simp (disch := decide))
  · refine (State.frameResult_of_rest ?_).trans (runOp_frameResult o torn c s)
    rw [State.activeSends_rest _ _ (by decide), State.settle_rest _ _ _ (by decide) fun _ => by decide]

theorem State.runCmd_frameResult (traced torn : Bool) (code opcode : Nat) (h : PktHead) (op : Option Op) (s : State) :
    (State.runCmd traced torn code opcode h op s).frameResult = s.frameResult := by
  unfold State.runCmd
  dsimp only
  split
  · exact State.frameResult_of_rest (by simp (disch := decide))
  split
  · split
    · exact State.frameResult_of_rest (by simp (disch := decide))
    · split
      · exact State.frameResult_of_rest (by simp (disch := decide))
      · exact (State.runReply_frameResult ..).trans (State.frameResult_of_rest (by simp (disch := decide)))
  split
  · exact State.frameResult_of_rest (by simp (disch := decide))
  split
  · exact State.frameResult_of_rest (by simp (disch := decide))
  · exact State.frameResult_of_rest (by simp (disch := decide))
  · exact State.frameResult_of_rest (by simp (disch := decide))
  · split
    · exact State.frameResult_of_rest (by simp (disch := decide))
    · split
      · exact (State.runReply_frameResult ..).trans (State.frameResult_of_rest (by simp (disch := decide)))
      · exact State.frameResult_of_rest (by simp (disch := decide))

theorem State.runPacket_frameResult (traced : Bool) (code ip udp : Nat) (bytes : List Byte) (s : State) :
    (State.runPacket traced code ip udp bytes s).frameResult = s.frameResult := by
  unfold State.runPacket
  split
  · dsimp only
    split
    · exact (State.frameResult_of_rest (State.activeSends_rest _ _ (by decide))).trans (State.runCmd_frameResult ..)
    · exact State.runCmd_frameResult ..
  · rfl

theorem State.withinTrace_frameResult {f : State → State} (hf : ∀ x, (f x).frameResult = x.frameResult) (s : State) :
    (s.withinTrace f).frameResult = s.frameResult := by
  unfold State.withinTrace
  split
  · exact hf _
  · rfl

theorem State.engEvs_frameResult (e : Nat) (l : List EvReq) (s : State) : (s.engEvs e l).frameResult = s.frameResult := by
  unfold State.engEvs
  split <;> rfl

theorem State.hartEntry_frameResult (m : Nat) (bytes : List Byte) (s : State) : (s.hartEntry m bytes).frameResult = s.frameResult := by
  unfold State.hartEntry
  split
  · dsimp only
    split
    · rfl
    · exact State.engEvs_frameResult ..
  · rfl

/-- No entry writes a result, a DI state or an END, nor the frame's number (R54). -/
theorem State.runEntry_frameResult (e : Entry) (s : State) : (s.runEntry e).frameResult = s.frameResult := by
  unfold State.runEntry
  split
  · split
    · exact State.withinTrace_frameResult (fun x => State.runPacket_frameResult ..) s
    · exact State.runPacket_frameResult ..
  · exact State.frameResult_of_rest (State.canEntry_rest _ _ _ (by decide))
  · exact State.hartEntry_frameResult ..
  · rfl
  · rfl

theorem State.ageDevices_frameResult (s : State) : s.ageDevices.frameResult = s.frameResult := rfl

theorem State.runWaiting_frameResult (s : State) : s.runWaiting.frameResult = s.frameResult := by
  have hwaited (x : State) (w : PktHead × Op) : (x.runWaited w).frameResult = x.frameResult := by
    unfold State.runWaited
    dsimp only
    split
    · exact State.frameResult_of_rest (State.standbyCmd_rest _ _ _ _ (by decide))
    · exact State.runCmd_frameResult ..
  exact (foldl_keep State.frameResult State.runWaited hwaited _ _).trans rfl

/-! ## The receive queues -/

theorem State.admitPacket_frameResult (code ip udp : Nat) (bytes : List Byte) (p : Packet) (s : State) :
    (s.admitPacket code ip udp bytes p).frameResult = s.frameResult := by
  unfold State.admitPacket
  extract_lets op now
  split
  · exact State.frameResult_of_rest (by simp (disch := decide))
  · split
    · exact State.runPacket_frameResult ..
    · exact State.frameResult_of_rest (by simp (disch := decide))

theorem State.packetIn_frameResult (i ip udp : Nat) (bytes : List Byte) (s : State) :
    (s.packetIn i ip udp bytes).frameResult = s.frameResult := by
  unfold State.packetIn
  split
  · rfl
  · exact State.admitPacket_frameResult ..

theorem State.udpIn_frameResult (i src sport dst dport : Nat) (whole : Bool) (data : List Byte) (s : State) :
    (s.udpIn i src sport dst dport whole data).frameResult = s.frameResult := by
  unfold State.udpIn
  split
  · split
    · rfl
    · split
      · rfl
      · exact State.packetIn_frameResult ..
  · exact State.frameResult_of_rest (by simp (disch := decide))

theorem State.fragmentIn_frameResult (i src dst ident off : Nat) (more : Bool) (data : List Byte) (s : State) :
    (s.fragmentIn i src dst ident off more data).frameResult = s.frameResult := by
  unfold State.fragmentIn
  dsimp only
  split
  · rfl
  · exact (State.udpIn_frameResult ..).trans rfl

theorem State.ethIn_frameResult (i : Nat) (m : EthMsg) (s : State) : (s.ethIn i m).frameResult = s.frameResult := by
  unfold State.ethIn
  split
  · rfl
  cases m with
  | udp src sport dst dport data =>
    dsimp only
    split
    · exact State.udpIn_frameResult ..
    · rfl
  | fragment src dst ident off more data =>
    dsimp only
    split
    · exact State.fragmentIn_frameResult ..
    · rfl
  | _ => exact State.frameResult_of_rest (by simp (disch := decide))

theorem State.drainPorts_frameResult (s : State) : s.drainPorts.frameResult = s.frameResult := by
  have htake (i : Nat) (x : State) (r : RxItem) : (x.takeRx i r).frameResult = x.frameResult := by
    cases r with
    | message b => exact State.packetIn_frameResult ..
    | frame m => exact State.ethIn_frameResult ..
  have hport (x : State) (i : Nat) : (x.drainPort i).frameResult = x.frameResult := by
    unfold State.drainPort
    split
    · rfl
    · exact (foldl_keep State.frameResult (State.takeRx i) (htake i) _ _).trans rfl
  exact foldl_keep State.frameResult State.drainPort hport _ _

/-! ## One channel of the evaluation -/

/-- DI state and result of channel `c`. -/
def State.channelResult (c : Nat) (s : State) : DiCh × Rec := (tabGet {} s.eng.di c, tabGet 0#128 s.eng.res c)

theorem State.res_eq_channelResult (c : Nat) (s : State) : tabGet 0#128 s.eng.res c = (s.channelResult c).2 := rfl

/-- END entries that have arrived, and engines that withhold theirs. -/
def State.ending (s : State) : Nat × Nat := (s.eng.ends, s.eng.silentHold)

section
variable (s : State)

@[simp] theorem State.engEvs_channelResult (c e : Nat) (l : List EvReq) : (s.engEvs e l).channelResult c = s.channelResult c := by
  unfold State.engEvs
  split <;> rfl

@[simp] theorem State.engEvs_ending (e : Nat) (l : List EvReq) : (s.engEvs e l).ending = s.ending := by
  unfold State.engEvs
  split <;> rfl

@[simp] theorem State.setRes_ending (k : Nat) (r : Rec) : (s.setRes k r).ending = s.ending := rfl

theorem State.setRes_channelResult {c k : Nat} (hk : k ≠ c) (r : Rec) : (s.setRes k r).channelResult c = s.channelResult c := by
  unfold State.channelResult State.setRes
  rw [State.modEng_eng, tabGet_set_ne _ _ _ hk]

@[simp] theorem State.setHart_channelResult (c k : Nat) (h : HartCh) : (s.setHart k h).channelResult c = s.channelResult c := by
  unfold State.setHart
  split <;> rfl

@[simp] theorem State.setHart_ending (k : Nat) (h : HartCh) : (s.setHart k h).ending = s.ending := by
  unfold State.setHart
  split <;> rfl

theorem State.beginService_eng (k : Nat) (b : Bool) : (s.beginService k b).eng = s.eng := by
  unfold State.beginService
  split <;> rfl

@[simp] theorem State.beginService_channelResult (c k : Nat) (b : Bool) : (s.beginService k b).channelResult c = s.channelResult c := by
  unfold State.channelResult
  rw [State.beginService_eng]

@[simp] theorem State.beginService_ending (k : Nat) (b : Bool) : (s.beginService k b).ending = s.ending := by
  unfold State.ending
  rw [State.beginService_eng]

end

section
variable {c k : Nat} (hk : k ≠ c) (s : State)
include hk

theorem State.evalAna_channelResult : (s.evalAna k).channelResult c = s.channelResult c := by
  unfold State.evalAna
  rw [State.engEvs_channelResult, State.setRes_channelResult _ hk]
  exact (State.beginService_channelResult ..).trans (State.setHart_channelResult ..)

theorem State.evalPair_channelResult (hk1 : k + 1 ≠ c) : (s.evalPair k).channelResult c = s.channelResult c := by
  unfold State.evalPair
  rw [State.engEvs_channelResult, State.setRes_channelResult _ hk1, State.setRes_channelResult _ hk]
  refine (State.beginService_channelResult ..).trans ?_
  rw [State.beginService_channelResult, State.setHart_channelResult, State.setHart_channelResult]

theorem State.evalAo_channelResult : (s.evalAo k).channelResult c = s.channelResult c := by
  unfold State.evalAo
  rw [State.engEvs_channelResult, State.setRes_channelResult _ hk]
  exact (State.beginService_channelResult ..).trans (State.setHart_channelResult ..)

theorem State.evalDi_channelResult : (s.evalDi k).channelResult c = s.channelResult c := by
  unfold State.evalDi
  rw [State.engEvs_channelResult, State.setRes_channelResult _ hk]
  unfold State.channelResult
  rw [State.modEng_eng, tabGet_set_ne _ _ _ hk]

theorem State.evalPi_channelResult : (s.evalPi k).channelResult c = s.channelResult c := by
  unfold State.evalPi
  rw [State.engEvs_channelResult, State.setRes_channelResult _ hk]
  rfl

theorem State.evalDo_channelResult (cmd : Bool) : (s.evalDo k cmd).channelResult c = s.channelResult c := by
  unfold State.evalDo
  rw [State.engEvs_channelResult, State.setRes_channelResult _ hk]
  rfl

/-- The evaluation of another channel writes neither state nor result of `c`, unless `c` is a half of its redundant pair (R127). -/
theorem State.evalChannel_channelResult (hpair : chPairFn s.im (c - c % 2) ≠ 2) : (s.evalChannel k).channelResult c = s.channelResult c := by
  unfold State.evalChannel
  split
  · rfl
  · exact s.evalAo_channelResult hk
  · exact s.evalDi_channelResult hk
  · split
    · rfl
    · exact s.evalDo_channelResult hk _
  · exact s.evalPi_channelResult hk
  · split
    · next h2 =>
      split
      · next hodd =>
        have hself : k - k % 2 ≠ c - c % 2 := fun he => hpair (he ▸ h2)
        exact s.evalPair_channelResult (by omega) (by omega)
      · rfl
    · exact s.evalAna_channelResult hk

end

/-- The result that a DI channel gets (R196). -/
theorem State.evalDi_result (c : Nat) (s : State) :
    tabGet 0#128 (s.evalDi c).eng.res c = (diEval c (s.recOf c) (s.staleOf c) (tabGet {} s.eng.di c)).res := by
  have hview := congrArg Prod.snd (State.engEvs_channelResult (((s.modEng fun e => { e with
    di := tabSet {} e.di c (diEval c (s.recOf c) (s.staleOf c) (tabGet {} s.eng.di c)).st }).setRes c
      (diEval c (s.recOf c) (s.staleOf c) (tabGet {} s.eng.di c)).res)) c (engineOf s.im c)
        (s.cosEvents c ++ (diEval c (s.recOf c) (s.staleOf c) (tabGet {} s.eng.di c)).ev))
  exact hview.trans (tabGet_set_self ..)

theorem State.evalChannel_of_di {c : Nat} (s : State) (hm : chMode s.im c = 7) : s.evalChannel c = s.evalDi c := by
  simp only [State.evalChannel, hm]

theorem State.evalChannel_ending (s : State) (k : Nat) : (s.evalChannel k).ending = s.ending := by
  have hana (x : State) (c : Nat) : (x.evalAna c).ending = x.ending := by
    rw [State.evalAna, State.engEvs_ending, State.setRes_ending]
    exact (State.beginService_ending ..).trans (State.setHart_ending ..)
  have hao (x : State) (c : Nat) : (x.evalAo c).ending = x.ending := by
    rw [State.evalAo, State.engEvs_ending, State.setRes_ending]
    exact (State.beginService_ending ..).trans (State.setHart_ending ..)
  have hpair (x : State) (c : Nat) : (x.evalPair c).ending = x.ending := by
    rw [State.evalPair, State.engEvs_ending, State.setRes_ending, State.setRes_ending]
    refine (State.beginService_ending ..).trans ?_
    rw [State.beginService_ending, State.setHart_ending, State.setHart_ending]
  unfold State.evalChannel
  split
  · rfl
  · exact hao s k
  · exact State.engEvs_ending ..
  · split
    · rfl
    · exact State.engEvs_ending ..
  · exact State.engEvs_ending ..
  · split
    · split
      · exact hpair s _
      · rfl
    · exact hana s k

/-! ## The evaluation -/

/-- A fold that reaches `a` once turns what holds until then into what holds from then on. -/
theorem foldl_visits {α β : Type} {P Q : β → Prop} {f : β → α → β} {l : List α} {a : α} (hl : l.Nodup) (ha : a ∈ l)
    (hpre : ∀ b x, x ≠ a → P b → P (f b x)) (hat : ∀ b, P b → Q (f b a)) (hpost : ∀ b x, x ≠ a → Q b → Q (f b x)) {b : β}
    (hb : P b) : Q (l.foldl f b) := by
  obtain ⟨front, back, rfl⟩ := List.append_of_mem ha
  have hnot : a ∉ front ++ back := (List.nodup_cons.1 (List.nodup_middle.1 hl)).1
  simp only [List.mem_append, not_or] at hnot
  rw [List.foldl_append, List.foldl_cons]
  have hfront := List.foldlRecOn (motive := P) front f hb fun b hb x hx => hpre b x (fun he => hnot.1 (he ▸ hx)) hb
  exact List.foldlRecOn (motive := Q) back f (hat _ hfront) fun b hb x hx => hpost b x (fun he => hnot.2 (he ▸ hx)) hb

section
variable (s : State)

/-- Results, END entries and withheld ENDs: what the steps behind the channels leave. -/
def State.closing (s : State) : Tab Rec × Nat × Nat := (s.eng.res, s.ending)

theorem State.closing_of_eng {s u : State} (h : u.eng = s.eng) : u.closing = s.closing := by
  unfold State.closing State.ending
  rw [h]

theorem State.engEvs_closing (e : Nat) (l : List EvReq) : (s.engEvs e l).closing = s.closing := by
  unfold State.engEvs
  split <;> rfl

theorem State.supplyStep_closing (g : Nat) : (s.supplyStep g).closing = s.closing := by
  unfold State.supplyStep
  split
  · rfl
  · exact State.engEvs_closing ..

theorem State.seenStep_closing (b : Nat) : (s.seenStep b).closing = s.closing := State.engEvs_closing ..

theorem State.bistPoison_closing : s.bistPoison.closing = s.closing := by
  refine foldl_keep State.closing _ (fun x e => ?_) _ _
  split <;> rfl

/-- The channels in their engines, behind the direction of the safety inputs. -/
def State.evalChannels (s : State) : State := (List.range 512).foldl State.evalChannel ((List.range 32).foldl State.dirStep s)

theorem State.dirSteps_sameBut : s.sameBut [.safety] ((List.range 32).foldl State.dirStep s) :=
  State.sameBut_of_rest (foldl_rest s _ (fun x f => State.dirStep_rest x f (List.Subset.refl _)) _)

/-- What follows the channels writes no result and no END. -/
theorem State.evaluate_closing : s.evaluate.closing = s.evalChannels.closing := by
  unfold State.evaluate
  extract_lets s1 s2 s3 s4 s5 s6
  have h3 : s3.closing = s2.closing := State.closing_of_eng ((State.sameBut_of_rest
    (foldl_rest s2 _ (fun x c => State.buttonStepOf_rest (ps := [.safety]) x c (by decide)) _)).eng (by decide))
  have h4 : s4.closing = s3.closing := State.closing_of_eng ((State.sameBut_of_rest
    (foldl_rest s3 _ (fun x f => State.fnPass1_rest (ps := [.safety]) x f (by decide)) _)).eng (by decide))
  have h5 : s5.closing = s4.closing := (foldl_keep State.closing State.seenStep State.seenStep_closing _ _).trans
    (foldl_keep State.closing State.supplyStep State.supplyStep_closing _ s4)
  have h6 : s6.closing = s5.closing := by
    simp only [s6]
    split
    · exact State.closing_of_eng ((State.sameBut_of_rest
        (foldl_rest s5 _ (fun x k => State.stationButton_rest (ps := [.alm]) x k (by decide)) _)).eng (by decide))
    · rfl
  exact ((((rfl : _ = s6.closing).trans h6).trans h5).trans h4).trans h3

theorem State.evaluate_res : s.evaluate.eng.res = s.evalChannels.eng.res := by
  have hclosing := s.evaluate_closing
  simp only [State.closing, Prod.mk.injEq] at hclosing
  exact hclosing.1

theorem State.evaluate_ending : s.evaluate.ending = s.ending := by
  have hclosing : s.evaluate.ending = s.evalChannels.ending := congrArg Prod.snd s.evaluate_closing
  rw [hclosing, State.evalChannels, foldl_keep State.ending State.evalChannel State.evalChannel_ending]
  unfold State.ending
  rw [s.dirSteps_sameBut.eng (by decide)]

/-- The result of a DI channel outside a redundant pair is that of its record (R196). -/
theorem State.evaluate_di {c : Nat} (hc : c < 512) (hm : chMode s.im c = 7) (hpair : chPairFn s.im (c - c % 2) ≠ 2) :
    tabGet 0#128 s.evaluate.eng.res c = (diEval c (s.recOf c) (s.staleOf c) (tabGet {} s.eng.di c)).res := by
  have hdir := s.dirSteps_sameBut
  rw [s.evaluate_res, State.evalChannels, State.res_eq_channelResult]
  generalize (List.range 32).foldl State.dirStep s = x at hdir ⊢
  have hdi : (x.channelResult c).1 = (s.channelResult c).1 := by
    unfold State.channelResult
    rw [hdir.eng (by decide)]
  refine (foldl_visits (f := State.evalChannel) (b := x)
    (P := fun y => y.im = s.im ∧ y.inp = s.inp ∧ (y.channelResult c).1 = (s.channelResult c).1)
    (Q := fun y => y.im = s.im ∧ (y.channelResult c).2 = (diEval c (s.recOf c) (s.staleOf c) (tabGet {} s.eng.di c)).res)
    List.nodup_range (List.mem_range.2 hc) (fun x k hk hx => ?_) (fun x hx => ?_) (fun x k hk hx => ?_)
    ⟨hdir.im (by decide), hdir.inp (by decide), hdi⟩).2
  · obtain ⟨him, hinp, hdi⟩ := hx
    have hkeep := State.sameBut_of_rest (State.evalChannel_rest (ps := [.blks, .eng]) x k (by decide))
    exact ⟨(hkeep.im (by decide)).trans him, (hkeep.inp (by decide)).trans hinp,
      (congrArg Prod.fst (State.evalChannel_channelResult hk x (him ▸ hpair))).trans hdi⟩
  · obtain ⟨him, hinp, hdi⟩ := hx
    have hkeep := State.sameBut_of_rest (State.evalChannel_rest (ps := [.blks, .eng]) x c (by decide))
    refine ⟨(hkeep.im (by decide)).trans him, ?_⟩
    rw [State.evalChannel_of_di x (him ▸ hm)]
    refine (State.evalDi_result c x).trans ?_
    rw [State.recOf, State.staleOf, hinp, show tabGet {} x.eng.di c = tabGet {} s.eng.di c from hdi]
    rfl
  · obtain ⟨him, hres⟩ := hx
    have hkeep := State.sameBut_of_rest (State.evalChannel_rest (ps := [.blks, .eng]) x k (by decide))
    exact ⟨(hkeep.im (by decide)).trans him, (congrArg Prod.snd (State.evalChannel_channelResult hk x (him ▸ hpair))).trans hres⟩

end

/-! ## END of the Cumulus engines (R62) -/

section
variable (s : State)

/-- END of an engine that does not withhold it; nobody's withholding changes. -/
theorem State.endUnheld_bits (e j : Nat) : (s.endUnheld e).eng.silentHold.testBit j = s.eng.silentHold.testBit j ∧
    (s.endUnheld e).eng.ends.testBit j = if e = j then s.eng.ends.testBit j || !s.eng.silentHold.testBit j else s.eng.ends.testBit j := by
  unfold State.endUnheld
  split
  · next h =>
    refine ⟨rfl, ?_⟩
    split
    · next he => rw [← he, h, Bool.not_true, Bool.or_false]
    · rfl
  · next h =>
    rw [State.endEngine_eng, testBit_setBit, testBit_setBit]
    split
    · next he => simp [← he, Bool.eq_false_iff.2 h]
    · exact ⟨rfl, rfl⟩

theorem State.endUnheld_res (e : Nat) : (s.endUnheld e).eng.res = s.eng.res := by
  unfold State.endUnheld
  split
  · rfl
  · rw [State.endEngine_eng]

theorem State.endCumulus_res : s.endCumulus.eng.res = s.eng.res :=
  foldl_keep (fun x => x.eng.res) (fun (x : State) g => (x.endUnheld (4 * g)).endUnheld (4 * g + 1))
    (fun x g => ((x.endUnheld (4 * g)).endUnheld_res (4 * g + 1)).trans (x.endUnheld_res (4 * g))) (List.range 4) s

theorem State.endCumulus_holds (j : Nat) : s.endCumulus.eng.silentHold.testBit j = s.eng.silentHold.testBit j :=
  foldl_keep (fun x => x.eng.silentHold.testBit j) (fun (x : State) g => (x.endUnheld (4 * g)).endUnheld (4 * g + 1))
    (fun x g => ((x.endUnheld (4 * g)).endUnheld_bits (4 * g + 1) j).1.trans (x.endUnheld_bits (4 * g) j).1) (List.range 4) s

theorem State.endCumulus_ends {g j : Nat} (hg : g < 4) (hj : j < 2) : s.endCumulus.eng.ends.testBit (4 * g + j) =
    (s.eng.ends.testBit (4 * g + j) || !s.eng.silentHold.testBit (4 * g + j)) := by
  refine foldl_visits
    (P := fun x : State => x.eng.silentHold.testBit (4 * g + j) = s.eng.silentHold.testBit (4 * g + j) ∧
      x.eng.ends.testBit (4 * g + j) = s.eng.ends.testBit (4 * g + j))
    (Q := fun x => x.eng.ends.testBit (4 * g + j) = (s.eng.ends.testBit (4 * g + j) || !s.eng.silentHold.testBit (4 * g + j)))
    List.nodup_range (List.mem_range.2 hg) (fun x k hk hx => ?_) (fun x hx => ?_) (fun x k hk hx => ?_) ⟨rfl, rfl⟩
  · obtain ⟨hheld, hends⟩ := hx
    obtain ⟨h1, e1⟩ := x.endUnheld_bits (4 * k) (4 * g + j)
    obtain ⟨h2, e2⟩ := (x.endUnheld (4 * k)).endUnheld_bits (4 * k + 1) (4 * g + j)
    rw [if_neg (by omega)] at e1 e2
    exact ⟨(h2.trans h1).trans hheld, (e2.trans e1).trans hends⟩
  · obtain ⟨hheld, hends⟩ := hx
    obtain ⟨h1, e1⟩ := x.endUnheld_bits (4 * g) (4 * g + j)
    obtain ⟨-, e2⟩ := (x.endUnheld (4 * g)).endUnheld_bits (4 * g + 1) (4 * g + j)
    rw [e2, h1, e1, hheld, hends]
    obtain rfl | rfl : j = 0 ∨ j = 1 := by omega
    · simp
    · simp
  · obtain ⟨-, e1⟩ := x.endUnheld_bits (4 * k) (4 * g + j)
    obtain ⟨-, e2⟩ := (x.endUnheld (4 * k)).endUnheld_bits (4 * k + 1) (4 * g + j)
    rw [if_neg (by omega)] at e1 e2
    exact (e2.trans e1).trans hx

end

/-! ## FRAME_EVALUATION_START -/

/-- The state in which the channels are evaluated: the entries of the frame and the requests that waited are done. -/
def State.beforeChannels (held : Nat) (s : State) : State :=
  let s1 := (((s.takeInputs.setPhase .evaluate).modEng fun e => { e with silentHold := held % 65536 }).activeSends
    [.inputsDone s.fr.frameNo]).regionChecks
  (s1.bothSides State.ownerStep1).ageDevices.runEntries.runWaiting

theorem State.startEvaluation_eq (held : Nat) (s : State) :
    s.startEvaluation held = (s.beforeChannels held).evaluate.bistPoison.endCumulus := rfl

section
variable (held : Nat) (s : State)

/-- Parts that entries, region checks and ownership may write before the channels are evaluated. -/
theorem State.beforeChannels_sameBut : (s.takeInputs.setPhase .evaluate).sameBut [.fr, .blks, .eng, .safety, .alm, .recd, .can, .twi,
    .power, .mem, .mdiag, .regs, .pair, .sess, .pend, .outbox, .owner, .portSt, .wire, .trace, .replay, .replayIn, .cfgEv, .rtcEv, .hdr,
    .staging, .nextCfg, .restage, .slotA, .slotB, .store, .trims] (s.beforeChannels held) := by
  refine State.sameBut_of_rest ?_
  unfold State.beforeChannels
  extract_lets s1
  rw [State.runWaiting_rest _ (by decide), State.runEntries_rest _ (by decide), State.ageDevices_rest _ (by decide),
    State.bothSides_rest _ _ (by decide) fun x => State.ownerStep1_rest x (by decide), State.regionChecks_rest _ (by decide),
    State.activeSends_rest _ _ (by decide), State.modEng_rest _ _ (by decide)]

/-- The engines before the channels: as the frame found them, with the ENDs that are to be withheld. -/
theorem State.beforeChannels_frameResult : (s.beforeChannels held).frameResult =
    (s.eng.di, s.eng.res, s.eng.ends, held % 65536, s.takeInputs.fr.frameNo, s.takeInputs.fr.strobeAt) := by
  have htake : s.takeInputs.eng = s.eng := (State.sameBut_of_rest (State.takeInputs_rest s (List.Subset.refl _))).eng (by decide)
  unfold State.beforeChannels
  extract_lets s1
  have h1 : s1.frameResult = (s.eng.di, s.eng.res, s.eng.ends, held % 65536, s.takeInputs.fr.frameNo, s.takeInputs.fr.strobeAt) := by
    refine (State.frameResult_of_rest ?_).trans (?_ : ((s.takeInputs.setPhase .evaluate).modEng fun e =>
      { e with silentHold := held % 65536 }).frameResult = _)
    · rw [State.regionChecks_rest _ (by decide), State.activeSends_rest _ _ (by decide)]
    · rw [← htake]
      rfl
  have howner : (s1.bothSides State.ownerStep1).frameResult = s1.frameResult :=
    State.frameResult_of_rest (State.bothSides_rest _ _ (by decide) fun x => State.ownerStep1_rest x (by decide))
  have hentries (x : State) : x.runEntries.frameResult = x.frameResult :=
    foldl_keep State.frameResult (fun x e => x.runEntry e) (fun x e => x.runEntry_frameResult e) _ x
  rw [State.runWaiting_frameResult, hentries, State.ageDevices_frameResult, howner, h1]

/-- What follows the entries writes no input, no image and no number of the frame. -/
theorem State.startEvaluation_sameBut : (s.beforeChannels held).sameBut [.blks, .eng, .safety, .alm, .trims, .recd, .regs]
    (s.startEvaluation held) := by
  refine State.sameBut_of_rest ?_
  rw [State.startEvaluation_eq, State.endCumulus_rest _ (by decide), State.bistPoison_rest _ (by decide), State.evaluate_rest _ (by decide)]

theorem State.startEvaluation_phase : (s.startEvaluation held).phase = .evaluate := by
  rw [(s.startEvaluation_sameBut held).phase (by decide), (s.beforeChannels_sameBut held).phase (by decide), State.setPhase_phase]

/-- The fields that the entries leave, one by one. -/
theorem State.beforeChannels_fields : (s.beforeChannels held).eng.di = s.eng.di ∧ (s.beforeChannels held).ending = (s.eng.ends, held % 65536) ∧
    (s.beforeChannels held).fr.frameNo = s.takeInputs.fr.frameNo ∧ (s.beforeChannels held).fr.strobeAt = s.takeInputs.fr.strobeAt := by
  have hview := s.beforeChannels_frameResult held
  simp only [State.frameResult, Prod.mk.injEq] at hview
  obtain ⟨hdi, -, hends, hhold, hno, hat⟩ := hview
  exact ⟨hdi, by rw [State.ending, hends, hhold], hno, hat⟩

/-- Results, ENDs and withheld ENDs once the channels are evaluated. -/
theorem State.evaluated_closing : (s.beforeChannels held).evaluate.bistPoison.eng.res = (s.beforeChannels held).evaluate.eng.res ∧
    (s.beforeChannels held).evaluate.bistPoison.eng.ends = s.eng.ends ∧
    (s.beforeChannels held).evaluate.bistPoison.eng.silentHold = held % 65536 := by
  have hpoison := (s.beforeChannels held).evaluate.bistPoison_closing
  have hend := ((s.beforeChannels held).evaluate_ending).trans (s.beforeChannels_fields held).2.1
  simp only [State.closing, State.ending, Prod.mk.injEq] at hpoison hend
  exact ⟨hpoison.1, hpoison.2.1.trans hend.1, hpoison.2.2.trans hend.2⟩

theorem State.startEvaluation_holds {e : Nat} (he : e < 16) : (s.startEvaluation held).eng.silentHold.testBit e = held.testBit e := by
  rw [State.startEvaluation_eq, State.endCumulus_holds, (s.evaluated_closing held).2.2, show 65536 = 2 ^ 16 from rfl, Nat.testBit_mod_two_pow,
    decide_eq_true he, Bool.true_and]

theorem State.startEvaluation_ends {g j : Nat} (hg : g < 4) (hj : j < 2) : (s.startEvaluation held).eng.ends.testBit (4 * g + j) =
    (s.eng.ends.testBit (4 * g + j) || !held.testBit (4 * g + j)) := by
  have hheld := s.startEvaluation_holds held (show 4 * g + j < 16 by omega)
  rw [State.startEvaluation_eq, State.endCumulus_holds] at hheld
  rw [State.startEvaluation_eq, State.endCumulus_ends _ hg hj, (s.evaluated_closing held).2.1, hheld]

/-- A unit that does not replay takes its inputs from the terminals, and a DI channel its result from its record (R196). -/
theorem State.startEvaluation_di {c : Nat} (hr : s.port.replay = false) (hc : c < 512) (hm : chMode s.im c = 7)
    (hpair : chPairFn s.im (c - c % 2) ≠ 2) : tabGet 0#128 (s.startEvaluation held).eng.res c =
      (diEval c (s.recOf c) (s.staleOf c) (tabGet {} s.eng.di c)).res := by
  have htake : s.takeInputs = s := if_neg (by simp [hr])
  have hkeep := s.beforeChannels_sameBut held
  rw [htake] at hkeep
  have him : (s.beforeChannels held).im = s.im := hkeep.im (by decide)
  have hmode : chMode (s.beforeChannels held).im c = 7 := by rw [him, hm]
  have hhalf : chPairFn (s.beforeChannels held).im (c - c % 2) ≠ 2 := by rwa [him]
  rw [State.startEvaluation_eq, State.endCumulus_res, (s.evaluated_closing held).1,
    State.evaluate_di _ hc hmode hhalf, (s.beforeChannels_fields held).1, State.recOf, State.staleOf, hkeep.inp (by decide)]
  rfl

theorem State.startEvaluation_clock (hr : s.port.replay = false) : (s.startEvaluation held).fr.frameNo = s.fr.frameNo ∧
    (s.startEvaluation held).fr.strobeAt = s.fr.strobeAt := by
  have htake : s.takeInputs = s := if_neg (by simp [hr])
  obtain ⟨-, -, hno, hat⟩ := s.beforeChannels_fields held
  rw [(s.startEvaluation_sameBut held).fr (by decide), hno, hat, htake]
  exact ⟨rfl, rfl⟩

/-- What the receive queues leave of the frame as they move again (R55). -/
theorem State.drainPorts_fields : s.drainPorts.eng.res = s.eng.res ∧ s.drainPorts.eng.ends = s.eng.ends ∧
    s.drainPorts.eng.silentHold = s.eng.silentHold ∧ s.drainPorts.fr.frameNo = s.fr.frameNo ∧ s.drainPorts.fr.strobeAt = s.fr.strobeAt := by
  have hview := s.drainPorts_frameResult
  simp only [State.frameResult, Prod.mk.injEq] at hview
  exact hview.2

theorem State.drainPorts_phase : s.drainPorts.phase = s.phase :=
  (State.sameBut_of_rest (State.drainPorts_rest s (List.Subset.refl _))).phase (by decide)

end

/-- FRAME_EVALUATION_START on a running unit that has its inputs. -/
theorem exec_frameEvaluationStart {t held : Nat} {s : State} (hm : s.mode = .running) (hp : s.phase = .gather)
    (hidle : s.idleStandby = false) (hin : s.inputsIn = true) :
    exec (.frameEvaluationStart t held) s = .next ((s.tick t).startEvaluation held).drainPorts := by
  have hidle' : (s.tick t).idleStandby = false := hidle
  have hin' : (s.tick t).inputsIn = true := hin
  dsimp only [exec, execFrameEvaluationStart]
  exact act_goes (f := fun x => (x.startEvaluation held).drainPorts) rfl (by simp [State.live, hm, hp, hidle', hin'])

/-- Settles O17: what entries and requests leave of the engines before the channels are evaluated, the result of a DI channel there, END
of the Cumulus engines behind it, and the receive queues last. -/
theorem evaluationStarts : Obligations.EvaluationStarts := by
  intro t held s hm hp hidle hin
  refine ⟨_, exec_frameEvaluationStart hm hp hidle hin, ?_⟩
  obtain ⟨hres, hends, hhold, hno, hat⟩ := State.drainPorts_fields ((s.tick t).startEvaluation held)
  rw [State.drainPorts_phase, hres, hends, hhold, hno, hat]
  refine ⟨State.startEvaluation_phase .., fun e he => State.startEvaluation_holds held _ he,
    fun g hg j hj => State.startEvaluation_ends held _ hg hj, fun hr => ?_⟩
  obtain ⟨hframe, hstrobe⟩ := (s.tick t).startEvaluation_clock held hr
  exact ⟨hframe, hstrobe, fun c hc hmode hpair => (s.tick t).startEvaluation_di held hr hc hmode hpair⟩

end Sys2Proof.Machine
end

section
/-! PROOFS. Refused commits (R92, R331, R554): a packet that is refused with a record of the refusal, and what the refusal leaves of the
configuration and of the channels. -/

namespace Sys2Proof.Machine

/-! ## The configuration as a whole -/

/-- The parts of the configuration: the running image with its header, the staging image, what the next strobe takes, the stored
slots, a running store, and the trims. -/
def configParts : List Part := [.image, .hdr, .staging, .nextCfg, .restage, .slotA, .slotB, .store, .trims]

/-- What leaves each part of the configuration leaves the configuration. -/
theorem State.sameBut.cfg {ps : List Part} {s u : State} (h : s.sameBut ps u) (hps : ∀ p ∈ configParts, p ∉ ps) : u.cfg = s.cfg := by
  have himage : u.cfg.image = s.cfg.image := h.2.2 .image (hps _ (by decide))
  have hhdr : u.cfg.hdr = s.cfg.hdr := h.2.2 .hdr (hps _ (by decide))
  have hstaging : u.cfg.staging = s.cfg.staging := h.2.2 .staging (hps _ (by decide))
  have hnext : u.cfg.next = s.cfg.next := h.2.2 .nextCfg (hps _ (by decide))
  have hrestage : u.cfg.restage = s.cfg.restage := h.2.2 .restage (hps _ (by decide))
  have hslotA : u.cfg.slotA = s.cfg.slotA := h.2.2 .slotA (hps _ (by decide))
  have hslotB : u.cfg.slotB = s.cfg.slotB := h.2.2 .slotB (hps _ (by decide))
  have hstore : u.cfg.store = s.cfg.store := h.2.2 .store (hps _ (by decide))
  have htrims : u.cfg.trims = s.cfg.trims := h.2.2 .trims (hps _ (by decide))
  calc u.cfg = ⟨u.cfg.image, u.cfg.hdr, u.cfg.staging, u.cfg.next, u.cfg.restage, u.cfg.slotA, u.cfg.slotB, u.cfg.store, u.cfg.trims⟩ := rfl
    _ = s.cfg := by rw [himage, hhdr, hstaging, hnext, hrestage, hslotA, hslotB, hstore, htrims]

/-! ## A packet that is refused with a record -/

theorem State.cfgEv_sameBut (e : EvReq) (s : State) : s.sameBut [.cfgEv] (s.cfgEv e) :=
  State.sameBut_of_rest (s.cfgEv_rest e (by decide))

/-- A part that serving a packet leaves, and that is not the records of the configuration, is none of those that a recorded refusal
writes. -/
theorem not_mem_recordedParts {h : PktHead} {p : Part}
    (hp : p ∉ [.can, .sess, .pend, .outbox, .owner, .portSt, .wire, .trace, .cfgEv]) : p ∉ servingParts h ++ [.cfgEv] := by
  unfold servingParts
  split <;> simp_all

section
variable {h : PktHead} {op : Op} {torn : Bool} {s : State} {e : EvReq} {st : Nat} {b : List Byte}

/-- An opcode that only records `e` and answers at once adds that record to those of the frame and has no other effect of its own. -/
theorem runRow_recorded (hr : s.ready h (opCode op)) (hA : opAlarm op = false) (hw : op ≠ .warmRestart)
    (ho : runOp op torn (makeCaller (s.codeOf h.port) h.session (opCode op) h) (s.accepted h (opCode op)) =
      ((s.accepted h (opCode op)).cfgEv e, .now st b)) :
    ∃ u, runRow h true true torn op s = .next u ∧ s.replied u h (opCode op) st b ∧ u.port.cfgEv = s.port.cfgEv ++ [e] ∧
      s.served u h [.cfgEv] := by
  have hq := State.cfgEv_sameBut e (s.accepted h (opCode op))
  obtain ⟨u, hu, hreply, howner, hsame⟩ := runRow_now hr (by simp [hA]) ho (State.tame_of_sameBut hq (by decide)) hw
  have hrecord : u.port.cfgEv = s.port.cfgEv ++ [e] := calc
    u.port.cfgEv = (s.accepted h (opCode op)).port.cfgEv ++ [e] := hsame.cfgEv (not_mem_replyParts (by decide))
    _ = s.port.cfgEv ++ [e] := by rw [(s.accepted_sameBut h (opCode op)).cfgEv (by decide)]
  exact ⟨u, hu, hreply, hrecord, State.served_of hq howner hsame rfl⟩

end

/-! ## COMMIT -/

/-- Acceptance of a packet leaves what the commit rules ask about the unit. -/
theorem State.accepted_facts (h : PktHead) (opc : Nat) (s : State) : (s.accepted h opc).facts = s.facts := by
  have hhold : (s.accepted h opc).partnerHold = s.partnerHold := by unfold State.partnerHold; rw [State.accepted_unt]
  simp [State.facts, hhold, State.isWitness, State.fwCrc, State.im]

/-- COMMIT of a staging image in which a stage of R331 finds a fault: it records the refusal (R554) and answers with the fault. -/
theorem opCommit_refused {c : Caller} {s : State} {st : Nat} {body : List Byte} (hc : commitCheck s.cfg.staging s.facts = some (st, body)) :
    opCommit c s = (s.cfgEv { code := 0x0302, src := c.code, p1 := st, p2 := (refusalParams st body).1, p3 := (refusalParams st body).2 },
      .now st body) := by
  simp only [opCommit, hc]

/-- Settles O9: the refusal writes its record and what serves the packet, and neither the configuration nor the engines, blocks and
inputs are among those parts. -/
theorem refusedCommitsChangeNothing : Obligations.RefusedCommitsChangeNothing := by
  intro h s st body hr hc
  have hc' : commitCheck (s.accepted h 0x0203).cfg.staging (s.accepted h 0x0203).facts = some (st, body) := by
    rw [State.accepted_cfg, State.accepted_facts, hc]
  obtain ⟨u, hu, hreply, hrecord, hserved⟩ := runRow_recorded (op := .commit) (torn := false) hr rfl (by decide) (opCommit_refused hc')
  have hsame := hserved.2
  exact ⟨u, hu, hreply, hsame.cfg fun p hp => not_mem_recordedParts (by revert p; decide), hsame.eng (not_mem_recordedParts (by decide)),
    hsame.blks (not_mem_recordedParts (by decide)), hsame.inp (not_mem_recordedParts (by decide)), hrecord, hserved⟩

end Sys2Proof.Machine
end

section
/-! PROOFS. Conversions, the self-test slot, long blanks, connector sensors and excitation events (R97, R100, R105 to R108, R112, R136):
each acts on the channel of the entry in progress, and then the sequencer of its block goes on. -/

namespace Sys2Proof.Machine

/-! ## A cell and a sequencer after a write -/

section
variable (s : State) (k : Nat)

theorem State.acqOf_modAcq (f : AcqCh → AcqCh) : (s.modAcq k f).acqOf k = f (s.acqOf k) := tabGet_mod_self ..
theorem State.seqOf_modSeq (f : BlkAcq → BlkAcq) : (s.modSeq k f).seqOf k = f (s.seqOf k) := tabGet_mod_self ..
theorem State.blkOf_modBlk (f : Blk → Blk) : (s.modBlk k f).blkOf k = f (s.blkOf k) := tabGet_mod_self ..
theorem State.digOf_modDig (f : DigCell → DigCell) : (s.modDig k f).digOf k = f (s.digOf k) := tabGet_mod_self ..
theorem State.outOf_modOut (f : OutCell → OutCell) : (s.modOut k f).outOf k = f (s.outOf k) := tabGet_mod_self ..

theorem State.acqOf_modAcq_ne {k c : Nat} (h : c ≠ k) (f : AcqCh → AcqCh) : (s.modAcq k f).acqOf c = s.acqOf c :=
  tabGet_mod_ne _ _ _ h.symm

end

/-- What a command that keeps to block `b` leaves of the sequencers. -/
theorem BlkPart.onlyBlock.seqOf {s u : State} {b k : Nat} (h : s.blks.onlyBlock b u.blks) (hk : k ≠ b) : u.seqOf k = s.seqOf k :=
  have ⟨_, hblk, _⟩ := h
  (hblk k hk).1

theorem isBlk_of_lt {b : Nat} (h : b < 64) : isBlk b = true := decide_eq_true h

/-! ## The sequencer goes on -/

theorem State.nextSlot_seqOf (b : Nat) (s : State) : (s.nextSlot b).seqOf b = blkAdvance (s.bim b) b (s.seqOf b) s.blanked :=
  State.seqOf_modSeq ..

theorem State.nextSlot_onlyBlock (b : Nat) (s : State) : s.blks.onlyBlock b (s.nextSlot b).blks := s.modSeq_onlyBlock b _

/-! ## CONVERSION_COMPLETE (R97) -/

/-- An entry in progress is of a channel of its block. -/
theorem State.converting_block {s : State} {b c : Nat} (h : s.converting b = some c) : c / 8 = b := by
  unfold State.converting at h
  split at h
  · cases h
  · exact of_decide_eq_true (Option.filter_eq_some_iff.1 h).2

/-- What is kept of the channel for a latch in the same cycle (R101) is no cell of a block. -/
theorem State.modAcqWas_onlyBlock (b : Nat) (s : State) (f : BlkPart → Tab AcqCh) :
    s.blks.onlyBlock b (s.modBlks fun k => { k with acqWas := f k }).blks :=
  ⟨fun _ _ => ⟨rfl, rfl, rfl, rfl, rfl⟩, fun _ _ => ⟨rfl, rfl, rfl⟩, rfl, rfl⟩

section
variable (c : Nat) (lo hi tone : Int) (ovLo ovHi compl : Bool) (s : State)

theorem State.convert_acqOf : (s.convert c lo hi tone ovLo ovHi compl).acqOf c =
    blkConvert (s.cim c) c s.now (s.seqOf (c / 8)) (s.blanked c) lo hi tone ovLo ovHi compl (s.acqOf c) := State.acqOf_modAcq ..

theorem State.convert_acqOf_ne {k : Nat} (h : k ≠ c) : (s.convert c lo hi tone ovLo ovHi compl).acqOf k = s.acqOf k :=
  State.acqOf_modAcq_ne _ h _

theorem State.convert_seqOf : (s.convert c lo hi tone ovLo ovHi compl).seqOf (c / 8) =
    blkAdvance (s.cim c) (c / 8) (s.seqOf (c / 8)) s.blanked := State.nextSlot_seqOf ..

theorem State.convert_onlyBlock : s.blks.onlyBlock (c / 8) (s.convert c lo hi tone ovLo ovHi compl).blks :=
  ((s.modAcqWas_onlyBlock _ _).trans (State.modAcq_onlyBlock rfl _ _)).trans (State.nextSlot_onlyBlock _ _)

end

section
variable {t b : Nat} {lo hi tone : Int} {ov : PathOver} {compl : Bool} {s : State} (hb : b < 64) (hruns : s.blkRuns b = true)
  (hpos : (s.seqOf b).pos < 16)
include hb hruns hpos

/-- The window of an entry closes on the channel of the entry. -/
theorem conversionComplete_goes {c : Nat} (hc : s.converting b = some c) :
    exec (.conversionComplete t b lo hi tone ov compl) s = .next ((s.tick t).convert c lo hi tone ov.lo ov.hi compl) := by
  have htick : (s.tick t).converting b = some c := hc
  dsimp only [exec, execConversionComplete]
  rw [act_goes (isBlk_of_lt hb) (Bool.and_eq_true_iff.2 ⟨hruns, decide_eq_true hpos⟩), htick]

/-- The window of an entry whose channel was re-initialised gives no result. -/
theorem conversionComplete_passes (hc : s.converting b = none) :
    exec (.conversionComplete t b lo hi tone ov compl) s = .next ((s.tick t).nextSlot b) := by
  have htick : (s.tick t).converting b = none := hc
  dsimp only [exec, execConversionComplete]
  rw [act_goes (isBlk_of_lt hb) (Bool.and_eq_true_iff.2 ⟨hruns, decide_eq_true hpos⟩), htick]

end

/-! ## SELF_TEST_SLOT (R100) -/

/-- The next entry takes over the step of the self-test rotation. -/
theorem blkAdvance_step (im : Image) (b : Nat) (q : BlkAcq) (taint : Nat → Bool) : (blkAdvance im b q taint).step = q.step := rfl

/-- A self-test slot runs one step of the rotation. -/
theorem blkSelfTest_step (im : Image) (b : Nat) (q : BlkAcq) (lo hi : Int) : (blkSelfTest im b q lo hi).step = (q.step + 1) % 4 := by
  unfold blkSelfTest
  split <;> rfl

theorem State.modBdiag_onlyBlock (b : Nat) (s : State) (f : BlkDiag → BlkDiag) : s.blks.onlyBlock b (s.modBdiag b f).blks :=
  ⟨fun _ _ => ⟨rfl, rfl, rfl, rfl, rfl⟩, fun _ hk => ⟨rfl, rfl, tabGet_mod_ne _ _ _ hk.symm⟩, rfl, rfl⟩

section
variable (b : Nat) (lo hi : Int) (s : State)

theorem State.selfTest_seqOf : (s.selfTest b lo hi).seqOf b =
    blkAdvance (s.bim b) b (blkSelfTest (s.bim b) b (s.seqOf b) lo hi) s.blanked :=
  (State.nextSlot_seqOf b _).trans (congrArg (blkAdvance (s.bim b) b · s.blanked) (s.seqOf_modSeq b _))

theorem State.selfTest_onlyBlock : s.blks.onlyBlock b (s.selfTest b lo hi).blks :=
  ((s.modSeq_onlyBlock b _).trans (State.nextSlot_onlyBlock b _)).trans (State.modBdiag_onlyBlock b _ _)

end

theorem selfTestSlot_goes {t b : Nat} {lo hi : Int} {s : State} (hb : b < 64) (hruns : s.blkRuns b = true) (hpos : 16 ≤ (s.seqOf b).pos) :
    exec (.selfTestSlot t b lo hi) s = .next ((s.tick t).selfTest b lo hi) := by
  dsimp only [exec, execSelfTestSlot]
  exact act_goes (isBlk_of_lt hb) (Bool.and_eq_true_iff.2 ⟨hruns, decide_eq_true hpos⟩)

/-! ## BLANK_LONG and CJC_READING (R112, R136) -/

theorem acqBlankLong_running {im : Image} {c now since : Nat} {a : AcqCh} (h : a.blankFrom = some since) :
    acqBlankLong im c now a = if since + msC (100 * chBlankMax im c) < now then { a with blankLong := true } else a := by
  unfold acqBlankLong
  rw [h]

theorem blankLong_goes {t c : Nat} {s : State} (hc : c < 512) (hruns : s.blkRuns (c / 8) = true) :
    exec (.blankLong t c) s = .next ((s.tick t).modAcq c (acqBlankLong (s.cim c) c (max s.now t))) := by
  dsimp only [exec, execBlankLong]
  exact act_goes (c := fun s => s.blkRuns (c / 8)) (decide_eq_true hc) hruns

/-! ## EXCITATION_EVENT (R105 to R108) -/

/-- A blanked or tainted entry neither restarts nor counts (R106, R110). -/
theorem excAct_of_blank {q : BlkAcq} {blanked : Bool} (h : blanked = true ∨ q.tainted = true) (opened : Bool) :
    excAct q blanked opened = .nothing := by
  rcases h with h | h <;> simp [excAct, h]

/-- Events before the window opens count once (R108). -/
theorem excAct_of_early {q : BlkAcq} {opened : Bool} (hq : q.early = true) (ho : opened = false) (blanked : Bool) :
    excAct q blanked opened = .nothing := by
  simp [excAct, hq, ho]

/-- An event that counts restarts the entry twice and then ends it (R107). -/
theorem excAct_of_counted {q : BlkAcq} {blanked opened : Bool} (hblank : blanked = false) (htaint : q.tainted = false)
    (hcounts : q.early = false ∨ opened = true) :
    excAct q blanked opened = if q.starts < 2 then .restart else .finish := by
  rcases hcounts with h | h <;> simp [excAct, hblank, htaint, h]

/-- The effect of an excitation event on the entry of channel `c`. -/
def State.excited (c : Nat) (opened : Bool) (s : State) : State :=
  match excAct (s.seqOf (c / 8)) (s.blanked c) opened with
  | .nothing => s
  | .restart => s.restartEntry c opened
  | .finish => s.dropEntry c

theorem excitationEvent_goes {t c : Nat} {opened compl : Bool} {s : State} (hb : c / 8 < 64) (hruns : s.blkRuns (c / 8) = true)
    (hc : s.converting (c / 8) = some c) (hexc : compl = true → usesExc (s.cim c) c = true) :
    exec (.excitationEvent t (c / 8) opened compl) s = .next ((s.tick t).excited c opened) := by
  have htick : (s.tick t).converting (c / 8) = some c := hc
  have hserves : (!compl || usesExc ((s.tick t).cim c) c) = true := by
    cases compl with
    | false => rfl
    | true => exact hexc rfl
  dsimp only [exec, execExcitationEvent]
  rw [act_goes (isBlk_of_lt hb) (by rw [htick]; exact Bool.and_eq_true_iff.2 ⟨hruns, hserves⟩), htick]
  rfl

section
variable {c : Nat} {opened : Bool} {s : State}

theorem State.excited_of_nothing (h : excAct (s.seqOf (c / 8)) (s.blanked c) opened = .nothing) : s.excited c opened = s := by
  rw [State.excited, h]

variable (hblank : s.blanked c = false) (htaint : (s.seqOf (c / 8)).tainted = false)
  (hcounts : (s.seqOf (c / 8)).early = false ∨ opened = true)
include hblank htaint hcounts

theorem State.excited_restarts (h : (s.seqOf (c / 8)).starts < 2) : s.excited c opened = s.restartEntry c opened := by
  rw [State.excited, excAct_of_counted hblank htaint hcounts, if_pos h]

theorem State.excited_ends (h : 2 ≤ (s.seqOf (c / 8)).starts) : s.excited c opened = s.dropEntry c := by
  rw [State.excited, excAct_of_counted hblank htaint hcounts, if_neg (Nat.not_lt.2 h)]

end

/-- A run that ends leaves no conversion to pair with where none was there. -/
theorem acqClose_unpaired {im : Image} {c now : Nat} {q : BlkAcq} {blanked : Bool} {a : AcqCh} (h : a.prev = none) :
    (acqClose im c now q blanked a).prev = none := by
  unfold acqClose
  split
  · unfold acqRunEnd
    dsimp only
    split
    · split <;> exact h
    · rfl
  · split
    · dsimp only
      split
      · exact h
      · rfl
    · exact h

section
variable (c : Nat) (opened : Bool) (s : State)

theorem State.restartEntry_acqOf : (s.restartEntry c opened).acqOf c = { acqDiscard (s.acqOf c) with settling := true } := by
  simp [State.restartEntry, State.acqOf]

theorem State.restartEntry_acqOf_ne {k : Nat} (h : k ≠ c) : (s.restartEntry c opened).acqOf k = s.acqOf k := by
  simp [State.restartEntry, State.acqOf, h.symm]

theorem State.restartEntry_seqOf : (s.restartEntry c opened).seqOf (c / 8) =
    { s.seqOf (c / 8) with starts := (s.seqOf (c / 8)).starts + 1, early := !opened } := by
  simp [State.restartEntry, State.seqOf]

theorem State.restartEntry_cellOf : (s.restartEntry c opened).cellOf c =
    { s.cellOf c with restarts := (s.cellOf c).restarts + 1 } := by
  simp [State.restartEntry, State.cellOf]

theorem State.dropEntry_acqOf : (s.dropEntry c).acqOf c =
    acqClose (s.cim c) c s.now (s.seqOf (c / 8)) (s.blanked c) { acqDiscard (s.acqOf c) with settling := true } := by
  simp [State.dropEntry, State.nextSlot, State.acqOf]

theorem State.dropEntry_acqOf_ne {k : Nat} (h : k ≠ c) : (s.dropEntry c).acqOf k = s.acqOf k := by
  simp [State.dropEntry, State.nextSlot, State.acqOf, h.symm]

theorem State.dropEntry_seqOf : (s.dropEntry c).seqOf (c / 8) = blkAdvance (s.cim c) (c / 8) (s.seqOf (c / 8)) s.blanked :=
  State.nextSlot_seqOf ..

/-- An event that counts leaves no conversion to pair with, and no other channel changes (R106). -/
theorem State.excited_discards (hblank : s.blanked c = false) (htaint : (s.seqOf (c / 8)).tainted = false)
    (hcounts : (s.seqOf (c / 8)).early = false ∨ opened = true) : ((s.excited c opened).acqOf c).prev = none ∧
      ∀ k, k ≠ c → (s.excited c opened).acqOf k = s.acqOf k := by
  rcases Nat.lt_or_ge (s.seqOf (c / 8)).starts 2 with h | h
  · rw [State.excited_restarts hblank htaint hcounts h, State.restartEntry_acqOf]
    exact ⟨rfl, fun k hk => State.restartEntry_acqOf_ne c opened s hk⟩
  · rw [State.excited_ends hblank htaint hcounts h, State.dropEntry_acqOf]
    exact ⟨acqClose_unpaired rfl, fun k hk => State.dropEntry_acqOf_ne c s hk⟩

end

/-- Settles O31: each command by its effect on the entry in progress of its block. -/
theorem conversionsAndExcitation : Obligations.ConversionsAndExcitation := by
  refine ⟨⟨fun t b lo hi tone ovLo ovHi compl s hb hruns hpos => ?_, fun t b lo hi s hb hruns hpos => ?_,
    fun t ch since s hch hruns hfrom => ?_, fun t conn reading s hconn hmode => ?_⟩,
    fun t b c opened compl s hb hruns hc hexc => ?_⟩
  · cases hc : s.converting b with
    | some c =>
      obtain rfl := State.converting_block hc
      have hgoes := conversionComplete_goes (t := t) (lo := lo) (hi := hi) (tone := tone) (ov := ⟨ovLo, ovHi⟩) (compl := compl)
        hb hruns hpos hc
      have honly := (s.tick t).convert_onlyBlock c lo hi tone ovLo ovHi compl
      refine ⟨_, hgoes, State.convert_seqOf .., fun k hk => honly.seqOf hk, fun k hk => ?_, fun k hk => ?_, honly,
        (commandsWriteOnlyTheirParts _ _ _ hgoes).1⟩
      · obtain rfl := Option.some.inj hk
        exact State.convert_acqOf ..
      · exact State.convert_acqOf_ne _ _ _ _ _ _ _ _ fun h => hk (congrArg some h.symm)
    | none =>
      have hgoes := conversionComplete_passes (t := t) (lo := lo) (hi := hi) (tone := tone) (ov := ⟨ovLo, ovHi⟩) (compl := compl)
        hb hruns hpos hc
      have honly := (s.tick t).nextSlot_onlyBlock b
      exact ⟨_, hgoes, State.nextSlot_seqOf .., fun k hk => honly.seqOf hk, fun _ hk => (nomatch hk), fun _ _ => rfl, honly,
        (commandsWriteOnlyTheirParts _ _ _ hgoes).1⟩
  · have hgoes := selfTestSlot_goes (t := t) (lo := lo) (hi := hi) hb hruns hpos
    have hseq := (s.tick t).selfTest_seqOf b lo hi
    refine ⟨_, hgoes, hseq, ?_, rfl, (s.tick t).selfTest_onlyBlock b lo hi, (commandsWriteOnlyTheirParts _ _ _ hgoes).1⟩
    rw [hseq, blkAdvance_step]
    exact blkSelfTest_step ..
  · have hgoes := blankLong_goes (t := t) hch hruns
    refine ⟨_, hgoes, ?_, fun k hk => State.acqOf_modAcq_ne _ hk _, (commandsWriteOnlyTheirParts _ _ _ hgoes).1⟩
    rw [State.acqOf_modAcq]
    exact acqBlankLong_running hfrom
  · dsimp only [exec, execCjcReading]
    exact act_goes (decide_eq_true hconn) (decide_eq_true hmode)
  · obtain rfl := State.converting_block hc
    have hgoes := excitationEvent_goes (t := t) (opened := opened) hb hruns hc hexc
    refine ⟨_, hgoes, fun h => State.excited_of_nothing (excAct_of_blank h opened),
      fun he ho => State.excited_of_nothing (excAct_of_early he ho _), fun hblank htaint hcounts => ?_⟩
    obtain ⟨hprev, hother⟩ := (s.tick t).excited_discards c opened hblank htaint hcounts
    refine ⟨hprev, hother, (commandsWriteOnlyTheirParts _ _ _ hgoes).1, fun h => ?_, fun h => ?_⟩
    · rw [State.excited_restarts (s := s.tick t) hblank htaint hcounts h, State.restartEntry_acqOf, State.restartEntry_cellOf]
      exact ⟨State.restartEntry_seqOf .., rfl, rfl, rfl⟩
    · rw [State.excited_ends (s := s.tick t) hblank htaint hcounts h]
      exact ⟨State.dropEntry_seqOf .., rfl⟩

end Sys2Proof.Machine
end

section
/-! PROOFS. The BLANK line, debounced edges and test pulses (R87, R109 to R111, R190 to R193, R202): a change of what blanks a block
reaches each of its channels once, and an edge or a pulse acts on its own cell. -/

namespace Sys2Proof.Machine

/-! ## What a blanking state reaches (R110, R111) -/

/-- A state without its conversions: what a change of the blanking states leaves. -/
def State.withoutConversions (s : State) : State := s.modBlks fun k => { k with acq := [], seqr := [] }

section
variable {s u : State} (h : u.withoutConversions = s.withoutConversions)
include h
theorem now_of_withoutConversions : u.now = s.now := (congrArg State.now h :)
theorem cim_of_withoutConversions (c : Nat) : u.cim c = s.cim c := (congrArg (State.cim · c) h :)
theorem blanked_of_withoutConversions (c : Nat) : u.blanked c = s.blanked c := (congrArg (State.blanked · c) h :)
theorem inp_of_withoutConversions : u.inp = s.inp := (congrArg State.inp h :)
theorem dig_of_withoutConversions : u.blks.dig = s.blks.dig := (congrArg (fun x : State => x.blks.dig) h :)
theorem blank_of_withoutConversions : u.blks.blank = s.blks.blank := (congrArg (fun x : State => x.blks.blank) h :)
end

theorem mem_blkChannels (c : Nat) : c ∈ blkChannels (c / 8) :=
  List.mem_map.2 ⟨c % 8, List.mem_range.2 (Nat.mod_lt _ (by decide)), Nat.div_add_mod c 8⟩

theorem nodup_blkChannels (b : Nat) : (blkChannels b).Nodup :=
  List.nodup_range.map fun _ _ h => Nat.add_left_cancel h

/-- The blanking state of channel `k` takes effect on it, where it is an analog input. -/
def State.reblankCell (s u : State) (k : Nat) : State :=
  if isAnalogIn (chMode (s.cim k) k) then u.modAcq k (acqBlank s.now (s.blanked k)) else u

/-- What a channel holds once its blanking state has taken effect. -/
def State.acqBlanked (s : State) (c : Nat) : AcqCh :=
  if isAnalogIn (chMode (s.cim c) c) then acqBlank s.now (s.blanked c) (s.acqOf c) else s.acqOf c

section
variable (s : State)

theorem State.reblankCell_acqOf {u : State} {c : Nat} (h : u.acqOf c = s.acqOf c) : (s.reblankCell u c).acqOf c = s.acqBlanked c := by
  unfold State.reblankCell State.acqBlanked
  split
  · rw [State.acqOf_modAcq, h]
  · exact h

theorem State.reblankCell_acqOf_ne (u : State) {k c : Nat} (h : k ≠ c) : (s.reblankCell u k).acqOf c = u.acqOf c := by
  unfold State.reblankCell
  split
  · exact State.acqOf_modAcq_ne _ h.symm _
  · rfl

theorem State.reblankCell_withoutConversions (u : State) (k : Nat) : (s.reblankCell u k).withoutConversions = u.withoutConversions := by
  unfold State.reblankCell
  split <;> rfl

/-- The blanking states of the channels of a block take effect. -/
def State.reblankCells (b : Nat) : State := (blkChannels b).foldl s.reblankCell s

/-- A change of the blanking states of a block reaches its channels, which run under one image, and may mark the entry in progress. -/
theorem State.reblank_cases (b : Nat) : s.reblank b = s.reblankCells b ∨
    s.reblank b = (s.reblankCells b).modSeq b fun q => { q with tainted := true } := by
  have hcells : (blkChannels b).foldl (fun x c =>
      if isAnalogIn (chMode (s.bim b) c) then x.modAcq c (acqBlank s.now (s.blanked c)) else x) s = s.reblankCells b := by
    refine List.foldl_ext _ _ _ fun x c hc => ?_
    rw [State.reblankCell, State.cim, div_of_blkChannels hc]
  unfold State.reblank
  rw [hcells]
  dsimp only
  split
  · split
    · exact .inr rfl
    · exact .inl rfl
  · exact .inl rfl

/-- It writes the conversions and the sequencer of the block only. -/
theorem State.reblank_withoutConversions (b : Nat) : (s.reblank b).withoutConversions = s.withoutConversions := by
  have hcells := foldl_keep State.withoutConversions s.reblankCell s.reblankCell_withoutConversions (blkChannels b) s
  rcases s.reblank_cases b with h | h <;> (rw [h]; exact hcells)

/-- The blanking state of a channel takes effect with its block. -/
theorem State.reblank_acqOf (c : Nat) : (s.reblank (c / 8)).acqOf c = s.acqBlanked c := by
  have hcells : ((blkChannels (c / 8)).foldl s.reblankCell s).acqOf c = s.acqBlanked c :=
    foldl_visits (P := fun u => u.acqOf c = s.acqOf c) (Q := fun u => u.acqOf c = s.acqBlanked c) (nodup_blkChannels _)
      (mem_blkChannels c) (fun u k hk hu => (s.reblankCell_acqOf_ne u hk).trans hu) (fun u hu => s.reblankCell_acqOf hu)
      (fun u k hk hu => (s.reblankCell_acqOf_ne u hk).trans hu) rfl
  rcases s.reblank_cases (c / 8) with h | h <;> (rw [h]; exact hcells)

/-- No other block is reached. -/
theorem State.reblank_acqOf_ne {b c : Nat} (h : b ≠ c / 8) : (s.reblank b).acqOf c = s.acqOf c :=
  have ⟨hcell, _⟩ := s.reblank_onlyBlock b
  (hcell c h.symm).1

/-! ## BLANK_LINE_CHANGE (R111) -/

/-- Every block takes the blanking states. -/
def State.reblankAll : State := (List.range 64).foldl (fun x b => x.reblank b) s

theorem State.reblankAll_withoutConversions : s.reblankAll.withoutConversions = s.withoutConversions :=
  foldl_keep State.withoutConversions (fun x b => x.reblank b) State.reblank_withoutConversions _ s

/-- The blanking state of each channel takes effect once, with its block. -/
theorem State.reblankAll_acqOf {c : Nat} (hc : c < 512) : s.reblankAll.acqOf c = s.acqBlanked c := by
  unfold State.reblankAll
  refine foldl_visits (P := fun u : State => u.withoutConversions = s.withoutConversions ∧ u.acqOf c = s.acqOf c)
    (Q := fun u => u.acqOf c = s.acqBlanked c) (a := c / 8) List.nodup_range (List.mem_range.2 (by omega))
    (fun u b hb ⟨hu, ha⟩ => ⟨(u.reblank_withoutConversions b).trans hu, (u.reblank_acqOf_ne hb).trans ha⟩)
    (fun u ⟨hu, ha⟩ => ?_) (fun u b hb hu => (u.reblank_acqOf_ne hb).trans hu) ⟨rfl, rfl⟩
  rw [State.reblank_acqOf, State.acqBlanked, cim_of_withoutConversions hu, now_of_withoutConversions hu,
    blanked_of_withoutConversions hu, ha, State.acqBlanked]

end

/-- A blank that takes effect runs, and an unblanked channel has none; the result stays (R110 to R112). -/
theorem acqBlank_spec (now : Nat) (blanked : Bool) (a : AcqCh) : (acqBlank now blanked a).value = a.value ∧
    ((acqBlank now blanked a).blankFrom.isSome = blanked) ∧ (blanked = false → (acqBlank now blanked a).blankLong = false) := by
  cases blanked with
  | false => exact ⟨rfl, rfl, fun _ => rfl⟩
  | true =>
    cases hfrom : a.blankFrom with
    | none => simp [acqBlank, hfrom]
    | some since => simp [acqBlank, hfrom]

theorem blankLineChange_goes {t heldUs : Nat} {level : Bool} {s : State} (hmode : s.mode = .running) (hheld : 50 ≤ heldUs)
    (hlevel : s.blks.blank ≠ level) :
    exec (.blankLineChange t heldUs level) s = .next ((s.tick t).modBlks fun k => { k with blank := level }).reblankAll := by
  dsimp only [exec, execBlankLineChange]
  exact act_goes rfl (by simp [State.live, hmode, hheld, hlevel])

/-! ## DEBOUNCED_EDGE (R190 to R193) -/

theorem isCh_of_lt {c : Nat} (h : c < 512) : isCh c = true := decide_eq_true h

/-- Samples do not turn STATE before the debounce count is reached. -/
theorem samplesEdge_state {im : Image} {c : Nat} {levels : List (Nat × Nat)} {d0 d : DigCell} (h : samplesEdge im c levels d0 = some d) :
    d.state = d0.state := by
  induction levels generalizing d0 with
  | nil => cases h
  | cons x r ih =>
    rw [samplesEdge] at h
    split at h
    · exact (ih h :)
    · split at h
      · cases h; rfl
      · cases h

/-- A debounced edge turns STATE, whatever the cell counts or queues with it. -/
theorem cellEdge_state (im : Image) (c bt : Nat) (d : DigCell) : (cellEdge im c bt d).1.state = !d.state := by
  unfold cellEdge
  dsimp only
  split
  · split <;> rfl
  · split
    · split <;> rfl
    · rfl

section
variable (c bt : Nat) (d : DigCell) (s : State)

theorem State.edge_dig : (s.edge c bt d).blks.dig = tabMod {} s.blks.dig c fun _ => (cellEdge (s.cim c) c bt d).1 := by
  unfold State.edge
  dsimp only
  split
  · rw [dig_of_withoutConversions (State.reblank_withoutConversions _ _)]
    split <;> rfl
  · split <;> rfl

theorem State.edge_digOf : (s.edge c bt d).digOf c = (cellEdge (s.cim c) c bt d).1 := by
  rw [State.digOf, State.edge_dig, tabGet_mod_self]

theorem State.edge_digOf_ne {k : Nat} (h : k ≠ c) : (s.edge c bt d).digOf k = s.digOf k := by
  rw [State.digOf, State.edge_dig, tabGet_mod_ne _ _ _ h.symm, State.digOf]

theorem State.edge_cosNext : (s.edge c bt d).inp.cosNext = s.inp.cosNext ++ (match (cellEdge (s.cim c) c bt d).2 with
    | some e => [{ ch := c, state := e.1, off := bt, place := e.2, seq := tabGet 0 s.inp.srcSeq (1024 + c) }]
    | none => []) := by
  unfold State.edge
  dsimp only
  have hinp (x : State) : (if chBlankSrc (s.cim c) c = true then x.reblank (c / 8) else x).inp = x.inp := by
    split
    · exact inp_of_withoutConversions (x.reblank_withoutConversions _)
    · rfl
  rw [hinp]
  cases (cellEdge (s.cim c) c bt d).2 with
  | none => exact (List.append_nil _).symm
  | some e => rfl

theorem State.edge_onlyBlock : s.blks.onlyBlock (c / 8) (s.edge c bt d).blks := by
  have hcell := s.modDig_onlyBlock (c := c) rfl fun _ => (cellEdge (s.cim c) c bt d).1
  unfold State.edge
  dsimp only
  split
  · refine .trans ?_ (State.reblank_onlyBlock _ _)
    split <;> exact hcell
  · split <;> exact hcell

end

theorem debouncedEdge_goes {t ch bt : Nat} {levels : List (Nat × Nat)} {d : DigCell} {s : State} (hch : ch < 512)
    (hruns : s.blkRuns (ch / 8) = true) (hmode : chMode (s.cim ch) ch = 7 ∨ chMode (s.cim ch) ch = 9)
    (hfrozen : (s.digOf ch).frozen = false) (hthaw : (s.digOf ch).thawAt ≤ max s.now t)
    (hd : samplesEdge (s.cim ch) ch levels (s.digOf ch) = some d) :
    exec (.debouncedEdge t ch ⟨bt, levels⟩) s = .next ((s.tick t).edge ch bt d) := by
  have hdt : samplesEdge ((s.tick t).cim ch) ch levels ((s.tick t).digOf ch) = some d := hd
  have hm : (decide (chMode ((s.tick t).cim ch) ch = 7) || decide (chMode ((s.tick t).cim ch) ch = 9)) = true := by
    rw [← Bool.decide_or]
    exact decide_eq_true hmode
  have hf : (s.tick t).frozenNow ch = false := Bool.or_eq_false_iff.2 ⟨hfrozen, decide_eq_false (Nat.not_lt.2 hthaw)⟩
  have hr : (s.tick t).blkRuns (ch / 8) = true := hruns
  dsimp only [exec, execDebouncedEdge]
  rw [act_goes (isCh_of_lt hch) (by simp only [hr, hm, hf, hdt]; rfl), hdt]

/-! ## TEST_PULSE_START (R87) -/

/-- A block runs the pulses of its own channels. -/
theorem State.pulseDue_block {s : State} {b c : Nat} (h : s.pulseDue b = some c) : c / 8 = b := by
  unfold State.pulseDue scheduledPulse at h
  exact div_of_blkChannels (List.mem_of_find?_eq_some h)

/-- The pulse of a block holds a terminal while it lasts, so that time tells where there is one only. -/
theorem State.drives_tick {s : State} {c : Nat} (h : (s.blkOf (c / 8)).pulse = none) (t : Nat) : (s.tick t).drives c = s.drives c := by
  have hnow (u : State) (hu : u.blkOf (c / 8) = s.blkOf (c / 8)) : u.pulseNow (c / 8) = none := by rw [State.pulseNow, hu, h]; rfl
  rw [State.drives, State.drives, hnow s rfl, hnow (s.tick t) rfl]
  rfl

/-- The scheduled pulse of channel `c` may run (R191, R202). -/
def State.pulseMay (s : State) (c level : Nat) : Bool :=
  pulseRuns (testKind (s.cim c) c) (comparator (s.cim c) c level (s.digOf c).raw)
    ((s.blkOf (c / 8)).fsOff || (decide (testKind (s.cim c) c ≠ 3) && ((s.outOf c).silent || s.withheldBlk (c / 8))))
    (s.drives c) (s.outOf c)

theorem State.pulseMay_tick {s : State} {c : Nat} (h : (s.blkOf (c / 8)).pulse = none) (t level : Nat) :
    (s.tick t).pulseMay c level = s.pulseMay c level := by
  rw [State.pulseMay, State.drives_tick h]
  rfl

/-- No pulse runs while FS_OFF stands. -/
theorem State.pulseMay_of_fsOff {s : State} {c : Nat} (h : (s.blkOf (c / 8)).fsOff = true) (level : Nat) : s.pulseMay c level = false := by
  simp [State.pulseMay, pulseRuns, h]

/-- An off-pulse runs on a switch that is driven. -/
theorem State.drives_of_offPulse {s : State} {c level : Nat} (hkind : testKind (s.cim c) c = 1) (h : s.pulseMay c level = true) :
    s.drives c = true := by
  rw [State.pulseMay, hkind] at h
  exact (Bool.and_eq_true_iff.1 h).2

section
variable (c level : Nat) (s : State)

theorem State.startPulse_blkOf : (s.startPulse c level).blkOf (c / 8) = { s.blkOf (c / 8) with
    pulseIn := some s.fr.frameNo
    pulse := if s.pulseMay c level then some { ch := c, kind := testKind (s.cim c) c, since := s.now, width := testWidth (s.cim c) c }
      else (s.blkOf (c / 8)).pulse } := by
  have hskip := s.blkOf_modBlk (c / 8) fun x => { x with pulseIn := some s.fr.frameNo }
  unfold State.startPulse
  dsimp only
  rw [← State.pulseMay]
  split
  · split <;> simp [State.blkOf]
  · exact hskip

theorem State.startPulse_onlyBlock : s.blks.onlyBlock (c / 8) (s.startPulse c level).blks := by
  have hskip := s.modBlk_onlyBlock (c / 8) fun x => { x with pulseIn := some s.fr.frameNo }
  unfold State.startPulse
  dsimp only
  split
  · split
    · exact (hskip.trans (State.modBlk_onlyBlock _ _ _)).trans (State.modDig_onlyBlock rfl _ _)
    · exact hskip.trans (State.modBlk_onlyBlock _ _ _)
  · exact hskip

end

/-- The test pulse of block `b` at its instant. -/
def State.pulseStep (b level : Nat) (s : State) : State :=
  match s.pulseDue b with
  | some c => s.startPulse c level
  | none => s

theorem State.pulseStep_of_due {s : State} {b c : Nat} (h : s.pulseDue b = some c) (level : Nat) :
    s.pulseStep b level = s.startPulse c level := by
  rw [State.pulseStep, h]

theorem State.pulseStep_of_none {s : State} {b : Nat} (h : s.pulseDue b = none) (level : Nat) : s.pulseStep b level = s := by
  rw [State.pulseStep, h]

theorem State.pulseStep_onlyBlock (b level : Nat) (s : State) : s.blks.onlyBlock b (s.pulseStep b level).blks := by
  cases h : s.pulseDue b with
  | none => rw [State.pulseStep_of_none h]; exact .refl b _
  | some c =>
    obtain rfl := State.pulseDue_block h
    rw [State.pulseStep_of_due h]
    exact s.startPulse_onlyBlock c level

theorem testPulseStart_goes {t b level : Nat} {s : State} (hb : b < 64) (hmode : s.mode = .running) (hruns : s.blkRuns b = true)
    (hpulse : (s.blkOf b).pulse = none) (hlatched : (s.blkOf b).latched = some s.fr.frameNo)
    (hin : (s.blkOf b).pulseIn ≠ some s.fr.frameNo) (hleast : (s.blkOf b).latchAt + blkLeast 100 ≤ max s.now t)
    (hmost : max s.now t ≤ (s.blkOf b).latchAt + blkMost 100) :
    exec (.testPulseStart t b level) s = .next ((s.tick t).pulseStep b level) := by
  have htime : (s.tick t).pulseTime b = true := Bool.and_eq_true_iff.2 ⟨decide_eq_true hleast, decide_eq_true hmost⟩
  have hr : (s.tick t).blkRuns b = true := hruns
  have hk : (s.tick t).blkOf b = s.blkOf b := rfl
  dsimp only [exec, execTestPulseStart]
  refine act_goes (f := State.pulseStep b level) (isBlk_of_lt hb) ?_
  simp [State.live, hmode, hr, hk, hpulse, hlatched, hin, htime]

/-! ## TEST_PULSE_END (R202) -/

section
variable (p : Pulse) (termV : Int) (current : Nat) (levelOn : Bool) (s : State)

theorem State.endPulse_pulse : ((s.endPulse p termV current levelOn).blkOf (p.ch / 8)).pulse = none := by
  have hblk := congrArg Blk.pulse (s.blkOf_modBlk (p.ch / 8) fun k => { k with pulse := none })
  unfold State.endPulse
  dsimp only
  split <;> exact hblk

theorem State.endPulse_onlyBlock : s.blks.onlyBlock (p.ch / 8) (s.endPulse p termV current levelOn).blks := by
  have hblk := s.modBlk_onlyBlock (p.ch / 8) fun k => { k with pulse := none }
  unfold State.endPulse
  dsimp only
  split
  · exact hblk.trans (State.modDig_onlyBlock rfl _ _)
  · exact hblk.trans (State.modOut_onlyBlock rfl _ _)

variable {p}

/-- A line test ends with the level that was sampled, and its cell thaws (R191). -/
theorem State.endPulse_digOf (h : p.kind = 3) : (s.endPulse p termV current levelOn).digOf p.ch =
    { s.digOf p.ch with line := levelOn, tpDone := true, frozen := false, thawAt := s.now + usC 100 } := by
  unfold State.endPulse
  dsimp only
  rw [if_pos h]
  exact State.digOf_modDig ..

/-- An output pulse ends with its judgement (R202). -/
theorem State.endPulse_outOf (h : p.kind ≠ 3) : (s.endPulse p termV current levelOn).outOf p.ch =
    { s.outOf p.ch with tpDone := true, tpFail := pulseFails p.kind termV current } := by
  unfold State.endPulse
  dsimp only
  rw [if_neg h]
  exact State.outOf_modOut ..

end

theorem testPulseEnd_goes {t b current : Nat} {termV : Int} {levelOn : Bool} {p : Pulse} {s : State} (hb : b < 64)
    (hruns : s.blkRuns b = true) (hp : (s.blkOf b).pulse = some p) (hend : pulseAtEnd (max s.now t) p = true) :
    exec (.testPulseEnd t b termV current levelOn) s = .next ((s.tick t).endPulse p termV current levelOn) := by
  have hending : (s.tick t).pulseEnding b = some p := Option.filter_eq_some_iff.2 ⟨hp, hend⟩
  dsimp only [exec, execTestPulseEnd]
  rw [act_goes (isBlk_of_lt hb) (by rw [hending]; exact Bool.and_eq_true_iff.2 ⟨hruns, rfl⟩), hending]

/-- Settles O32: the line through the channels of every block, an edge through its cell, and a pulse through its block. -/
theorem blankingEdgesAndTestPulses : Obligations.BlankingEdgesAndTestPulses := by
  refine ⟨fun t heldUs level s hmode hheld hlevel => ?_,
    fun t ch bt levels d s hch hruns hmode hfrozen hthaw hd => ?_,
    fun t b level s hb hmode hruns hpulse hlatched hin hleast hmost => ?_,
    fun t b current termV levelOn p s hb hruns hp hblk hend => ?_⟩
  · have hgoes := blankLineChange_goes (t := t) hmode hheld hlevel
    refine ⟨_, hgoes, ?_, (commandsWriteOnlyTheirParts _ _ _ hgoes).1, fun c hc => ?_⟩
    · rw [blank_of_withoutConversions (State.reblankAll_withoutConversions _)]
      rfl
    · rw [State.reblankAll_acqOf _ hc]
      refine ⟨fun hm => if_neg (Bool.eq_false_iff.1 hm), fun hm => ?_⟩
      rw [State.acqBlanked, if_pos (by exact hm)]
      exact acqBlank_spec ..
  · have hgoes := debouncedEdge_goes (t := t) (bt := bt) hch hruns hmode hfrozen hthaw hd
    have hcell := (s.tick t).edge_digOf ch bt d
    refine ⟨_, hgoes, hcell, ?_, fun k hk => State.edge_digOf_ne _ _ _ _ hk, ?_, (s.tick t).edge_onlyBlock ch bt d,
      (commandsWriteOnlyTheirParts _ _ _ hgoes).1⟩
    · rw [hcell, cellEdge_state, samplesEdge_state hd]
    · exact State.edge_cosNext ..
  · have hgoes := testPulseStart_goes (level := level) hb hmode hruns hpulse hlatched hin hleast hmost
    refine ⟨_, hgoes, (s.tick t).pulseStep_onlyBlock b level, (commandsWriteOnlyTheirParts _ _ _ hgoes).1,
      fun hdue => State.pulseStep_of_none (s := s.tick t) hdue level, fun c hdue => ?_⟩
    obtain rfl := State.pulseDue_block hdue
    have hblk := (s.tick t).startPulse_blkOf c level
    rw [State.pulseMay_tick hpulse] at hblk
    have hstart : (((s.tick t).startPulse c level).blkOf (c / 8)).pulse = if s.pulseMay c level then
        some { ch := c, kind := testKind (s.cim c) c, since := max s.now t, width := testWidth (s.cim c) c } else none :=
      (congrArg Blk.pulse hblk).trans (by rw [show ((s.tick t).blkOf (c / 8)).pulse = none from hpulse]; rfl)
    rw [State.pulseStep_of_due (s := s.tick t) hdue]
    refine ⟨congrArg Blk.pulseIn hblk, hstart, fun hoff => ?_, fun hkind hsome => ?_⟩
    · rw [hstart, State.pulseMay_of_fsOff hoff]
      rfl
    · refine State.drives_of_offPulse (level := level) hkind ?_
      by_contra hno
      rw [hstart, if_neg hno] at hsome
      cases hsome
  · subst hblk
    have hgoes := testPulseEnd_goes (t := t) (current := current) (termV := termV) (levelOn := levelOn) hb hruns hp hend
    refine ⟨_, hgoes, State.endPulse_pulse .., State.endPulse_onlyBlock .., (commandsWriteOnlyTheirParts _ _ _ hgoes).1,
      fun h => State.endPulse_digOf _ _ _ _ h, fun h => ?_, fun h => ?_⟩
    · rw [State.endPulse_outOf _ _ _ _ (by omega), h]
      rfl
    · rw [State.endPulse_outOf _ _ _ _ (by omega), h]
      rfl

end Sys2Proof.Machine
end

section
/-! PROOFS. Trims (R140 to R142): the order in which a trim is refused, what its start writes, and what its end leaves of the
configuration and of the reply that waits for it. -/

namespace Sys2Proof.Machine

/-! ## The start of a trim (R140, R141) -/

/-- The opcode of a trim. -/
def trimOp (span : Bool) (ch : Nat) (ref : Int) : Op := if span then .trimSpan ch ref else .trimZero ch ref

theorem opCode_trimOp (span : Bool) (ch : Nat) (ref : Int) : opCode (trimOp span ch ref) = if span then 0x0307 else 0x0306 := by
  cases span <;> rfl

theorem opAlarm_trimOp (span : Bool) (ch : Nat) (ref : Int) : opAlarm (trimOp span ch ref) = false := by cases span <;> rfl

theorem trimOp_ne_warmRestart (span : Bool) (ch : Nat) (ref : Int) : trimOp span ch ref ≠ Op.warmRestart := by
  cases span <;> simp [trimOp]

theorem runOp_trimOp (span : Bool) (ch : Nat) (ref : Int) (torn : Bool) (c : Caller) (s : State) :
    runOp (trimOp span ch ref) torn c s = opTrim span ch ref c s := by cases span <;> rfl

/-- A trim of a channel against a reference that its parameters can name runs as its opcode. -/
theorem exec_trim {ch : Nat} {ref : Int} (hch : ch < 512) (hlo : -2147483648 ≤ ref) (hhi : ref < 2147483648) (span : Bool) (h : PktHead)
    (s : State) : exec (if span then .trimSpan h ch ref else .trimZero h ch ref) s = runRow h true true false (trimOp span ch ref) s := by
  have hfits : (isCh ch && isI32 ref) = true := by simp [isCh, isI32, hch, hlo, hhi]
  cases span
  · show runRow h (isCh ch && isI32 ref) true false (.trimZero ch ref) s = _
    rw [hfits]; rfl
  · show runRow h (isCh ch && isI32 ref) true false (.trimSpan ch ref) s = _
    rw [hfits]; rfl

section
variable {span : Bool} {ch : Nat} {ref : Int} {c : Caller} {s : State}

theorem opTrim_badValue (hch : isAnalogIn (chMode s.im ch) = false ∨ isPairedPart s.im ch = true) :
    opTrim span ch ref c s = deny stBadValue s := by
  rcases hch with h | h <;> simp [opTrim, h]

section
variable (hai : isAnalogIn (chMode s.im ch) = true) (hpart : isPairedPart s.im ch = false)
include hai hpart

theorem opTrim_safeOwned (hsafe : chSafeOwned s.im ch = true) : opTrim span ch ref c s = deny stSafeOwned s := by
  simp [opTrim, hai, hpart, hsafe]

theorem opTrim_busy (hsafe : chSafeOwned s.im ch = false) (hrun : s.cfg.trims ≠ []) : opTrim span ch ref c s = deny stBusy s := by
  simp [opTrim, hai, hpart, hsafe, hrun]

theorem opTrim_starts (hsafe : chSafeOwned s.im ch = false) (hrun : s.cfg.trims = []) : opTrim span ch ref c s =
    (s.modCfg fun d => { d with trims := [{ ch := ch, span := span, ref := ref, frame := s.fr.frameNo, port := c.code }] }, .hold) := by
  simp [opTrim, hai, hpart, hsafe, hrun]

end
end

section
variable {span : Bool} {ch : Nat} {ref : Int} {h : PktHead} {s : State}

/-- Acceptance of a packet leaves the image that its opcode is judged by. -/
theorem State.accepted_im (h : PktHead) (opc : Nat) (s : State) : (s.accepted h opc).im = s.im :=
  (s.accepted_sameBut h opc).im (by decide)

/-- A trim that its opcode refuses is answered with the refusal alone. -/
theorem trim_refused {st : Nat} (hr : s.ready h (opCode (trimOp span ch ref)))
    (hden : ∀ c x, x.im = s.im → x.cfg = s.cfg → opTrim span ch ref c x = deny st x) :
    ∃ u, runRow h true true false (trimOp span ch ref) s = .next u ∧ s.onlyReplied u h (opCode (trimOp span ch ref)) st [] := by
  refine runRow_onlyReplied hr (by simp [opAlarm_trimOp]) ?_ (trimOp_ne_warmRestart span ch ref)
  rw [runOp_trimOp, hden _ _ (State.accepted_im ..) (State.accepted_cfg ..)]
  rfl

/-- A trim that its opcode does not refuse is noted for the open frame, and its reply waits. -/
theorem trim_started (hr : s.ready h (opCode (trimOp span ch ref))) (hai : isAnalogIn (chMode s.im ch) = true)
    (hpart : isPairedPart s.im ch = false) (hsafe : chSafeOwned s.im ch = false) (hrun : s.cfg.trims = []) :
    ∃ u, runRow h true true false (trimOp span ch ref) s = .next u ∧ s.waits u h (trimOp span ch ref) none none ∧
      u.cfg = { s.cfg with trims := [{ ch := ch, span := span, ref := ref, frame := s.fr.frameNo, port := s.codeOf h.port }] } ∧
      s.served u h [.trims] := by
  have him := s.accepted_im h (opCode (trimOp span ch ref))
  have hstart := opTrim_starts (span := span) (ref := ref) (c := makeCaller (s.codeOf h.port) h.session (opCode (trimOp span ch ref)) h)
    (him ▸ hai) (him ▸ hpart) (him ▸ hsafe) ((congrArg CfgPart.trims (State.accepted_cfg ..)).trans hrun)
  have hq := State.sameBut_of_rest (opTrim_rest (ps := [.trims]) span ch ref
    (makeCaller (s.codeOf h.port) h.session (opCode (trimOp span ch ref)) h) (s.accepted h (opCode (trimOp span ch ref))) (by simp))
  rw [hstart] at hq
  obtain ⟨u, e, hwaits, howner, hsame⟩ := runRow_hold hr (by simp [opAlarm_trimOp]) ((runOp_trimOp ..).trans hstart)
    (State.tame_of_sameBut hq (by decide))
  refine ⟨u, e, hwaits, ?_, State.served_of hq howner hsame rfl⟩
  rw [hsame.cfg fun p hp => not_mem_replyParts (by revert p; decide)]
  simp only [State.modCfg, State.accepted_cfg, State.accepted_fr]
  rfl

end

/-- Settles O12: the refusals in the order of the opcode's checks, and the start that passes them all. -/
theorem trimsStart : Obligations.TrimsStart := by
  intro h s ch ref span hr hch hlo hhi
  rw [exec_trim hch hlo hhi]
  rw [← opCode_trimOp span ch ref] at hr ⊢
  by_cases hbad : isAnalogIn (chMode s.im ch) = false ∨ isPairedPart s.im ch = true
  · obtain ⟨u, e, hu⟩ := trim_refused hr fun c x him _ => opTrim_badValue (him ▸ hbad)
    exact ⟨u, e, fun _ => hu, by rcases hbad with hb | hb <;> simp [hb]⟩
  obtain ⟨hai, hpart⟩ : isAnalogIn (chMode s.im ch) = true ∧ isPairedPart s.im ch = false := by simpa using hbad
  cases hsafe : chSafeOwned s.im ch with
  | true =>
    obtain ⟨u, e, hu⟩ := trim_refused hr fun c x him _ => opTrim_safeOwned (him ▸ hai) (him ▸ hpart) (him ▸ hsafe)
    exact ⟨u, e, fun hb => absurd hb hbad, fun _ _ _ => hu, nofun, nofun⟩
  | false =>
    by_cases hrun : s.cfg.trims = []
    · obtain ⟨u, e, hu⟩ := trim_started hr hai hpart hsafe hrun
      exact ⟨u, e, fun hb => absurd hb hbad, nofun, fun _ _ _ hne => absurd hrun hne, fun _ _ _ _ => hu⟩
    · obtain ⟨u, e, hu⟩ := trim_refused hr fun c x him hcfg => opTrim_busy (him ▸ hai) (him ▸ hpart) (him ▸ hsafe) (hcfg ▸ hrun)
      exact ⟨u, e, fun hb => absurd hb hbad, nofun, fun _ _ _ _ => hu, fun _ _ _ hno => absurd hno hrun⟩

/-! ## The end of a trim (R142) -/

/-- The reply to a trim is no part of the configuration. -/
theorem State.trimReply_cfg (n st : Nat) (s : State) : (s.trimReply n st).cfg = s.cfg :=
  (State.sameBut_of_rest (State.trimReply_rest (ps := [.sess, .pend, .owner, .trace, .replayIn]) n st s (by simp))).cfg (by decide)

theorem isTrimOp_of_trim {o : Op} (ho : ∃ ch ref, o = .trimZero ch ref ∨ o = .trimSpan ch ref) : isTrimOp o = true := by
  obtain ⟨ch, ref, rfl | rfl⟩ := ho <;> rfl

/-- While no trace is replayed, a reply of the live ports that waits for a trim gets its frame and its status (R70, R142). -/
theorem State.mem_trimReply {p : Pending} {s : State} (hlive : s.port.replay = false ∨ s.port.replayIn.begun = false)
    (hp : p ∈ s.port.pend) (hop : ∃ ch ref, p.op = .trimZero ch ref ∨ p.op = .trimSpan ch ref) (hdue : p.due = none) (n st : Nat) :
    { p with due := some n, done := some (st, []) } ∈ (s.trimReply n st).port.pend := by
  have hpend : (s.trimReply n st).port.pend = settleTrims (·.due.isNone) n st s.port.pend := by
    rcases hlive with h | h <;> simp [State.trimReply, State.frameSide, h, State.modPort]
  rw [hpend]
  exact List.mem_map.2 ⟨p, hp, by simp [isTrimOp_of_trim hop, hdue]⟩

section
variable {x : Trim} {s : State}

/-- The configuration that trim `x` makes of the running image (R142). -/
def trimConfig (im : Image) (x : Trim) : NextCfg :=
  let new := trimImage im x (trimOutcome im x).2
  { image := new, cfgCrc := configCrc new, safeCrc := safetyCrc new, source := 0xFF }

theorem State.trimFinish_sameBut (x : Trim) (s : State) :
    s.sameBut [.sess, .pend, .owner, .trace, .replayIn, .nextCfg, .trims] (s.trimFinish x) :=
  State.sameBut_of_rest (s.trimFinish_rest x (by simp))

/-- A trim that fails is over. -/
theorem State.trimFinish_fails (hst : (trimOutcome s.im x).1 ≠ stOk) :
    s.trimFinish x = (s.trimReply s.fr.frameNo (trimOutcome s.im x).1).modCfg fun c => { c with trims := [] } := if_pos hst

/-- A trim that holds becomes the configuration of the next frame. -/
theorem State.trimFinish_holds (hst : (trimOutcome s.im x).1 = stOk) (hnext : s.cfg.next = none) :
    s.trimFinish x = (s.trimReply (s.fr.frameNo + 1) stOk).modCfg fun c => { c with next := some (trimConfig s.im x) } := by
  simp [State.trimFinish, hst, hnext, trimConfig]

/-- A trim that holds writes nothing where a commit has been accepted for the next frame. -/
theorem State.trimFinish_superseded (hst : (trimOutcome s.im x).1 = stOk) (hnext : s.cfg.next ≠ none) : s.trimFinish x = s := by
  simp [State.trimFinish, hst, Option.isSome_iff_ne_none.2 hnext]

theorem State.trimFinish_cfg_fails (hst : (trimOutcome s.im x).1 ≠ stOk) : (s.trimFinish x).cfg = { s.cfg with trims := [] } := by
  rw [State.trimFinish_fails hst, State.modCfg_cfg, State.trimReply_cfg]

/-- With the frames of trim `x` over, TRIM_COMPLETE of its channel ends it. -/
theorem trimComplete_goes (hch : isCh x.ch = true) (hready : s.zenithReady = true) (hend : s.trimEnding = some x) (t : Nat) :
    exec (.trimComplete t x.ch) s = .next ((s.tick t).trimFinish x) := by
  have hend' : (s.tick t).trimEnding = some x := hend
  have hready' : (s.tick t).zenithReady = true := hready
  show execTrimComplete t x.ch s = _
  unfold execTrimComplete
  rw [act_goes hch]
  · simp [hend']
  · simp [hready', hend']

end

/-- Settles O29, by the outcome of the trim and by whether a commit has been accepted for the next frame. -/
theorem trimsComplete : Obligations.TrimsComplete := by
  intro t x s hch hready hend r
  have hsame := (s.tick t).trimFinish_sameBut x
  refine ⟨_, trimComplete_goes hch hready hend t, hsame.image (by decide), hsame.2.2 .staging (by decide), fun hst => ?_,
    fun hst hnext => ?_, fun hst hnext => State.trimFinish_superseded hst hnext,
    fun p hp hlive hop hdue => ⟨fun hst => ?_, fun hst hnext => ?_⟩⟩
  · have hcfg := State.trimFinish_cfg_fails (s := s.tick t) hst
    exact ⟨congrArg CfgPart.trims hcfg, (congrArg CfgPart.next hcfg).trans rfl⟩
  · rw [State.trimFinish_holds (s := s.tick t) hst hnext]
    rfl
  · rw [State.trimFinish_fails (s := s.tick t) hst]
    exact State.mem_trimReply (s := s.tick t) hlive hp hop hdue _ _
  · rw [State.trimFinish_holds (s := s.tick t) hst hnext]
    exact State.mem_trimReply (s := s.tick t) hlive hp hop hdue _ _

end Sys2Proof.Machine
end

section
/-! PROOFS. The protections of a cell (R167, R201, R209, R514): silence, foldback, the limits of a switch and its temperature act on their
own cell and on no other. -/

namespace Sys2Proof.Machine

/-! ## A cell after a write -/

section
variable {c k : Nat} (s : State)

theorem State.loopOf_modLoop (f : LoopCell → LoopCell) : (s.modLoop c f).loopOf c = f (s.loopOf c) := tabGet_mod_self ..
theorem State.cellOf_modCell (f : CellDiag → CellDiag) : (s.modCell c f).cellOf c = f (s.cellOf c) := tabGet_mod_self ..

theorem State.loopOf_modLoop_ne (h : k ≠ c) (f : LoopCell → LoopCell) : (s.modLoop c f).loopOf k = s.loopOf k :=
  tabGet_mod_ne _ _ _ h.symm
theorem State.outOf_modOut_ne (h : k ≠ c) (f : OutCell → OutCell) : (s.modOut c f).outOf k = s.outOf k :=
  tabGet_mod_ne _ _ _ h.symm
theorem State.cellOf_modCell_ne (h : k ≠ c) (f : CellDiag → CellDiag) : (s.modCell c f).cellOf k = s.cellOf k :=
  tabGet_mod_ne _ _ _ h.symm

end

/-! ## The target of an AO-I channel (R211) -/

/-- What the first condition of R211 that holds gives AO-I channel `c`, before FOLDBACK lowers it. -/
def State.targetBase (s : State) (c : Nat) : Int :=
  if s.outputsOff (c / 8) || (s.blkOf (c / 8)).fsOff then 0
  else if (s.outOf c).silent then aoSafeCurrent (s.cim c) c (s.loopOf c) else (s.loopOf c).cmd

section
variable (s : State) (c : Nat)

theorem State.targetOf_eq : s.targetOf c = loopTarget (s.targetBase c) (s.loopOf c) := rfl

theorem State.targetBase_modLoop {f : LoopCell → LoopCell} (hcmd : (f (s.loopOf c)).cmd = (s.loopOf c).cmd) :
    (s.modLoop c f).targetBase c = s.targetBase c := by
  simp only [State.targetBase, State.loopOf_modLoop, aoSafeCurrent, hcmd]
  rfl

/-- FOLDBACK acts within what R211 gives: a write of the cell that keeps its command moves the target by its limit alone. -/
theorem State.targetOf_modLoop {f : LoopCell → LoopCell} (hcmd : (f (s.loopOf c)).cmd = (s.loopOf c).cmd) :
    (s.modLoop c f).targetOf c = loopTarget (s.targetBase c) (f (s.loopOf c)) := by
  rw [State.targetOf_eq, State.targetBase_modLoop _ _ hcmd, State.loopOf_modLoop]

end

/-- A target that no protection holds is the commanded current (R211). -/
theorem State.targetBase_free {s : State} {c : Nat} (h : s.aoHeld c = false) : s.targetBase c = (s.loopOf c).cmd := by
  simp only [State.aoHeld, State.aoBlkOff, Bool.or_eq_false_iff] at h
  obtain ⟨hoff, hfs, hsilent⟩ := h
  simp [State.targetBase, hoff, hfs, hsilent]

/-! ## The limit of FOLDBACK (R167) -/

/-- A fold ends at the folded current: the target did not lie above what R211 gives (R167). -/
theorem loopTarget_loopFold (base i : Int) (n : Nat) (l : LoopCell) :
    loopTarget base { loopFold i (loopTarget base l) l with foldAt := n } = min i (loopTarget base l) := by
  have hle : loopTarget base l ≤ base := by
    unfold loopTarget
    split
    · exact min_le_right ..
    · exact le_rfl
  exact min_eq_left ((min_le_right ..).trans hle)

section
variable {held : Bool} {v : Int} {l : LoopCell} (hlim : l.limit = some v)
include hlim

theorem loopRamp_ends (hheld : held = false) (hcmd : l.cmd ≤ v + 1000000) : loopRamp held l = { l with limit := none, ramp := false } := by
  simp [loopRamp, hlim, hheld, hcmd]

theorem loopRamp_rises (h : held = true ∨ v + 1000000 < l.cmd) :
    loopRamp held l = { l with limit := some (max v (min (v + 1000000) l.cmd)) } := by
  have hgo : (!held && decide (l.cmd ≤ v + 1000000)) = false := by
    rcases h with h | h
    · simp [h]
    · simp [not_le.2 h]
  simp [loopRamp, hlim, hgo]

end

theorem loopRamp_cmd (held : Bool) (l : LoopCell) : (loopRamp held l).cmd = l.cmd := by
  unfold loopRamp
  split
  · split <;> rfl
  · rfl

/-! ## LOGIC_SILENCE (R209) -/

theorem pulseOff_pulse {c : Nat} {k : Blk} {p : Pulse} (h : (pulseOff c k).pulse = some p) : p.ch ≠ c := by
  unfold pulseOff at h
  split at h
  next q hq =>
    split at h
    next => cases h
    next hne =>
      cases hq.symm.trans h
      exact hne
  next hq => cases hq.symm.trans h

theorem pulseOff_keeps (c : Nat) (k : Blk) : (pulseOff c k).powered = k.powered ∧ (pulseOff c k).joining = k.joining ∧
    (pulseOff c k).withheld = k.withheld ∧ (pulseOff c k).fsOff = k.fsOff := by
  unfold pulseOff
  split
  · split <;> exact ⟨rfl, rfl, rfl, rfl⟩
  · exact ⟨rfl, rfl, rfl, rfl⟩

section
variable (c : Nat) (s : State)

theorem State.enterSafe_outOf : (s.enterSafe c).outOf c =
    { s.outOf c with silent := true, safe := true, resumed := false, shadowed := false } :=
  s.outOf_modOut c fun o => { o with silent := true, safe := true, resumed := false, shadowed := false }

theorem State.enterSafe_blkOf : (s.enterSafe c).blkOf (c / 8) = pulseOff c (s.blkOf (c / 8)) := tabGet_mod_self ..

theorem State.enterSafe_onlyBlock : s.blks.onlyBlock (c / 8) (s.enterSafe c).blks :=
  (s.modOut_onlyBlock rfl _).trans (State.modBlk_onlyBlock _ _ _)

theorem State.enterSafe_outputsOff : (s.enterSafe c).outputsOff (c / 8) = s.outputsOff (c / 8) := by
  obtain ⟨hpowered, hjoining, hwithheld, -⟩ := pulseOff_keeps c (s.blkOf (c / 8))
  have hflag : (s.enterSafe c).flagOn = s.flagOn := rfl
  simp only [State.outputsOff, State.blkRuns, State.withheldBlk, State.enterSafe_blkOf, hpowered, hjoining, hwithheld, hflag]

/-- A cell that falls silent drives the current of its safe state where its block lets it drive (R211 row 3). -/
theorem State.enterSafe_targetOf (hfs : (s.blkOf (c / 8)).fsOff = false) (hoff : s.outputsOff (c / 8) = false) :
    (s.enterSafe c).targetOf c = loopTarget (aoSafeCurrent (s.cim c) c (s.loopOf c)) (s.loopOf c) := by
  obtain ⟨-, -, -, hfsOff⟩ := pulseOff_keeps c (s.blkOf (c / 8))
  have hbase : (s.enterSafe c).targetBase c = aoSafeCurrent (s.cim c) c (s.loopOf c) := by
    simp only [State.targetBase, State.enterSafe_outputsOff, State.enterSafe_blkOf, State.enterSafe_outOf, hfsOff, hfs, hoff]
    rfl
  rw [State.targetOf_eq, hbase]
  rfl

end

section
variable {t ch : Nat} {s : State} (hch : ch < 512) (hruns : s.blkRuns (ch / 8) = true)
include hch hruns

theorem logicSilence_goes {us : Nat} {strobe : Bool} (hmode : isOutMode (chMode (s.cim ch) ch) = true)
    (hawake : (s.outOf ch).silent = false) (hover : s.silenceOver ch us strobe = true) :
    exec (.logicSilence t ch us strobe) s = .next ((s.tick t).enterSafe ch) := by
  dsimp only [exec, execLogicSilence]
  refine act_goes (isCh_of_lt hch) ?_
  simp only [Bool.and_eq_true, Bool.not_eq_true']
  exact ⟨⟨⟨hruns, hmode⟩, hawake⟩, hover⟩

/-! ## FOLDBACK, FOLDBACK_HOLD_END and FOLDBACK_RAMP_STEP (R167) -/

theorem foldback_goes {i : Int} {mw us : Nat} (hmode : chMode (s.cim ch) ch = 6) (hmw : 1200 < mw) (hus : 1000 ≤ us) :
    exec (.foldback t ch i mw us) s =
      .next ((s.tick t).modLoop ch fun l => { loopFold i (s.targetOf ch) l with foldAt := max s.now t }) := by
  dsimp only [exec, execFoldback]
  refine act_goes (isCh_of_lt hch) ?_
  simp only [Bool.and_eq_true, decide_eq_true_eq]
  exact ⟨⟨⟨hruns, hmode⟩, hmw⟩, hus⟩

theorem foldbackHoldEnd_goes (hlim : (s.loopOf ch).limit.isSome = true) (hramp : (s.loopOf ch).ramp = false)
    (hheld : (s.loopOf ch).foldAt + msC 1000 ≤ max s.now t) :
    exec (.foldbackHoldEnd t ch) s = .next ((s.tick t).modLoop ch fun l => { l with ramp := true, foldAt := max s.now t }) := by
  dsimp only [exec, execFoldbackHoldEnd]
  refine act_goes (isCh_of_lt hch) ?_
  simp only [Bool.and_eq_true, Bool.not_eq_true', decide_eq_true_eq]
  exact ⟨⟨⟨hruns, hlim⟩, hramp⟩, hheld⟩

theorem foldbackRampStep_goes {v : Int} (hlim : (s.loopOf ch).limit = some v) (hramp : (s.loopOf ch).ramp = true)
    (hstep : (s.loopOf ch).foldAt + msC 100 ≤ max s.now t) :
    exec (.foldbackRampStep t ch) s =
      .next ((s.tick t).modLoop ch fun l => { loopRamp (s.aoHeld ch) l with foldAt := max s.now t }) := by
  dsimp only [exec, execFoldbackRampStep]
  refine act_goes (isCh_of_lt hch) ?_
  simp only [Bool.and_eq_true, decide_eq_true_eq]
  exact ⟨⟨⟨hruns, Option.isSome_iff_exists.2 ⟨v, hlim⟩⟩, hramp⟩, hstep⟩

/-! ## SWITCH_CURRENT_LIMIT, THERMAL_SHUTDOWN and CELL_THERM (R201, R514) -/

theorem switchCurrentLimit_goes {rail : Bool} (hmode : chMode (s.cim ch) ch = 8) (hfed : (s.tick t).fed ch = true) :
    exec (.switchCurrentLimit t ch rail) s =
      .next ((s.tick t).modOut ch fun o => if rail then { o with rail := true } else { o with ilim := true }) := by
  dsimp only [exec, execSwitchCurrentLimit]
  refine act_goes (isCh_of_lt hch) ?_
  simp only [Bool.and_eq_true, decide_eq_true_eq]
  exact ⟨⟨hruns, hmode⟩, hfed⟩

theorem thermalShutdown_goes (hmode : chMode (s.cim ch) ch = 8) :
    exec (.thermalShutdown t ch) s = .next ((s.tick t).modOut ch fun o => { o with therm := true }) := by
  dsimp only [exec, execThermalShutdown]
  exact act_goes (isCh_of_lt hch) (Bool.and_eq_true_iff.2 ⟨hruns, decide_eq_true hmode⟩)

theorem cellTherm_goes (temp : Int) (us : Nat) : exec (.cellTherm t ch temp us) s = .next ((s.tick t).modCell ch fun d => { d with
    temp := temp, therm := if 150 < temp ∧ 1000 ≤ us then true else if temp < 135 then false else d.therm }) := by
  dsimp only [exec, execCellTherm]
  exact act_goes (c := fun s => s.blkRuns (ch / 8)) (isCh_of_lt hch) hruns

end

/-- Settles O34: each protection writes its own cell, and the target follows from what R211 gives and the limit of FOLDBACK. -/
theorem cellProtections : Obligations.CellProtections := by
  intro t ch s hch hruns here
  have keeps {i : Instr} {u : State} (hgoes : exec i s = .next u) (htouches : touches i = [.now, .blks])
      (honly : s.blks.onlyBlock (ch / 8) u.blks) : here u :=
    ⟨honly, htouches ▸ (commandsWriteOnlyTheirParts _ _ _ hgoes).1⟩
  refine ⟨fun us strobe hmode hawake hover => ?_, fun i mw us hmode hmw hus => ?_, fun hlim hramp hheld => ?_,
    fun v hlim hramp hstep => ?_, fun rail hmode hfed => ?_, fun hmode => ?_, fun temp us => ?_⟩
  -- LOGIC_SILENCE
  · have hgoes := logicSilence_goes (t := t) hch hruns hmode hawake hover
    have hout := (s.tick t).enterSafe_outOf ch
    refine ⟨_, hgoes, keeps hgoes rfl ((s.tick t).enterSafe_onlyBlock ch), by rw [hout], by rw [hout], fun p hp => ?_,
      fun _ hfs hoff => (s.tick t).enterSafe_targetOf ch hfs hoff⟩
    rw [State.enterSafe_blkOf] at hp
    exact pulseOff_pulse hp
  -- FOLDBACK
  · have hgoes := foldback_goes (t := t) (i := i) hch hruns hmode hmw hus
    refine ⟨_, hgoes, keeps hgoes rfl ((s.tick t).modLoop_onlyBlock rfl _), ?_, State.loopOf_modLoop .., fun k hk =>
      State.loopOf_modLoop_ne _ hk _⟩
    rw [State.targetOf_modLoop _ _ (by rfl)]
    exact loopTarget_loopFold ..
  -- FOLDBACK_HOLD_END
  · have hgoes := foldbackHoldEnd_goes hch hruns hlim hramp hheld
    exact ⟨_, hgoes, keeps hgoes rfl ((s.tick t).modLoop_onlyBlock rfl _), State.loopOf_modLoop .., fun k hk =>
      State.loopOf_modLoop_ne _ hk _⟩
  -- FOLDBACK_RAMP_STEP
  · have hgoes := foldbackRampStep_goes hch hruns hlim hramp hstep
    refine ⟨_, hgoes, keeps hgoes rfl ((s.tick t).modLoop_onlyBlock rfl _), fun k hk => State.loopOf_modLoop_ne _ hk _,
      fun hfree hcmd => ?_, fun hmore => ?_⟩
    · have hbase : (s.tick t).targetBase ch = (s.loopOf ch).cmd := State.targetBase_free (s := s.tick t) hfree
      have hramped : loopRamp (s.aoHeld ch) ((s.tick t).loopOf ch) = _ := loopRamp_ends hlim hfree hcmd
      rw [State.targetOf_modLoop _ _ (by exact loopRamp_cmd ..), State.loopOf_modLoop, hbase, hramped]
      exact ⟨rfl, rfl⟩
    · have hramped : loopRamp (s.aoHeld ch) ((s.tick t).loopOf ch) = _ := loopRamp_rises hlim hmore
      rw [State.loopOf_modLoop, hramped]
      exact ⟨rfl, hramp⟩
  -- SWITCH_CURRENT_LIMIT
  · have hgoes := switchCurrentLimit_goes (rail := rail) hch hruns hmode hfed
    exact ⟨_, hgoes, keeps hgoes rfl ((s.tick t).modOut_onlyBlock rfl _), State.outOf_modOut .., fun k hk =>
      State.outOf_modOut_ne _ hk _⟩
  -- THERMAL_SHUTDOWN
  · have hgoes := thermalShutdown_goes (t := t) hch hruns hmode
    exact ⟨_, hgoes, keeps hgoes rfl ((s.tick t).modOut_onlyBlock rfl _), State.outOf_modOut .., fun k hk =>
      State.outOf_modOut_ne _ hk _⟩
  -- CELL_THERM
  · have hgoes := cellTherm_goes (t := t) hch hruns temp us
    refine ⟨_, hgoes, keeps hgoes rfl ((s.tick t).modCell_onlyBlock rfl _), ?_, fun hhot hus => ?_, fun hcold => ?_,
      fun hlo hhi => ?_, fun k hk => State.cellOf_modCell_ne _ hk _⟩ <;> rw [State.cellOf_modCell]
    · exact if_pos ⟨hhot, hus⟩
    · exact (if_neg (by omega)).trans (if_pos hcold)
    · exact (if_neg (by omega)).trans (if_neg (by omega))

end Sys2Proof.Machine
end

section
/-! PROOFS. The transactions of a modem cell (R52, R177 to R179): a request that starts, its retries and its failure, a frame that is
heard, and the end of a carrier. -/

namespace Sys2Proof.Machine

/-! ## A modem cell after a write -/

section
variable {m k : Nat} (s : State)

theorem State.modemOf_modModem (f : Modem → Modem) : (s.modModem m f).modemOf m = f (s.modemOf m) := tabGet_mod_self ..

theorem State.modemOf_modModem_ne (h : k ≠ m) (f : Modem → Modem) : (s.modModem m f).modemOf k = s.modemOf k :=
  tabGet_mod_ne _ _ _ h.symm

theorem State.modModem_sameBut (f : Modem → Modem) : s.sameBut [.blks] (s.modModem m f) := State.sameBut_of_rest (by simp)

/-- A tone writes no modem cell. -/
theorem State.toneSeen_modemOf (m k : Nat) : (s.toneSeen m).modemOf k = s.modemOf k := by
  unfold State.toneSeen
  split
  · split <;> rfl
  · rfl

theorem State.toneSeen_loopOf {c : Nat} (hc : modemChannel s.im m = some c) (hmode : chMode s.im c = 6) :
    ((s.toneSeen m).loopOf c).tone = true := by
  have htone : s.toneSeen m = s.modLoop c fun l => { l with tone := true } := by
    rw [State.toneSeen, hc]
    exact if_pos hmode
  rw [htone]
  simp [State.loopOf]

/-- The tone of a request that is sent leaves the modem cells as they are written. -/
theorem State.setModem_modemOf_eq (x : Modem) (k : Nat) : (s.setModem m x).modemOf k = (s.modModem m fun _ => x).modemOf k := by
  unfold State.setModem
  dsimp only
  split
  · exact State.toneSeen_modemOf ..
  · rfl

theorem State.setModem_modemOf (x : Modem) : (s.setModem m x).modemOf m = x :=
  (s.setModem_modemOf_eq x m).trans (s.modemOf_modModem _)

theorem State.setModem_modemOf_ne (h : k ≠ m) (x : Modem) : (s.setModem m x).modemOf k = s.modemOf k :=
  (s.setModem_modemOf_eq x k).trans (s.modemOf_modModem_ne h _)

/-- A request that is sent stands as a tone in the record of its AO-I channel (R169). -/
theorem State.setModem_loopOf {c : Nat} {x : Modem} (hc : modemChannel s.im m = some c) (hmode : chMode s.im c = 6)
    (hreq : x.req.isSome = true) (hsent : x.waiting = false) : ((s.setModem m x).loopOf c).tone = true := by
  have hset : s.setModem m x = (s.modModem m fun _ => x).toneSeen m := if_pos ⟨hreq, by rw [hsent]; rfl⟩
  rw [hset]
  exact State.toneSeen_loopOf _ hc hmode

theorem State.setModem_sameBut (x : Modem) : s.sameBut [.blks] (s.setModem m x) := State.sameBut_of_rest (by simp)

end

theorem State.modemsRun_of_running {s : State} (hmode : s.mode = .running) (hrole : s.unt.pair.role ≠ 2) : s.modemsRun = true := by
  simp [State.modemsRun, State.live, hmode, hrole]

/-! ## Retries (R178) -/

/-- The schedule that moves on touches no transaction. -/
theorem hartScanOn_transaction (r : HartReq) (failed : Bool) (x : Modem) :
    (hartScanOn r failed x).req = x.req ∧ (hartScanOn r failed x).carrier = x.carrier := by
  unfold hartScanOn
  repeat' split
  all_goals exact ⟨rfl, rfl⟩

/-- The modem cell `x` after an attempt that no reply has answered: its next attempt, sent or waiting for the carrier. -/
def hartNextAttempt (now : Nat) (carrier : Bool) (x : Modem) : Modem :=
  { x with carrier := x.carrier || carrier, attempt := x.attempt + 1, sentAt := now, waiting := x.carrier || carrier }

/-- The modem cell `x` after the last attempt of its request `r`. -/
def hartGivenUp (carrier : Bool) (r : HartReq) (x : Modem) : Modem :=
  hartScanOn r true { x with carrier := x.carrier || carrier, req := none, attempt := 0 }

theorem hartGivenUp_transaction (carrier : Bool) (r : HartReq) (x : Modem) :
    (hartGivenUp carrier r x).req = none ∧ (hartGivenUp carrier r x).carrier = (x.carrier || carrier) :=
  hartScanOn_transaction ..

section
variable {now : Nat} {carrier : Bool} {x : Modem} {r : HartReq} (hreq : x.req = some r) (hsent : x.waiting = false)
  (hlate : x.sentAt + msC 305 ≤ now)
include hreq hsent hlate

theorem hartTimeout_retries (h : x.attempt < 3) : hartTimeout now carrier x = (hartNextAttempt now carrier x, none) := by
  simp [hartTimeout, hartNextAttempt, hreq, hsent, hlate, h]

theorem hartTimeout_fails (h : 3 ≤ x.attempt) : hartTimeout now carrier x = (hartGivenUp carrier r x, some r.addr) := by
  simp [hartTimeout, hartGivenUp, hreq, hsent, hlate, Nat.not_lt.2 h]

end

/-! ## Characters on the loop (R177) -/

/-- The frame of some characters that R177 accepts. -/
def hartAccepted (r : HartChars) : Option HartFrame :=
  if r.parity ∧ 2 ≤ r.preambles ∧ r.preambles ≤ 20 then hartParse r.bytes else none

theorem hartAccepted_eq_some {r : HartChars} {g : HartFrame} : hartAccepted r = some g ↔
    (r.parity && decide (2 ≤ r.preambles) && decide (r.preambles ≤ 20)) = true ∧ hartParse r.bytes = some g := by
  simp [hartAccepted, and_assoc]

/-! ## The happenings of a modem cell -/

section
variable {t m : Nat} {s : State} (hm : m < 32) (hmode : s.mode = .running) (hrole : s.unt.pair.role ≠ 2)
include hm hmode hrole

theorem hartRequestDue_goes {cmd addr c : Nat} {carrier : Bool} (haddr : addr < 16) (hc : modemChannel s.im m = some c)
    (hdue : hartDue (max s.now t) (s.devicesOf m) { cmd := cmd, addr := addr } (s.modemOf m) = true) :
    exec (.hartRequestDue t m cmd addr carrier) s = .next ((s.tick t).setModem m
      (hartStart (max s.now t) (s.devicesOf m) { cmd := cmd, addr := addr }
        { s.modemOf m with carrier := carrier || (s.modemOf m).carrier })) := by
  dsimp only [exec, execHartRequestDue]
  refine act_goes (Bool.and_eq_true_iff.2 ⟨decide_eq_true hm, decide_eq_true haddr⟩) ?_
  simp only [Bool.and_eq_true]
  exact ⟨⟨State.modemsRun_of_running (s := s.tick t) hmode hrole, Option.isSome_iff_exists.2 ⟨c, hc⟩⟩, hdue⟩

/-- A silence after a request: its next attempt, or its failure. -/
theorem hartReplyTimeout_goes {carrier : Bool} {r : HartReq} (hreq : (s.modemOf m).req = some r) (hsent : (s.modemOf m).waiting = false)
    (hlate : (s.modemOf m).sentAt + msC 305 ≤ max s.now t) {y : Modem} {failed : Option Nat}
    (hy : hartTimeout (max s.now t) carrier (s.modemOf m) = (y, failed)) : exec (.hartReplyTimeout t ⟨m, carrier⟩) s =
      .next (failed.elim ((s.tick t).setModem m y) (((s.tick t).setModem m y).hartFailed m)) := by
  have htick : hartTimeout (s.tick t).now carrier ((s.tick t).modemOf m) = (y, failed) := hy
  dsimp only [exec, execHartReplyTimeout]
  rw [act_goes (decide_eq_true hm), htick]
  · cases failed <;> rfl
  · simp only [Bool.and_eq_true, Bool.not_eq_true', decide_eq_true_eq]
    exact ⟨⟨⟨State.modemsRun_of_running (s := s.tick t) hmode hrole, Option.isSome_iff_exists.2 ⟨r, hreq⟩⟩, hsent⟩, hlate⟩

/-- A frame that R177 does not accept is a carrier, and no more. -/
theorem hartReply_ignores {c : Nat} {r : HartChars} (hc : modemChannel s.im m = some c) (hr : hartAccepted r = none) :
    exec (.hartReply t m r) s = .next ((s.tick t).loopHeard m) := by
  dsimp only [exec, execHartReply]
  rw [act_goes (decide_eq_true hm) (Bool.and_eq_true_iff.2 ⟨State.modemsRun_of_running (s := s.tick t) hmode hrole,
    Option.isSome_iff_exists.2 ⟨c, hc⟩⟩)]
  refine congrArg _ ?_
  unfold hartAccepted at hr
  split
  · rename_i g hg
    refine if_neg fun hok => ?_
    rw [if_pos hok, hg] at hr
    cases hr
  · rfl

theorem hartReply_hears {c : Nat} {r : HartChars} {g : HartFrame} (hc : modemChannel s.im m = some c) (hr : hartAccepted r = some g) :
    exec (.hartReply t m r) s = .next (((s.tick t).loopHeard m).hears m g r.bytes) := by
  dsimp only [exec, execHartReply]
  rw [act_goes (decide_eq_true hm) (Bool.and_eq_true_iff.2 ⟨State.modemsRun_of_running (s := s.tick t) hmode hrole,
    Option.isSome_iff_exists.2 ⟨c, hc⟩⟩)]
  obtain ⟨hok, hg⟩ : (r.parity ∧ 2 ≤ r.preambles ∧ r.preambles ≤ 20) ∧ hartParse r.bytes = some g := by
    simpa [hartAccepted] using hr
  rw [hg]
  exact congrArg _ (if_pos hok)

theorem hartCarrierEnd_goes (hcarrier : (s.modemOf m).carrier = true) :
    exec (.hartCarrierEnd t m) s = .next ((s.tick t).setModem m (hartQuiet (max s.now t) (s.modemOf m))) := by
  dsimp only [exec, execHartCarrierEnd]
  exact act_goes (decide_eq_true hm) (Bool.and_eq_true_iff.2 ⟨State.modemsRun_of_running (s := s.tick t) hmode hrole, hcarrier⟩)

end

/-! ## A request that has failed (R178, R181, R518) -/

section
variable {m c : Nat} {s : State} (hc : modemChannel s.im m = some c) (addr : Nat)
include hc

theorem State.hartFailed_eq : s.hartFailed m addr =
    (s.modEng fun e => { e with
      hdev := tabMod [] e.hdev c fun t => tabMod {} t addr fun d => { d with nFail := satN 16 (d.nFail + 1) } }).modReg (m / 8)
        fun r => { r with hartFail := r.hartFail + 1 } := by
  rw [State.hartFailed, hc]

theorem State.hartFailed_modemOf (k : Nat) : (s.hartFailed m addr).modemOf k = s.modemOf k := by
  rw [State.hartFailed_eq hc]
  rfl

/-- A failed request counts in the device that it asked and in the region of its modem cell (R181, R518). -/
theorem State.hartFailed_counts : ((s.hartFailed m addr).regOf (m / 8)).hartFail = (s.regOf (m / 8)).hartFail + 1 ∧
    (hartDev (tabGet [] (s.hartFailed m addr).eng.hdev c) addr).nFail =
      satN 16 ((hartDev (tabGet [] s.eng.hdev c) addr).nFail + 1) := by
  rw [State.hartFailed_eq hc]
  refine ⟨congrArg RegDiag.hartFail (State.regOf_modReg ..), ?_⟩
  simp [hartDev]

end

/-! ## Frames that are heard (R52, R177) -/

section
variable (m : Nat) (s : State)

theorem State.loopHeard_modemOf : (s.loopHeard m).modemOf m = { s.modemOf m with carrier := true } := by
  rw [State.loopHeard, State.toneSeen_modemOf, State.modemOf_modModem]

theorem State.loopHeard_modemOf_ne {k : Nat} (h : k ≠ m) : (s.loopHeard m).modemOf k = s.modemOf k := by
  rw [State.loopHeard, State.toneSeen_modemOf, State.modemOf_modModem_ne _ h]

theorem State.loopHeard_sameBut : s.sameBut [.blks] (s.loopHeard m) := State.sameBut_of_rest (by simp)

end

section
variable (order index : Nat) (body : EntryBody)

theorem State.stampEntry_modemOf (s : State) (k : Nat) : (s.stampEntry order index body).modemOf k = s.modemOf k := by
  unfold State.stampEntry
  dsimp only
  split <;> rfl

/-- An entry is stamped by the clock and the inputs of its unit, whatever its blocks hold. -/
theorem State.stampEntry_inp_of_blks {s u : State} (h : s.sameBut [.blks] u) :
    (u.stampEntry order index body).inp = (s.stampEntry order index body).inp := by
  have hstamps : u.stamps order = s.stamps order := by
    rw [State.stamps, State.stamps, h.pair (by decide), h.replay (by decide)]
  unfold State.stampEntry
  rw [hstamps, h.now (by decide)]
  dsimp only
  split
  · rw [State.modInp_inp, State.modInp_inp, h.inp (by decide)]
  · exact h.inp (by decide)

theorem State.stampEntry_length {s : State} (hrole : s.unt.pair.role ≠ 2) (hreplay : s.port.replay = false) :
    (s.stampEntry order index body).inp.gather.length = s.inp.gather.length + 1 := by
  have hstamps : s.stamps order = true := by simp [State.stamps, hrole, hreplay]
  unfold State.stampEntry
  dsimp only
  rw [if_pos hstamps]
  simp

end

/-- The reply to a request ends it, and the carrier of the reply stands on. -/
theorem hartAnswered_of_answer {t : HartTable} {g : HartFrame} {x : Modem} (h : hartAnswers t g x = true) :
    (hartAnswered x).req = none ∧ (hartAnswered x).carrier = x.carrier := by
  obtain ⟨r, hreq⟩ : ∃ r, x.req = some r := by
    cases hreq : x.req with
    | none => simp [hartAnswers, hreq] at h
    | some r => exact ⟨r, rfl⟩
  simp only [hartAnswered, hreq]
  exact hartScanOn_transaction ..

section
variable {m : Nat} {g : HartFrame} {bytes : List Byte} {s : State}

theorem State.hears_burst (hb : g.burst = true) : s.hears m g bytes =
    (s.modModem m fun x => { x with nBurst := x.nBurst + 1 }).stampEntry 2 m (.hart m bytes) := if_pos hb

theorem State.hears_answer (hb : g.burst = false) (ha : hartAnswers (s.devicesOf m) g (s.modemOf m) = true) :
    s.hears m g bytes = (s.modModem m hartAnswered).stampEntry 2 m (.hart m bytes) :=
  (if_neg (Bool.eq_false_iff.1 hb)).trans (if_pos ha)

theorem State.hears_other (hb : g.burst = false) (ha : hartAnswers (s.devicesOf m) g (s.modemOf m) = false) :
    s.hears m g bytes = s :=
  (if_neg (Bool.eq_false_iff.1 hb)).trans (if_neg (Bool.eq_false_iff.1 ha))

theorem State.hears_modemOf_ne {k : Nat} (h : k ≠ m) : (s.hears m g bytes).modemOf k = s.modemOf k := by
  unfold State.hears
  repeat' split
  · rw [State.stampEntry_modemOf, State.modemOf_modModem_ne _ h]
  · rw [State.stampEntry_modemOf, State.modemOf_modModem_ne _ h]
  · rfl

theorem State.hears_carrier : ((s.hears m g bytes).modemOf m).carrier = (s.modemOf m).carrier := by
  unfold State.hears
  split
  · rw [State.stampEntry_modemOf, State.modemOf_modModem]
  · split
    · rename_i ha
      rw [State.stampEntry_modemOf, State.modemOf_modModem]
      exact (hartAnswered_of_answer ha).2
    · rfl

/-- A burst frame and an answer are inputs of a frame (R52). -/
theorem State.hears_inp (h : g.burst = true ∨ hartAnswers (s.devicesOf m) g (s.modemOf m) = true) :
    (s.hears m g bytes).inp = (s.stampEntry 2 m (.hart m bytes)).inp := by
  by_cases hb : g.burst = true
  · rw [State.hears_burst hb]
    exact State.stampEntry_inp_of_blks _ _ _ (s.modModem_sameBut _)
  · rw [State.hears_answer (Bool.eq_false_iff.2 hb) (h.resolve_left hb)]
    exact State.stampEntry_inp_of_blks _ _ _ (s.modModem_sameBut _)

end

section
variable (s : State) {m : Nat} {g : HartFrame} {bytes : List Byte}

/-- The carrier of a frame decides nothing about what the frame answers. -/
theorem State.loopHeard_answers : hartAnswers ((s.loopHeard m).devicesOf m) g ((s.loopHeard m).modemOf m) =
    hartAnswers (s.devicesOf m) g (s.modemOf m) := by
  have hframe := s.loopHeard_sameBut m
  rw [State.devicesOf, State.devicesOf, hframe.im (by decide), hframe.eng (by decide), State.loopHeard_modemOf]
  rfl

theorem State.heard_burst (hb : g.burst = true) : ((s.loopHeard m).hears m g bytes).modemOf m =
    { s.modemOf m with carrier := true, nBurst := (s.modemOf m).nBurst + 1 } := by
  rw [State.hears_burst hb, State.stampEntry_modemOf, State.modemOf_modModem, State.loopHeard_modemOf]

theorem State.heard_answer (hb : g.burst = false) (ha : hartAnswers (s.devicesOf m) g (s.modemOf m) = true) :
    (((s.loopHeard m).hears m g bytes).modemOf m).req = none := by
  rw [← State.loopHeard_answers] at ha
  rw [State.hears_answer hb ha, State.stampEntry_modemOf, State.modemOf_modModem]
  exact (hartAnswered_of_answer ha).1

theorem State.heard_other (hb : g.burst = false) (ha : hartAnswers (s.devicesOf m) g (s.modemOf m) = false) :
    (s.loopHeard m).hears m g bytes = s.loopHeard m := by
  rw [← State.loopHeard_answers] at ha
  exact State.hears_other hb ha

theorem State.heard_inp (h : g.burst = true ∨ hartAnswers (s.devicesOf m) g (s.modemOf m) = true) :
    ((s.loopHeard m).hears m g bytes).inp = (s.stampEntry 2 m (.hart m bytes)).inp := by
  rw [← State.loopHeard_answers] at h
  exact (State.hears_inp h).trans (State.stampEntry_inp_of_blks 2 m _ (s.loopHeard_sameBut m))

end

/-! ## The outcome of a silence (R178) -/

section
variable {t m : Nat} {s : State} (hm : m < 32) (hmode : s.mode = .running) (hrole : s.unt.pair.role ≠ 2)
include hm hmode hrole

/-- A request whose reply did not begin in time is sent again twice, and fails after that (R178). -/
theorem hartReplyTimeout_outcome {r : HartReq} {c : Nat} {carrier : Bool} (hreq : (s.modemOf m).req = some r)
    (hsent : (s.modemOf m).waiting = false) (hlate : (s.modemOf m).sentAt + msC 305 ≤ max s.now t) (hc : modemChannel s.im m = some c) :
    ∃ u, exec (.hartReplyTimeout t ⟨m, carrier⟩) s = .next u ∧ (∀ k, k ≠ m → u.modemOf k = s.modemOf k) ∧
      ((s.modemOf m).attempt < 3 → u.modemOf m = hartNextAttempt (max s.now t) carrier (s.modemOf m) ∧ u.eng = s.eng ∧
        u.unt.regs = s.unt.regs) ∧
      (3 ≤ (s.modemOf m).attempt → u.modemOf m = hartGivenUp carrier r (s.modemOf m) ∧
        (u.regOf (m / 8)).hartFail = (s.regOf (m / 8)).hartFail + 1 ∧
        (hartDev (tabGet [] u.eng.hdev c) r.addr).nFail = satN 16 ((hartDev (tabGet [] s.eng.hdev c) r.addr).nFail + 1)) := by
  have hset (y : Modem) : (s.tick t).sameBut [.blks] ((s.tick t).setModem m y) := State.setModem_sameBut ..
  rcases Nat.lt_or_ge (s.modemOf m).attempt 3 with hmore | hlast
  · have hy := hartTimeout_retries (carrier := carrier) hreq hsent hlate hmore
    exact ⟨_, hartReplyTimeout_goes hm hmode hrole hreq hsent hlate hy, fun k hk => State.setModem_modemOf_ne _ hk _,
      fun _ => ⟨State.setModem_modemOf .., (hset _).eng (by decide), (hset _).2.2 .regs (by decide)⟩,
      fun hlast => absurd hmore (Nat.not_lt.2 hlast)⟩
  · have hy := hartTimeout_fails (carrier := carrier) hreq hsent hlate hlast
    have hchannel : modemChannel ((s.tick t).setModem m (hartGivenUp carrier r (s.modemOf m))).im m = some c := by
      rw [(hset _).im (by decide)]
      exact hc
    obtain ⟨hregion, hdevice⟩ := State.hartFailed_counts hchannel r.addr
    have hregs : ((s.tick t).setModem m (hartGivenUp carrier r (s.modemOf m))).regOf (m / 8) = s.regOf (m / 8) :=
      congrArg (tabGet ({} : RegDiag) · (m / 8)) ((hset _).2.2 .regs (by decide))
    rw [hregs] at hregion
    rw [(hset _).eng (by decide)] at hdevice
    exact ⟨_, hartReplyTimeout_goes hm hmode hrole hreq hsent hlate hy,
      fun k hk => (State.hartFailed_modemOf hchannel _ k).trans (State.setModem_modemOf_ne _ hk _),
      fun hmore => absurd hmore (Nat.not_lt.2 hlast),
      fun _ => ⟨(State.hartFailed_modemOf hchannel _ m).trans (State.setModem_modemOf ..), hregion, hdevice⟩⟩

end

/-- Settles O36: what each happening makes of its modem cell, and an accepted frame as a burst, an answer or neither. -/
theorem hartTransactions : Obligations.HartTransactions := by
  intro t m s hm hmode hrole x others
  refine ⟨fun cmd addr carrier c haddr hc hdue => ?_, fun r c carrier hreq hsent hlate hc => ?_,
    fun preambles parity bytes c hc hreplay => ?_, fun hcarrier => ?_⟩
  -- HART_REQUEST_DUE
  · have hgoes := hartRequestDue_goes (carrier := carrier) hm hmode hrole haddr hc hdue
    have hcell (y : Modem) : ((s.tick t).setModem m y).modemOf m = y := State.setModem_modemOf ..
    refine ⟨_, hgoes, fun k hk => State.setModem_modemOf_ne _ hk _, congrArg Modem.req (hcell _), congrArg Modem.attempt (hcell _),
      congrArg Modem.sentAt (hcell _), congrArg Modem.waiting (hcell _), fun hao hquiet hx => ?_,
      (commandsWriteOnlyTheirParts _ _ _ hgoes).1⟩
    exact State.setModem_loopOf (s := s.tick t) hc hao rfl (Bool.or_eq_false_iff.2 ⟨hquiet, hx⟩)
  -- HART_REPLY_TIMEOUT
  · obtain ⟨u, hgoes, hothers, hretries, hfails⟩ := hartReplyTimeout_outcome (carrier := carrier) hm hmode hrole hreq hsent hlate hc
    refine ⟨u, hgoes, hothers, (commandsWriteOnlyTheirParts _ _ _ hgoes).1, ?_, fun hmore => ?_, fun hlast => ?_⟩
    · rcases Nat.lt_or_ge x.attempt 3 with hmore | hlast
      · rw [(hretries hmore).1]
        rfl
      · rw [(hfails hlast).1]
        exact (hartGivenUp_transaction ..).2
    · obtain ⟨hcell, heng, hregs⟩ := hretries hmore
      rw [hcell]
      exact ⟨hreq, rfl, rfl, rfl, heng, hregs⟩
    · obtain ⟨hcell, hregion, hdevice⟩ := hfails hlast
      rw [hcell]
      exact ⟨(hartGivenUp_transaction ..).1, hregion, hdevice⟩
  -- HART_REPLY
  · intro valid
    have hcarrier := (s.tick t).loopHeard_modemOf m
    have hframe := (s.tick t).loopHeard_sameBut m
    have hunheard : (((s.tick t).loopHeard m).modemOf m).req = x.req ∧ ((s.tick t).loopHeard m).inp = s.inp :=
      ⟨(congrArg Modem.req hcarrier :), hframe.inp (by decide)⟩
    cases hr : hartAccepted ⟨preambles, parity, bytes⟩ with
    | none =>
      have hgoes := hartReply_ignores (t := t) hm hmode hrole hc hr
      refine ⟨_, hgoes, fun k hk => State.loopHeard_modemOf_ne _ _ hk, congrArg Modem.carrier hcarrier,
        (commandsWriteOnlyTheirParts _ _ _ hgoes).1, fun _ => hunheard, fun g hg hvalid => ?_, fun _ _ _ _ => hunheard⟩
      cases hr.symm.trans (hartAccepted_eq_some.2 ⟨hvalid, hg⟩)
    | some g =>
      obtain ⟨hvalid, hg⟩ := hartAccepted_eq_some.1 hr
      have hgoes := hartReply_hears (t := t) hm hmode hrole hc hr
      refine ⟨_, hgoes, fun k hk => (State.hears_modemOf_ne hk).trans (State.loopHeard_modemOf_ne _ _ hk),
        State.hears_carrier.trans (congrArg Modem.carrier hcarrier), (commandsWriteOnlyTheirParts _ _ _ hgoes).1, fun hbad => ?_,
        fun g' hg' _ hin => ?_, fun g' hg' hburst hno => ?_⟩
      · rcases hbad with hbad | hbad
        · cases hg.symm.trans hbad
        · cases hvalid.symm.trans hbad
      · cases hg.symm.trans hg'
        have hinp := (s.tick t).heard_inp (bytes := bytes) hin
        refine ⟨hinp, ?_, fun hburst => ?_, fun hburst => (s.tick t).heard_answer hburst (hin.resolve_left (by simp [hburst]))⟩
        · rw [hinp]
          exact State.stampEntry_length (s := s.tick t) 2 m _ hrole hreplay
        · rw [(s.tick t).heard_burst hburst]
          exact ⟨rfl, rfl⟩
      · cases hg.symm.trans hg'
        rw [(s.tick t).heard_other hburst hno]
        exact hunheard
  -- HART_CARRIER_END
  · have hgoes := hartCarrierEnd_goes (t := t) hm hmode hrole hcarrier
    have hcell := State.setModem_modemOf (m := m) (s.tick t) (hartQuiet (max s.now t) (s.modemOf m))
    exact ⟨_, hgoes, fun k hk => State.setModem_modemOf_ne _ hk _, congrArg Modem.carrier hcell, congrArg Modem.waiting hcell,
      (congrArg Modem.req hcell :), (commandsWriteOnlyTheirParts _ _ _ hgoes).1⟩

end Sys2Proof.Machine
end

section
/-! PROOFS. Host values of output channels and the clearing of totals (R165, R186, R199): an opcode that is refused by the mode or the
source of its channel, or that notes in the engine part what its frame evaluates. -/

namespace Sys2Proof.Machine

section
variable {h : PktHead} {op : Op} {s : State} {f : EngPart → EngPart}

/-- A write of the engine part reaches no other part. -/
theorem State.modEng_sameBut (f : EngPart → EngPart) (s : State) : s.sameBut [.eng] (s.modEng f) :=
  State.sameBut_of_rest (State.modEng_rest _ _ (by decide))

variable (hr : s.ready h (opCode op)) (hA : opAlarm op = false) (hw : op ≠ .warmRestart)
include hr hA hw

/-- An opcode that writes the engine part by `f` and answers when the open frame is complete. -/
theorem runRow_notes (ho : runOp op false (makeCaller (s.codeOf h.port) h.session (opCode op) h) (s.accepted h (opCode op)) =
      ((s.accepted h (opCode op)).modEng f).done) :
    ∃ u, runRow h true true false op s = .next u ∧ s.repliedAt u h op s.fr.frameNo stOk [] ∧ u.eng = f s.eng ∧ s.served u h [.eng] := by
  have hq := State.modEng_sameBut f (s.accepted h (opCode op))
  obtain ⟨u, e, hreply, hserved, hsame, -⟩ := runRow_sent_served hr hA hw ho (State.tame_of_sameBut hq (by decide)) hq rfl
  refine ⟨u, e, hreply, ?_, hserved⟩
  rw [hsame.eng (not_mem_replyParts (by decide)), State.modEng_eng, (s.accepted_sameBut h _).eng (by decide)]

/-- An opcode that is refused with BAD_VALUE where the running image meets `bad`, and is noted in the engine part where it does not. -/
theorem runRow_refusedOrNoted (bad : Image → Prop) [DecidablePred bad] (ho : ∀ c x, runOp op false c x =
      if bad x.im then deny stBadValue x else (x.modEng f).done) :
    ∃ u, runRow h true true false op s = .next u ∧ (bad s.im → s.onlyReplied u h (opCode op) stBadValue []) ∧
      (¬ bad s.im → s.repliedAt u h op s.fr.frameNo stOk [] ∧ u.eng = f s.eng ∧ s.served u h [.eng]) := by
  have hrun := ho (makeCaller (s.codeOf h.port) h.session (opCode op) h) (s.accepted h (opCode op))
  rw [State.accepted_im] at hrun
  by_cases hbad : bad s.im
  · obtain ⟨u, e, hu⟩ := runRow_onlyReplied hr (by simp [hA]) (hrun.trans (if_pos hbad)) hw
    exact ⟨u, e, fun _ => hu, fun hgood => absurd hbad hgood⟩
  · obtain ⟨u, e, hu⟩ := runRow_notes hr hA hw (hrun.trans (if_neg hbad))
    exact ⟨u, e, fun hb => absurd hb hbad, fun _ => hu⟩

end

section
variable {ch : Nat} (hch : ch < 512) (h : PktHead) (s : State)
include hch

theorem exec_writeDo (st : Bool) : exec (.writeDo h ch st) s = runRow h true true false (.writeDo ch st) s := by
  dsimp only [exec, execWriteDo]
  rw [isCh_of_lt hch]

theorem exec_writeAo {v : Int} (hlo : -2147483648 ≤ v) (hhi : v < 2147483648) :
    exec (.writeAo h ch v) s = runRow h true true false (.writeAo ch v) s := by
  have hfits : (isCh ch && isI32 v) = true := by simp [isCh, isI32, hch, hlo, hhi]
  dsimp only [exec, execWriteAo]
  rw [hfits]

theorem exec_clearTotal : exec (.clearTotal h ch) s = runRow h true true false (.clearTotal ch) s := by
  dsimp only [exec, execClearTotal]
  rw [isCh_of_lt hch]

end

/-- Settles O11: each opcode by the mode and the source of its channel, which alone refuse it. -/
theorem channelWrites : Obligations.ChannelWrites := by
  refine ⟨fun h s ch st hr hch => ?_, fun h s ch v hr hch hlo hhi => ?_, fun h s ch hr hch => ?_⟩
  -- WRITE_DO
  · obtain ⟨u, e, hrefused, hnoted⟩ := runRow_refusedOrNoted (op := .writeDo ch st) hr rfl nofun
      (fun im => chMode im ch ≠ 8 ∨ outNamed im ch = true) fun _ _ => rfl
    exact ⟨u, (exec_writeDo hch h s st).trans e, hrefused, fun hmode hfree => hnoted (by simp [hmode, hfree])⟩
  -- WRITE_AO
  · obtain ⟨u, e, hrefused, hnoted⟩ := runRow_refusedOrNoted (op := .writeAo ch v) hr rfl nofun
      (fun im => chMode im ch ≠ 6 ∨ aoSrc im ch = 1) fun _ _ => rfl
    exact ⟨u, (exec_writeAo hch h s hlo hhi).trans e, hrefused, fun hmode hsrc => hnoted (by simp [hmode, hsrc])⟩
  -- CLEAR_TOTAL
  · obtain ⟨u, e, hrefused, hnoted⟩ := runRow_refusedOrNoted (op := .clearTotal ch) hr rfl nofun (fun im => chMode im ch ≠ 9)
      fun _ _ => rfl
    exact ⟨u, (exec_clearTotal hch h s).trans e, hrefused, fun hmode => hnoted (not_not_intro hmode)⟩

end Sys2Proof.Machine
end

section
/-! PROOFS. Blocks as a whole (R207, R211, R419, R494, R514): the thresholds of the field supply, island power and the enable flag act on
their own block, and a block whose outputs are off drives none of them. -/

namespace Sys2Proof.Machine

/-- A command that goes on leaves the parts that it does not touch. -/
theorem State.sameBut_of_exec {i : Instr} {ps : List Part} {s u : State} (hgoes : exec i s = .next u) (htouches : touches i = ps) :
    s.sameBut ps u := by
  obtain ⟨hsame, -⟩ := commandsWriteOnlyTheirParts i s u hgoes
  exact htouches ▸ hsame

/-! ## Outputs that are off (R211) -/

section
variable {s : State} {c : Nat} (h : (s.outputsOff (c / 8) || (s.blkOf (c / 8)).fsOff) = true)
include h

/-- A switch is open while its block withholds its outputs or is in FS_OFF. -/
theorem State.drives_of_off : s.drives c = false := by
  unfold State.drives doDrive
  exact if_pos h

/-- A loop has no command while its block withholds its outputs or is in FS_OFF. -/
theorem State.targetOf_of_off : s.targetOf c = loopTarget 0 (s.loopOf c) := by
  rw [State.targetOf_eq, State.targetBase, if_pos h]

end

theorem State.outputsOff_of_withheld {s : State} {b : Nat} (h : (s.blkOf b).withheld = true) : s.outputsOff b = true := by
  simp [State.outputsOff, State.withheldBlk, h]

/-! ## A block after a reading of its supply -/

section
variable (b mv : Nat) (s : State)

/-- In `u` block `b` has read `mv` at its input and is `k`, and no other block is written. -/
def State.supplyReads (b mv : Nat) (k : Blk) (s u : State) : Prop :=
  u.blkOf b = k ∧ (u.bdiagOf b).fsMv = mv ∧ s.blks.onlyBlock b u.blks

theorem State.bdiagOf_modBdiag (g : BlkDiag → BlkDiag) : (s.modBdiag b g).bdiagOf b = g (s.bdiagOf b) := tabGet_mod_self ..

theorem State.supplyRead_fsMv : ((s.supplyRead b mv).bdiagOf b).fsMv = mv :=
  congrArg BlkDiag.fsMv (s.bdiagOf_modBdiag b fun d => { d with fsMv := mv })

theorem State.supplyRead_onlyBlock : s.blks.onlyBlock b (s.supplyRead b mv).blks := s.modBdiag_onlyBlock b _

theorem State.supplyRead_modBlk (f : Blk → Blk) : s.supplyReads b mv (f (s.blkOf b)) ((s.supplyRead b mv).modBlk b f) :=
  ⟨State.blkOf_modBlk .., s.supplyRead_fsMv b mv, (s.supplyRead_onlyBlock b mv).trans (State.modBlk_onlyBlock ..)⟩

end

/-! ## FS_OFF (R207) -/

/-- The end of a pulse changes nothing of the block but the pulse. -/
theorem pulseOff_eq (c : Nat) (k : Blk) : pulseOff c k = { k with pulse := (pulseOff c k).pulse } := by
  unfold pulseOff
  split
  · split <;> rfl
  · rfl

/-- FS_OFF of block `b` reaches the DO cell of channel `c`. -/
def State.cellOff (b : Nat) (s : State) (c : Nat) : State := (s.modOut c fun o => { o with fsOff := true }).modBlk b (pulseOff c)

/-- What the cells of block `b` that FS_OFF reaches leave: the block but for its pulse, the diagnostics and the loops. -/
def State.besideCellsOff (b : Nat) (s : State) : Blk × Tab BlkDiag × Tab LoopCell :=
  ({ s.blkOf b with pulse := none }, s.blks.diag, s.blks.loop)

section
variable (b : Nat) (s : State)

theorem State.cellOff_beside (c : Nat) : (s.cellOff b c).besideCellsOff b = s.besideCellsOff b := by
  have hblk : (s.cellOff b c).blkOf b = pulseOff c (s.blkOf b) := State.blkOf_modBlk ..
  rw [State.besideCellsOff, hblk, pulseOff_eq]
  rfl

theorem State.cellOff_onlyBlock {c : Nat} (hc : c / 8 = b) : s.blks.onlyBlock b (s.cellOff b c).blks :=
  (s.modOut_onlyBlock hc _).trans (State.modBlk_onlyBlock ..)

theorem State.cellOff_outOf (c : Nat) : (s.cellOff b c).outOf c = { s.outOf c with fsOff := true } :=
  s.outOf_modOut c fun o => { o with fsOff := true }

theorem State.cellOff_outOf_ne {c k : Nat} (h : k ≠ c) : (s.cellOff b k).outOf c = s.outOf c :=
  s.outOf_modOut_ne h.symm fun o => { o with fsOff := true }

/-- The DO cells of block `b`. -/
def State.switchesOf (b : Nat) (s : State) : List Nat := (blkChannels b).filter fun c => decide (chMode (s.bim b) c = 8)

theorem State.supplyOff_eq : s.supplyOff b =
    (s.switchesOf b).foldl (State.cellOff b) (s.modBlk b fun k => { k with fsOff := true, fsBack := false }) := rfl

theorem State.supplyOff_beside : (s.supplyOff b).besideCellsOff b =
    ({ s.blkOf b with fsOff := true, fsBack := false, pulse := none }, s.blks.diag, s.blks.loop) := by
  rw [State.supplyOff_eq, foldl_keep (State.besideCellsOff b) _ (State.cellOff_beside b), State.besideCellsOff, State.blkOf_modBlk]
  rfl

theorem State.supplyOff_flags : ((s.supplyOff b).blkOf b).fsOff = true ∧ ((s.supplyOff b).blkOf b).fsBack = false :=
  have hblk := congrArg Prod.fst (s.supplyOff_beside b)
  ⟨(congrArg Blk.fsOff hblk :), (congrArg Blk.fsBack hblk :)⟩

theorem State.supplyOff_cells : (s.supplyOff b).blks.diag = s.blks.diag ∧ (s.supplyOff b).blks.loop = s.blks.loop :=
  Prod.mk.inj (congrArg Prod.snd (s.supplyOff_beside b))

theorem State.supplyOff_bdiagOf (k : Nat) : (s.supplyOff b).bdiagOf k = s.bdiagOf k :=
  have ⟨hdiag, _⟩ := s.supplyOff_cells b
  congrArg (fun d : Tab BlkDiag => tabGet ({} : BlkDiag) d k) hdiag

theorem State.supplyOff_loopOf (c : Nat) : (s.supplyOff b).loopOf c = s.loopOf c :=
  have ⟨_, hloop⟩ := s.supplyOff_cells b
  congrArg (fun l : Tab LoopCell => tabGet ({} : LoopCell) l c) hloop

theorem State.supplyOff_onlyBlock : s.blks.onlyBlock b (s.supplyOff b).blks :=
  (s.modBlk_onlyBlock b _).foldl fun u _ hc => u.cellOff_onlyBlock b (div_of_blkChannels (List.mem_filter.1 hc).1)

/-- Each DO cell of the block records FS_OFF. -/
theorem State.supplyOff_outOf {c : Nat} (hmode : chMode (s.bim (c / 8)) c = 8) :
    (s.supplyOff (c / 8)).outOf c = { s.outOf c with fsOff := true } :=
  foldl_visits (P := fun u : State => u.outOf c = s.outOf c) (Q := fun u : State => u.outOf c = { s.outOf c with fsOff := true })
    ((nodup_blkChannels _).filter _) (List.mem_filter.2 ⟨mem_blkChannels c, decide_eq_true hmode⟩)
    (fun u _ hk hu => (u.cellOff_outOf_ne _ hk).trans hu) (fun u hu => by rw [State.cellOff_outOf, hu])
    (fun u _ hk hu => (u.cellOff_outOf_ne _ hk).trans hu) rfl

end

/-! ## The thresholds (R207, R494) -/

/-- Block `b` reads `mv` and loses its island power: nothing of its state or of its sequencer stays. -/
def State.islandLost (b mv : Nat) (s : State) : State :=
  ((s.supplyRead b mv).modBlk b fun _ => {}).modSeq b fun _ => {}

theorem State.islandLost_reads (b mv : Nat) (s : State) : s.supplyReads b mv {} (s.islandLost b mv) ∧ (s.islandLost b mv).seqOf b = {} :=
  have ⟨hblk, hmv, honly⟩ := s.supplyRead_modBlk b mv fun _ => {}
  ⟨⟨hblk, hmv, honly.trans (State.modSeq_onlyBlock ..)⟩, State.seqOf_modSeq ..⟩

section
variable {t b mv heldUs : Nat} {s : State} (hb : b < 64)
include hb

/-- A happening of block `b` comes about where its state lets it and its supply has held a threshold for its time. -/
theorem act_threshold {c : State → Bool} {level held : Prop} [Decidable level] [Decidable held] {f : State → State}
    (hc : c (s.tick t) = true) (hlevel : level) (hheld : held) :
    act (isBlk b) t (fun s => c s && decide level && decide held) f s = .next (f (s.tick t)) :=
  act_goes (isBlk_of_lt hb) (by simp [hc, hlevel, hheld])

section
variable (hruns : s.blkRuns b = true)
include hruns

theorem fsLowSet_goes (hmv : mv < 19200) (hus : 1000 ≤ heldUs) : exec (.fsLowSet t b mv heldUs) s =
    .next (((s.tick t).supplyRead b mv).modBlk b fun k => { k with fsLow := true }) := by
  dsimp only [exec, execFsLowSet]
  exact act_threshold (c := fun s => s.blkRuns b) hb hruns hmv hus

theorem fsLowClear_goes (hmv : 19600 ≤ mv) (hus : 10000 ≤ heldUs) : exec (.fsLowClear t b mv heldUs) s =
    .next (((s.tick t).supplyRead b mv).modBlk b fun k => { k with fsLow := false }) := by
  dsimp only [exec, execFsLowClear]
  exact act_threshold (c := fun s => s.blkRuns b) hb hruns hmv hus

theorem fsOffSet_goes (hmv : mv < 16000) (hus : 200 ≤ heldUs) : exec (.fsOffSet t b mv heldUs) s =
    .next (((s.tick t).supplyRead b mv).supplyOff b) := by
  dsimp only [exec, execFsOffSet]
  exact act_threshold (c := fun s => s.blkRuns b) hb hruns hmv hus

theorem fsOffEnd_goes (hoff : (s.blkOf b).fsOff = true) (hmv : 18000 ≤ mv) (hus : 10000 ≤ heldUs) : exec (.fsOffEnd t b mv heldUs) s =
    .next (((s.tick t).supplyRead b mv).modBlk b fun k => { k with fsBack := true }) := by
  dsimp only [exec, execFsOffEnd]
  exact act_threshold (c := fun s => s.blkRuns b && (s.blkOf b).fsOff) hb (Bool.and_eq_true_iff.2 ⟨hruns, hoff⟩) hmv hus

end

theorem blockPowerLost_goes (hpow : (s.blkOf b).powered = true) (hmv : mv < 14000) : exec (.blockPowerLost t b mv) s =
    .next (((s.tick t).islandLost b mv).unitEvs [{ code := 0x0115, src := b, p2 := mv }]) := by
  dsimp only [exec, execBlockPowerLost]
  exact act_goes (isBlk_of_lt hb) (Bool.and_eq_true_iff.2 ⟨hpow, decide_eq_true hmv⟩)

theorem blockPowerRestore_goes (hwit : s.isWitness = false) (hpow : (s.blkOf b).powered = false) (hmv : 16500 ≤ mv)
    (hus : 10000 ≤ heldUs) : exec (.blockPowerRestore t b mv heldUs) s =
    .next (((s.tick t).supplyRead b mv).modBlk b fun _ => { powered := true, joining := true }) := by
  have hunit : (s.tick t).isWitness = false := hwit
  have hdown : ((s.tick t).blkOf b).powered = false := hpow
  dsimp only [exec, execBlockPowerRestore]
  exact act_threshold (c := fun s => !s.isWitness && !(s.blkOf b).powered) hb (by simp [hunit, hdown]) hmv hus

/-- The blocks of a witness stay unpowered (R3). -/
theorem blockPowerRestore_idles (hwit : s.isWitness = true) : exec (.blockPowerRestore t b mv heldUs) s = .next (s.tick t) := by
  have hidle : (s.tick t).isWitness = true := hwit
  dsimp only [exec, execBlockPowerRestore]
  exact act_idles (isBlk_of_lt hb) (by simp [hidle])

end

/-- Settles O33: each threshold writes its own block, and FS_OFF holds the outputs of the block at the first condition of R211. -/
theorem fieldSupplyOfBlocks : Obligations.FieldSupplyOfBlocks := by
  intro t b mv heldUs s hb of
  refine ⟨fun hruns => ⟨fun hmv hus => ?_, fun hmv hus => ?_, fun hmv hus => ?_, fun hoff hmv hus => ?_⟩, fun hpow hmv => ?_,
    fun hwit hpow hmv hus => ?_, fun hwit => blockPowerRestore_idles hb hwit⟩
  -- FS_LOW_SET
  · have hgoes := fsLowSet_goes (t := t) hb hruns hmv hus
    exact ⟨_, hgoes, (s.tick t).supplyRead_modBlk b mv _, State.sameBut_of_exec hgoes rfl⟩
  -- FS_LOW_CLEAR
  · have hgoes := fsLowClear_goes (t := t) hb hruns hmv hus
    exact ⟨_, hgoes, (s.tick t).supplyRead_modBlk b mv _, State.sameBut_of_exec hgoes rfl⟩
  -- FS_OFF_SET
  · have hgoes := fsOffSet_goes (t := t) hb hruns hmv hus
    obtain ⟨hfsOff, hfsBack⟩ := ((s.tick t).supplyRead b mv).supplyOff_flags b
    have hloop := ((s.tick t).supplyRead b mv).supplyOff_loopOf b
    refine ⟨_, hgoes, hfsOff, hfsBack, ?_, ((s.tick t).supplyRead_onlyBlock b mv).trans (State.supplyOff_onlyBlock b _),
      State.sameBut_of_exec hgoes rfl, ?_⟩
    · rw [State.supplyOff_bdiagOf]
      exact (s.tick t).supplyRead_fsMv b mv
    · rintro c rfl
      refine ⟨State.drives_of_off (Bool.or_eq_true_iff.2 (.inr hfsOff)), ?_, hloop c, fun hmode => State.supplyOff_outOf _ hmode⟩
      rw [State.targetOf_of_off (Bool.or_eq_true_iff.2 (.inr hfsOff)), hloop]
      rfl
  -- FS_OFF_END
  · have hgoes := fsOffEnd_goes (t := t) hb hruns hoff hmv hus
    exact ⟨_, hgoes, (s.tick t).supplyRead_modBlk b mv _, State.sameBut_of_exec hgoes rfl⟩
  -- BLOCK_POWER_LOST
  · have hgoes := blockPowerLost_goes (t := t) hb hpow hmv
    obtain ⟨⟨hblk, hfsMv, honly⟩, hseq⟩ := (s.tick t).islandLost_reads b mv
    have hblks := State.unitEvs_blks [{ code := 0x0115, src := b, p2 := mv }] ((s.tick t).islandLost b mv)
    refine ⟨_, hgoes, ?_, ?_, State.unitEvs_recd_congr _ rfl rfl rfl, State.sameBut_of_exec hgoes rfl⟩
    · simp only [of, State.blkOf, State.bdiagOf, hblks]
      exact ⟨hblk, hfsMv, honly⟩
    · rw [State.seqOf, hblks]
      exact hseq
  -- BLOCK_POWER_RESTORE
  · have hgoes := blockPowerRestore_goes (t := t) hb hwit hpow hmv hus
    exact ⟨_, hgoes, (s.tick t).supplyRead_modBlk b mv _, State.sameBut_of_exec hgoes rfl⟩

/-! ## The enable flag (R419) and island power (R514) -/

/-- ISLAND_PWR after `heldUs` with the converter's output off by `off` hundredths of a millivolt, where it was `old`. -/
def islandJudge (nominalMv off heldUs : Nat) (old : Bool) : Bool :=
  if 5 * nominalMv < off ∧ 1000 ≤ heldUs then true else if off ≤ 4 * nominalMv ∧ 10000 ≤ heldUs then false else old

theorem islandJudge_sets {nominalMv off heldUs : Nat} (hoff : 5 * nominalMv < off) (hus : 1000 ≤ heldUs) (old : Bool) :
    islandJudge nominalMv off heldUs old = true := if_pos ⟨hoff, hus⟩

theorem islandJudge_sound {nominalMv off : Nat} (hoff : off ≤ 5 * nominalMv) (heldUs : Nat) :
    islandJudge nominalMv off heldUs false = false := by
  rw [islandJudge, if_neg (by omega), ite_self]

section
variable {t b : Nat} {s : State} (hb : b < 64) (hruns : s.blkRuns b = true)
include hb hruns

theorem enableFlagLoss_goes (h : s.paired = true ∨ s.flagOn = false) :
    exec (.enableFlagLoss t b) s = .next ((s.tick t).modBlk b fun k => { k with withheld := true }) := by
  dsimp only [exec, execEnableFlagLoss]
  refine act_goes (isBlk_of_lt hb) ?_
  simp only [Bool.and_eq_true, Bool.or_eq_true, Bool.not_eq_true']
  exact ⟨hruns, h⟩

theorem enableFlagSet_goes (h : s.flagOn = true) :
    exec (.enableFlagSet t b) s = .next ((s.tick t).modBlk b fun k => { k with withheld := false }) := by
  dsimp only [exec, execEnableFlagSet]
  exact act_goes (isBlk_of_lt hb) (Bool.and_eq_true_iff.2 ⟨hruns, h⟩)

theorem islandPwr_goes (islandMv fsMv nominalMv heldUs : Nat) : exec (.islandPwr t b islandMv fsMv nominalMv heldUs) s =
    .next (((s.tick t).modBdiag b fun d => { d with islandMv := islandMv, fsMv := fsMv }).modBlk b fun k => { k with
      islandPwr := islandJudge nominalMv (100 * (islandMv - nominalMv : Int).natAbs) heldUs k.islandPwr }) := by
  dsimp only [exec, execIslandPwr]
  exact act_goes (c := fun s => s.blkRuns b) (isBlk_of_lt hb) hruns

end

/-- Settles O35: the flag is the first condition of R211 for its whole block, and island power is judged by its deviation. -/
theorem blockFlags : Obligations.BlockFlags := by
  intro t b s hb hruns
  refine ⟨fun hflag => ?_, fun hflag => ?_, fun islandMv fsMv nominalMv heldUs => ?_⟩
  -- ENABLE_FLAG_LOSS
  · have hgoes := enableFlagLoss_goes (t := t) hb hruns hflag
    have hblk := (s.tick t).blkOf_modBlk b fun k => { k with withheld := true }
    refine ⟨_, hgoes, hblk, ?_, (s.tick t).modBlk_onlyBlock b _, State.sameBut_of_exec hgoes rfl⟩
    rintro c rfl
    have hoff := State.outputsOff_of_withheld (congrArg Blk.withheld hblk)
    exact ⟨State.drives_of_off (Bool.or_eq_true_iff.2 (.inl hoff)), State.targetOf_of_off (Bool.or_eq_true_iff.2 (.inl hoff))⟩
  -- ENABLE_FLAG_SET
  · have hgoes := enableFlagSet_goes (t := t) hb hruns hflag
    have hblk := (s.tick t).blkOf_modBlk b fun k => { k with withheld := false }
    refine ⟨_, hgoes, hblk, ?_, (s.tick t).modBlk_onlyBlock b _, State.sameBut_of_exec hgoes rfl⟩
    have hon : ((s.tick t).modBlk b fun k => { k with withheld := false }).flagOn = true := hflag
    simp [State.withheldBlk, hblk, hon]
  -- ISLAND_PWR
  · have hgoes := islandPwr_goes (t := t) hb hruns islandMv fsMv nominalMv heldUs
    have hdiag := (s.tick t).bdiagOf_modBdiag b fun d => { d with islandMv := islandMv, fsMv := fsMv }
    refine ⟨_, hgoes, (congrArg BlkDiag.islandMv hdiag :), (congrArg BlkDiag.fsMv hdiag :),
      ((s.tick t).modBdiag_onlyBlock b _).trans (State.modBlk_onlyBlock ..), State.sameBut_of_exec hgoes rfl,
      fun hoff hus => ?_, fun hoff hwas => ?_⟩
    · rw [State.blkOf_modBlk]
      exact islandJudge_sets hoff hus _
    · rw [State.blkOf_modBlk]
      exact (congrArg _ hwas).trans (islandJudge_sound hoff heldUs)

end Sys2Proof.Machine
end

section
/-! PROOFS. The Nimbus pairs at their barrier (R215, R221): pass 2 reaches one function, what pass 3, the output pairs and the connections
leave of the functions, and the END of both engines. -/

namespace Sys2Proof.Machine

/-! ## Regions of eight -/

theorem mem_regionEight {g f : Nat} : f ∈ regionEight g ↔ f / 8 = g := by
  simp only [regionEight, List.mem_map, List.mem_range]
  constructor
  · rintro ⟨j, hj, rfl⟩
    omega
  · rintro rfl
    exact ⟨f % 8, by omega, by omega⟩

theorem nodup_regionEight (g : Nat) : (regionEight g).Nodup :=
  List.nodup_range.map fun _ _ h => Nat.add_left_cancel h

/-! ## What happens beside the functions -/

/-- A function in both engines, and whether it has been evaluated in the open frame. -/
def State.fnOf (s : State) (f : Nat) : SafeFn × SafeFn × Bool := (s.fnA f, s.fnB f, s.safe.doneFn.testBit f)

theorem State.fnOf_of_safe {s u : State} (h : u.safe = s.safe) (f : Nat) : u.fnOf f = s.fnOf f := by
  unfold State.fnOf State.fnA State.fnB
  rw [h]

section
variable {s : State} {f : Nat} {a b : SafeFn} {done : Bool} (h : s.fnOf f = (a, b, done))
include h
theorem State.fnA_of_fnOf : s.fnA f = a := congrArg Prod.fst h
theorem State.fnB_of_fnOf : s.fnB f = b := congrArg (fun x => x.2.1) h
theorem State.doneFn_of_fnOf : s.safe.doneFn.testBit f = done := congrArg (fun x => x.2.2) h
end

theorem State.engEvs_safe (e : Nat) (l : List EvReq) (s : State) : (s.engEvs e l).safe = s.safe :=
  (State.sameBut_of_rest (State.engEvs_rest (ps := [.eng]) e l s (by decide))).safe (by decide)

theorem State.safeOutputs_safe (g : Nat) (s : State) : (s.safeOutputs g).safe = s.safe :=
  (State.sameBut_of_rest (State.safeOutputs_rest (ps := [.eng]) g s (by decide))).safe (by decide)

theorem State.endUnheld_safe (e : Nat) (s : State) : (s.endUnheld e).safe = s.safe :=
  (State.sameBut_of_rest (State.endUnheld_rest (ps := [.eng, .recd, .regs]) e s (by decide))).safe (by decide)

theorem State.safeOutputs_ending (g : Nat) (s : State) : (s.safeOutputs g).ending = s.ending := by
  refine foldl_keep State.ending _ (fun x k => ?_) _ s
  dsimp only
  split
  · exact State.engEvs_ending ..
  · rfl

/-! ## Pass 2 (R215) -/

/-- Function `f` after pass 2. -/
def State.fnPassed (s : State) (f : Nat) : SafeFn × SafeFn × Bool :=
  let pass := safePass2 s.im f (s.safeCtx f) (tabGet {} s.safe.exA f) (tabGet {} s.safe.exB f)
  ((pass (s.fnA f)).1, (pass (s.fnB f)).1, true)

/-- What pass 2 of function `f` reads beside the function: the running image, its context, and both exchange records. -/
def State.fnReads (s : State) (f : Nat) : Image × SafeCtx × Exch × Exch :=
  (s.im, s.safeCtx f, tabGet {} s.safe.exA f, tabGet {} s.safe.exB f)

section
variable {s u : State} {f k : Nat}

theorem State.fnPassed_congr (hreads : u.fnReads f = s.fnReads f) (hfn : u.fnOf f = s.fnOf f) : u.fnPassed f = s.fnPassed f := by
  simp only [State.fnReads, Prod.mk.injEq] at hreads
  obtain ⟨him, hctx, hexA, hexB⟩ := hreads
  unfold State.fnPassed
  rw [him, hctx, hexA, hexB, State.fnA_of_fnOf hfn, State.fnB_of_fnOf hfn]

/-- Of the Nimbus engines' own state pass 2 takes the resets from outside the function. -/
theorem State.modSafe_safeCtx {F : SafePart → SafePart} (h : tabGet 0 (F s.safe).resets f = tabGet 0 s.safe.resets f) :
    (s.modSafe F).safeCtx f = s.safeCtx f :=
  congrArg (fun m => { s.safeCtx f with reset := m }) h

/-- Events of an engine are nothing that pass 2 reads. -/
theorem State.engEvs_fnReads (e : Nat) (l : List EvReq) (s : State) : (s.engEvs e l).fnReads f = s.fnReads f := by
  unfold State.engEvs
  split <;> rfl

theorem State.fnPass2_done (h : s.safe.doneFn.testBit f = true) : s.fnPass2 f = s := if_pos h

theorem State.fnPass2_fnOf (h : s.safe.doneFn.testBit f = false) : (s.fnPass2 f).fnOf f = s.fnPassed f := by
  unfold State.fnPass2
  rw [if_neg (by simp [h]), State.fnOf_of_safe (State.engEvs_safe ..)]
  simp [State.fnOf, State.fnPassed, State.fnA, State.fnB, testBit_setBit]

theorem State.fnPass2_doneFn (s : State) (f : Nat) : (s.fnPass2 f).safe.doneFn.testBit f = true := by
  cases h : s.safe.doneFn.testBit f
  · exact State.doneFn_of_fnOf (State.fnPass2_fnOf h)
  · rw [State.fnPass2_done h, h]

/-- Pass 2 of a function writes no other one. -/
theorem State.fnPass2_fnOf_ne (hk : k ≠ f) (s : State) : (s.fnPass2 k).fnOf f = s.fnOf f := by
  unfold State.fnPass2
  split
  · rfl
  · rw [State.fnOf_of_safe (State.engEvs_safe ..)]
    simp [State.fnOf, State.fnA, State.fnB, testBit_setBit, hk]

/-- Pass 2 of a function writes nothing that pass 2 of another one reads. -/
theorem State.fnPass2_fnReads_ne (hk : k ≠ f) (s : State) : (s.fnPass2 k).fnReads f = s.fnReads f := by
  unfold State.fnPass2
  split
  · rfl
  · rw [State.engEvs_fnReads]
    simp [State.fnReads, State.modSafe_safeCtx, State.im, hk]

theorem State.fnPass2_ending (s : State) (f : Nat) : (s.fnPass2 f).ending = s.ending := by
  unfold State.fnPass2
  split
  · rfl
  · exact State.engEvs_ending ..

end

/-! ## Pass 3 (R215) -/

section
variable {f k : Nat}

/-- Pass 3 writes switch commands and results: the states stand. -/
theorem State.fnPass3_states (st s : State) (k : Nat) : ((State.fnPass3 st s k).fnA f).state = (s.fnA f).state ∧
    ((State.fnPass3 st s k).fnB f).state = (s.fnB f).state ∧ (State.fnPass3 st s k).safe.doneFn = s.safe.doneFn := by
  by_cases hk : k = f
  · subst hk
    simp [State.fnPass3, State.fnA, State.fnB]
  · simp [State.fnPass3, State.fnA, State.fnB, hk]

theorem State.fnPass3_fnOf_ne (hk : k ≠ f) (st s : State) : (State.fnPass3 st s k).fnOf f = s.fnOf f := by
  simp [State.fnPass3, State.fnOf, State.fnA, State.fnB, hk]

end

/-! ## Passes 2 and 3 of a region -/

section
variable {g f : Nat} (s : State)

/-- The states of a function, and whether it has been evaluated: what pass 3 leaves. -/
def fnStates (x : SafeFn × SafeFn × Bool) : Nat × Nat × Bool := (x.1.state, x.2.1.state, x.2.2)

theorem State.fnPasses_fnStates (g f : Nat) :
    fnStates ((s.fnPasses g).fnOf f) = fnStates (((regionEight g).foldl State.fnPass2 s).fnOf f) := by
  refine foldl_keep (fun x => fnStates (x.fnOf f)) _ (fun x k => ?_) _ _
  obtain ⟨hA, hB, hdone⟩ := State.fnPass3_states (f := f) ((regionEight g).foldl State.fnPass2 s) x k
  simp only [fnStates, State.fnOf, hA, hB, hdone]

/-- A function of the region, not yet evaluated in the frame, has the states of pass 2. -/
theorem State.fnPasses_states (hf : f / 8 = g) (h : s.safe.doneFn.testBit f = false) :
    fnStates ((s.fnPasses g).fnOf f) = fnStates (s.fnPassed f) := by
  have hpass2 : ((regionEight g).foldl State.fnPass2 s).fnOf f = s.fnPassed f :=
    foldl_visits (P := fun x : State => x.fnReads f = s.fnReads f ∧ x.fnOf f = s.fnOf f) (Q := fun x => x.fnOf f = s.fnPassed f)
      (nodup_regionEight g) (mem_regionEight.2 hf)
      (fun x k hk hx => ⟨(State.fnPass2_fnReads_ne hk x).trans hx.1, (State.fnPass2_fnOf_ne hk x).trans hx.2⟩)
      (fun x hx => (State.fnPass2_fnOf ((State.doneFn_of_fnOf hx.2).trans h)).trans (State.fnPassed_congr hx.1 hx.2))
      (fun x k hk hx => (State.fnPass2_fnOf_ne hk x).trans hx) ⟨rfl, rfl⟩
  exact (s.fnPasses_fnStates g f).trans (congrArg fnStates hpass2)

theorem State.fnPasses_doneFn (hf : f / 8 = g) : (s.fnPasses g).safe.doneFn.testBit f = true := by
  have hpass2 : ((regionEight g).foldl State.fnPass2 s).safe.doneFn.testBit f = true :=
    foldl_reads (g := fun x : State => x.safe.doneFn.testBit f) (mem_regionEight.2 hf) (fun x => x.fnPass2_doneFn f)
      (fun x k _ hk => State.doneFn_of_fnOf (State.fnPass2_fnOf_ne hk x)) s
  exact (congrArg (fun x => x.2.2) (s.fnPasses_fnStates g f)).trans hpass2

/-- The passes of a region leave the functions of the others. -/
theorem State.fnPasses_fnOf (hf : f / 8 ≠ g) : (s.fnPasses g).fnOf f = s.fnOf f := by
  have hne : ∀ k ∈ regionEight g, k ≠ f := fun k hk he => hf (he ▸ mem_regionEight.1 hk)
  have hpass2 : ((regionEight g).foldl State.fnPass2 s).fnOf f = s.fnOf f :=
    List.foldlRecOn (motive := fun x : State => x.fnOf f = s.fnOf f) _ _ rfl fun x hx k hk =>
      (State.fnPass2_fnOf_ne (hne k hk) x).trans hx
  exact List.foldlRecOn (motive := fun x : State => x.fnOf f = s.fnOf f) _ _ hpass2 fun x hx k hk =>
    (State.fnPass3_fnOf_ne (hne k hk) _ x).trans hx

theorem State.fnPasses_ending (g : Nat) : (s.fnPasses g).ending = s.ending :=
  (foldl_keep State.ending (State.fnPass3 ((regionEight g).foldl State.fnPass2 s)) (fun _ _ => rfl) _ _).trans (foldl_keep State.ending _ State.fnPass2_ending _ s)

end

/-! ## Connections -/

section
variable (after s : State)

theorem State.dscStep_fnOf (i f : Nat) : (State.dscStep after s i).fnOf f = s.fnOf f := by
  unfold State.dscStep
  split
  · rfl
  · exact State.fnOf_of_safe (State.engEvs_safe ..) f

theorem State.dscStep_ending (i : Nat) : (State.dscStep after s i).ending = s.ending := by
  unfold State.dscStep
  split
  · rfl
  · exact State.engEvs_ending ..

theorem State.dscStep_doneDsc (i k : Nat) : (State.dscStep after s i).safe.doneDsc.testBit k = if i = k then true else s.safe.doneDsc.testBit k := by
  unfold State.dscStep
  split
  · next h =>
    split
    · next he => exact he ▸ h
    · rfl
  · rw [State.engEvs_safe]
    exact testBit_setBit ..

end

/-! ## The exchange of a region -/

/-- A region whose functions and connections have been evaluated, before the END of its engines. -/
def State.exchanged (g : Nat) (s : State) : State :=
  ((regionEight g).foldl (State.dscStep (s.fnPasses g)) ((s.fnPasses g).safeOutputs g)).modSafe fun x => { x with passed := setBit x.passed g true }

section
variable (g : Nat) (s : State)

theorem State.exchange_eq : s.exchange g = ((s.exchanged g).endUnheld (4 * g + 2)).endUnheld (4 * g + 3) := rfl

theorem State.exchange_safe : (s.exchange g).safe = (s.exchanged g).safe := by
  rw [State.exchange_eq, State.endUnheld_safe, State.endUnheld_safe]

/-- What follows pass 3 leaves the functions. -/
theorem State.exchange_fnOf (f : Nat) : (s.exchange g).fnOf f = (s.fnPasses g).fnOf f := calc
  (s.exchange g).fnOf f = (s.exchanged g).fnOf f := State.fnOf_of_safe (s.exchange_safe g) f
  _ = ((s.fnPasses g).safeOutputs g).fnOf f :=
    foldl_keep (fun x => x.fnOf f) _ (fun x i => State.dscStep_fnOf (s.fnPasses g) x i f) _ _
  _ = (s.fnPasses g).fnOf f := State.fnOf_of_safe (State.safeOutputs_safe ..) f

theorem State.exchange_doneFn {f : Nat} (hf : f / 8 = g) : (s.exchange g).safe.doneFn.testBit f = true :=
  (State.doneFn_of_fnOf (s.exchange_fnOf g f)).trans (s.fnPasses_doneFn hf)

/-- A function of the region has the states of pass 2 after the exchange. -/
theorem State.exchange_states {f : Nat} (hf : f / 8 = g) (h : s.safe.doneFn.testBit f = false) :
    ((s.exchange g).fnA f).state = (s.fnPassed f).1.state ∧ ((s.exchange g).fnB f).state = (s.fnPassed f).2.1.state := by
  have hstates := s.fnPasses_states hf h
  rw [← s.exchange_fnOf g f] at hstates
  exact ⟨congrArg Prod.fst hstates, congrArg (fun x => x.2.1) hstates⟩

/-- A function of another region stands. -/
theorem State.exchange_others {f : Nat} (hf : f / 8 ≠ g) : (s.exchange g).fnA f = s.fnA f ∧ (s.exchange g).fnB f = s.fnB f := by
  have hstands := (s.exchange_fnOf g f).trans (s.fnPasses_fnOf hf)
  exact ⟨State.fnA_of_fnOf hstands, State.fnB_of_fnOf hstands⟩

theorem State.exchange_passed : (s.exchange g).safe.passed.testBit g = true := by
  rw [State.exchange_safe]
  exact (testBit_setBit ..).trans (if_pos rfl)

theorem State.exchange_doneDsc {i : Nat} (hi : i / 8 = g) : (s.exchange g).safe.doneDsc.testBit i = true := by
  rw [State.exchange_safe]
  refine foldl_reads (g := fun x : State => x.safe.doneDsc.testBit i) (mem_regionEight.2 hi) (fun x => ?_) (fun x k _ hk => ?_) _
  · exact (State.dscStep_doneDsc ..).trans (if_pos rfl)
  · exact (State.dscStep_doneDsc ..).trans (if_neg hk)

theorem State.exchanged_ending : (s.exchanged g).ending = s.ending := calc
  (s.exchanged g).ending = ((s.fnPasses g).safeOutputs g).ending := foldl_keep State.ending _ (State.dscStep_ending _) _ _
  _ = s.ending := (State.safeOutputs_ending ..).trans (s.fnPasses_ending g)

/-- Both Nimbus engines post END where neither withholds it. -/
theorem State.exchange_ends (h2 : s.eng.silentHold.testBit (4 * g + 2) = false) (h3 : s.eng.silentHold.testBit (4 * g + 3) = false) :
    (s.exchange g).eng.ends.testBit (4 * g + 2) = true ∧ (s.exchange g).eng.ends.testBit (4 * g + 3) = true := by
  have hheld : (s.exchanged g).eng.silentHold = s.eng.silentHold := congrArg Prod.snd (s.exchanged_ending g)
  have hfirst := (s.exchanged g).endUnheld_bits (4 * g + 2)
  have hsecond := ((s.exchanged g).endUnheld (4 * g + 2)).endUnheld_bits (4 * g + 3)
  rw [State.exchange_eq]
  constructor
  · simp [(hsecond (4 * g + 2)).2, (hfirst (4 * g + 2)).2, hheld, h2]
  · simp [(hsecond (4 * g + 3)).2, (hfirst (4 * g + 3)).1, hheld, h3]

end

/-! ## NIMBUS_EXCHANGE and DISCREPANCY_FAULT (R215, R221) -/

section
variable {t g f : Nat} {s : State}

theorem State.unheld_of_atBarrier (h : s.atBarrier g = true) :
    s.eng.silentHold.testBit (4 * g + 2) = false ∧ s.eng.silentHold.testBit (4 * g + 3) = false := by
  simp only [State.atBarrier, Bool.and_eq_true, Bool.not_eq_true'] at h
  exact ⟨h.1.2, h.2⟩

theorem nimbusExchange_goes (hg : g < 4) (h : s.atBarrier g = true) :
    exec (.nimbusExchange t g) s = .next ((s.tick t).exchange g) :=
  act_goes (c := fun s => s.atBarrier g) (decide_eq_true hg) h

theorem discrepancyFault_goes (hf : f < 32) (hbar : s.atBarrier (f / 8) = true) (hdone : s.safe.doneFn.testBit f = false)
    (hdisc : s.discFaults f = true) : exec (.discrepancyFault t f) s = .next ((s.tick t).fnPass2 f) := by
  refine act_goes (c := fun s => s.atBarrier (f / 8) && !s.safe.doneFn.testBit f && s.discFaults f) (f := fun s => s.fnPass2 f)
    (decide_eq_true hf) ?_
  have hdone' : (!s.safe.doneFn.testBit f) = true := congrArg (!·) hdone
  exact Bool.and_eq_true_iff.2 ⟨Bool.and_eq_true_iff.2 ⟨hbar, hdone'⟩, hdisc⟩

/-- A discrepancy that has run out: pass 2 gives FAULT with cause 01h or 06h. -/
theorem State.fnPassed_of_discFaults (h : s.discFaults f = true) :
    (s.fnPassed f).1.state = sfFault ∧ ((s.fnPassed f).1.cause = 1 ∨ (s.fnPassed f).1.cause = 6) := by
  simp only [State.discFaults, Bool.and_eq_true, Bool.or_eq_true, decide_eq_true_eq] at h
  obtain ⟨⟨hfault, -⟩, hcause⟩ := h
  exact ⟨hfault, hcause⟩

end

/-- Settles O18: pass 2 of a function neither reads nor writes another one, and what follows it in the exchange leaves its states; the
barrier excludes an engine that withholds END. -/
theorem nimbusPairs : Obligations.NimbusPairs := by
  refine ⟨fun t g s hg hbar => ?_, fun t f s hf hbar hdone hdisc => ?_⟩
  -- NIMBUS_EXCHANGE
  · obtain ⟨hunheld2, hunheld3⟩ := State.unheld_of_atBarrier hbar
    obtain ⟨hend2, hend3⟩ := (s.tick t).exchange_ends g hunheld2 hunheld3
    exact ⟨_, nimbusExchange_goes hg hbar, (s.tick t).exchange_passed g, hend2, hend3,
      fun j hj => ⟨(s.tick t).exchange_doneFn g (by omega), (s.tick t).exchange_doneDsc g (by omega)⟩,
      fun j hj hdone => (s.tick t).exchange_states g (by omega) hdone, fun f hf => (s.tick t).exchange_others g hf⟩
  -- DISCREPANCY_FAULT
  · have hpass : ((s.tick t).fnPass2 f).fnOf f = s.fnPassed f := State.fnPass2_fnOf hdone
    have hA : ((s.tick t).fnPass2 f).fnA f = (s.fnPassed f).1 := State.fnA_of_fnOf hpass
    obtain ⟨hfault, hcause⟩ := State.fnPassed_of_discFaults hdisc
    refine ⟨_, discrepancyFault_goes hf hbar hdone hdisc, hA ▸ hfault, hA ▸ hcause, State.fnPass2_doneFn _ f, fun k hk => ?_⟩
    have hstands : ((s.tick t).fnPass2 f).fnOf k = s.fnOf k := State.fnPass2_fnOf_ne (Ne.symm hk) _
    exact ⟨State.fnA_of_fnOf hstands, State.fnB_of_fnOf hstands⟩

end Sys2Proof.Machine
end

section
/-! PROOFS. Safety resets, the pair's requests, the clearing of counters and loads of message objects (R219, R250, R340, R394, R436,
R438): what each opcode notes, and that sending a reply writes no message object. -/

namespace Sys2Proof.Machine

section
variable {h : PktHead} {op : Op} {s u : State}

/-- A part that serving the packet writes anyway need not be named. -/
theorem State.served_mono {ps qs : List Part} (hs : s.served u h ps) (hps : ∀ p ∈ ps, p ∈ servingParts h ∨ p ∈ qs) : s.served u h qs := by
  refine ⟨hs.1, State.sameBut_mono hs.2 fun p hp => ?_⟩
  rcases List.mem_append.1 hp with hp | hp
  · exact List.mem_append_left _ hp
  · exact List.mem_append.2 (hps p hp)

/-! ## Resets (R219, R250) -/

/-- An opcode that writes the Nimbus engines' own state by `f` and answers when the open frame is complete. -/
theorem runRow_notesSafety {f : SafePart → SafePart} (hr : s.ready h (opCode op)) (hA : opAlarm op = false) (hw : op ≠ .warmRestart)
    (ho : runOp op false (makeCaller (s.codeOf h.port) h.session (opCode op) h) (s.accepted h (opCode op)) =
      ((s.accepted h (opCode op)).modSafe f).done) :
    ∃ u, runRow h true true false op s = .next u ∧ s.repliedAt u h op s.fr.frameNo stOk [] ∧ s.served u h [.safety] ∧
      u.safe = f s.safe := by
  have hq : (s.accepted h (opCode op)).sameBut [.safety] ((s.accepted h (opCode op)).modSafe f) :=
    State.sameBut_of_rest (State.modSafe_rest _ _ (by decide))
  obtain ⟨u, e, hreply, hserved, hsame, -⟩ := runRow_sent_served hr hA hw ho (State.tame_of_sameBut hq (by decide)) hq rfl
  refine ⟨u, e, hreply, hserved, ?_⟩
  rw [hsame.safe (not_mem_replyParts (by decide)), State.modSafe_safe, (s.accepted_sameBut h _).safe (by decide)]

theorem exec_safetyReset {f : Nat} (hf : f < 32) : exec (.safetyReset h f) s = runRow h true true false (.safetyReset f) s := by
  dsimp only [exec, execSafetyReset]
  rw [decide_eq_true hf]

theorem exec_dscReset {i : Nat} (hi : i < 32) : exec (.dscReset h i) s = runRow h true true false (.dscReset i) s := by
  dsimp only [exec, execDscReset]
  rw [decide_eq_true hi]

/-! ## RESYNC and SWITCHOVER (R436, R438) -/

theorem State.accepted_resyncReady (h : PktHead) (opc : Nat) (s : State) : (s.accepted h opc).resyncReady = s.resyncReady := by
  unfold State.resyncReady State.paired State.isWitness State.linkUp State.fwCrc State.ownHold State.partnerHold State.im
  rw [State.accepted_unt, State.accepted_cfg]

theorem State.accepted_switchoverReady (h : PktHead) (opc : Nat) (s : State) : (s.accepted h opc).switchoverReady = s.switchoverReady := by
  unfold State.switchoverReady State.ownHold State.partnerHold State.ownToken State.partnerToken
  rw [State.accepted_unt]

theorem State.setSync_pair (v cause : Nat) (s : State) : let p := (s.setSync v cause).unt.pair
    p.sync = v ∧ p.attempt = s.unt.pair.attempt ∧ p.role = s.unt.pair.role := by
  unfold State.setSync
  dsimp only
  split
  · next hv => exact ⟨hv, rfl, rfl⟩
  · rw [State.unitEvs_unt]
    exact ⟨rfl, rfl, rfl⟩

/-- What the start of a resynchronisation makes of the pair. -/
theorem State.resyncStart_pair (s : State) : let p := s.resyncStart.unt.pair
    p.sync = 1 ∧ p.attempt = s.unt.pair.attempt + 1 ∧ p.agreed = 0 ∧ p.role = s.unt.pair.role := by
  obtain ⟨hsync, hattempt, hrole⟩ := State.setSync_pair 1 s.unt.pair.cause s
  unfold State.resyncStart
  dsimp only
  rw [(State.activeSends_sameBut _ _).pair (by decide), State.unitEvs_unt]
  exact ⟨hsync, congrArg (· + 1) hattempt, rfl, hrole⟩

theorem State.resyncStart_sameBut (s : State) : s.sameBut [.recd, .pair, .wire] s.resyncStart :=
  State.sameBut_of_rest (State.resyncStart_rest s (by decide))

/-- RESYNC where the conditions of R438 hold. -/
theorem resync_starts (hr : s.ready h 0x0802) (hready : s.resyncReady = true) : ∃ u, exec (.resync h) s = .next u ∧
    s.repliedAt u h .resync s.fr.frameNo stOk [] ∧ s.served u h [.recd, .pair] ∧ u.unt.pair.sync = 1 ∧
    u.unt.pair.attempt = s.unt.pair.attempt + 1 ∧ u.unt.pair.agreed = 0 ∧ u.unt.pair.role = s.unt.pair.role := by
  have hq := (s.accepted h 0x0802).resyncStart_sameBut
  obtain ⟨hsync, hattempt, hagreed, hrole⟩ := (s.accepted h 0x0802).resyncStart_pair
  rw [State.accepted_unt] at hattempt hrole
  have hframe : (s.accepted h 0x0802).resyncStart.fr = (s.accepted h 0x0802).fr := hq.fr (by decide)
  have ho : opResync (s.accepted h 0x0802) =
      ((s.accepted h 0x0802).resyncStart, .sent (s.accepted h 0x0802).fr.frameNo stOk []) := by
    rw [opResync, State.accepted_resyncReady, if_pos hready, State.done, hframe]
  have ht := s.tame_accepted h 0x0802
  have htame : s.tame (s.accepted h 0x0802).resyncStart h 0x0802 := {
    sess := hq.2.2 .sess (by decide)
    outbox := (hq.2.2 .outbox (by decide)).trans ht.outbox
    pend := (hq.pend (by decide)).trans ht.pend
    role := hrole
    within := (congrArg Replay.within (hq.replayIn (by decide))).trans ht.within
    phase := (hq.phase (by decide)).trans ht.phase
    frame := (congrArg FrameClk.frameNo hframe).trans ht.frame }
  obtain ⟨u, e, hreply, hserved, hsame, -⟩ := runRow_sent_served (op := .resync) (torn := false) hr rfl (by decide) ho htame hq
    (hq.owner (by decide))
  have hpair := hsame.pair (not_mem_replyParts (by decide))
  exact ⟨u, e, hreply, State.served_mono hserved (by simp [servingParts]), hpair ▸ hsync, hpair ▸ hattempt, hpair ▸ hagreed, hpair ▸ hrole⟩

/-- RESYNC where they do not. -/
theorem resync_refused (hr : s.ready h 0x0802) (hready : s.resyncReady = false) : ∃ u, exec (.resync h) s = .next u ∧
    s.repliedAt u h .resync s.fr.frameNo stPartnerUnsync [] ∧ s.served u h [] := by
  have ho : opResync (s.accepted h 0x0802) = (s.accepted h 0x0802, .sent (s.accepted h 0x0802).fr.frameNo stPartnerUnsync []) := by
    rw [opResync, State.accepted_resyncReady, hready]
    rfl
  obtain ⟨u, e, hreply, hserved, -⟩ := runRow_sent_served (op := .resync) (torn := false) hr rfl (by decide) ho
    (s.tame_accepted h _) (State.sameBut_refl [] _) rfl
  exact ⟨u, e, hreply, hserved⟩

/-- SWITCHOVER where the conditions of R436 hold: the reply waits for the frame after. -/
theorem switchover_starts (hr : s.ready h 0x0803) (hready : s.switchoverReady = true) : ∃ u, exec (.switchover h) s = .next u ∧
    s.repliedAt u h .switchover (s.fr.frameNo + 1) stOk [] ∧ s.served u h [.pair] ∧
    u.unt.pair = { s.unt.pair with switchAt := some s.fr.frameNo } := by
  have ho : opSwitchover (s.accepted h 0x0803) =
      ((s.accepted h 0x0803).modPair fun p => { p with switchAt := some s.fr.frameNo }, .sent (s.fr.frameNo + 1) stOk []) := by
    rw [opSwitchover, State.accepted_switchoverReady, if_pos hready, State.accepted_fr]
  have hq : (s.accepted h 0x0803).sameBut [.pair] ((s.accepted h 0x0803).modPair fun p => { p with switchAt := some s.fr.frameNo }) :=
    State.sameBut_of_rest (State.modPair_rest _ _ (by decide))
  have htame : s.tame ((s.accepted h 0x0803).modPair fun p => { p with switchAt := some s.fr.frameNo }) h 0x0803 :=
    { s.tame_accepted h 0x0803 with }
  obtain ⟨u, e, hreply, howner, hsame⟩ := runRow_sent (op := .switchover) (torn := false) hr (by simp [opAlarm]) ho htame (by decide)
  refine ⟨u, e, hreply, State.served_of (op := .switchover) hq howner hsame rfl, ?_⟩
  rw [hsame.pair (not_mem_replyParts (by decide)), State.modPair_unt_pair, State.accepted_unt]

theorem switchover_refused (hr : s.ready h 0x0803) (hready : s.switchoverReady = false) : ∃ u, exec (.switchover h) s = .next u ∧
    s.onlyReplied u h 0x0803 stPartnerUnsync [] := by
  have ho : opSwitchover (s.accepted h 0x0803) = (s.accepted h 0x0803, .now stPartnerUnsync []) := by
    rw [opSwitchover, State.accepted_switchoverReady, hready]
    rfl
  exact runRow_onlyReplied (op := .switchover) (torn := false) hr (by simp [opAlarm]) ho (by decide)

/-! ## CLEAR_COUNTERS (R340) -/

theorem clearCounters_served (hr : s.ready h 0x0903) : ∃ u, exec (.clearCounters h) s = .next u ∧ s.replied u h 0x0903 stOk [] ∧
    s.served u h [.blks, .mem, .mdiag, .regs] ∧ u.unt.mdiag = s.clearCounters.unt.mdiag ∧ u.unt.mem = s.clearCounters.unt.mem ∧
    u.unt.regs = s.clearCounters.unt.regs ∧ u.blks = s.clearCounters.blks := by
  have hq : (s.accepted h 0x0903).sameBut [.blks, .can, .mem, .mdiag, .regs, .portSt] (s.accepted h 0x0903).clearCounters :=
    State.sameBut_of_rest (State.clearCounters_rest _ (by decide))
  have hunt : (s.accepted h 0x0903).clearCounters.unt = s.clearCounters.unt := by
    unfold State.clearCounters
    rw [State.accepted_unt]
  have hblks : (s.accepted h 0x0903).clearCounters.blks = s.clearCounters.blks := by
    unfold State.clearCounters
    rw [(s.accepted_sameBut h 0x0903).blks (by decide)]
  obtain ⟨u, e, hreply, howner, hsame⟩ := runRow_now (op := .clearCounters) (torn := false) (st := stOk) (b := []) hr (by simp [opAlarm])
    rfl { s.tame_accepted h _ with } (by decide)
  have hserved := State.served_of (op := .clearCounters) hq howner hsame rfl
  refine ⟨u, e, hreply, State.served_mono hserved (by simp [servingParts]), ?_, ?_, ?_, ?_⟩
  · exact (hsame.mdiag (not_mem_replyParts (by decide))).trans (congrArg UnitPart.mdiag hunt)
  · exact (hsame.2.2 .mem (not_mem_replyParts (by decide))).trans (congrArg UnitPart.mem hunt)
  · exact (hsame.2.2 .regs (not_mem_replyParts (by decide))).trans (congrArg UnitPart.regs hunt)
  · exact (hsame.blks (not_mem_replyParts (by decide))).trans hblks

end

/-! ## What carries a reply on a CAN controller -/

/-- The CAN part aside from the transport of packets: controllers, message objects and their loads. -/
def CanPart.besideIso (c : CanPart) : CanPart := { c with iso := [] }

section
variable (s : State)

theorem State.emit_besideIso (r : Reply) : (s.emit r).can.besideIso = s.can.besideIso := by
  unfold State.emit
  dsimp only
  repeat' split
  all_goals rfl

theorem State.sendReply_besideIso (r : Reply) : (s.sendReply r).can.besideIso = s.can.besideIso := by
  unfold State.sendReply
  split
  · rfl
  · exact s.emit_besideIso r

theorem State.serialTrace_besideIso : s.serialTrace.can.besideIso = s.can.besideIso := by
  unfold State.serialTrace
  split
  · rfl
  · split
    · rfl
    · dsimp only
      unfold State.sendTrace
      split
      · exact State.sendReply_besideIso ..
      · rfl

theorem State.deliver_besideIso (c : Caller) (op : Op) (st : Nat) (b : List Byte) :
    (s.deliver c op st b).can.besideIso = s.can.besideIso := by
  have hanswer : (s.answer c st b).can.besideIso = s.can.besideIso := by
    unfold State.answer State.sendAnswer
    dsimp only
    split
    · exact (State.serialTrace_besideIso _).trans (State.sendReply_besideIso ..)
    · exact State.sendReply_besideIso ..
  unfold State.deliver
  dsimp only
  split <;> exact hanswer

/-- The reply of an opcode writes no message object. -/
theorem State.settle_besideIso (c : Caller) (op : Op) (x : Run) : (State.settle c op x).can.besideIso = x.1.can.besideIso := by
  unfold State.settle
  dsimp only
  split
  · exact State.deliver_besideIso ..
  · split
    · exact State.deliver_besideIso ..
    · rfl
  · split
    · exact State.deliver_besideIso ..
    · rfl
  · rfl

end

/-! ## WRITE_CANOBJ (R394) -/

section
variable {h : PktHead} {s : State} {obj : Nat} {data : List Byte}

theorem exec_writeCanobj (hobj : obj < 512) (hlen : data.length ≤ 8170) :
    exec (.writeCanobj h obj data) s = runRow h true true false (.writeCanobj obj data) s := by
  dsimp only [exec, execWriteCanobj]
  rw [decide_eq_true hobj, decide_eq_true hlen]

/-- A load that R394 refuses: of an object that is not enabled, does not transmit or has its source in the configuration, or of another
length. -/
def canobjRefused (im : Image) (obj : Nat) (data : List Byte) : Prop :=
  coEn im obj = false ∨ coTx im obj = false ∨ objNamedTx im obj = true ∨ data.length ≠ coSize im obj

theorem opWriteCanobj_refused (hbad : canobjRefused s.im obj data) : opWriteCanobj obj data s = deny stBadValue s := by
  refine if_pos ?_
  rcases hbad with hen | htx | hnamed | hsize
  · simp [hen]
  · simp [htx]
  · simp [hnamed]
  · simp [hsize]

theorem opWriteCanobj_noted (hen : coEn s.im obj = true) (htx : coTx s.im obj = true) (hfree : objNamedTx s.im obj = false)
    (hsize : data.length = coSize s.im obj) :
    opWriteCanobj obj data s = (s.modCan fun c => { c with loads := c.loads ++ [(obj, data)] }).done :=
  if_neg (by simp [hen, htx, hfree, hsize])

theorem writeCanobj_refused (hr : s.ready h 0x0A03) (hobj : obj < 512) (hlen : data.length ≤ 8170) (hbad : canobjRefused s.im obj data) :
    ∃ u, exec (.writeCanobj h obj data) s = .next u ∧ s.onlyReplied u h 0x0A03 stBadValue [] := by
  rw [exec_writeCanobj hobj hlen]
  exact runRow_onlyReplied (op := .writeCanobj obj data) hr (by simp [opAlarm])
    (opWriteCanobj_refused (State.accepted_im h 0x0A03 s ▸ hbad)) nofun

theorem writeCanobj_noted (hr : s.ready h 0x0A03) (hobj : obj < 512) (hlen : data.length ≤ 8170) (hen : coEn s.im obj = true)
    (htx : coTx s.im obj = true) (hfree : objNamedTx s.im obj = false) (hsize : data.length = coSize s.im obj) :
    ∃ u, exec (.writeCanobj h obj data) s = .next u ∧ s.repliedAt u h (.writeCanobj obj data) s.fr.frameNo stOk [] ∧
      u.can.loads = s.can.loads ++ [(obj, data)] ∧ u.can.objs = s.can.objs ∧ s.served u h [] := by
  rw [exec_writeCanobj hobj hlen]
  rw [← State.accepted_im h 0x0A03 s] at hen htx hfree hsize
  have ho := opWriteCanobj_noted hen htx hfree hsize
  have hq : (s.accepted h 0x0A03).sameBut [.can]
      ((s.accepted h 0x0A03).modCan fun c => { c with loads := c.loads ++ [(obj, data)] }) :=
    State.sameBut_of_rest (State.modCan_rest _ _ (by decide))
  obtain ⟨u, e, hreply, hserved, -⟩ := runRow_sent_served (op := .writeCanobj obj data) (torn := false) hr rfl nofun ho
    (State.tame_of_sameBut hq (by decide)) hq rfl
  have hcan : u.can.besideIso = { s.can with loads := s.can.loads ++ [(obj, data)] }.besideIso := by
    obtain rfl : u = _ := Host.Outcome.next.inj (e.symm.trans (runRow_ready hr (by simp [opAlarm])))
    rw [(State.activeSends_sameBut _ _).can (by decide), State.settle_besideIso]
    refine (congrArg (fun x : Run => x.1.can.besideIso) ho).trans ?_
    rw [State.done, State.modCan_can, (s.accepted_sameBut h 0x0A03).can (by decide)]
  exact ⟨u, e, hreply, (congrArg CanPart.loads hcan :), (congrArg CanPart.objs hcan :), State.served_mono hserved (by simp [servingParts])⟩

end

/-- Settles O15: each opcode by its rule; only the transport on a CAN controller is written by the reply of WRITE_CANOBJ, so that the load
stands beside it. -/
theorem safetyPairAndDiagnosticRequests : Obligations.SafetyPairAndDiagnosticRequests := by
  refine ⟨⟨fun h s f hr hf => ?_, fun h s i hr hi => ?_, fun h s hr => ?_, fun h s hr => ?_⟩, fun h s hr => ?_,
    fun h s obj data hr hobj hlen => ?_⟩
  -- SAFETY_RESET
  · rw [exec_safetyReset hf]
    exact runRow_notesSafety (op := .safetyReset f) hr rfl nofun rfl
  -- DSC_RESET
  · rw [exec_dscReset hi]
    exact runRow_notesSafety (op := .dscReset i) hr rfl nofun rfl
  -- RESYNC
  · cases hready : s.resyncReady
    · obtain ⟨u, e, hrefused⟩ := resync_refused hr hready
      exact ⟨u, e, nofun, fun _ => hrefused⟩
    · obtain ⟨u, e, hstarts⟩ := resync_starts hr hready
      exact ⟨u, e, fun _ => hstarts, nofun⟩
  -- SWITCHOVER
  · cases hready : s.switchoverReady
    · obtain ⟨u, e, hrefused⟩ := switchover_refused hr hready
      exact ⟨u, e, nofun, fun _ => hrefused⟩
    · obtain ⟨u, e, hstarts⟩ := switchover_starts hr hready
      exact ⟨u, e, fun _ => hstarts, nofun⟩
  -- CLEAR_COUNTERS
  · obtain ⟨u, e, hreply, hserved, hmdiag, hmem, hregs, hblks⟩ := clearCounters_served hr
    exact ⟨u, e, hreply, hserved, hmdiag, hmem, hregs, (congrArg BlkPart.out hblks :), (congrArg BlkPart.dig hblks :),
      (congrArg BlkPart.loop hblks :), (congrArg BlkPart.blk hblks :)⟩
  -- WRITE_CANOBJ
  · by_cases hbad : canobjRefused s.im obj data
    · obtain ⟨u, e, hrefused⟩ := writeCanobj_refused hr hobj hlen hbad
      exact ⟨u, e, fun _ => hrefused, fun hen htx hfree hsize => absurd hbad (by simp [canobjRefused, hen, htx, hfree, hsize])⟩
    · have hgood := hbad
      simp only [canobjRefused, not_or, Bool.not_eq_false, Bool.not_eq_true, not_not] at hgood
      obtain ⟨hen, htx, hfree, hsize⟩ := hgood
      obtain ⟨u, e, hnoted⟩ := writeCanobj_noted hr hobj hlen hen htx hfree hsize
      exact ⟨u, e, fun h => absurd h hbad, fun _ _ _ _ => hnoted⟩

end Sys2Proof.Machine
end

section
/-! PROOFS. One DSC connection in the open frame (R240, R247, R248, R250): the instant at which a happening comes about changes nothing of
the evaluation, and the evaluation of a connection writes that connection alone. -/

namespace Sys2Proof.Machine

/-! ## The passes of a region read no clock -/

section
variable (t : Nat) (s : State)

theorem State.engEvs_tick (e : Nat) (l : List EvReq) : (s.tick t).engEvs e l = (s.engEvs e l).tick t := by
  unfold State.engEvs
  split <;> rfl

theorem State.fnPass2_tick (f : Nat) : (s.tick t).fnPass2 f = (s.fnPass2 f).tick t := by
  unfold State.fnPass2
  rw [apply_ite (State.tick t)]
  exact ite_congr rfl (fun _ => rfl) fun _ => Eq.symm (State.engEvs_tick t _ _ _).symm

theorem State.fnPasses_tick (g : Nat) : (s.tick t).fnPasses g = (s.fnPasses g).tick t := by
  have hpass2 : (regionEight g).foldl State.fnPass2 (s.tick t) = ((regionEight g).foldl State.fnPass2 s).tick t :=
    List.foldl_hom (State.tick t) fun x f => x.fnPass2_tick t f
  unfold State.fnPasses
  rw [hpass2]
  exact List.foldl_hom (State.tick t) fun _ _ => rfl

end

/-! ## The evaluation of a connection -/

/-- Connection `i` of the open frame in Nimbus-A, with the functions as pass 3 gives them. -/
def State.dscOutcome (s : State) (i : Nat) : Dsc := ((s.fnPasses (i / 8)).dscEvalA s i).1

/-- The outcome of connection `i` as `u` holds it after `s`: the connection in Nimbus-A takes it and is evaluated; the other connections and
the functions stand. -/
def State.dscTaken (s : State) (i : Nat) (u : State) : Prop :=
  tabGet {} u.safe.dscA i = s.dscOutcome i ∧ u.safe.doneDsc.testBit i = true ∧
    (∀ k, k ≠ i → tabGet {} u.safe.dscA k = tabGet {} s.safe.dscA k ∧ tabGet {} u.safe.dscB k = tabGet {} s.safe.dscB k) ∧
    u.safe.fnA = s.safe.fnA ∧ u.safe.fnB = s.safe.fnB

section
variable {t i : Nat} {s : State}

theorem State.dscEvalA_tick (t : Nat) (after s : State) (i : Nat) : (after.tick t).dscEvalA (s.tick t) i = after.dscEvalA s i := rfl

theorem State.dscOutcome_tick (t : Nat) (s : State) (i : Nat) : (s.tick t).dscOutcome i = s.dscOutcome i := by
  unfold State.dscOutcome
  rw [State.fnPasses_tick, State.dscEvalA_tick]

theorem State.dscTaken_of_tick {u : State} (h : (s.tick t).dscTaken i u) : s.dscTaken i u := by
  obtain ⟨htakes, hrest⟩ := h
  exact ⟨htakes.trans (s.dscOutcome_tick t i), hrest⟩

/-- A connection that has not been evaluated in the frame takes its outcome. -/
theorem State.dscNow_taken (hdone : s.safe.doneDsc.testBit i = false) : s.dscTaken i (s.dscNow i) := by
  unfold State.dscTaken State.dscNow State.dscStep
  rw [if_neg (by simp [hdone]), State.engEvs_safe]
  refine ⟨tabGet_set_self .., (testBit_setBit ..).trans (if_pos rfl), fun k hk => ?_, rfl, rfl⟩
  exact ⟨tabGet_set_ne _ _ _ hk.symm, tabGet_set_ne _ _ _ hk.symm⟩

/-- A happening that the evaluation of a connection brings about comes about at whatever instant its command carries. -/
theorem State.dscWould_tick {p : Dsc → Dsc → Bool} (hbar : s.atBarrier (i / 8) = true) (hdone : s.safe.doneDsc.testBit i = false)
    (hp : p (tabGet {} s.safe.dscA i) (s.dscOutcome i) = true) : (s.tick t).dscWould i p = true := by
  have hbar' : (s.tick t).atBarrier (i / 8) = true := hbar
  have hp' : p (tabGet {} s.safe.dscA i) ((s.tick t).dscOutcome i) = true := (s.dscOutcome_tick t i).symm ▸ hp
  unfold State.dscWould
  simp only [hbar', State.tick_safe, hdone, Bool.not_false, Bool.true_and]
  exact hp'

/-- A happening of a connection that comes about has the outcome of the connection taken. -/
theorem act_dscNow {cond : State → Bool} (hi : i < 32) (hdone : s.safe.doneDsc.testBit i = false) (hcond : cond (s.tick t) = true) :
    ∃ u, act (decide (i < 32)) t cond (State.dscNow i) s = .next u ∧ s.dscTaken i u :=
  ⟨_, act_goes (decide_eq_true hi) hcond, State.dscTaken_of_tick (State.dscNow_taken (s := s.tick t) hdone)⟩

end

/-! ## The four happenings -/

section
variable {t i : Nat} {s : State} (hi : i < 32) (hbar : s.atBarrier (i / 8) = true) (hdone : s.safe.doneDsc.testBit i = false)
include hi hbar hdone

theorem dscWatchdogExpiry_taken (hstate : (tabGet {} s.safe.dscA i).state ≠ dscFailsafe) (hfailsafe : (s.dscOutcome i).state = dscFailsafe)
    (hcause : (s.dscOutcome i).cause = 1) : ∃ u, execDscWatchdogExpiry t i s = .next u ∧ s.dscTaken i u := by
  refine act_dscNow hi hdone (State.dscWould_tick hbar hdone ?_)
  simp only [Bool.and_eq_true, decide_eq_true_eq]
  exact ⟨⟨hstate, hfailsafe⟩, hcause⟩

theorem dscFailsafeRecovery_taken (hfailsafe : (tabGet {} s.safe.dscA i).state = dscFailsafe)
    (hconnects : (s.dscOutcome i).state = dscConnecting) : ∃ u, execDscFailsafeRecovery t i s = .next u ∧ s.dscTaken i u := by
  refine act_dscNow hi hdone (State.dscWould_tick hbar hdone ?_)
  simp only [Bool.and_eq_true, decide_eq_true_eq]
  exact ⟨hfailsafe, hconnects⟩

theorem dscRepeat_taken (hmaster : dscSlave s.im i = false) (hsends : (s.dscOutcome i).pdu.isSome = true)
    (hstays : (tabGet {} s.safe.dscA i).state = (s.dscOutcome i).state) (hcycle : dscCycle s.im i ≤ (tabGet {} s.safe.dscA i).sinceTx + 1) :
    ∃ u, execDscRepeat t i s = .next u ∧ s.dscTaken i u := by
  have hmaster' : (!dscSlave (s.tick t).im i) = true := congrArg (!·) hmaster
  refine act_dscNow hi hdone (Bool.and_eq_true_iff.2 ⟨hmaster', State.dscWould_tick hbar hdone ?_⟩)
  simp only [Bool.and_eq_true, decide_eq_true_eq]
  exact ⟨⟨hsends, hstays⟩, hcycle⟩

theorem dscErrDecay_taken (hdecays : (dscElapse s.fr.prevLen (tabGet {} s.safe.dscA i)).errCnt < (tabGet {} s.safe.dscA i).errCnt) :
    ∃ u, execDscErrDecay t i s = .next u ∧ s.dscTaken i u :=
  act_dscNow hi hdone (State.dscWould_tick hbar hdone (decide_eq_true hdecays))

end

/-- Settles O19: each of the four happenings is the same evaluation of its connection, under a condition of its own that no clock
enters. -/
theorem connectionTimers : Obligations.ConnectionTimers := by
  intro t i s hi hbar hdone
  exact ⟨dscWatchdogExpiry_taken hi hbar hdone, dscFailsafeRecovery_taken hi hbar hdone, dscRepeat_taken hi hbar hdone,
    dscErrDecay_taken hi hbar hdone⟩

end Sys2Proof.Machine
end

section
/-! PROOFS. Requests on alarm points and the choice of the duty station (R267, R268, R284): a request on one point is refused or moves that
point alone, an acknowledgement takes in the points of its scope, and a request that comes too late waits for the next frame. -/

namespace Sys2Proof.Machine

/-! ## Opcodes that write the alarm part -/

/-- What some next state has, the next state has. -/
theorem holds_of_next {out : Out} {u : State} {P : State → Prop} (e : out = .next u) (hp : ∃ v, out = .next v ∧ P v) : P u := by
  obtain ⟨v, e', hv⟩ := hp
  cases e.symm.trans e'
  exact hv

/-- Acceptance of a packet leaves the alarm part that its opcode acts on. -/
theorem State.accepted_alm (h : PktHead) (opc : Nat) (s : State) : (s.accepted h opc).alm = s.alm :=
  (s.accepted_sameBut h opc).alm (by decide)

theorem opPoint_refused {p : Nat} {r : AlmReply × AlmPt} (hr : r.1 ≠ .ok) (s : State) : opPoint p r s = deny (almStatus r.1) s := by
  unfold opPoint
  split
  · next hok => exact absurd hok hr
  · rfl

section
variable {h : PktHead} {op : Op} {s : State} (hr : s.ready h (opCode op)) (hA : opAlarm op = true → s.alm.next = 0) (hw : op ≠ .warmRestart)
include hr hA hw

/-- An opcode that writes the alarm part by `f` and answers when the open frame is complete. -/
theorem runRow_notesAlarms {f : AlmPart → AlmPart} {b : List Byte}
    (ho : runOp op false (makeCaller (s.codeOf h.port) h.session (opCode op) h) (s.accepted h (opCode op)) =
      ((s.accepted h (opCode op)).modAlm f, .sent (s.accepted h (opCode op)).fr.frameNo stOk b)) :
    ∃ u, runRow h true true false op s = .next u ∧ s.repliedAt u h op s.fr.frameNo stOk b ∧ s.served u h [.alm] ∧ u.alm = f s.alm := by
  have hq : (s.accepted h (opCode op)).sameBut [.alm] ((s.accepted h (opCode op)).modAlm f) :=
    State.sameBut_of_rest (State.modAlm_rest _ _ (by decide))
  obtain ⟨u, e, hreply, howner, hsame⟩ := runRow_sent hr hA ho (State.tame_of_sameBut hq (by decide)) hw
  rw [State.accepted_fr] at hreply
  refine ⟨u, e, hreply, State.served_of hq howner hsame rfl, ?_⟩
  rw [hsame.alm (not_mem_replyParts (by decide)), State.modAlm_alm, State.accepted_alm]

/-- A request on point `p` whose outcome by the table of R268 is `R`: a refusal is answered and has no other effect, and an outcome that is
none moves the point to its new entry. -/
theorem runRow_pointRequest {p : Nat} {R : Image → Nat → AlmPt → AlmReply × AlmPt}
    (ho : ∀ c x, runOp op false c x = opPoint p (R x.im x.P (x.pointOf p)) x) :
    ∃ u, runRow h true true false op s = .next u ∧
      (∀ e a, R s.im s.P (s.pointOf p) = (e, a) → e ≠ .ok → s.onlyReplied u h (opCode op) (almStatus e) []) ∧
      (∀ a, R s.im s.P (s.pointOf p) = (.ok, a) → s.repliedAt u h op s.fr.frameNo stOk [] ∧ s.served u h [.alm] ∧
        u.alm = { s.alm with pts := tabSet {} s.alm.pts p a }) := by
  have hrun := ho (makeCaller (s.codeOf h.port) h.session (opCode op) h) (s.accepted h (opCode op))
  simp only [State.pointOf, State.P, State.accepted_im, State.accepted_cfg, State.accepted_alm] at hrun
  change _ = opPoint p (R s.im s.P (s.pointOf p)) _ at hrun
  generalize R s.im s.P (s.pointOf p) = r at hrun ⊢
  obtain ⟨e, a⟩ := r
  by_cases hok : e = .ok
  · subst hok
    obtain ⟨u, hgoes, hmoved⟩ := runRow_notesAlarms hr hA hw hrun
    refine ⟨u, hgoes, fun e' a' hR he => ?_, fun a' hR => ?_⟩ <;> cases hR
    · exact absurd rfl he
    · exact hmoved
  · obtain ⟨u, hgoes, hrefused⟩ := runRow_onlyReplied hr hA (hrun.trans (opPoint_refused hok _)) hw
    refine ⟨u, hgoes, fun e' a' hR _ => ?_, fun a' hR => ?_⟩ <;> cases hR
    · exact hrefused
    · exact absurd rfl hok

end

/-! ## Requests on one point -/

section
variable {im : Image} {P p d : Nat} {a : AlmPt}

/-- The rows of R268 for SHELVE, in the order in which they are judged. -/
theorem shelvePoint_badValue (hbad : alEn im p = false ∨ d = 0 ∨ 1440 < d) : shelvePoint im P p d a = (.badValue, a) :=
  if_pos (by simpa [or_assoc] using hbad)

theorem shelvePoint_notAllowed (hen : alEn im p = true) (hlo : 1 ≤ d) (hhi : d ≤ 1440)
    (hbar : alShelveOk im p = false ∨ alShelveMax im p < d) : shelvePoint im P p d a = (.notAllowed, a) :=
  (if_neg (by simp [hen]; omega)).trans (if_pos (by simpa using hbar))

theorem shelvePoint_allowed (hen : alEn im p = true) (hlo : 1 ≤ d) (hhi : d ≤ 1440) (hok : alShelveOk im p = true)
    (hmax : d ≤ alShelveMax im p) : shelvePoint im P p d a =
      if a.state = almSuppressed ∨ a.state = almOut then (.wrongState, a)
      else (.ok, { a with state := almShelved, shelf := framesOf P (msC (60000 * d)), loaded := true, trig := a.trig ||| 4 }) :=
  (if_neg (by simp [hen]; omega)).trans (if_neg (by simpa [hok] using hmax))

/-- UNSHELVE, REMOVE and RETURN of a point that is not enabled. -/
theorem unshelvePoint_disabled (hen : alEn im p = false) : unshelvePoint im p a = (.badValue, a) := if_pos (by simp [hen])
theorem removePoint_disabled (hen : alEn im p = false) : removePoint im p a = (.badValue, a) := if_pos (by simp [hen])
theorem returnPoint_disabled (hen : alEn im p = false) : returnPoint im p a = (.badValue, a) := if_pos (by simp [hen])

theorem unshelvePoint_enabled (hen : alEn im p = true) : unshelvePoint im p a =
    if a.state ≠ almShelved then (.wrongState, a) else (.ok, { a with state := almNormal, shelf := 0, trig := a.trig ||| 8 }) :=
  if_neg (by simp [hen])

theorem removePoint_enabled (hen : alEn im p = true) : removePoint im p a =
    if alLogic im p then (.notAllowed, a) else (.ok, { a with state := almOut, shelf := 0, trig := a.trig ||| 128 }) :=
  if_neg (by simp [hen])

theorem returnPoint_enabled (hen : alEn im p = true) : returnPoint im p a =
    if a.state ≠ almOut then (.wrongState, a) else (.ok, { a with state := almNormal, trig := a.trig ||| 256 }) :=
  if_neg (by simp [hen])

end

section
variable {h : PktHead} {s : State} {p : Nat}

theorem exec_shelve {d : Nat} (hp : p < 2048) (hd : d < 2048) : exec (.shelve h p d) s = runRow h true true false (.shelve p d) s := by
  dsimp only [exec, execShelve]
  rw [decide_eq_true (p := p < 2 ^ 11) hp, decide_eq_true (p := d < 2 ^ 11) hd]
  rfl

variable (hp : p < 2048)
include hp

theorem exec_unshelve : exec (.unshelve h p) s = runRow h true true false (.unshelve p) s := by
  dsimp only [exec, execUnshelve]
  rw [decide_eq_true (p := p < 2 ^ 11) hp]

theorem exec_remove : exec (.remove h p) s = runRow h true true false (.remove p) s := by
  dsimp only [exec, execRemove]
  rw [decide_eq_true (p := p < 2 ^ 11) hp]

theorem exec_return : exec (.return_ h p) s = runRow h true true false (.return_ p) s := by
  dsimp only [exec, execReturn]
  rw [decide_eq_true (p := p < 2 ^ 11) hp]

end

/-! ## Acknowledgements (R268) -/

/-- ACK of location 0 takes in the points `ps`: one that allows it, those of a group, or all. -/
def ackTakes (im : Image) (scope target : Nat) (ps : List Nat) : Prop :=
  (scope = 0 ∧ ackAllowed im 0 target = true ∧ ps = [target]) ∨ (scope = 1 ∧ target < 64 ∧ ps = ackScope im 0 (some target)) ∨
    (scope = 2 ∧ ps = ackScope im 0 none)

section
variable {scope target : Nat} {s : State}

theorem opAck_badValue (hscope : scope < 4) (hbad : (scope = 0 ∧ alEn s.im target = false) ∨ (scope = 1 ∧ 64 ≤ target) ∨ scope = 3) :
    opAck scope target s = deny stBadValue s := by
  obtain ⟨rfl, hen⟩ | ⟨rfl, hgroup⟩ | rfl := hbad
  · exact if_pos (by simp [hen])
  · exact if_pos hgroup
  · rfl

theorem opAck_notAllowed (hen : alEn s.im target = true) (hloc : ackAllowed s.im 0 target = false) :
    opAck 0 target s = deny stAlmNotAllowed s :=
  (if_neg (by simp [hen])).trans (if_pos (by simp [hloc]))

theorem opAck_acks {ps : List Nat} (hps : ackTakes s.im scope target ps) : opAck scope target s =
    (s.modAlm fun a => { a with pts := (ackAll 0 ps s.alm.pts).1 },
      .sent s.fr.frameNo stOk (packBytes 2 [(16, (ackAll 0 ps s.alm.pts).2)])) := by
  obtain ⟨rfl, hloc, rfl⟩ | ⟨rfl, hgroup, rfl⟩ | ⟨rfl, rfl⟩ := hps
  · have hen : alEn s.im target = true := by
      simp only [ackAllowed, Bool.and_eq_true] at hloc
      exact hloc.1.1
    exact (if_neg (by simp [hen])).trans (if_neg (by simp [hloc]))
  · exact if_neg (by omega)
  · rfl

end

/-- An acknowledgement moves a point from ACTIVE_UNACK to ACTIVE_ACK or from RETURN_UNACK to NORMAL, and no other. -/
theorem ackPoint_moves (a : AlmPt) : (a.state = almUnack → (ackPoint 0 a).1.state = almAck) ∧
    (a.state = almReturn → (ackPoint 0 a).1.state = almNormal) ∧
    (a.state ≠ almUnack → a.state ≠ almReturn → ackPoint 0 a = (a, false)) := by
  refine ⟨fun hunack => ?_, fun hreturn => ?_, fun hunack hreturn => ?_⟩
  · simp [ackPoint, hunack]
  · simp [ackPoint, hreturn]
  · simp [ackPoint, hunack, hreturn]

section
variable {h : PktHead} {s : State} {scope target : Nat}

theorem exec_ack (hscope : scope < 4) (htarget : target < 2048) :
    exec (.ack h scope target) s = runRow h true true false (.ack scope target) s := by
  dsimp only [exec, execAck]
  rw [decide_eq_true (p := scope < 2 ^ 2) hscope, decide_eq_true (p := target < 2 ^ 11) htarget]
  rfl

variable (hr : s.ready h 0x0403) (hnext : s.alm.next = 0)
include hr hnext

/-- An acknowledgement that takes in `ps` answers with the number of points that it has changed. -/
theorem ack_served {ps : List Nat} (hps : ackTakes s.im scope target ps) :
    ∃ u, runRow h true true false (.ack scope target) s = .next u ∧
      s.repliedAt u h (.ack scope target) s.fr.frameNo stOk (packBytes 2 [(16, (ackAll 0 ps s.alm.pts).2)]) ∧
      u.alm = { s.alm with pts := (ackAll 0 ps s.alm.pts).1 } ∧ s.served u h [.alm] := by
  rw [← State.accepted_im h 0x0403 s] at hps
  have hrun := opAck_acks hps
  rw [State.accepted_alm] at hrun
  obtain ⟨u, e, hreply, hserved, halm⟩ := runRow_notesAlarms (op := .ack scope target) hr (fun _ => hnext) nofun hrun
  exact ⟨u, e, hreply, halm, hserved⟩

theorem ack_refused {st : Nat} (ho : opAck scope target (s.accepted h 0x0403) = deny st (s.accepted h 0x0403)) :
    ∃ u, runRow h true true false (.ack scope target) s = .next u ∧ s.onlyReplied u h 0x0403 st [] :=
  runRow_onlyReplied (op := .ack scope target) hr (fun _ => hnext) ho nofun

end

/-! ## SELECT_DUTY (R284) -/

section
variable {h : PktHead} {s : State} {k : Nat}

theorem exec_selectDuty (hk : k < 2 ^ 8) : exec (.selectDuty h k) s = runRow h true true false (.selectDuty k) s := by
  dsimp only [exec, execSelectDuty]
  rw [decide_eq_true hk]

variable (hr : s.ready h 0x0409)
include hr

theorem selectDuty_refused (hnone : k ≠ 0xFF) (hcabin : isCabin s.im k = false) :
    ∃ u, runRow h true true false (.selectDuty k) s = .next u ∧ s.onlyReplied u h 0x0409 stBadValue [] := by
  have hneither : ¬ (k = 0xFF ∨ isCabin (s.accepted h 0x0409).im k = true) := by
    rw [State.accepted_im]
    simp [hnone, hcabin]
  exact runRow_onlyReplied (op := .selectDuty k) hr nofun (if_neg hneither) nofun

theorem selectDuty_noted (hduty : k = 0xFF ∨ isCabin s.im k = true) :
    ∃ u, runRow h true true false (.selectDuty k) s = .next u ∧ s.repliedAt u h (.selectDuty k) s.fr.frameNo stOk [] ∧
      s.served u h [.alm] ∧
      u.alm = { s.alm with call := { s.alm.call with reqs := s.alm.call.reqs ++ [{ loc := 0, req := 4, arg := k }] } } := by
  rw [← State.accepted_im h 0x0409 s] at hduty
  exact runRow_notesAlarms (op := .selectDuty k) hr nofun nofun (if_pos hduty)

end

/-! ## Requests that come too late (R267) -/

/-- A request on an alarm point that comes once the points of the frame are evaluated waits, whatever its parameters are. -/
theorem exec_alarm_waits {i : Instr} {h : PktHead} {op : Op} {torn : Bool} {s : State} (hp : packetOf i = some (h, op, torn))
    (hwf : i.wellFormed = true) (hA : opAlarm op = true) (hmode : s.mode = .running) (hrole : s.unt.pair.role ≠ 2)
    (hnext : s.alm.next ≠ 0) : exec i s = .next { s with alm := { s.alm with waiting := s.alm.waiting ++ [(h, op)] } } := by
  obtain ⟨_, _, -, hfields⟩ := exec_packet hp
  obtain ⟨-, -, hhead⟩ := hfields hwf
  have hport : ¬ 6 ≤ h.port := Nat.not_le.2 (port_of_headOk hhead)
  rw [exec_packet_wellFormed hp hwf]
  simp [runRow, State.live, State.modAlm, hport, hmode, hrole, hA, hnext]

/-- Settles O13: a request on one point by its outcome in the table of R268, an acknowledgement by the points that it takes in, SELECT_DUTY
by the station that it names, and a request after the evaluation by what makes it wait. -/
theorem alarmRequests : Obligations.AlarmRequests := by
  refine ⟨⟨fun h s p d hr hnext hp hd => ?_, fun h s p hr hnext hp => ?_, fun h s p hr hnext hp => ?_, fun h s p hr hnext hp => ?_⟩,
    fun h s scope target hr hnext hscope htarget => ?_, ackPoint_moves, fun h s k hr hk => ?_,
    fun i h op torn s hp hwf hA hmode hrole hnext => exec_alarm_waits hp hwf hA hmode hrole hnext⟩
  -- SHELVE
  · rw [exec_shelve hp hd]
    obtain ⟨u, e, hrefused, hmoved⟩ := runRow_pointRequest (op := .shelve p d) hr (fun _ => hnext) nofun
      (R := fun im P a => shelvePoint im P p d a) fun _ _ => rfl
    refine ⟨u, e, fun hbad => hrefused _ _ (shelvePoint_badValue hbad) nofun,
      fun hen hlo hhi hbar => hrefused _ _ (shelvePoint_notAllowed hen hlo hhi hbar) nofun,
      fun hen hlo hhi hok hmax hstate => hrefused _ _ ((shelvePoint_allowed hen hlo hhi hok hmax).trans (if_pos hstate)) nofun,
      fun hen hlo hhi hok hmax hsupp hout => hmoved _ ((shelvePoint_allowed hen hlo hhi hok hmax).trans (if_neg ?_))⟩
    exact not_or.2 ⟨hsupp, hout⟩
  -- UNSHELVE
  · rw [exec_unshelve hp]
    obtain ⟨u, e, hrefused, hmoved⟩ := runRow_pointRequest (op := .unshelve p) hr (fun _ => hnext) nofun
      (R := fun im _ a => unshelvePoint im p a) fun _ _ => rfl
    exact ⟨u, e, fun hen => hrefused _ _ (unshelvePoint_disabled hen) nofun,
      fun hen hstate => hrefused _ _ ((unshelvePoint_enabled hen).trans (if_pos hstate)) nofun,
      fun hen hstate => hmoved _ ((unshelvePoint_enabled hen).trans (if_neg (not_not_intro hstate)))⟩
  -- REMOVE
  · rw [exec_remove hp]
    obtain ⟨u, e, hrefused, hmoved⟩ := runRow_pointRequest (op := .remove p) hr (fun _ => hnext) nofun
      (R := fun im _ a => removePoint im p a) fun _ _ => rfl
    exact ⟨u, e, fun hen => hrefused _ _ (removePoint_disabled hen) nofun,
      fun hen hlogic => hrefused _ _ ((removePoint_enabled hen).trans (if_pos hlogic)) nofun,
      fun hen hlogic => hmoved _ ((removePoint_enabled hen).trans (if_neg (Bool.eq_false_iff.1 hlogic)))⟩
  -- RETURN
  · rw [exec_return hp]
    obtain ⟨u, e, hrefused, hmoved⟩ := runRow_pointRequest (op := .return_ p) hr (fun _ => hnext) nofun
      (R := fun im _ a => returnPoint im p a) fun _ _ => rfl
    exact ⟨u, e, fun hen => hrefused _ _ (returnPoint_disabled hen) nofun,
      fun hen hstate => hrefused _ _ ((returnPoint_enabled hen).trans (if_pos hstate)) nofun,
      fun hen hstate => hmoved _ ((returnPoint_enabled hen).trans (if_neg (not_not_intro hstate)))⟩
  -- ACK
  · rw [exec_ack hscope htarget]
    have e := runRow_ready (op := .ack scope target) (torn := false) hr fun _ => hnext
    have him := State.accepted_im h 0x0403 s
    refine ⟨_, e, fun hbad => ?_, fun hone hen hloc => ?_, fun ps hps => ?_⟩
    · exact holds_of_next e (ack_refused hr hnext (opAck_badValue hscope (him.symm ▸ hbad)))
    · subst hone
      exact holds_of_next e (ack_refused hr hnext (opAck_notAllowed (him.symm ▸ hen) (him.symm ▸ hloc)))
    · exact holds_of_next e (ack_served hr hnext hps)
  -- SELECT_DUTY
  · rw [exec_selectDuty hk]
    have e := runRow_ready (op := .selectDuty k) (torn := false) hr nofun
    exact ⟨_, e, fun hnone hcabin => holds_of_next e (selectDuty_refused hr hnone hcabin),
      fun hduty => holds_of_next e (selectDuty_noted hr hduty)⟩

end Sys2Proof.Machine
end

section
/-! PROOFS. Alarm points and groups in the open frame (R264, R267, R270, R271, R275): the evaluation of points in ascending order writes
those that it has come to, and a group behind it loads its object. -/

namespace Sys2Proof.Machine

/-! ## Step 2 of R267 -/

section
variable {k p q : Nat} {s : State}

/-- The step of a point leaves every other point. -/
theorem almTableStep_ne (im : Image) (P : Nat) (e : AlmEnv) (x : AlmTable) (hpq : p ≠ q) :
    tabGet {} (almTableStep im P e x p) q = tabGet {} x q := by
  unfold almTableStep
  split
  · exact tabGet_mod_ne _ _ _ hpq
  · rfl

/-- Step 2 of R267 for the points below `k` leaves the points from `k` on. -/
theorem State.pointsTo_pointOf (hk : k ≤ q) (s : State) : (s.pointsTo k).pointOf q = s.pointOf q := by
  unfold State.pointsTo
  split
  · rfl
  · refine List.foldlRecOn (motive := fun x => tabGet {} x q = tabGet {} s.alm.pts q) _ _ rfl fun x hx j hj => ?_
    have hjk : j < k := by
      simp only [List.mem_filter, Bool.and_eq_true, decide_eq_true_eq] at hj
      exact hj.2.2
    exact (almTableStep_ne _ _ _ _ (by omega)).trans hx

/-- The points below `k` are evaluated, and of the alarm part no more than the points is written. -/
theorem State.pointsTo_alm (hk : s.alm.next ≤ k) : (s.pointsTo k).alm = { s.alm with pts := (s.pointsTo k).alm.pts, next := k } := by
  unfold State.pointsTo
  split
  · next hle => rw [Nat.le_antisymm hle hk]
  · rfl

theorem State.pointsTo_sameBut (k : Nat) (s : State) : s.sameBut [.alm] (s.pointsTo k) :=
  State.sameBut_of_rest (State.pointsTo_rest k s (by decide))

end

/-! ## What comes about at a point -/

/-- The outcome of point `p` as `u` holds it after `s`: the point takes it, no later point changes, and of the alarm part the points alone
are written. -/
def State.pointTaken (s : State) (t p : Nat) (u : State) : Prop :=
  u.pointOf p = ((s.tick t).pointsTo (p + 1)).pointOf p ∧ u.alm.next = p + 1 ∧ (∀ q, p < q → u.pointOf q = s.pointOf q) ∧
    u.alm.grps = s.alm.grps ∧ u.alm.call = s.alm.call ∧ u.alm.stations = s.alm.stations ∧ s.sameBut [.now, .alm] u

section
variable {t p : Nat} {s : State}

theorem State.pointsTo_taken (hnext : s.alm.next ≤ p) : s.pointTaken t p ((s.tick t).pointsTo (p + 1)) := by
  have halm := State.pointsTo_alm (s := s.tick t) (k := p + 1) (Nat.le_succ_of_le hnext)
  exact ⟨rfl, congrArg AlmPart.next halm, fun q hq => State.pointsTo_pointOf (Nat.succ_le_of_lt hq) (s.tick t),
    (congrArg AlmPart.grps halm :), (congrArg AlmPart.call halm :), (congrArg AlmPart.stations halm :),
    State.sameBut_trans (s.tick_sameBut t) ((s.tick t).pointsTo_sameBut (p + 1))⟩

/-- A happening that the evaluation of a point brings about has the outcome of the point taken: the points below it, which are evaluated
first, leave it as it was. -/
theorem pointRow_taken {happens : AlmPt → AlmPt → Bool} (hp : p < 2048) (hready : s.zenithReady = true) (hen : alEn s.im p = true)
    (hnext : s.alm.next ≤ p) (hhappens : happens (s.pointOf p) (((s.tick t).pointsTo (p + 1)).pointOf p) = true) :
    ∃ u, pointRow t p happens s = .next u ∧ s.pointTaken t p u := by
  refine ⟨_, act_goes (decide_eq_true hp) ?_, State.pointsTo_taken hnext⟩
  have hbefore : ((s.tick t).pointsTo p).pointOf p = s.pointOf p := State.pointsTo_pointOf (Nat.le_refl p) (s.tick t)
  have hready' : (s.tick t).zenithReady = true := hready
  have hen' : alEn (s.tick t).im p = true := hen
  simp only [State.pointWould, hbefore, hready', hen', State.tick_alm, hnext, hhappens, decide_true, Bool.and_self]

end

/-! ## Groups (R275) -/

section
variable {g k : Nat} {s : State}

/-- The state in which step 4 of R267 begins or goes on: every point evaluated, and the first-outs judged. -/
def State.beforeGroups (s : State) : State :=
  if (s.pointsTo 2048).alm.grpNext = 0 then (List.range 64).foldl State.firstOutStep (s.pointsTo 2048) else s.pointsTo 2048

theorem State.groupsTo_eq (k : Nat) (s : State) :
    s.groupsTo k = ((List.range k).filter (s.beforeGroups.alm.grpNext ≤ ·)).foldl State.groupOne s.beforeGroups := rfl

/-- Points and first-outs leave the groups that step 4 has come to. -/
theorem State.beforeGroups_grpNext (s : State) : s.beforeGroups.alm.grpNext = s.alm.grpNext := by
  have hpoints : (s.pointsTo 2048).alm.grpNext = s.alm.grpNext := by
    unfold State.pointsTo
    split <;> rfl
  unfold State.beforeGroups
  split
  · exact List.foldlRecOn (motive := fun x : State => x.alm.grpNext = s.alm.grpNext) _ _ hpoints fun x hx j _ => hx
  · exact hpoints

/-- Step 4 of R267 takes the groups one after the other. -/
theorem State.groupsTo_succ (hg : s.alm.grpNext ≤ g) : s.groupsTo (g + 1) = (s.groupsTo g).groupOne g := by
  rw [State.groupsTo_eq, State.groupsTo_eq, List.range_succ, List.filter_append, List.foldl_append, State.beforeGroups_grpNext,
    List.filter_singleton, decide_eq_true hg]
  rfl

theorem State.groupsTo_im (k : Nat) (s : State) : (s.groupsTo k).im = s.im :=
  (State.sameBut_of_rest (State.groupsTo_rest k s (ps := [.alm, .can]) (by decide))).im (by decide)

/-- A group whose object is due again loads it with its counter raised, whether or not the payload has changed. -/
theorem groupStep_due {im : Image} {gr : Grp} (hobj : grObjEn im g = true) (hdue : grObjCycle im g ≤ gr.since + 1) (P n : Nat) (x : AlmTable) :
    ∃ y, groupStep im P n x g gr = (y, some y.block) ∧ y.tx = wrapN 8 (gr.tx + 1) ∧ y.since = 0 ∧
      y.sent = some (groupPayload im x g y.out gr.fo) :=
  ⟨_, if_pos (by simp [hobj, hdue]), rfl, rfl, rfl⟩

/-- What a group and the loads hold once step 4 of R267 has loaded the group's object. -/
theorem State.groupOne_loads {y : Grp} {b : Nat}
    (hstep : groupStep s.im s.P s.fr.frameNo s.alm.pts g (tabGet {} s.alm.grps g) = (y, some b)) :
    tabGet {} (s.groupOne g).alm.grps g = y ∧ (s.groupOne g).can.loads = s.can.loads ++ [(grOutObj s.im g, toBytes 8 b)] ∧
      (s.groupOne g).alm.grpNext = g + 1 := by
  unfold State.groupOne
  rw [hstep]
  exact ⟨tabGet_set_self .., rfl, rfl⟩

end

/-! ## The happenings -/

section
variable {t g : Nat} {s : State} {x : Grp} (hg : g < 64) (hready : s.zenithReady = true) (hnext : s.alm.grpNext ≤ g)
  (hobj : grObjEn s.im g = true) (hx : tabGet {} ((s.tick t).groupsTo g).alm.grps g = x) (hdue : grObjCycle s.im g ≤ x.since + 1)
  (hsame : x.sent = some (groupPayload s.im ((s.tick t).groupsTo g).alm.pts g (tabGet {} ((s.tick t).groupsTo (g + 1)).alm.grps g).out x.fo))
include hg hready hnext hobj hx hdue hsame

/-- GROUP_OBJECT_CYCLE of an object that is due again with the payload that it has sent last (R275). -/
theorem groupObjectCycle_goes : exec (.groupObjectCycle t g) s = .next ((s.tick t).groupsTo (g + 1)) := by
  have hready' : (s.tick t).zenithReady = true := hready
  dsimp only [exec, execGroupObjectCycle]
  refine act_goes (decide_eq_true hg) ?_
  simp only [hready', Bool.true_and, Bool.and_eq_true, decide_eq_true_eq]
  subst hx
  exact ⟨⟨hnext, hobj⟩, hdue, hsame⟩

theorem groupObjectCycle_loads : ∃ u, exec (.groupObjectCycle t g) s = .next u ∧ (tabGet {} u.alm.grps g).tx = wrapN 8 (x.tx + 1) ∧
    (tabGet {} u.alm.grps g).since = 0 ∧ (tabGet {} u.alm.grps g).sent = x.sent ∧
    u.can.loads = ((s.tick t).groupsTo g).can.loads ++ [(grOutObj s.im g, toBytes 8 (tabGet {} u.alm.grps g).block)] ∧
    u.alm.grpNext = g + 1 := by
  have hgoes := groupObjectCycle_goes hg hready hnext hobj hx hdue hsame
  have hsucc : (s.tick t).groupsTo (g + 1) = ((s.tick t).groupsTo g).groupOne g := State.groupsTo_succ hnext
  have him : ((s.tick t).groupsTo g).im = s.im := State.groupsTo_im g (s.tick t)
  subst hx
  obtain ⟨y, hstep, htx, hsince, hsent⟩ := groupStep_due hobj hdue ((s.tick t).groupsTo g).P ((s.tick t).groupsTo g).fr.frameNo
    ((s.tick t).groupsTo g).alm.pts
  obtain ⟨hgroup, hloads, hcomes⟩ := State.groupOne_loads (him.symm ▸ hstep)
  rw [← hsucc] at hgroup hloads hcomes
  rw [hgroup, ← hsent] at hsame
  rw [him] at hloads
  refine ⟨_, hgoes, ?_⟩
  rw [hgroup]
  exact ⟨htx, hsince, hsame.symm, hloads, hcomes⟩

end

/-- Settles O24: the happenings of a point are one evaluation of it, each under its own condition, and the happening of a group is step 4 of
R267 for that group. -/
theorem alarmTimers : Obligations.AlarmTimers := by
  refine ⟨fun t p s hp hready hen hnext => ⟨fun hcond => ?_, fun hsupp hends => ?_, fun hshelved hbefore hafter => ?_⟩,
    fun t g s hg hready hnext hobj hdue hsame => groupObjectCycle_loads hg hready hnext hobj rfl hdue hsame⟩
  -- ALARM_DELAY_EXPIRY
  · exact pointRow_taken hp hready hen hnext (bne_iff_ne.2 hcond.symm)
  -- SUPPRESSION_HOLD_END
  · exact pointRow_taken hp hready hen hnext (by simp only [hsupp, hends, Bool.not_false, Bool.and_self])
  -- SHELF_EXPIRY
  · exact pointRow_taken hp hready hen hnext (by simp only [hshelved, hbefore, hafter, decide_true, Bool.not_false, Bool.and_self])

end Sys2Proof.Machine
end

section
/-! PROOFS. One step of the machine (R343, R428): it serves the front of the queue, and a packet that is handed back to a standby may make
an owner of a port that has no session. -/

namespace Sys2Proof.Machine

/-- Settles O54: both clauses are the two branches of the queue. -/
theorem stepServesTheFront : Obligations.StepServesTheFront :=
  ⟨fun _ _ _ => rfl, fun s hs => by unfold step; rw [hs]⟩

/-- An ACCEPT as a packet (R316, R317, R334): header with opcode 0104h, no body, and the CRC. -/
def acceptPacket : List Byte := [83, 90, 1, 0, 0, 0, 0, 0, 0, 0, 0, 0, 4, 1, 0, 0, 241, 178, 19, 247]

/-- The block in which the active hands that packet of port 0 back to its standby (R324). -/
def handBackAccept : LinkReceipt := { block := .handBack 0 false 0 0 acceptPacket }

/-- Unit A of a pair as standby: ownership is offered to port 0, on which no session is open. -/
def offeredStandby : State :=
  { State.reset with
    cfg := { image := setInst [] clsPAIR 0 1#2048 }
    unt := { pair := { role := 2, lane0 := { up := true } } }
    port := { owner := { offer := some (0, 0) } } }

/-- The standby runs what is handed back to it without the checks of R320: port 0 becomes owner, its session still closed. -/
theorem offeredStandby_accepts : ∃ u, exec (.contrailBlockReceive 0 handBackAccept) offeredStandby = .next u ∧
    u.port.owner.owner = some 0 ∧ (u.sessOf 0).id = 0 := by
  dsimp only [exec, execContrailBlockReceive]
  refine ⟨_, act_goes (by decide +kernel) (by decide +kernel), ?_, ?_⟩ <;> decide +kernel

/-- Refutes O58: on a standby, a handed-back ACCEPT makes a port the owner whose session is closed. Nothing in the model restricts what an
active hands back to the opcodes that it processes at once (R324). -/
theorem not_ownersHaveSessions : ¬ Obligations.OwnersHaveSessions := by
  rintro ⟨hkeeps, -⟩
  obtain ⟨u, hstep, howner, hclosed⟩ := offeredStandby_accepts
  have hqueue := stepServesTheFront.1 (.contrailBlockReceive 0 handBackAccept) [] offeredStandby
  exact (hkeeps { offeredStandby with pending := [.contrailBlockReceive 0 handBackAccept] } u ⟨nofun, nofun⟩ (hqueue.trans hstep)).1 0
    howner hclosed

end Sys2Proof.Machine
end

section
/-! PROOFS. The operations of the Twilight domain (R444 to R463): which of them write the state bits of the alarms alone, and that each one
keeps a date and a time that exist and the backup RAM in canonical form. -/

namespace Sys2Proof.Machine

/-! ## The state bits of the alarms -/

/-- `v` differs from `w` in the state bits of the alarms at most. -/
def Twi.alarmsOnly (w v : Twi) : Prop := v = { w with a0 := v.a0, a1 := v.a1 }

section
variable {k : Nat} {w v x : Twi}

theorem Twi.alarmsOnly_refl (w : Twi) : w.alarmsOnly w := rfl

theorem Twi.alarmsOnly.trans (h : w.alarmsOnly v) (h' : v.alarmsOnly x) : w.alarmsOnly x := by
  unfold Twi.alarmsOnly at *
  rw [h'] at ⊢
  rw [h]

theorem setAlarmSt_alarmsOnly (k : Nat) (a : RtcAlarm) (w : Twi) : w.alarmsOnly (setAlarmSt k a w) := by
  unfold setAlarmSt Twi.alarmsOnly
  split <;> rfl

theorem alarmFire_alarmsOnly (k : Nat) (skip : Bool) (w : Twi) : w.alarmsOnly (alarmFire k skip w) := setAlarmSt_alarmsOnly ..

theorem alarmTick_alarmsOnly (k : Nat) (w : Twi) : w.alarmsOnly (alarmTick k w) := by
  unfold alarmTick
  split
  · exact alarmFire_alarmsOnly ..
  · exact w.alarmsOnly_refl

theorem alarmMove_alarmsOnly (k : Nat) (was : Bool) (a b dA dB : Nat × Nat × Nat) (w : Twi) :
    w.alarmsOnly (alarmMove k was a b dA dB w) := by
  unfold alarmMove
  dsimp only
  split
  · exact w.alarmsOnly_refl
  · split
    · split
      · exact alarmFire_alarmsOnly ..
      · exact w.alarmsOnly_refl
    · split
      · split
        · exact setAlarmSt_alarmsOnly ..
        · exact w.alarmsOnly_refl
      · exact w.alarmsOnly_refl

/-- The alarms are evaluated one after the other. -/
theorem alarmTicks_alarmsOnly (w : Twi) : w.alarmsOnly (alarmTick 1 (alarmTick 0 w)) :=
  (alarmTick_alarmsOnly 0 w).trans (alarmTick_alarmsOnly 1 _)

end

/-! ## Dates and canonical form -/

/-- The calendar shows a date and a time that exist, and the backup RAM and its buffer are in canonical form. -/
def Twi.sound (w : Twi) : Prop := w.legal ∧ w.ramWf

section
variable {w v : Twi}

theorem Twi.alarmsOnly.legal (h : w.alarmsOnly v) (hw : w.legal) : v.legal := by
  rw [h]
  exact hw

theorem Twi.alarmsOnly.ramWf (h : w.alarmsOnly v) (hw : w.ramWf) : v.ramWf := by
  rw [h]
  exact hw

theorem Twi.alarmsOnly.sound (h : w.alarmsOnly v) (hw : w.sound) : v.sound := ⟨h.legal hw.1, h.ramWf hw.2⟩

end

theorem one_le_daysIn (y m : Nat) : 1 ≤ daysIn y m := by
  unfold daysIn
  repeat' split
  all_goals omega

/-- The day after a day of a month that exists exists (R453). -/
theorem nextDay_exists {y m d : Nat} (hy : y ≤ 199) (hm : 1 ≤ m ∧ m ≤ 12) :
    let n := nextDay (y, m, d)
    n.1 ≤ 199 ∧ 1 ≤ n.2.1 ∧ n.2.1 ≤ 12 ∧ 1 ≤ n.2.2 ∧ n.2.2 ≤ daysIn n.1 n.2.1 := by
  have h12 : 1 ≤ 12 := by decide
  unfold nextDay
  dsimp only
  split
  · next hlt => exact ⟨hy, hm.1, hm.2, Nat.le_add_left 1 d, hlt⟩
  · split
    · next hlt => exact ⟨hy, Nat.le_add_left 1 m, hlt, le_refl 1, one_le_daysIn ..⟩
    · split
      · next hlt => exact ⟨hlt, le_refl 1, h12, le_refl 1, one_le_daysIn ..⟩
      · exact ⟨Nat.zero_le _, le_refl 1, h12, le_refl 1, one_le_daysIn ..⟩

/-- A second increment before the alarms are evaluated. -/
def rtcCount (now : Nat) (w : Twi) : Twi :=
  let w1 := { w with subsec := 0, subsecAt := now, roll := wrapN 8 (w.roll + 1) }
  if w.sec < 59 then { w1 with sec := w.sec + 1 }
  else if w.min < 59 then { w1 with sec := 0, min := w.min + 1 }
  else if w.hour < 23 then { w1 with sec := 0, min := 0, hour := w.hour + 1 }
  else
    let d := nextDay (w.year, w.month, w.day)
    let wraps := decide (w.year = 199) && decide (w.month = 12) && decide (w.day = 31)
    { w1 with sec := 0, min := 0, hour := 0, year := d.1, month := d.2.1, day := d.2.2
              wday := if sameTick now w.wdayAt then w.wday else (w.wday + 1) % 7
              wrapped := w.wrapped || wraps, valid := w.valid && !wraps }

theorem rtcAdvance_eq (now : Nat) (w : Twi) : rtcAdvance now w = alarmTick 1 (alarmTick 0 (rtcCount now w)) := rfl

section
variable {now : Nat} {w : Twi}

theorem rtcCount_sound (hw : w.sound) : (rtcCount now w).sound := by
  obtain ⟨⟨hsec, hmin, hhour, hmonth, hmonth', hday, hday', hyear, hwday⟩, hram⟩ := hw
  have h60 : 0 < 60 := by decide
  have h24 : 0 < 24 := by decide
  unfold rtcCount
  dsimp only
  split
  · next hlt => exact ⟨⟨Nat.succ_lt_succ hlt, hmin, hhour, hmonth, hmonth', hday, hday', hyear, hwday⟩, hram⟩
  · split
    · next hlt => exact ⟨⟨h60, Nat.succ_lt_succ hlt, hhour, hmonth, hmonth', hday, hday', hyear, hwday⟩, hram⟩
    · split
      · next hlt => exact ⟨⟨h60, h60, Nat.succ_lt_succ hlt, hmonth, hmonth', hday, hday', hyear, hwday⟩, hram⟩
      · obtain ⟨hny, hnm, hnm', hnd, hnd'⟩ := nextDay_exists (d := w.day) hyear ⟨hmonth, hmonth'⟩
        refine ⟨⟨h60, h60, h24, hnm, hnm', hnd, hnd', hny, ?_⟩, hram⟩
        dsimp only
        split
        · exact hwday
        · exact Nat.mod_lt _ (by decide)

theorem rtcSecond_sound (hw : w.sound) : (rtcSecond now w).sound := by
  unfold rtcSecond
  split
  · exact hw
  · exact (alarmTicks_alarmsOnly _).sound (rtcCount_sound hw)

theorem setWeekday_sound {v : Nat} (hv : v ≤ 6) (hw : w.sound) : (setWeekday now v w).sound := by
  obtain ⟨⟨hsec, hmin, hhour, hmonth, hmonth', hday, hday', hyear, -⟩, hram⟩ := hw
  exact ⟨⟨hsec, hmin, hhour, hmonth, hmonth', hday, hday', hyear, Nat.lt_succ_of_le hv⟩, hram⟩

/-- What a time commit sets before the alarms are moved (R456). -/
def timeSet (now : Nat) (w : Twi) : Twi :=
  let s := w.stage
  { w with
    year := stF s 80 8, month := stF s 72 4, day := stF s 64 5, hour := stF s 48 5, min := stF s 40 6, sec := stF s 32 6
    subsec := ceilDiv (stF s 0 10 * 32768) 1000, subsecAt := now, roll := wrapN 8 (w.roll + 1), valid := true, bakLost := false
    wrapped := false, stage := 0, setAt := some now }

theorem timeCommit_alarmsOnly (now : Nat) (w : Twi) : (timeSet now w).alarmsOnly (timeCommit now w) :=
  (alarmMove_alarmsOnly ..).trans (alarmMove_alarmsOnly ..)

/-- A staging set that R455 accepts is a date and a time that exist. -/
theorem stValid_fields {set : Nat} (h : stValid set = true) : stF set 80 8 ≤ 199 ∧ 1 ≤ stF set 72 4 ∧ stF set 72 4 ≤ 12 ∧
    1 ≤ stF set 64 5 ∧ stF set 64 5 ≤ daysIn (stF set 80 8) (stF set 72 4) ∧ stF set 48 5 ≤ 23 ∧ stF set 40 6 ≤ 59 ∧ stF set 32 6 ≤ 59 := by
  simp only [stValid, Bool.and_eq_true, decide_eq_true_eq] at h
  tauto

theorem timeCommit_sound (hst : stValid w.stage = true) (hw : w.sound) : (timeCommit now w).sound := by
  obtain ⟨hyear, hmonth, hmonth', hday, hday', hhour, hmin, hsec⟩ := stValid_fields hst
  obtain ⟨⟨-, -, -, -, -, -, -, -, hwday⟩, hram⟩ := hw
  exact (timeCommit_alarmsOnly now w).sound ⟨⟨Nat.lt_succ_of_le hsec, Nat.lt_succ_of_le hmin, Nat.lt_succ_of_le hhour, hmonth, hmonth',
    hday, hday', hyear, hwday⟩, hram⟩

theorem loadAlarms_sound (bits : BitVec 256) (hw : w.sound) : (loadAlarms bits w).sound := by
  have hone (k : Nat) (v : Twi) :
      v.alarmsOnly (if fld bits (64 * k) 64 = fld w.alSet (64 * k) 64 then v else setAlarmSt k { armed := true } v) := by
    split
    · exact v.alarmsOnly_refl
    · exact setAlarmSt_alarmsOnly ..
  exact ((hone 0 w).trans (hone 1 _)).sound hw

end

/-! ## The backup RAM (R463) -/

section
variable {w : Twi}

/-- Bytes that stay below offset 128 keep the write buffer in canonical form. -/
theorem fillBuffer_sound {off : Nat} {data : List Byte} (hlen : off + data.length ≤ 128) (hw : w.sound) : (fillBuffer off data w).sound := by
  obtain ⟨hlegal, hbram, hwbuf, hbramLt, hwbufLt⟩ := hw
  suffices hfold : tabWf (fun _ => none) (fillBuffer off data w).wbuf = true ∧ ∀ e ∈ (fillBuffer off data w).wbuf, e.1 < 128 from
    ⟨hlegal, hbram, hfold.1, hbramLt, hfold.2⟩
  refine List.foldlRecOn (motive := fun t : Tab (Option Byte) => tabWf (fun _ => none) t = true ∧ ∀ e ∈ t, e.1 < 128) _ _
    ⟨hwbuf, hwbufLt⟩ fun t ht e he => ⟨tabWf_set _ _ ht.1, fun x hx => ?_⟩
  rcases mem_tabSetD hx with rfl | hx
  · have := (List.mem_zipIdx he).2.1
    dsimp only
    omega
  · exact ht.2 x hx

theorem bramCommit_sound (hw : w.sound) : (bramCommit w).sound := by
  obtain ⟨hlegal, hbram, -, hbramLt, hwbufLt⟩ := hw
  suffices hfold : tabWf (fun _ => (0#8 : Byte)) (bramCommit w).bram = true ∧ ∀ e ∈ (bramCommit w).bram, e.1 < 128 from
    ⟨hlegal, hfold.1, rfl, hfold.2, nofun⟩
  refine List.foldlRecOn (motive := fun t : Tab Byte => tabWf (fun _ => (0#8 : Byte)) t = true ∧ ∀ e ∈ t, e.1 < 128) _ _
    ⟨hbram, hbramLt⟩ fun t ht e he => ?_
  split
  · refine ⟨tabWf_set _ _ ht.1, fun x hx => ?_⟩
    rcases mem_tabSetD hx with rfl | hx
    · exact hwbufLt e he
    · exact ht.2 x hx
  · exact ht

theorem backup_sound {off : Nat} {data : List Byte} (hlen : off + data.length ≤ 128) (hw : w.sound) :
    (bramCommit (fillBuffer off data w)).sound := bramCommit_sound (fillBuffer_sound hlen hw)

theorem toBytes_length (n v : Nat) : (toBytes n v).length = n := by
  induction n generalizing v with
  | zero => rfl
  | succ n ih => exact congrArg Nat.succ (ih _)

/-- A register write reaches the write buffer at offsets 80h to FCh only. -/
theorem twiWrite_sound (off v : Nat) (hw : w.sound) : (twiWrite off v w).sound := by
  unfold twiWrite
  split
  · exact hw
  · split
    · exact hw
    · split
      · exact hw
      · split
        · next hbuf => exact fillBuffer_sound (by rw [toBytes_length]; omega) hw
        · exact hw

theorem twiLock_sound (hw : w.sound) : (twiLock w).sound := ⟨hw.1, hw.2.1, rfl, hw.2.2.2.1, nofun⟩

theorem twiLost_sound (now : Nat) (w : Twi) : (twiLost now w).sound := by
  refine ⟨?_, rfl, rfl, nofun, nofun⟩
  show Twi.legal {}
  unfold Twi.legal
  decide

theorem rtcFreezeTimeout_sound (now : Nat) (hw : w.sound) : (rtcFreezeTimeout now w).sound := by
  unfold rtcFreezeTimeout
  split
  · split <;> exact hw
  · exact hw

theorem clearFired_sound (k : Nat) (hw : w.sound) : (clearFired k w).sound := (setAlarmSt_alarmsOnly ..).sound hw

end

end Sys2Proof.Machine
end

section
/-! PROOFS. The calendar in every step (R451, R453, R456, R463): the Twilight domain is written by its own operations alone, and each command
that reaches one of them keeps a date that exists and the backup RAM in canonical form. -/

namespace Sys2Proof.Machine

/-- Every part but the Twilight domain. -/
def notTwi : List Part :=
  [.now, .mode, .phase, .fr, .inp, .blks, .eng, .safety, .alm, .recd, .can, .shown, .clock, .power, .fw1, .fw2, .runSlot, .mem, .mdiag,
    .regs, .pair, .wit, .sess, .pend, .outbox, .owner, .portSt, .wire, .trace, .replay, .replayIn, .cfgEv, .rtcEv, .image, .hdr, .staging,
    .nextCfg, .restage, .slotA, .slotB, .store, .trims]

/-- What leaves the Twilight domain keeps it sound. -/
theorem sound_of_rest {s u : State} (h : u.rest notTwi = s.rest notTwi) (hs : s.twi.sound) : u.twi.sound := by
  have e : u.twi = s.twi := State.same_of_rest (p := .twi) h (by decide)
  rwa [e]

theorem ite_sound {c : Prop} [Decidable c] {a b : State} (ha : a.twi.sound) (hb : b.twi.sound) : (if c then a else b).twi.sound := by
  split
  · exact ha
  · exact hb

/-- What every step of a fold keeps sound, the fold keeps sound. -/
theorem foldl_sound {α : Type} {f : State → α → State} (hf : ∀ s x, s.twi.sound → (f s x).twi.sound) (l : List α) {s : State}
    (hs : s.twi.sound) : (l.foldl f s).twi.sound :=
  List.foldlRecOn (motive := fun x : State => x.twi.sound) l f hs fun x hx a _ => hf x a hx

section
variable {s : State} (hs : s.twi.sound)
include hs

/-! ## Command packets -/

theorem twiDo_sound {f : Twi → Twi} (hf : (f s.twi).sound) : (s.twiDo f).twi.sound := by
  unfold State.twiDo
  split
  · exact hs
  · exact hf

theorem twiRun_sound {r : Run} (hr : r.1.twi.sound) : (s.twiRun r).1.twi.sound := by
  unfold State.twiRun
  split
  · exact hs
  · exact hr

theorem opStageTime_sound (set : List Byte) : (opStageTime set s).1.twi.sound := by
  unfold opStageTime
  dsimp only
  split
  · exact hs
  · exact twiRun_sound hs (twiDo_sound hs hs)

theorem opCommitTime_sound : (opCommitTime s).1.twi.sound := by
  unfold opCommitTime
  split
  · exact hs
  · next hst => exact twiRun_sound (r := State.done _) hs (sound_of_rest (State.unitEvs_rest _ _ (by decide))
      (twiDo_sound hs (timeCommit_sound (by simpa using hst) hs)))

theorem opSetWeekday_sound (w : Nat) : (opSetWeekday w s).1.twi.sound := by
  unfold opSetWeekday
  split
  · exact hs
  · exact twiRun_sound hs (twiDo_sound hs (setWeekday_sound (by omega) hs))

theorem opWriteBackup_sound (off len : Nat) (data : List Byte) : (opWriteBackup off len data s).1.twi.sound := by
  unfold opWriteBackup
  split
  · exact hs
  · exact twiRun_sound hs (twiDo_sound hs (backup_sound (by omega) hs))

/-- Four opcodes write the Twilight domain. -/
theorem runOp_sound (op : Op) (torn : Bool) (c : Caller) : (runOp op torn c s).1.twi.sound := by
  cases op with
  | stageTime set => exact opStageTime_sound hs set
  | commitTime => exact opCommitTime_sound hs
  | setWeekday w => exact opSetWeekday_sound hs w
  | writeBackup off len data => exact opWriteBackup_sound hs off len data
  | _ => exact sound_of_rest (by simp [runOp, notTwi]) hs

omit hs in
theorem settle_sound (c : Caller) (op : Op) {r : Run} (hr : r.1.twi.sound) : (State.settle c op r).twi.sound :=
  sound_of_rest (State.settle_rest c op r (by decide) fun _ => by decide) hr

theorem runReply_sound (c : Caller) (op : Op) (torn : Bool) : (s.runReply c op torn).twi.sound := by
  unfold State.runReply
  split
  · exact sound_of_rest (by simp [notTwi]) hs
  · exact sound_of_rest (State.activeSends_rest _ _ (by decide)) (settle_sound c op (runOp_sound hs op torn c))

theorem runCmd_sound (traced torn : Bool) (code opcode : Nat) (h : PktHead) (op : Option Op) :
    (s.runCmd traced torn code opcode h op).twi.sound := by
  have hheard : (s.heardFrom code h).twi.sound := hs
  have hrefused (r : State) (c : Caller) (st : Nat) (b : List Byte) (hr : r.rest notTwi = s.rest notTwi) :
      (r.refuse c st b).twi.sound := sound_of_rest ((State.refuse_rest c st b r (by decide)).trans hr) hs
  unfold State.runCmd
  dsimp only
  refine ite_sound (hrefused _ _ _ _ (by simp [notTwi])) (ite_sound ?_ (ite_sound (hrefused _ _ _ _ (by simp [notTwi])) ?_))
  -- OPEN_SESSION
  · split
    · exact hrefused _ _ _ _ (by simp [notTwi])
    · exact ite_sound (hrefused _ _ _ _ (by simp [notTwi])) (runReply_sound (sound_of_rest (by simp [notTwi]) hs) ..)
  -- steps 3 and 4
  · split
    · exact hrefused _ _ _ _ (by simp [notTwi])
    · exact hheard
    · exact sound_of_rest (by simp [notTwi]) hs
    · refine ite_sound (sound_of_rest (by simp [notTwi]) hs) ?_
      split
      · exact runReply_sound (sound_of_rest (by simp [notTwi]) hs) ..
      · exact sound_of_rest (by simp [notTwi]) hs

theorem runPacket_sound (traced : Bool) (code ip udp : Nat) (bytes : List Byte) : (s.runPacket traced code ip udp bytes).twi.sound := by
  unfold State.runPacket
  split
  · dsimp only
    split
    · exact sound_of_rest (State.activeSends_rest _ _ (by decide)) (runCmd_sound hs ..)
    · exact runCmd_sound hs ..
  · exact hs

theorem handedBack_sound (torn : Bool) (code opcode : Nat) (h : PktHead) (op : Option Op) :
    (s.handedBack torn code opcode h op).twi.sound := by
  unfold State.handedBack
  split
  · dsimp only
    split
    · exact sound_of_rest (State.emit_rest _ _ (by decide)) (runOp_sound hs ..)
    · exact hs
  · exact hs

/-! ## The evaluation of a frame -/

theorem withinTrace_sound {f : State → State} (hf : ∀ s, s.twi.sound → (f s).twi.sound) : (s.withinTrace f).twi.sound := by
  unfold State.withinTrace
  split
  · exact hf _ hs
  · exact hs

theorem bothSides_sound {f : State → State} (hf : ∀ s, s.twi.sound → (f s).twi.sound) : (s.bothSides f).twi.sound :=
  withinTrace_sound (hf s hs) hf

theorem runEntry_sound (e : Entry) : (s.runEntry e).twi.sound := by
  unfold State.runEntry
  split
  · split
    · exact withinTrace_sound hs fun x hx => runPacket_sound hx ..
    · exact runPacket_sound hs ..
  all_goals exact sound_of_rest (by simp [notTwi, PortPart.rest, cleared]) hs

theorem runWaited_sound (w : PktHead × Op) : (s.runWaited w).twi.sound := by
  unfold State.runWaited
  dsimp only
  split
  · exact sound_of_rest (by simp [notTwi]) hs
  · exact runCmd_sound hs ..

theorem runEntries_sound : s.runEntries.twi.sound := foldl_sound (fun _ e hx => runEntry_sound hx e) _ hs

theorem runWaiting_sound : s.runWaiting.twi.sound :=
  foldl_sound (fun _ w hx => runWaited_sound hx w) _ (s := s.modAlm fun a => { a with waiting := [] }) hs

theorem regionChecks_sound : s.regionChecks.twi.sound := sound_of_rest (by simp [notTwi]) hs

theorem engines_sound : s.evaluate.bistPoison.endCumulus.twi.sound := sound_of_rest (by simp [notTwi]) hs

theorem startEvaluation_sound (held : Nat) : (s.startEvaluation held).twi.sound := by
  unfold State.startEvaluation
  refine engines_sound (runWaiting_sound (runEntries_sound (sound_of_rest (State.ageDevices_rest _ (by decide))
    (bothSides_sound (regionChecks_sound (sound_of_rest ?_ hs)) fun x hx => ?_))))
  · simp [notTwi]
  · exact sound_of_rest (by simp [notTwi]) hx

/-! ## Packets and frames that arrive -/

theorem admitPacket_sound (code ip udp : Nat) (bytes : List Byte) (p : Packet) : (s.admitPacket code ip udp bytes p).twi.sound := by
  unfold State.admitPacket
  exact ite_sound (sound_of_rest (by simp [notTwi]) hs) (ite_sound (runPacket_sound hs ..)
    (sound_of_rest (by simp [notTwi]) hs))

theorem packetIn_sound (i ip udp : Nat) (bytes : List Byte) : (s.packetIn i ip udp bytes).twi.sound := by
  unfold State.packetIn
  split
  · exact hs
  · exact admitPacket_sound hs ..

theorem messageIn_sound (i : Nat) (bytes : List Byte) : (s.messageIn i bytes).twi.sound := by
  unfold State.messageIn
  split
  · exact hs
  · exact packetIn_sound hs ..

theorem tpFrame_sound (k : Nat) (m : CanMsg) : (s.tpFrame k m).twi.sound := by
  unfold State.tpFrame
  dsimp only
  split
  · exact messageIn_sound (s := (s.modIso _ _).modPortSt _ _) hs ..
  · exact hs

theorem busFrame_sound (k : Nat) (m : CanMsg) : (s.busFrame k m).twi.sound := by
  unfold State.busFrame
  dsimp only
  split
  · exact sound_of_rest (by simp [notTwi]) hs
  · split
    · exact tpFrame_sound (sound_of_rest (by simp [notTwi]) hs) ..
    · exact sound_of_rest (by simp [notTwi]) hs

theorem udpIn_sound (i src sport dst dport : Nat) (whole : Bool) (data : List Byte) :
    (s.udpIn i src sport dst dport whole data).twi.sound := by
  unfold State.udpIn
  split
  · split
    · exact hs
    · split
      · exact hs
      · exact packetIn_sound hs ..
  · exact sound_of_rest (by simp [notTwi]) hs

theorem fragmentIn_sound (i src dst ident off : Nat) (more : Bool) (data : List Byte) :
    (s.fragmentIn i src dst ident off more data).twi.sound := by
  unfold State.fragmentIn
  dsimp only
  split
  · exact hs
  · exact udpIn_sound (s := s.modPortSt _ _) hs ..

theorem ethIn_sound (i : Nat) (m : EthMsg) : (s.ethIn i m).twi.sound := by
  unfold State.ethIn
  split
  · exact hs
  · split
    case h_5 => split; exacts [udpIn_sound hs .., hs]
    case h_6 => split; exacts [fragmentIn_sound hs .., hs]
    all_goals exact sound_of_rest (by simp [notTwi]) hs

theorem serIn_sound (bytes : List Byte) : (s.serIn bytes).twi.sound := by
  unfold State.serIn
  split
  · exact hs
  · split
    · exact hs
    · split
      · exact hs
      · exact messageIn_sound hs ..

theorem drainPort_sound (i : Nat) : (s.drainPort i).twi.sound := by
  unfold State.drainPort
  split
  · exact hs
  · refine foldl_sound (fun x m hx => ?_) _ hs
    cases m with
    | message b => exact packetIn_sound hx ..
    | frame m => exact ethIn_sound hx ..

/-! ## Strobes and commits -/

theorem applyClock_sound (old new : Image) : (applyClock old new s).twi.sound := by
  unfold applyClock
  split
  · exact hs
  · exact loadAlarms_sound _ hs

theorem applyCommit_sound (nx : NextCfg) : (s.applyCommit nx).twi.sound := by
  have htrims (old new : Image) (x : State) (hx : x.rest notTwi = s.rest notTwi) : (applyTrims old new nx (applyClock old new x)).twi.sound :=
    sound_of_rest (applyTrims_rest _ _ _ _ (by decide)) (applyClock_sound (sound_of_rest hx hs) old new)
  unfold State.applyCommit
  refine sound_of_rest (State.cfgEv_rest _ _ (by decide)) (sound_of_rest (State.storeStart_rest _ (by decide)) (ite_sound (htrims _ _ _ ?_)
    (sound_of_rest (trimSetEvents_rest _ _ _ (by decide)) (htrims _ _ _ ?_))))
  all_goals simp [notTwi, CfgPart.rest, cleared]

theorem openFrame_sound (at0 : Nat) : (s.openFrame at0).twi.sound := by
  have hfirst : ((s.modFr (clkStrobe s.P at0)).modTwi twiNewFrame).keepResults.twi.sound :=
    sound_of_rest (State.keepResults_rest _ (by decide)) (s := (s.modFr (clkStrobe s.P at0)).modTwi twiNewFrame) hs
  have hrest (x : State) (hx : x.twi.sound) : (((List.range 64).foldl State.joinBlock
      (x.restageNow.overrunStep.assignEntries.freshFrame).warmCells).beginReplay.hotRecords.traceBegin.setPhase .gather).twi.sound :=
    sound_of_rest (by simp [notTwi]) hx
  unfold State.openFrame
  refine hrest _ ?_
  split
  · exact applyCommit_sound hfirst _
  · exact hfirst

theorem standbyOpen_sound (t : Nat) : (s.standbyOpen t).twi.sound := by
  have hopen (f : FrameClk → FrameClk) : ((s.modFr f).openFrame t).twi.sound := openFrame_sound (s := s.modFr f) hs t
  unfold State.standbyOpen
  exact ite_sound (sound_of_rest (State.unsync_rest _ _ (by decide)) (sound_of_rest (State.modFr_rest _ _ (by decide)) (hopen _)))
    (sound_of_rest (State.modFr_rest _ _ (by decide)) (hopen _))

/-! ## The link -/

theorem takeImage_sound (l : List (Nat × Inst)) (confirmed : Nat) : (s.takeImage l confirmed).twi.sound := by
  unfold State.takeImage
  refine sound_of_rest (State.storeStart_rest _ (by decide)) (applyClock_sound (sound_of_rest ?_ hs) _ _)
  simp [notTwi, CfgPart.rest, cleared]

/-- Times and backup RAM that the active sends are those that its own commands have judged, and the standby judges them again. -/
theorem linkBlock_sound (b : ContrailBlock) : (s.linkBlock b).twi.sound := by
  unfold State.linkBlock
  cases b with
  | time set =>
    dsimp only
    split
    · next hst =>
      exact sound_of_rest (State.unitEvs_rest _ _ (by decide)) (timeCommit_sound (w := { s.twi with stage := set % 2 ^ 96 }) hst.2.2 hs)
    · exact hs
  | backup off data =>
    dsimp only
    split
    · next hfits => exact twiDo_sound hs (backup_sound hfits.2 hs)
    · exact hs
  | handBack code torn ip udp bytes =>
    dsimp only
    split
    · exact ite_sound (handedBack_sound hs ..) hs
    · exact hs
  | image im confirmed =>
    dsimp only
    exact ite_sound (takeImage_sound (sound_of_rest (by simp [notTwi]) hs) ..) hs
  | _ => exact sound_of_rest (by simp [notTwi, CfgPart.rest, cleared]) hs

/-! ## Start-ups -/

theorem strobeZero_sound : s.strobeZero.twi.sound := by
  have hnew : ((s.setMode .running).modFr fun f => { f with strobeAt := s.now }).modTwi twiNewFrame |>.twi.sound := hs
  exact sound_of_rest (State.unitEvs_rest _ _ (by decide)) (sound_of_rest (State.modPower_rest _ _ (by decide))
    (sound_of_rest (State.modFails_rest _ _ _ (by decide)) hnew))

theorem beginRole_sound : s.beginRole.twi.sound := by
  unfold State.beginRole
  exact ite_sound (strobeZero_sound hs) (ite_sound (sound_of_rest (by simp [notTwi]) hs) (strobeZero_sound hs))

theorem configure_sound (mask : Nat) (was : BlkPart) : (s.configure mask was).twi.sound := by
  have hblocks (x : State) (hx : x.twi.sound) (im : Image) : (applyCan [] im (startAlarms ((List.range 64).foldl (applyBlock [] im)
      ((List.range 512).foldl (applyChannel [] im) x)))).twi.sound := sound_of_rest (by simp [notTwi]) hx
  unfold State.configure
  exact twiDo_sound (hblocks _ (by exact hs) _) (loadAlarms_sound _ (hblocks _ (by exact hs) _))

theorem bootRest_sound (b : Bist) (cause : Nat) (stuck : Bool) (was : BlkPart) (skip : Option (Nat × Nat)) :
    (s.bootRest b cause stuck was skip).twi.sound := by
  unfold State.bootRest
  refine beginRole_sound (configure_sound (sound_of_rest ?_ hs) _ _)
  simp [notTwi]

/-- The calendar is kept where a start-up clears memory (R478). -/
theorem loadOnce_sound {x : State × Option (Nat × Nat)} (hx : s.loadOnce = some x) : x.1.twi.sound :=
  sound_of_rest (State.loadOnce_rest s hx (by decide)) hs

theorem bootDead_sound : s.bootDead.twi.sound := sound_of_rest (State.bootDead_rest _ (by decide)) hs

theorem sramClear_sound : s.sramClear.twi.sound := hs

theorem boot_sound (b : Bist) (cause : Nat) (stuck : Bool) : (s.boot b cause stuck).twi.sound := by
  have hstart : (s.witnessStart cause).twi.sound := sound_of_rest (State.witnessStart_rest _ _ (by decide)) hs
  unfold State.boot
  dsimp only
  split
  · exact bootDead_sound (sramClear_sound hstart)
  · next x hx =>
    have hloaded := loadOnce_sound hstart hx
    refine ite_sound (bootRest_sound hloaded ..) ?_
    split
    · exact bootDead_sound (sramClear_sound hloaded)
    · next y hy =>
      have hagain := loadOnce_sound hloaded hy
      refine ite_sound (bootRest_sound hagain ..) ?_
      exact sound_of_rest (by simp [notTwi]) hagain

theorem bootOn_sound (b : Bist) (stuck : Bool) : (s.bootOn b stuck).twi.sound := boot_sound hs ..

theorem orderlyStop_sound (reason : Nat) : (s.orderlyStop reason).twi.sound := sound_of_rest (State.orderlyStop_rest _ _ (by decide)) hs

/-! ## Commands -/

theorem tick_sound (t : Nat) : (s.tick t).twi.sound := hs

/-- A packet is one of four outcomes, and only an accepted one reaches its opcode. -/
theorem runRow_sound {h : PktHead} {fits okLen torn : Bool} {op : Op} {u : State} (e : runRow h fits okLen torn op s = .next u) :
    u.twi.sound := by
  obtain rfl | rfl | ⟨-, rfl⟩ | rfl := runRow_next e
  · exact hs
  · exact sound_of_rest (State.standbyCmd_rest _ _ _ _ (by decide)) hs
  · exact hs
  · exact runCmd_sound (sound_of_rest (by simp [notTwi]) hs) ..

/-- A happening keeps the calendar where its effect does, under its condition. -/
theorem act_sound {ok : Bool} {t : Nat} {c : State → Bool} {f : State → State} {u : State} (e : act ok t c f s = .next u)
    (hf : ∀ r : State, r.twi.sound → c r = true → (f r).twi.sound) : u.twi.sound := by
  unfold act at e
  split at e
  · dsimp only at e
    split at e
    · next hc => cases e; exact hf _ (tick_sound hs t) hc
    · cases e; exact hs
  · cases e

/-- The happenings that may write the Twilight domain. -/
theorem happening_sound {i : Instr} {u : State} (hp : packetOf i = none) (hi : .twi ∈ touches i) (e : exec i s = .next u) :
    u.twi.sound := by
  cases i with
  -- supply of the domain, its seconds and its registers
  | twilightLock =>
    dsimp only [exec] at e
    exact act_sound hs e fun _ h _ => twiLock_sound h
  | twilightToBackup =>
    dsimp only [exec] at e
    exact act_sound hs e fun r h _ => show (twiLock r.twi).sound from twiLock_sound h
  | twilightToRail | twilightUnlock =>
    dsimp only [exec] at e
    exact act_sound hs e fun _ h _ => h
  | twilightContentLost =>
    dsimp only [exec] at e
    exact act_sound hs e fun _ h _ => twiLost_sound _ _
  | rtcSecond =>
    dsimp only [exec] at e
    exact act_sound hs e fun _ h _ => rtcSecond_sound h
  | rtcFreeze | rtcRelease =>
    dsimp only [exec] at e
    exact act_sound hs e fun _ h _ => twiDo_sound h h
  | rtcFreezeTimeout =>
    dsimp only [exec] at e
    exact act_sound hs e fun _ h _ => rtcFreezeTimeout_sound _ h
  | twilightSetWday =>
    dsimp only [exec] at e
    exact act_sound hs e fun _ h hc => twiDo_sound h (setWeekday_sound (of_decide_eq_true hc) h)
  | twilightLoadAlarms =>
    dsimp only [exec] at e
    exact act_sound hs e fun _ h _ => twiDo_sound h (loadAlarms_sound _ h)
  | twilightBramCommit =>
    dsimp only [exec] at e
    exact act_sound hs e fun _ h _ => twiDo_sound h (bramCommit_sound h)
  | twilightRegisterWrite =>
    dsimp only [exec] at e
    exact act_sound hs e fun _ h _ => twiDo_sound h (twiWrite_sound _ _ h)
  | twilightTimeCommit =>
    dsimp only [exec] at e
    refine act_sound hs e fun r h hc => sound_of_rest (State.unitEvs_rest _ _ (by decide)) (twiDo_sound h (timeCommit_sound ?_ h))
    exact (Bool.and_eq_true_iff.1 hc).2
  | bakLowCheck =>
    dsimp only [exec] at e
    exact act_sound hs e fun r h _ => ite_sound (sound_of_rest (State.unitEvs_rest _ _ (by decide)) (by exact h)) h
  | rtcAlarmStamp t k =>
    have hclear (r : State) (h : r.twi.sound) : ((r.modTwi (clearFired k)).modPower fun p =>
        { p with late := setBit p.late k false }).twi.sound := clearFired_sound k h
    dsimp only [exec] at e
    exact act_sound hs e fun r h _ => ite_sound (hclear r h) (sound_of_rest (State.stampEntry_rest _ _ _ _ (by decide)) (hclear r h))
  -- packets and frames that arrive
  | packetReceive =>
    dsimp only [exec] at e
    exact act_sound hs e fun r h _ => ite_sound (packetIn_sound h ..) (sound_of_rest (State.queueRx_rest _ _ _ (by decide)) h)
  | forwardedPacket =>
    dsimp only [exec] at e
    refine act_sound hs e fun r h _ => ?_
    split
    · exact admitPacket_sound h ..
    · exact h
  | canFrameReceived =>
    dsimp only [exec] at e
    exact act_sound hs e fun r h _ => busFrame_sound h ..
  | ethFrameReceived =>
    dsimp only [exec] at e
    exact act_sound hs e fun r h _ => ite_sound (ethIn_sound h ..) (sound_of_rest (by simp [notTwi]) h)
  | serFrameReceived =>
    dsimp only [exec] at e
    exact act_sound hs e fun r h _ => serIn_sound h _
  -- frames
  | frameStrobe =>
    dsimp only [exec] at e
    exact act_sound hs e fun r h _ => sound_of_rest (State.sendFrame_rest _ _ (by decide)) (openFrame_sound h _)
  | standbyStrobe =>
    dsimp only [exec] at e
    exact act_sound hs e fun r h _ => standbyOpen_sound h _
  | frameEvaluationStart t held =>
    dsimp only [exec] at e
    exact act_sound hs e fun r h _ => foldl_sound (fun _ i hx => drainPort_sound hx i) _ (startEvaluation_sound h held)
  | contrailBlockReceive t x =>
    dsimp only [exec] at e
    refine act_sound hs e fun r h _ => sound_of_rest (State.noteReady_rest _ (by decide)) (linkBlock_sound (sound_of_rest ?_ h) _)
    simp [notTwi]
  -- start-ups
  | powerOn =>
    dsimp only [exec] at e
    exact act_sound hs e fun r h _ => ite_sound (sramClear_sound h) (ite_sound (sound_of_rest (State.bootHeld_rest _ _ (by decide)) h)
      (boot_sound h ..))
  | supplyRecovery =>
    dsimp only [exec] at e
    exact act_sound hs e fun r h _ => boot_sound h ..
  | warmRestartBegin | resetButtonRelease =>
    dsimp only [exec] at e
    exact act_sound hs e fun r h _ => boot_sound (orderlyStop_sound h _) ..
  | resetInputStuck =>
    dsimp only [exec] at e
    exact act_sound hs e fun r h _ => bootOn_sound h ..
  | resetInputFreed =>
    dsimp only [exec] at e
    exact act_sound hs e fun r h _ => ite_sound (bootOn_sound h ..) h
  | wake =>
    have hclosed (r : State) (h : r.twi.sound) (shut : Bool) :
        (if shut then r.modPower fun p => { p with enable := true, enableSeen := true } else r).twi.sound := ite_sound h h
    dsimp only [exec] at e
    exact act_sound hs e fun r h _ => ite_sound (boot_sound (hclosed r h _) ..) (hclosed r h _)
  | roleDecision =>
    dsimp only [exec] at e
    exact act_sound hs e fun r h _ => ite_sound (strobeZero_sound (sound_of_rest (by simp [notTwi]) h))
      (strobeZero_sound (sound_of_rest (by simp [notTwi]) h))
  | stageTime | commitTime | setWeekday | writeBackup => nomatch hp
  | _ => simp [touches, whatPackets] at hi

theorem exec_sound {i : Instr} {u : State} (e : exec i s = .next u) : u.twi.sound := by
  cases hp : packetOf i with
  | some p =>
    obtain ⟨_, _, hrow, -⟩ := exec_packet hp
    exact runRow_sound hs ((hrow s).symm.trans e)
  | none =>
    by_cases hi : .twi ∈ touches i
    · exact happening_sound hs hp hi e
    · have hsame : u.twi = s.twi := (commandsWriteOnlyTheirParts i s u e).1.2.2 .twi hi
      rwa [hsame]
end

/-- Settles O57: a command that may write the Twilight domain writes it by the domain's own operations, and each of these keeps a date that
exists and the backup RAM in canonical form; every other command leaves the domain. -/
theorem calendarStaysLegal : Obligations.CalendarStaysLegal := by
  intro s u hlegal hram hstep
  unfold step at hstep
  split at hstep
  · cases hstep
    exact ⟨hlegal, hram⟩
  · next i rest _ =>
    have hsound : ({ s with pending := rest } : State).twi.sound := ⟨hlegal, hram⟩
    exact exec_sound hsound hstep

end Sys2Proof.Machine
end

section
/-! PROOFS. The Twilight domain: its supply (R444 to R447), its second increment (R451 to R453, R459) and its registers (R448 to R463). -/

namespace Sys2Proof.Machine

/-! ## Shared rules of happenings -/

section
variable {s u : State}

/-- A command that completes writes its own parts. -/
theorem exec_sameBut {i : Instr} (e : exec i s = .next u) : s.sameBut (touches i) u := (commandsWriteOnlyTheirParts i s u e).1

theorem State.unitEvs_twi (l : List EvReq) (s : State) : (s.unitEvs l).twi = s.twi :=
  State.same_of_rest (p := .twi) (State.unitEvs_rest l s (List.Subset.refl _)) (by decide)

theorem State.twiDo_twi (f : Twi → Twi) (h : s.twi.locked = false) : s.twiDo f = s.modTwi f := by
  simp [State.twiDo, h]

theorem State.twiDo_locked (f : Twi → Twi) (h : s.twi.locked = true) : s.twiDo f = s := by
  simp [State.twiDo, h]

end

/-! ## Supply -/

section
variable {t mv heldUs : Nat} {s : State}

theorem twilightLock_goes (h : mv < 3000) : exec (.twilightLock t mv) s = .next ((s.tick t).modTwi twiLock) := by
  dsimp only [exec]
  exact act_goes rfl (decide_eq_true h)

theorem twilightToBackup_goes (h : mv < 2900) :
    exec (.twilightToBackup t mv) s = .next ((s.tick t).modTwi fun w => { twiLock w with onBackup := true }) := by
  dsimp only [exec]
  exact act_goes rfl (decide_eq_true h)

theorem twilightToRail_goes (h : 3000 < mv) :
    exec (.twilightToRail t mv) s = .next ((s.tick t).modTwi fun w => { w with onBackup := false }) := by
  dsimp only [exec]
  exact act_goes rfl (decide_eq_true h)

theorem twilightUnlock_goes (h : 3100 < mv) (hheld : 10000 ≤ heldUs) :
    exec (.twilightUnlock t mv heldUs) s = .next ((s.tick t).modTwi fun w => { w with locked := false, onBackup := false }) := by
  dsimp only [exec]
  exact act_goes rfl (by simp [h, hheld])

theorem twilightContentLost_goes (hb : s.twi.onBackup = true) (h : mv < 1800) :
    exec (.twilightContentLost t mv) s = .next ((s.tick t).modTwi (twiLost (max s.now t))) := by
  dsimp only [exec]
  exact act_goes rfl (Bool.and_eq_true_iff.2 ⟨hb, decide_eq_true h⟩)

end

/-- Settles O41: each switch of the supply writes its own bits of the domain, and only the loss of VBAK writes the contents. -/
theorem calendarSupply : Obligations.CalendarSupply := by
  intro t mv s
  refine ⟨twilightLock_goes, twilightToBackup_goes, twilightToRail_goes, fun _ => twilightUnlock_goes, fun hb hmv => ?_, fun temp => ?_⟩
  · have hgoes := twilightContentLost_goes (t := t) hb hmv
    exact ⟨_, hgoes, exec_sameBut hgoes, rfl, rfl, rfl, rfl, rfl, rfl, rfl, rfl, hb⟩
  · have hgoes : exec (.bakLowCheck t mv temp) s = .next (if decide (mv < 2400) ≠ s.twi.bakLow
        then ((s.tick t).modTwi fun w => { w with bakLow := decide (mv < 2400) }).unitEvs
          [{ code := 0x0C12, p1 := b2n (decide (mv < 2400)), p2 := mv }]
        else (s.tick t).modTwi fun w => { w with bakLow := decide (mv < 2400) }) := by
      dsimp only [exec]
      exact act_goes rfl rfl
    refine ⟨_, hgoes, ?_, exec_sameBut hgoes, ?_⟩
    · split
      · exact State.unitEvs_twi ..
      · rfl
    · split
      · exact State.unitEvs_recd_congr _ rfl rfl rfl
      · rfl

/-! ## The second increment -/

section
variable {k now : Nat} {w : Twi}

theorem rtcCount_alarms (now : Nat) (w : Twi) : (rtcCount now w).a0 = w.a0 ∧ (rtcCount now w).a1 = w.a1 ∧
    (rtcCount now w).alSet = w.alSet ∧ (rtcCount now w).bram = w.bram := by
  unfold rtcCount
  dsimp only
  repeat' split
  all_goals exact ⟨rfl, rfl, rfl, rfl⟩

theorem rtcCount_subsec (now : Nat) (w : Twi) : (rtcCount now w).subsec = 0 ∧ (rtcCount now w).subsecAt = now ∧
    (rtcCount now w).roll = wrapN 8 (w.roll + 1) := by
  unfold rtcCount
  dsimp only
  repeat' split
  all_goals exact ⟨rfl, rfl, rfl⟩

/-- What R459 makes of the state bits of alarm `k` at a second increment. -/
def alarmTicked (k : Nat) (w : Twi) (x : RtcAlarm) : RtcAlarm :=
  if alarmEn k w && x.armed && w.valid && alarmDate k w w.month w.day w.wday && alarmTime k w w.hour w.min w.sec
  then { fired := true, skipped := false, armed := x.armed && alarmRepeat k w, fresh := true } else x

theorem alarmTick_zero (w : Twi) : alarmTick 0 w = { w with a0 := alarmTicked 0 w w.a0 } := by
  unfold alarmTick alarmTicked
  exact (apply_ite (fun a => ({ w with a0 := a } : Twi)) ..).symm

theorem alarmTick_one (w : Twi) : alarmTick 1 w = { w with a1 := alarmTicked 1 w w.a1 } := by
  unfold alarmTick alarmTicked
  exact (apply_ite (fun a => ({ w with a1 := a } : Twi)) ..).symm

/-- Each alarm is evaluated on the time alone: the evaluation of the other one does not show. -/
theorem alarmTicks_alarmSt (hk : k < 2) (w : Twi) :
    alarmSt k (alarmTick 1 (alarmTick 0 w)) = alarmTicked k w (alarmSt k w) := by
  rw [alarmTick_zero, alarmTick_one]
  interval_cases k <;> rfl

/-- An enabled and armed alarm that matches a valid time fires, and is then armed where it repeats. -/
theorem alarmTicked_fires {x : RtcAlarm} (hen : alarmEn k w = true) (harmed : x.armed = true) (hvalid : w.valid = true)
    (hdate : alarmDate k w w.month w.day w.wday = true) (htime : alarmTime k w w.hour w.min w.sec = true) :
    alarmTicked k w x = { fired := true, skipped := false, armed := alarmRepeat k w, fresh := true } := by
  simp [alarmTicked, hen, harmed, hvalid, hdate, htime]

theorem alarmTicked_idle {x : RtcAlarm} (h : alarmEn k w = false ∨ x.armed = false) : alarmTicked k w x = x := by
  rcases h with h | h <;> simp [alarmTicked, h]

/-- A second increment that counts: the alarms are evaluated on the time counted on, and nothing else is written. -/
theorem rtcSecond_counts (h : sameTick now w.setAt = false) : rtcSecond now w = alarmTick 1 (alarmTick 0 (rtcCount now w)) := by
  rw [rtcSecond, h]
  rfl

/-- The counted second in the alarm part is the one before. -/
theorem alarmSt_rtcCount (hk : k < 2) (now : Nat) (w : Twi) : alarmSt k (rtcCount now w) = alarmSt k w := by
  obtain ⟨ha0, ha1, -, -⟩ := rtcCount_alarms now w
  interval_cases k
  · exact ha0
  · exact ha1

end

section
variable {t : Nat} {s : State}

theorem rtcSecond_goes (t : Nat) (s : State) : exec (.rtcSecond t) s = .next ((s.tick t).modTwi (rtcSecond (max s.now t))) := by
  dsimp only [exec]
  exact act_goes rfl rfl

end

/-- Settles O42: the increment is the count of `rtcCount`, case by case of its carry, and then the evaluation of each alarm. -/
theorem calendarSecond : Obligations.CalendarSecond := by
  refine ⟨fun t s h => ?_, fun t s h => ?_⟩
  · rw [rtcSecond_goes]
    show Host.Outcome.next ({ s.tick t with twi := rtcSecond (max s.now t) s.twi }) = _
    rw [rtcSecond, h]
    rfl
  have hgoes := rtcSecond_goes t s
  have hu : ((s.tick t).modTwi (rtcSecond (max s.now t))).twi = alarmTick 1 (alarmTick 0 (rtcCount (max s.now t) s.twi)) := rtcSecond_counts h
  refine ⟨_, hgoes, exec_sameBut hgoes, ?_⟩
  rw [hu]
  generalize s.twi = w
  generalize max s.now t = now
  have honly := alarmTicks_alarmsOnly (rtcCount now w)
  obtain ⟨hsub, hat, hroll⟩ := rtcCount_subsec now w
  obtain ⟨-, -, hset, hbram⟩ := rtcCount_alarms now w
  have hst {k : Nat} (hk : k < 2) : alarmSt k (alarmTick 1 (alarmTick 0 (rtcCount now w))) = alarmTicked k (rtcCount now w) (alarmSt k w) := by
    rw [alarmTicks_alarmSt hk, alarmSt_rtcCount hk]
  generalize alarmTick 1 (alarmTick 0 (rtcCount now w)) = v at honly hst
  -- the fields that are no state bits of an alarm
  have hkeep {α : Type} (f : Twi → α) : f v = f { rtcCount now w with a0 := v.a0, a1 := v.a1 } := congrArg f honly
  have htime : (v.sec, v.min, v.hour, v.day, v.month, v.year, v.wday) = ((rtcCount now w).sec, (rtcCount now w).min, (rtcCount now w).hour,
      (rtcCount now w).day, (rtcCount now w).month, (rtcCount now w).year, (rtcCount now w).wday) :=
    hkeep fun v => (v.sec, v.min, v.hour, v.day, v.month, v.year, v.wday)
  simp only [Prod.mk.injEq] at htime
  obtain ⟨hsec, hmin, hhour, hday, hmonth, hyear, hwday⟩ := htime
  refine ⟨(hkeep Twi.subsec).trans hsub, (hkeep Twi.subsecAt).trans hat, (hkeep Twi.roll).trans hroll, (hkeep Twi.bram).trans hbram,
    (hkeep Twi.alSet).trans hset, ?_, ?_, ?_, ?_, fun k hk => ⟨fun hen harmed hvalid hdate htime => ?_, fun hno => ?_⟩⟩
  · intro h59
    simp [hsec, hmin, hhour, hday, hmonth, hyear, hwday, rtcCount, h59]
  · intro h59 hm
    simp [hsec, hmin, hhour, hday, hmonth, hyear, hwday, rtcCount, h59, hm]
  · intro h59 hm hh
    simp [hsec, hmin, hhour, hday, hmonth, hyear, hwday, rtcCount, h59, hm, hh]
  · intro h59 hm hh
    simp [hsec, hmin, hhour, hday, hmonth, hyear, hwday, rtcCount, h59, hm, hh]
  · have hen' : alarmEn k (rtcCount now w) = true := by rwa [alarmEn, hset]
    rw [hst hk, alarmTicked_fires hen' harmed ((hkeep Twi.valid).symm.trans hvalid)
      ((hkeep fun v => alarmDate k v v.month v.day v.wday).symm.trans hdate)
      ((hkeep fun v => alarmTime k v v.hour v.min v.sec).symm.trans htime), alarmRepeat, hset]
    exact ⟨rfl, rfl, rfl⟩
  · rw [hst hk]
    exact alarmTicked_idle (by rwa [alarmEn, hset])

/-- Settles O43: the day after 2199-12-31 is 2000-01-01 (R453). -/
theorem theCalendarWraps : Obligations.TheCalendarWraps := by
  intro t s h hlast
  have hu : ((s.tick t).modTwi (rtcSecond (max s.now t))).twi = alarmTick 1 (alarmTick 0 (rtcCount (max s.now t) s.twi)) := rtcSecond_counts h
  refine ⟨_, rtcSecond_goes t s, ?_⟩
  rw [hu]
  have hkeep {α : Type} (f : Twi → α) := congrArg f (alarmTicks_alarmsOnly (rtcCount (max s.now t) s.twi))
  simp only [Prod.mk.injEq] at hlast
  obtain ⟨hyear, hmonth, hday, hhour, hmin, hsec⟩ := hlast
  have hcount : let v := rtcCount (max s.now t) s.twi
      (v.year, v.month, v.day, v.hour, v.min, v.sec, v.subsec) = (0, 1, 1, 0, 0, 0, 0) ∧ v.wrapped = true ∧ v.valid = false := by
    simp [rtcCount, nextDay, daysIn, hyear, hmonth, hday, hhour, hmin, hsec]
  exact ⟨(hkeep fun v => (v.year, v.month, v.day, v.hour, v.min, v.sec, v.subsec)).trans hcount.1,
    (hkeep Twi.wrapped).trans hcount.2.1, (hkeep Twi.valid).trans hcount.2.2⟩

end Sys2Proof.Machine
end

section
/-! PROOFS. The registers of the Twilight domain (R448 to R463): an access writes its own registers, and a locked interface takes none. -/

namespace Sys2Proof.Machine

section
variable {k : Nat} {w : Twi}

/-- The alarm settings in force change the state bits of an alarm whose 64 bits differ, and of no other (R458). -/
theorem loadAlarms_alarmSt (hk : k < 2) (bits : BitVec 256) (w : Twi) : alarmSt k (loadAlarms bits w) =
    if fld bits (64 * k) 64 = fld w.alSet (64 * k) 64 then alarmSt k w else { armed := true } := by
  unfold loadAlarms
  interval_cases k <;> dsimp only <;> split <;> split <;> rfl

theorem loadAlarms_settings (bits : BitVec 256) (w : Twi) : (loadAlarms bits w).alSet = bits ∧ (loadAlarms bits w).alReg = bits :=
  ⟨rfl, rfl⟩

theorem bramCommit_single {off : Nat} {b : Byte} (h : w.wbuf = [(off, some b)]) :
    bramCommit w = { w with bram := tabSet 0#8 w.bram off b, wbuf := [] } := by
  simp [bramCommit, h]

/-- Offsets 20h to 3Ch are the alarm registers. -/
theorem twiWrite_alarmRegister (hk : k < 8) (v : Nat) (w : Twi) :
    twiWrite (0x20 + 4 * k) v w = { w with alReg := setFld w.alReg (32 * k) 32 v } := by
  have hplace : 8 * (0x20 + 4 * k - 0x20) = 32 * k := by omega
  rw [twiWrite, if_neg (by omega), if_pos (by omega), hplace]

/-- Offset 0Ch is TS_STAT. -/
theorem twiWrite_status (v : Nat) (w : Twi) :
    twiWrite 0x0C v w = { w with a0 := firedWrite (v.testBit 13) w.a0, a1 := firedWrite (v.testBit 14) w.a1 } := rfl

theorem rtcFreezeTimeout_over {a now : Nat} (ha : w.frozenAt = some a) (h : a + msC 2 ≤ now) :
    rtcFreezeTimeout now w = { w with frozenAt := none, torn := true } := by
  simp [rtcFreezeTimeout, ha, h]

theorem clearFired_self (hk : k < 2) (w : Twi) : alarmSt k (clearFired k w) = { alarmSt k w with fired := false } := by
  interval_cases k <;> rfl

theorem clearFired_other (hk : k < 2) (w : Twi) : alarmSt (1 - k) (clearFired k w) = alarmSt (1 - k) w := by
  interval_cases k <;> rfl

end

/-! ## The access of each command -/

section
variable (t : Nat) (s : State)

theorem rtcFreeze_goes : exec (.rtcFreeze t) s = .next ((s.tick t).twiDo (rtcFreeze (max s.now t))) := by
  dsimp only [exec]
  exact act_goes rfl rfl

theorem rtcRelease_goes : exec (.rtcRelease t) s = .next ((s.tick t).twiDo rtcRelease) := by
  dsimp only [exec]
  exact act_goes rfl rfl

theorem rtcFreezeTimeout_goes : exec (.rtcFreezeTimeout t) s = .next ((s.tick t).modTwi (rtcFreezeTimeout (max s.now t))) := by
  dsimp only [exec]
  exact act_goes rfl rfl

theorem twilightSetWday_goes {v : Nat} (hv : v ≤ 6) :
    exec (.twilightSetWday t v) s = .next ((s.tick t).twiDo (setWeekday (max s.now t) v)) := by
  dsimp only [exec]
  exact act_goes rfl (decide_eq_true hv)

theorem twilightLoadAlarms_goes : exec (.twilightLoadAlarms t) s = .next ((s.tick t).twiDo (loadAlarms (rtcBits s.im))) := by
  dsimp only [exec]
  exact act_goes rfl rfl

theorem twilightBramCommit_goes : exec (.twilightBramCommit t) s = .next ((s.tick t).twiDo bramCommit) := by
  dsimp only [exec]
  exact act_goes rfl rfl

theorem twilightRegisterWrite_goes (off v : Nat) : exec (.twilightRegisterWrite t off v) s = .next ((s.tick t).twiDo (twiWrite off v)) := by
  dsimp only [exec]
  exact act_goes rfl rfl

theorem twilightTimeCommit_goes (hl : s.twi.locked = false) (hst : stValid s.twi.stage = true) :
    exec (.twilightTimeCommit t) s = .next (((s.tick t).twiDo (timeCommit (max s.now t))).unitEvs
      [((s.tick t).twiDo (timeCommit (max s.now t))).timeLink 1]) := by
  have hcond : (!s.twi.locked && stValid s.twi.stage) = true := by simp [hl, hst]
  dsimp only [exec]
  exact act_goes rfl hcond

/-- A time commit that finds the interface locked or no date sets nothing (R444, R455). -/
theorem twilightTimeCommit_idles (h : s.twi.locked = true ∨ stValid s.twi.stage = false) :
    exec (.twilightTimeCommit t) s = .next (s.tick t) := by
  have hcond : (!s.twi.locked && stValid s.twi.stage) = false := by rcases h with h | h <;> simp [h]
  dsimp only [exec]
  exact act_idles rfl hcond

end

/-- A time commit sets the date and time of the staging set, and the marks that say so; the alarms aside. -/
theorem timeCommit_sets (now : Nat) (w : Twi) :
    let v := timeCommit now w
    (v.year, v.month, v.day) = (stF w.stage 80 8, stF w.stage 72 4, stF w.stage 64 5) ∧
      (v.hour, v.min, v.sec) = (stF w.stage 48 5, stF w.stage 40 6, stF w.stage 32 6) ∧
      v.subsec = ceilDiv (stF w.stage 0 10 * 32768) 1000 ∧ v.wday = w.wday ∧ v.roll = wrapN 8 (w.roll + 1) ∧
      v.valid = true ∧ v.bakLost = false ∧ v.wrapped = false ∧ v.stage = 0 := by
  have hkeep {α : Type} (f : Twi → α) := congrArg f (timeCommit_alarmsOnly now w)
  exact ⟨hkeep fun v => (v.year, v.month, v.day), hkeep fun v => (v.hour, v.min, v.sec), hkeep Twi.subsec, hkeep Twi.wday, hkeep Twi.roll,
    hkeep Twi.valid, hkeep Twi.bakLost, hkeep Twi.wrapped, hkeep Twi.stage⟩

section
variable {t k : Nat} {s : State}

/-- The state in which a firing of alarm `k` is stamped: its FIRED and LATE bits are clear. -/
def State.firingRead (k : Nat) (s : State) : State :=
  (s.modTwi (clearFired k)).modPower fun p => { p with late := setBit p.late k false }

theorem rtcAlarmStamp_goes (hk : k < 2) (hm : s.mode = .running) (hl : s.twi.locked = false) (hf : (alarmSt k s.twi).fired = true) :
    exec (.rtcAlarmStamp t k) s = .next (if s.port.replay || decide (s.unt.pair.role = 2) then (s.tick t).firingRead k
      else ((s.tick t).firingRead k).stampEntry 6 k
        (.rtc k (b2n (alarmSt k s.twi).skipped + 2 * b2n (s.unt.power.late.testBit k)))) := by
  have hcond : (s.live && !s.twi.locked && (alarmSt k s.twi).fired) = true := by simp [State.live, hm, hl, hf]
  dsimp only [exec]
  exact act_goes (decide_eq_true hk) hcond

/-- An entry of an asynchronous input goes to the inputs alone. -/
theorem State.stampEntry_sameBut (order index : Nat) (body : EntryBody) (s : State) : s.sameBut [.inp] (s.stampEntry order index body) :=
  State.sameBut_of_rest (State.stampEntry_rest _ _ _ _ (List.Subset.refl _))

/-- An entry is stamped by the clock and the inputs of its unit. -/
theorem State.stampEntry_inp_congr {x y : State} {order index : Nat} {body : EntryBody} (hstamps : x.stamps order = y.stamps order)
    (hnow : x.now = y.now) (hinp : x.inp = y.inp) : (x.stampEntry order index body).inp = (y.stampEntry order index body).inp := by
  unfold State.stampEntry
  dsimp only
  rw [hstamps, hnow]
  split
  · rw [State.modInp_inp, State.modInp_inp, hinp]
  · exact hinp

end

/-- Settles O44: each register access is one operation of the domain, or none while the interface is locked. -/
theorem calendarRegisters : Obligations.CalendarRegisters := by
  intro t s
  refine ⟨fun hl => ?_, fun a ha hover => ?_, fun hl => ?_, fun k hk hm hl hf => ?_⟩
  · have hdo (f : Twi → Twi) : (s.tick t).twiDo f = (s.tick t).modTwi f := State.twiDo_twi f hl
    refine ⟨?_, ?_, fun w hw => ?_, ?_, fun off b hb => ?_, fun k v hk => ?_, fun v => ?_, fun hst => ?_, fun hst => ?_⟩
    · rw [rtcFreeze_goes, hdo]
      rfl
    · rw [rtcRelease_goes, hdo]
      rfl
    · rw [twilightSetWday_goes t s hw, hdo]
      rfl
    · have hgoes := twilightLoadAlarms_goes t s
      rw [hdo] at hgoes
      refine ⟨_, hgoes, exec_sameBut hgoes, rfl, rfl, fun k hk hne => ?_, fun k hk he => ?_⟩
      · exact (loadAlarms_alarmSt hk _ _).trans (if_neg hne)
      · exact (loadAlarms_alarmSt hk _ _).trans (if_pos he)
    · rw [twilightBramCommit_goes, hdo]
      exact congrArg (fun w => Host.Outcome.next { s.tick t with twi := w }) (bramCommit_single hb)
    · have hgoes := twilightRegisterWrite_goes t s (0x20 + 4 * k) v
      rw [hdo] at hgoes
      exact ⟨_, hgoes, exec_sameBut hgoes, twiWrite_alarmRegister hk v _⟩
    · rw [twilightRegisterWrite_goes, hdo]
      exact congrArg (fun w => Host.Outcome.next { s.tick t with twi := w }) (twiWrite_status v _)
    · have hgoes := twilightTimeCommit_goes t s hl hst
      refine ⟨_, hgoes, exec_sameBut hgoes, ?_⟩
      rw [State.unitEvs_twi, hdo]
      exact timeCommit_sets _ _
    · exact twilightTimeCommit_idles t s (.inr hst)
  · rw [rtcFreezeTimeout_goes]
    exact congrArg (fun w => Host.Outcome.next { s.tick t with twi := w }) (rtcFreezeTimeout_over ha hover)
  · have hdo (f : Twi → Twi) : (s.tick t).twiDo f = s.tick t := State.twiDo_locked f hl
    refine ⟨?_, ?_, twilightTimeCommit_idles t s (.inl hl), ?_, ?_, fun w hw => ?_, fun off v => ?_⟩
    · rw [rtcFreeze_goes, hdo]
    · rw [rtcRelease_goes, hdo]
    · rw [twilightBramCommit_goes, hdo]
    · rw [twilightLoadAlarms_goes, hdo]
    · rw [twilightSetWday_goes t s hw, hdo]
    · rw [twilightRegisterWrite_goes, hdo]
  · have hgoes := rtcAlarmStamp_goes (t := t) hk hm hl hf
    have hlate : ((s.tick t).firingRead k).unt.power.late.testBit k = false := (testBit_setBit ..).trans (if_pos rfl)
    by_cases hstamps : s.port.replay = true ∨ s.unt.pair.role = 2
    · have hno : (s.port.replay || decide (s.unt.pair.role = 2)) = true := by simpa using hstamps
      rw [if_pos hno] at hgoes
      refine ⟨_, hgoes, clearFired_self hk _, clearFired_other hk _, hlate, exec_sameBut hgoes, fun _ => rfl, fun hr hn => ?_⟩
      rcases hstamps with h | h
      · exact absurd hr (by simp [h])
      · exact absurd h hn
    · obtain ⟨hreplay, hrole⟩ := not_or.1 hstamps
      have hno : ¬(s.port.replay || decide (s.unt.pair.role = 2)) = true := by simpa using not_or.1 hstamps
      rw [if_neg hno] at hgoes
      have hsame := ((s.tick t).firingRead k).stampEntry_sameBut 6 k
        (.rtc k (b2n (alarmSt k s.twi).skipped + 2 * b2n (s.unt.power.late.testBit k)))
      refine ⟨_, hgoes, ?_, ?_, ?_, exec_sameBut hgoes, fun h => absurd h hstamps, fun _ _ => ?_⟩
      · exact (congrArg (alarmSt k) (hsame.2.2 .twi (by decide))).trans (clearFired_self hk _)
      · exact (congrArg (alarmSt (1 - k)) (hsame.2.2 .twi (by decide))).trans (clearFired_other hk _)
      · exact (congrArg (fun p : Power => p.late.testBit k) (hsame.2.2 .power (by decide))).trans hlate
      · exact State.stampEntry_inp_congr rfl rfl rfl

end Sys2Proof.Machine
end

section
/-! PROOFS. The recorder's own commands (R297, R301, R305 to R308) and the decisions of a witness (R421). -/

namespace Sys2Proof.Machine

/-! ## The recorder -/

section
variable {q : Recorder} {r : EvRec} {rest : List EvRec} {t : Nat} {s : State}

theorem enqueue_opS (r : EvRec) (q : Recorder) : (enqueue r q).opS = q.opS := rfl

theorem countRec_opS (r : EvRec) (q : Recorder) : (countRec r q).opS = q.opS := rfl

theorem admitLost_opS (base : EvRec) (q : Recorder) : (admitLost base q).opS = q.opS := by
  unfold admitLost
  split <;> rfl

/-- Records go into the queue or are counted; the operating seconds stand. -/
theorem admitRec_opS (r : EvRec) (q : Recorder) : (admitRec r q).opS = q.opS := by
  unfold admitRec
  split
  · rfl
  · split
    · split
      · dsimp only
        split <;> rfl
      · rfl
    · rfl

theorem admitAll_opS (base : EvRec) (rs : List EvRec) (q : Recorder) : (admitAll base rs q).opS = q.opS :=
  List.foldlRecOn (motive := fun x : Recorder => x.opS = q.opS) _ _ rfl fun x hx r _ => by rw [admitRec_opS, admitLost_opS, hx]

theorem State.unitEvs_opS (l : List EvReq) (s : State) : (s.unitEvs l).recd.opS = s.recd.opS := by
  unfold State.unitEvs
  dsimp only
  split
  · exact admitAll_opS ..
  · rfl

/-- What the writer makes of the record at the front, its sealed log aside. -/
theorem writeRecord_front (h : q.queue = r :: rest) :
    (writeRecord q).queue = rest ∧ (writeRecord q).nextSeq = wrapN 32 (q.nextSeq + 1) ∧
      (writeRecord q).mainLog = tabSet none q.mainLog (q.nextSeq % 65536)
        (some { data := recordBits q.nextSeq r, check := slotCheck (recordBits q.nextSeq r) }) := by
  simp only [writeRecord, h]
  split <;> exact ⟨rfl, rfl, rfl⟩

/-- A sealed record goes into the sealed log too, on the chain (R306, R307). -/
theorem writeRecord_sealed (h : q.queue = r :: rest) (hs : r.sealed = true) :
    (writeRecord q).sealCount = wrapN 32 (q.sealCount + 1) ∧
      (writeRecord q).sealChain = crc32c q.sealChain (recordBytes (recordBits q.nextSeq r)) ∧
      tabGet none (writeRecord q).sealLog (q.sealCount % 4096) = some
        { data := recordBits q.nextSeq r, check := slotCheck (recordBits q.nextSeq r), chain := (writeRecord q).sealChain } := by
  simp only [writeRecord, h, hs, if_true, tabGet_set_self]
  trivial

theorem writeRecord_unsealed (h : q.queue = r :: rest) (hs : r.sealed = false) :
    (writeRecord q).sealCount = q.sealCount ∧ (writeRecord q).sealChain = q.sealChain ∧ (writeRecord q).sealLog = q.sealLog := by
  simp only [writeRecord, h, hs]
  exact ⟨rfl, rfl, rfl⟩

theorem eventRecordWrite_goes (hz : s.zenithRuns = true) (hq : s.recd.queue = r :: rest) :
    exec (.eventRecordWrite t) s = .next ((s.tick t).modRecd writeRecord) := by
  have hcond : (s.zenithRuns && !s.recd.queue.isEmpty) = true := by simp [hz, hq]
  dsimp only [exec]
  exact act_goes rfl hcond

theorem lostRecordAdmit_goes (hz : s.zenithRuns = true) (hlost : 0 < s.recd.lost) (hroom : s.recd.queue.length < queuePlaces) :
    exec (.lostRecordAdmit t) s = .next ((s.tick t).modRecd (admitLost ((s.tick t).stamp (max s.now t)))) := by
  have hcond : (s.zenithRuns && decide (0 < s.recd.lost) && decide (s.recd.queue.length < queuePlaces)) = true := by simp [hz, hlost, hroom]
  dsimp only [exec]
  exact act_goes rfl hcond

/-- The record of the losses (R305). -/
def lostRecord (base : EvRec) (q : Recorder) : EvRec :=
  { base with code := 0x0C01, src := 0, unit := true, poisoned := false
              p1 := q.lost, p2 := q.lostCode + 65536 * q.lostLast, p3 := q.lostFrame }

theorem admitLost_admits (base : EvRec) (hlost : 0 < q.lost) (hroom : q.queue.length < queuePlaces) :
    (admitLost base q).queue = q.queue ++ [lostRecord base q] ∧ (admitLost base q).lost = 0 ∧
      (admitLost base q).queueMax = max q.queueMax (q.queue.length + 1) := by
  rw [admitLost, if_pos ⟨hlost, hroom⟩]
  exact ⟨rfl, rfl, rfl⟩

theorem operatingSecond_goes (hz : s.zenithRuns = true) (h : s.recd.opS < (s.tick t).wholeSeconds) :
    exec (.operatingSecond t) s = .next (
      let x := (s.tick t).modRecd fun q => { q with opS := (s.tick t).wholeSeconds }
      if s.recd.opS / 86400 ≠ (s.tick t).wholeSeconds / 86400 then x.unitEvs [x.timeLink 3] else x) := by
  have hcond : (s.zenithRuns && decide (s.recd.opS < (s.tick t).wholeSeconds)) = true := by simp [hz, h]
  dsimp only [exec]
  exact act_goes rfl hcond

end

/-- Settles O40: the front record by what the writer makes of it, the record of the losses by its admission, and the operating seconds by
what no record changes. -/
theorem recorderRows : Obligations.RecorderRows := by
  refine ⟨fun t r rest s hz hq => ?_, fun t s hz hlost hroom => ?_, fun t s hz h => ?_⟩
  · have hgoes := eventRecordWrite_goes (t := t) hz hq
    obtain ⟨hqueue, hseq, hlog⟩ := writeRecord_front hq
    refine ⟨_, hgoes, hqueue, hseq, ?_, fun k hk => ?_, writeRecord_sealed hq, writeRecord_unsealed hq, exec_sameBut hgoes⟩
    · exact (congrArg (fun l => tabGet none l _) hlog).trans (tabGet_set_self _ _ _ _)
    · exact (congrArg (fun l => tabGet none l _) hlog).trans (tabGet_set_ne _ _ _ hk.symm)
  · have hgoes := lostRecordAdmit_goes (t := t) hz hlost hroom
    obtain ⟨hqueue, hlost, hmax⟩ := admitLost_admits ((s.tick t).stamp (max s.now t)) hlost hroom
    exact ⟨_, lostRecord _ s.recd, hgoes, hqueue, rfl, rfl, rfl, rfl, hlost, hmax, exec_sameBut hgoes⟩
  · have hgoes := operatingSecond_goes hz h
    refine ⟨_, hgoes, ?_, exec_sameBut hgoes, fun hday => ?_⟩
    · dsimp only
      split
      · exact State.unitEvs_opS ..
      · rfl
    · dsimp only
      rw [if_neg (not_not.2 hday)]
      rfl

/-! ## The witness -/

section
variable {t h : Nat} {s : State}

theorem State.witnessDecide_of_some {u : Nat} (hc : s.witnessChoice = some u) : s.witnessDecide = s.nameHolder u := by
  simp [State.witnessDecide, hc]

theorem State.witnessDecide_of_none (hc : s.witnessChoice = none) : s.witnessDecide = s := by
  simp [State.witnessDecide, hc]

/-- Without a holder a unit at active level alone is chosen. -/
theorem State.witnessChoice_vacant (hv : s.unt.wit.holder = none) : s.witnessChoice =
    if s.holdOf 0 = 2 ∧ s.holdOf 1 ≠ 2 then some 0 else if s.holdOf 1 = 2 ∧ s.holdOf 0 ≠ 2 then some 1 else none := by
  simp only [State.witnessChoice, hv]

/-- A holder at active level, or within its grace, stays. -/
theorem State.witnessChoice_stays (hh : s.unt.wit.holder = some h) (hstay : s.unt.wit.grace = true ∨ s.holdOf h = 2) :
    s.witnessChoice = none := by
  simp only [State.witnessChoice, hh]
  exact if_pos hstay

/-- Outside the grace a holder that is not at active level gives way to a partner that is present. -/
theorem State.witnessChoice_yields (hh : s.unt.wit.holder = some h) (hg : s.unt.wit.grace = false) (hlevel : s.holdOf h ≠ 2)
    (hp : s.holdOf (1 - h) = 1 ∨ s.holdOf (1 - h) = 2) : s.witnessChoice = some (1 - h) := by
  simp only [State.witnessChoice, hh]
  rw [if_neg (by simp [hg, hlevel]), if_pos hp]

theorem witnessTokenDecision_goes (ha : s.awake = true) (hw : s.isWitness = true) :
    exec (.witnessTokenDecision t) s = .next (s.tick t).witnessDecide := by
  have hcond : (s.awake && s.isWitness) = true := by simp [ha, hw]
  dsimp only [exec]
  exact act_goes rfl hcond

theorem witnessTokenDecision_names {v : Nat} (ha : s.awake = true) (hw : s.isWitness = true) (hc : s.witnessChoice = some v) :
    exec (.witnessTokenDecision t) s = .next ((s.tick t).nameHolder v) := by
  rw [witnessTokenDecision_goes ha hw, State.witnessDecide_of_some (s := s.tick t) hc]

/-- The state once the grace of the holder is over. -/
def State.graceOver (s : State) : State := s.modUnt fun u => { u with wit := { u.wit with grace := false } }

theorem witnessHolderGraceEnd_goes (ha : s.awake = true) (hw : s.isWitness = true) (hg : s.unt.wit.grace = true)
    (hover : s.unt.wit.namedAt + usC 100 ≤ t) : exec (.witnessHolderGraceEnd t) s = .next (s.tick t).graceOver.witnessDecide := by
  have hcond : (s.awake && s.isWitness && s.unt.wit.grace && decide (s.unt.wit.namedAt + usC 100 ≤ t)) = true := by simp [ha, hw, hg, hover]
  dsimp only [exec]
  exact act_goes rfl hcond

theorem witnessStartTimeout_goes (ha : s.awake = true) (hw : s.isWitness = true) (hv : s.unt.wit.holder = none)
    (hc : s.witnessChoice = none) (hover : s.unt.wit.startAt + msC 2000 ≤ t) :
    exec (.witnessStartTimeout t) s = .next ((s.tick t).nameHolder 0) := by
  have hcond : (s.awake && s.isWitness && s.unt.wit.holder.isNone && s.witnessChoice.isNone &&
      decide (s.unt.wit.startAt + msC 2000 ≤ t)) = true := by simp [ha, hw, hv, hc, hover]
  dsimp only [exec]
  exact act_goes rfl hcond

end

/-- Settles O52: each command follows the choice of R421's table. -/
theorem witnessTokens : Obligations.WitnessTokens := by
  intro t s ha hw
  have hnames {v : Nat} (hc : s.witnessChoice = some v) := witnessTokenDecision_names (t := t) ha hw hc
  refine ⟨fun hv h0 h1 => ?_, fun hv h1 h0 => ?_, fun h _ hh hg hlevel hp => ?_, fun h hh hstay => ?_, fun hv h0 h1 hover => ?_,
    fun h _ hh hg hover => ?_⟩
  · have hgoes := hnames ((State.witnessChoice_vacant hv).trans (if_pos ⟨h0, h1⟩))
    exact ⟨_, hgoes, rfl, rfl, rfl, rfl, exec_sameBut hgoes⟩
  · have hgoes := hnames ((State.witnessChoice_vacant hv).trans ((if_neg fun h => h0 h.1).trans (if_pos ⟨h1, h0⟩)))
    exact ⟨_, hgoes, rfl, rfl, rfl, rfl, exec_sameBut hgoes⟩
  · have hgoes := hnames (State.witnessChoice_yields hh hg hlevel hp)
    exact ⟨_, hgoes, rfl, rfl, rfl, rfl, exec_sameBut hgoes⟩
  · rw [witnessTokenDecision_goes ha hw, State.witnessDecide_of_none (s := s.tick t) (State.witnessChoice_stays (s := s.tick t) hh hstay)]
  · have hc : s.witnessChoice = none := (State.witnessChoice_vacant hv).trans ((if_neg h0).trans (if_neg h1))
    have hgoes := witnessStartTimeout_goes ha hw hv hc hover
    exact ⟨_, hgoes, rfl, rfl, rfl, rfl, exec_sameBut hgoes⟩
  · have hgoes := witnessHolderGraceEnd_goes ha hw hg hover
    refine ⟨_, hgoes, exec_sameBut hgoes, fun hlevel => ?_, fun hlevel hp => ?_⟩
    · rw [State.witnessDecide_of_none (s := (s.tick t).graceOver) (State.witnessChoice_stays (s := (s.tick t).graceOver) hh (.inr hlevel))]
      exact ⟨rfl, rfl⟩
    · have hc : (s.tick t).graceOver.witnessChoice = some (1 - h) :=
        State.witnessChoice_yields (s := (s.tick t).graceOver) hh rfl hlevel hp
      have hsame := exec_sameBut hgoes
      rw [State.witnessDecide_of_some hc] at hsame ⊢
      exact ⟨rfl, rfl, rfl, rfl, hsame⟩

end Sys2Proof.Machine
end

section
/-! PROOFS. The Ethernet ports (R55, R362 to R370, R380), the frames of SER0 (R372) and the Modbus server (R374, R375). -/

namespace Sys2Proof.Machine

/-! ## A change of one port, and what follows it on the wire or in the recorder -/

section
variable (s : State) (t i : Nat) (f : PortSt → PortSt)

/-- One port counts or changes, and the port then puts something on its wire. -/
theorem State.port_wired (l : List PortOut) : let u := ((s.tick t).modPortSt i f).onWire l
    u.portOf i = f (s.portOf i) ∧ (∀ k, k ≠ i → u.portOf k = s.portOf k) ∧ u.port.wire = s.port.wire ++ l ∧
      s.sameBut [.now, .portSt, .wire] u := by
  obtain ⟨hself, hother, -⟩ := s.port_counted t i f
  exact ⟨hself, hother, rfl, State.sameBut_of_rest (by simp)⟩

/-- One port changes, and the unit raises events. -/
theorem State.port_noted (l : List EvReq) : let u := ((s.tick t).modPortSt i f).unitEvs l
    u.portOf i = f (s.portOf i) ∧ (∀ k, k ≠ i → u.portOf k = s.portOf k) ∧ u.recd = ((s.tick t).unitEvs l).recd ∧
      s.sameBut [.now, .recd, .portSt] u := by
  obtain ⟨hself, hother, -⟩ := s.port_counted t i f
  have hsame := (State.sameBut_of_rest (State.unitEvs_rest l ((s.tick t).modPortSt i f) (List.Subset.refl _))).2.2 .portSt (by decide)
  have hport (k : Nat) : (((s.tick t).modPortSt i f).unitEvs l).portOf k = ((s.tick t).modPortSt i f).portOf k :=
    congrArg (fun x : Tab PortSt => tabGet ({} : PortSt) x k) hsame
  exact ⟨(hport i).trans hself, fun k hk => (hport k).trans (hother k hk), State.unitEvs_recd_congr _ rfl rfl rfl,
    State.sameBut_of_rest (by simp)⟩

end

/-! ## The ARP cache (R366) -/

/-- An address that is confirmed is found with its MAC. -/
theorem arpFind_arpLearn (now ip mac : Nat) (p : PortSt) : arpFind (arpLearn now ip mac p) ip = some mac := by
  have hrest (e : ArpEntry) (he : e ∈ p.arp.filter fun e => decide (e.ip ≠ ip)) : e.ip ≠ ip := by simpa using (List.mem_filter.1 he).2
  have hdrop (l : List ArpEntry) (e : ArpEntry) (he : e ∈ arpDropOldest l) : e ∈ l := by
    unfold arpDropOldest at he
    split at he
    · exact he
    · exact List.mem_of_mem_erase he
  unfold arpFind arpLearn
  dsimp only
  rw [List.find?_append, List.find?_eq_none.2]
  · simp
  · intro e he
    simp only [decide_eq_true_eq]
    split at he
    · exact hrest e (hdrop _ e he)
    · exact hrest e he

theorem arpFlush_waits (e : EthSelf) (ip mac : Nat) (p : PortSt) {w : ArpWait} (hw : w ∈ (arpFlush e ip mac p).1.waits) : w.hop ≠ ip := by
  simpa using (List.mem_filter.1 hw).2

/-- What a port makes of a confirmed address. -/
theorem State.learn_port (s : State) (t i ip mac : Nat) : let u := (s.tick t).learn i ip mac
    arpFind (u.portOf i) ip = some mac ∧ (∀ w ∈ (u.portOf i).waits, w.hop ≠ ip) ∧ (∀ k, k ≠ i → u.portOf k = s.portOf k) ∧
      s.sameBut [.now, .portSt, .wire] u := by
  obtain ⟨hself, hother, -, hsame⟩ := s.port_wired t i
    (fun _ => (arpFlush ((s.tick t).ethSelf i) ip mac (arpLearn (max s.now t) ip mac (s.portOf i))).1)
    (arpFlush ((s.tick t).ethSelf i) ip mac (arpLearn (max s.now t) ip mac (s.portOf i))).2
  refine ⟨(congrArg (arpFind · ip) hself).trans (arpFind_arpLearn ..), fun w hw => ?_, hother, hsame⟩
  exact arpFlush_waits _ _ _ _ (hself ▸ hw)

/-- A port is what it is whatever becomes of its cache, its waits and its counters. -/
theorem State.modPortSt_ethSelf {f : PortSt → PortSt} (s : State) (i k : Nat) (hf : (f (s.portOf i)).plca = (s.portOf i).plca) :
    (s.modPortSt i f).ethSelf k = s.ethSelf k := by
  have hplca : ((s.modPortSt i f).portOf 2).plca = (s.portOf 2).plca := by
    by_cases h : 2 = i
    · subst h
      rw [State.portOf_modPortSt, hf]
    · rw [State.portOf_modPortSt_ne _ h]
  unfold State.ethSelf
  rw [hplca]
  rfl

theorem State.learn_ethSelf (s : State) (i ip mac : Nat) : (s.learn i ip mac).ethSelf i = s.ethSelf i :=
  State.modPortSt_ethSelf (f := fun _ => (arpFlush (s.ethSelf i) ip mac (arpLearn s.now ip mac (s.portOf i))).1) s i i rfl

/-! ## Frames that arrive -/

section
variable {t i : Nat} {m : EthMsg} {s : State}

/-- An Ethernet frame at a port whose command buffer defers nothing, or one that is in error, is handled at once. -/
theorem ethFrame_handled (hi : i < 3) (hm : s.mode = .running) (h : s.holdsBack i = false ∨ m = .bad ∨ 1518 < etherSize m) :
    exec (.ethFrameReceived t i m) s = .next ((s.tick t).ethIn i m) := by
  have hport : isEth i = true := decide_eq_true hi
  have hlive : (s.tick t).live = true := by simp [State.live, hm]
  have hnow : (!(s.tick t).holdsBack i) = true ∨ m = .bad ∨ 1518 < etherSize m := h.imp_left fun h => by
    rw [show (s.tick t).holdsBack i = false from h]
    rfl
  dsimp only [exec, execEthFrameReceived]
  rw [act_goes hport hlive, if_pos hnow]

/-- Behind a deferred packet a frame waits, or is discarded where the queue is full (R55). -/
theorem ethFrame_queued (hi : i < 3) (hm : s.mode = .running) (hback : s.holdsBack i = true) (hgood : m ≠ .bad) (hsize : etherSize m ≤ 1518) :
    exec (.ethFrameReceived t i m) s = .next ((s.tick t).modPortSt i fun p =>
      if rxBytes (s.portOf i).rxWait + etherSize m ≤ 4096 then { p with rxWait := p.rxWait ++ [.frame m] }
      else { p with rxQueueFull := inc16 p.rxQueueFull }) := by
  have hport : isEth i = true := decide_eq_true hi
  have hlive : (s.tick t).live = true := by simp [State.live, hm]
  have hnow : ¬((!(s.tick t).holdsBack i) = true ∨ m = .bad ∨ 1518 < etherSize m) := by
    rw [show (s.tick t).holdsBack i = true from hback]
    simp [hgood]
    omega
  dsimp only [exec, execEthFrameReceived]
  rw [act_goes hport hlive, if_neg hnow]
  by_cases hroom : rxBytes (s.portOf i).rxWait + etherSize m ≤ 4096
  · rw [if_pos (show rxBytes ((s.tick t).portOf i).rxWait + etherSize m ≤ 4096 from hroom)]
    simp only [hroom, if_true]
    rfl
  · rw [if_neg (show ¬rxBytes ((s.tick t).portOf i).rxWait + etherSize m ≤ 4096 from hroom)]
    simp only [hroom, if_false]

theorem State.ethIn_bad (h : m = .bad ∨ 1518 < etherSize m) : s.ethIn i m = s.countFrameErr i := by
  unfold State.ethIn
  split
  · rfl
  · next hsize =>
    obtain rfl := h.resolve_right hsize
    rfl

end

section
variable {i : Nat} {s : State}

theorem State.ethIn_arpRequest {sip smac tip : Nat} (h : s.addressed i tip = true) :
    s.ethIn i (.arpRequest sip smac tip) = (s.learn i sip smac).sendEth i smac (.arpReply tip sip smac) := by
  rw [State.ethIn, if_neg (by simp [etherSize])]
  exact if_pos h

theorem State.ethIn_arpReply {sip smac tip : Nat} (h : s.addressed i tip = true) :
    s.ethIn i (.arpReply sip smac tip) = s.learn i sip smac := by
  rw [State.ethIn, if_neg (by simp [etherSize])]
  exact if_pos h

theorem State.ethIn_echoRequest {src dst : Nat} {data : List Byte} (h : s.addressed i dst = true) (hlen : data.length ≤ 1472) :
    s.ethIn i (.echoRequest src dst data) = s.sendIp i dst src (.echo data) := by
  rw [State.ethIn, if_neg (by simp only [etherSize]; omega)]
  exact if_pos h

theorem State.ethIn_udp {src sport dst dport : Nat} {data : List Byte} (h : s.addressed i dst = true) (hlen : data.length ≤ 1472) :
    s.ethIn i (.udp src sport dst dport data) = s.udpIn i src sport dst dport true data := by
  rw [State.ethIn, if_neg (by simp only [etherSize]; omega)]
  exact if_pos h

/-- HOST_IP is held against every datagram to port 47200 (R367). -/
theorem State.udpIn_rejects {src sport dst : Nat} {whole : Bool} {data : List Byte} (hip : poHostIp s.im i ≠ 0)
    (hsrc : src ≠ poHostIp s.im i) : s.udpIn i src sport dst 47200 whole data =
      s.modPortSt i fun p => { p with hostReject := inc16 p.hostReject } := by
  rw [State.udpIn, if_pos rfl, if_pos ⟨hip, hsrc⟩]

theorem State.udpIn_packet {src sport : Nat} {whole : Bool} {data : List Byte} (hsrc : poHostIp s.im i = 0 ∨ src = poHostIp s.im i) :
    s.udpIn i src sport (s.ownIp i) 47200 whole data = s.packetIn i src sport data := by
  rw [State.udpIn, if_pos rfl, if_neg (by tauto), if_neg (by simp)]

theorem State.udpIn_noMatch {src sport dst dport : Nat} {whole : Bool} {data : List Byte} (h0 : dport ≠ 47200) (h1 : dport ≠ 47201) :
    s.udpIn i src sport dst dport whole data = s.countNoMatch i := by
  rw [State.udpIn, if_neg h0, if_neg (by simp [h1])]

/-- A message of a port whose command buffer defers nothing is stamped by a unit that is no standby. -/
theorem State.packetIn_stamps {ip udp : Nat} {bytes : List Byte} {p : Packet} (hp : parsePacket i ip udp bytes = some p)
    (hrole : s.unt.pair.role ≠ 2) (hsilent : s.engSilentStands = false) :
    s.packetIn i ip udp bytes = s.stampEntry 5 (s.codeOf i % 8) (.packet (s.codeOf i) ip udp bytes) := by
  rw [State.packetIn_packet hp, State.admitPacket_stamps hrole hsilent]

end

section
variable {im : Image} {e : EthSelf} {now src dst : Nat} {x : IpBody} {p : PortSt}

theorem ethSend_nowhere (h : nextHop im e.ip e.port dst = 0) : ethSend im e now src dst x p = (p, []) := if_pos (.inl h)

theorem ethSend_known {m : Nat} (h : nextHop im e.ip e.port dst ≠ 0) (hip : e.ip ≠ 0) (hm : arpFind p (nextHop im e.ip e.port dst) = some m) :
    ethSend im e now src dst x p = (p, (datagramOut src dst x).map (e.frame m)) := by
  unfold ethSend
  dsimp only
  rw [if_neg (by simp [h, hip]), hm]

theorem ethSend_asks (h : nextHop im e.ip e.port dst ≠ 0) (hip : e.ip ≠ 0) (hm : arpFind p (nextHop im e.ip e.port dst) = none) :
    ethSend im e now src dst x p =
      ({ p with waits := p.waits ++ [{ hop := nextHop im e.ip e.port dst, since := now, src := src, dst := dst, body := x }] },
        [e.frame broadcastMac (.arpRequest e.ip (nextHop im e.ip e.port dst))]) := by
  unfold ethSend
  dsimp only
  rw [if_neg (by simp [h, hip]), hm]

end

/-! ## Waits that end, announcements and links -/

section
variable {t i : Nat} {s : State}

theorem arpWaitTimeout_goes (hi : i < 3) (hm : s.mode = .running) (hop : Nat) :
    exec (.arpWaitTimeout t i hop) s = .next ((s.tick t).modPortSt i fun p => { p with
      waits := p.waits.filter fun w => !(decide (w.hop = hop) && decide (w.since + msC 1000 ≤ max s.now t)) }) := by
  have hlive : s.live = true := by simp [State.live, hm]
  dsimp only [exec]
  exact act_goes (decide_eq_true hi) hlive

theorem arpEntryAgeOut_goes (hi : i < 3) (hm : s.mode = .running) (ip : Nat) :
    exec (.arpEntryAgeOut t i ip) s = .next ((s.tick t).modPortSt i fun p => { p with
      arp := p.arp.filter fun e => !(decide (e.ip = ip) && decide (e.since + msC 300000 ≤ max s.now t)) }) := by
  have hlive : s.live = true := by simp [State.live, hm]
  dsimp only [exec]
  exact act_goes (decide_eq_true hi) hlive

theorem fragDrop_goes (hi : i < 3) (hm : s.mode = .running) (src : Nat) :
    exec (.fragDrop t i src) s = .next ((s.tick t).modPortSt i (reasmDrop (max s.now t) src)) := by
  have hlive : s.live = true := by simp [State.live, hm]
  dsimp only [exec]
  exact act_goes (decide_eq_true hi) hlive

theorem gratuitousArp_goes (hi : i < 3) (hm : s.mode = .running) (hsvc : s.servesSvc i = true) (hleft : 0 < (s.portOf i).announce)
    (hdue : (s.portOf i).announceAt + msC (100 * (3 - (s.portOf i).announce)) ≤ max s.now t) :
    exec (.gratuitousArp t i) s = .next (((s.tick t).modPortSt i fun p => { p with announce := p.announce - 1 }).sendEth i broadcastMac
      (.arpRequest (poSvcIp s.im i) (poSvcIp s.im i))) := by
  have hcond : (s.live && s.servesSvc i && decide (0 < (s.portOf i).announce) &&
      decide ((s.portOf i).announceAt + msC (100 * (3 - (s.portOf i).announce)) ≤ max s.now t)) = true := by
    simp only [State.live, hm, hsvc, hleft, hdue, decide_true, Bool.and_self]
  dsimp only [exec]
  exact act_goes (decide_eq_true hi) hcond

theorem portLink_goes {up : Bool} {speed : Nat} (hi : i < 3) (hm : s.mode = .running) (hup : (s.portOf i).linkUp ≠ up)
    (hspeed : up = true → linkSpeed s.im i speed = true) :
    exec (.portLink t i up speed) s = .next (((s.tick t).modPortSt i fun p => { p with
      linkUp := up, speed := if up then speed else 0 }).unitEvs
        [{ code := 0x0E01, src := i, p1 := b2n up, p2 := if up then speed else 0 }]) := by
  have hcond : (s.live && decide ((s.portOf i).linkUp ≠ up) && (!up || linkSpeed s.im i speed)) = true := by
    cases up <;> simp_all [State.live]
  dsimp only [exec]
  exact act_goes (decide_eq_true hi) hcond

theorem plcaStatus_goes {up : Bool} {beacon : Nat} (hm : s.mode = .running) (hen : poPlcaEn s.im 2 = true) (hup : (s.portOf 2).plca ≠ up) :
    exec (.plcaStatus t ⟨up, beacon⟩) s = .next (((s.tick t).modPortSt 2 fun p => { p with
      plca := up, plcaNodes := if up then plcaCount s.im beacon else 0, plcaTimer := if up then plcaTimerOf s.im else 0 }).unitEvs
        [{ code := 0x0E02, src := 2, p1 := b2n up, p2 := poPlcaId s.im 2 }]) := by
  have hcond : (s.live && poPlcaEn s.im 2 && decide ((s.portOf 2).plca ≠ up)) = true := by
    simp only [State.live, hm, hen, hup, ne_eq, not_false_eq_true, decide_true, Bool.and_self]
  dsimp only [exec]
  exact act_goes rfl hcond

/-- Fragments that have waited too long are dropped, and the loss is counted (R368). -/
theorem reasmDrop_late {now src : Nat} {p : PortSt} (h : ∃ r ∈ p.reasm, r.src = src ∧ r.since + msC 250 ≤ now) :
    reasmDrop now src p = { p with reasm := p.reasm.filter fun r => decide (r.src ≠ src), fragDrop := inc16 p.fragDrop } := by
  have hlate : (p.reasm.any fun r => decide (r.src = src) && decide (r.since + msC 250 ≤ now)) = true := by
    obtain ⟨r, hr, hsrc, hold⟩ := h
    exact List.any_eq_true.2 ⟨r, hr, by rw [decide_eq_true hsrc, decide_eq_true hold, Bool.and_self]⟩
  unfold reasmDrop
  dsimp only
  rw [if_pos hlate]

end

/-- Settles O39: a frame at a port by its kind and the port's receive queue, and each wait, announcement and link by its own happening. -/
theorem ethernetPorts : Obligations.EthernetPorts := by
  intro t i s hi hm
  refine ⟨fun m hbad => ?_, fun hback m hgood hsize => ?_, fun hfree => ⟨fun sip smac tip haddr => ?_, fun sip smac tip haddr => ?_,
      fun src dst data haddr hlen => ?_, fun src sport dst data haddr hlen hip hsrc => ?_,
      fun src sport data q hown hlen hsrc hq hrole hsilent => ?_, fun src sport dst dport data haddr hlen h0 h1 => ?_⟩,
    fun hop => ?_, fun ip => ?_, fun src hlate => ?_, fun hsvc hleft hdue => ?_, fun up speed hup hspeed => ?_, fun up beacon hen hup => ?_⟩
  · refine ⟨_, (ethFrame_handled hi hm (.inr hbad)).trans (congrArg _ (State.ethIn_bad hbad)), ?_⟩
    exact s.port_counted t i _
  · refine ⟨_, ethFrame_queued hi hm hback hgood hsize, ?_⟩
    exact s.port_counted t i _
  · refine ⟨_, (ethFrame_handled hi hm (.inl hfree)).trans (congrArg _ (State.ethIn_arpRequest (s := s.tick t) haddr)), ?_⟩
    obtain ⟨hfind, -, hother, hsame⟩ := s.learn_port t i sip smac
    refine ⟨hfind, ?_, hother, State.sameBut_of_rest (by simp)⟩
    refine List.mem_append_right _ (List.mem_singleton.2 ?_)
    rw [State.learn_ethSelf]
    rfl
  · refine ⟨_, (ethFrame_handled hi hm (.inl hfree)).trans (congrArg _ (State.ethIn_arpReply (s := s.tick t) haddr)), ?_⟩
    exact s.learn_port t i sip smac
  · refine ⟨_, (ethFrame_handled hi hm (.inl hfree)).trans (congrArg _ (State.ethIn_echoRequest (s := s.tick t) haddr hlen)), ?_⟩
    have hip : (s.ethSelf i).ip ≠ 0 := by
      have := haddr
      simp only [State.addressed, Bool.and_eq_true, decide_eq_true_eq] at this
      exact this.1
    obtain ⟨hself, hother, hwire, hsame⟩ := s.port_wired t i
      (fun _ => (ethSend s.im (s.ethSelf i) (max s.now t) dst src (.echo data) (s.portOf i)).1)
      (ethSend s.im (s.ethSelf i) (max s.now t) dst src (.echo data) (s.portOf i)).2
    refine ⟨hother, hsame, fun h => ?_, fun mac h hmac => ?_, fun h hmac => ?_⟩
    · have hsend := ethSend_nowhere (im := s.im) (e := s.ethSelf i) (now := max s.now t) (src := dst) (x := .echo data) (p := s.portOf i) h
      exact ⟨hself.trans (congrArg Prod.fst hsend), hwire.trans (by rw [hsend, List.append_nil])⟩
    · have hsend := ethSend_known (im := s.im) (e := s.ethSelf i) (now := max s.now t) (src := dst) (x := .echo data) h hip hmac
      exact ⟨hself.trans (congrArg Prod.fst hsend), hwire.trans (congrArg (fun r => s.port.wire ++ r.2) hsend)⟩
    · have hsend := ethSend_asks (im := s.im) (e := s.ethSelf i) (now := max s.now t) (src := dst) (x := .echo data) h hip hmac
      exact ⟨hself.trans (congrArg Prod.fst hsend), hwire.trans (congrArg (fun r => s.port.wire ++ r.2) hsend)⟩
  · refine ⟨_, (ethFrame_handled hi hm (.inl hfree)).trans (congrArg _ ((State.ethIn_udp (s := s.tick t) haddr hlen).trans
      (State.udpIn_rejects (s := s.tick t) hip hsrc))), ?_⟩
    exact s.port_counted t i _
  · have haddr : s.addressed i (s.ownIp i) = true := by simp [State.addressed, hown]
    exact (ethFrame_handled hi hm (.inl hfree)).trans (congrArg _ ((State.ethIn_udp (s := s.tick t) haddr hlen).trans
      ((State.udpIn_packet (s := s.tick t) hsrc).trans (State.packetIn_stamps (s := s.tick t) hq hrole hsilent))))
  · refine ⟨_, (ethFrame_handled hi hm (.inl hfree)).trans (congrArg _ ((State.ethIn_udp (s := s.tick t) haddr hlen).trans
      (State.udpIn_noMatch (s := s.tick t) h0 h1))), ?_⟩
    exact s.port_counted t i _
  · refine ⟨_, arpWaitTimeout_goes hi hm hop, ?_⟩
    obtain ⟨hself, hother, hsame⟩ := s.port_counted t i fun p => { p with
      waits := p.waits.filter fun w => !(decide (w.hop = hop) && decide (w.since + msC 1000 ≤ max s.now t)) }
    refine ⟨hother, hsame, fun w => ?_⟩
    rw [hself]
    simp only [List.mem_filter, ← Bool.decide_and, Bool.not_eq_true', decide_eq_false_iff_not]
  · refine ⟨_, arpEntryAgeOut_goes hi hm ip, ?_⟩
    obtain ⟨hself, hother, hsame⟩ := s.port_counted t i fun p => { p with
      arp := p.arp.filter fun e => !(decide (e.ip = ip) && decide (e.since + msC 300000 ≤ max s.now t)) }
    refine ⟨hother, hsame, fun e => ?_⟩
    rw [hself]
    simp only [List.mem_filter, ← Bool.decide_and, Bool.not_eq_true', decide_eq_false_iff_not]
  · refine ⟨_, fragDrop_goes hi hm src, ?_⟩
    obtain ⟨hself, hother, hsame⟩ := s.port_counted t i (reasmDrop (max s.now t) src)
    rw [reasmDrop_late hlate] at hself
    rw [hself]
    exact ⟨hother, hsame, rfl, fun r => by simp [List.mem_filter]⟩
  · refine ⟨_, gratuitousArp_goes hi hm hsvc hleft hdue, ?_⟩
    have hself := (s.tick t).modPortSt_ethSelf (f := fun p => { p with announce := p.announce - 1 }) i i rfl
    rw [State.sendEth, hself]
    exact s.port_wired t i _ _
  · refine ⟨_, portLink_goes hi hm hup hspeed, ?_⟩
    obtain ⟨hself, hother, hrecd, hsame⟩ := s.port_noted t i (fun p => { p with linkUp := up, speed := if up then speed else 0 })
      [{ code := 0x0E01, src := i, p1 := b2n up, p2 := if up then speed else 0 }]
    exact ⟨hother, hself, hrecd, hsame⟩
  · refine ⟨_, plcaStatus_goes hm hen hup, ?_⟩
    obtain ⟨hself, -, hrecd, hsame⟩ := s.port_noted t 2 (fun p => { p with
      plca := up, plcaNodes := if up then plcaCount s.im beacon else 0, plcaTimer := if up then plcaTimerOf s.im else 0 })
      [{ code := 0x0E02, src := 2, p1 := b2n up, p2 := poPlcaId s.im 2 }]
    exact ⟨hself, hrecd, hsame⟩

end Sys2Proof.Machine
end

section
/-! PROOFS. The frames of SER0 (R372) and the Modbus server (R374, R375). -/

namespace Sys2Proof.Machine

section
variable {t gapUs : Nat} {bytes : List Byte} {s : State}

theorem State.serPackets_of (hm : s.mode = .running) (hmb : poModbus s.im 5 = false) : s.serPackets = true := by
  simp [State.serPackets, State.live, hm, hmb]

theorem serFrameReceived_goes (h : s.serPackets = true) : exec (.serFrameReceived t bytes) s = .next ((s.tick t).serIn bytes) := by
  dsimp only [exec]
  exact act_goes rfl h

theorem serAbort_goes (h : s.serPackets = true) : exec (.serAbort t) s = .next (s.tick t).serAborted := by
  dsimp only [exec]
  exact act_goes rfl h

theorem serGapTimeout_goes (h : s.serPackets = true) (hgap : 10000 < gapUs) :
    exec (.serGapTimeout t gapUs) s = .next (s.tick t).serAborted := by
  have hcond : (s.serPackets && decide (10000 < gapUs)) = true := by simp [h, hgap]
  dsimp only [exec]
  exact act_goes rfl hcond

/-- A bad escape or a frame of more than 8,192 bytes aborts it. -/
theorem State.serIn_aborts (hne : bytes ≠ []) (h : serUnstuff bytes = none ∨ ∃ b, serUnstuff bytes = some b ∧ 8192 < b.length) :
    s.serIn bytes = s.serAborted := by
  rw [State.serIn, if_neg (by simpa using hne)]
  rcases h with h | ⟨b, h, hlen⟩
  · simp only [h]
  · simp only [h]
    exact if_pos hlen

theorem State.serIn_packet {b : List Byte} (hne : bytes ≠ []) (h : serUnstuff bytes = some b) (hlen : b.length ≤ 8192)
    (hback : s.holdsBack 5 = false) : s.serIn bytes = s.packetIn 5 0 0 b := by
  rw [State.serIn, if_neg (by simpa using hne)]
  simp only [h]
  rw [if_neg (by omega), State.messageIn, hback]
  rfl

theorem State.serAborted_port (s : State) (t : Nat) : let u := (s.tick t).serAborted
    u.portOf 5 = { s.portOf 5 with serAbort := inc16 (s.portOf 5).serAbort } ∧ (∀ i, i ≠ 5 → u.portOf i = s.portOf i) ∧
      s.sameBut [.now, .portSt] u :=
  s.port_counted t 5 fun p => { p with serAbort := inc16 p.serAbort }

/-! ## Modbus -/

/-- A request to another address has no answer. -/
theorem mbAnswer_elsewhere {addr : Nat} {reg : Nat → Option Nat} {b : List Byte} (h : nth b 0 ≠ addr) : mbAnswer addr reg b = none :=
  if_pos (.inr (.inr (.inl h)))

theorem modbusRequest_idles (hgap : 750 < gapUs) : exec (.modbusRequest t ⟨gapUs, bytes⟩) s = .next (s.tick t) := by
  have hcond : (s.live && poModbus s.im 5 && decide (gapUs ≤ 750)) = false := by
    rw [decide_eq_false (by omega), Bool.and_false]
  dsimp only [exec]
  exact act_idles rfl hcond

section
variable (hgap : gapUs ≤ 750) (hm : s.mode = .running) (hmb : poModbus s.im 5 = true)
include hgap hm hmb

theorem modbusRequest_cond : (s.live && poModbus s.im 5 && decide (gapUs ≤ 750)) = true := by
  simp [State.live, hm, hmb, hgap]

theorem modbusRequest_ignores (h : mbAnswer (poMbAddr s.im 5) s.mbReg bytes = none) :
    exec (.modbusRequest t ⟨gapUs, bytes⟩) s = .next (s.tick t) := by
  have h' : mbAnswer (poMbAddr (s.tick t).im 5) (s.tick t).mbReg bytes = none := h
  dsimp only [exec, execModbusRequest]
  rw [act_goes rfl (modbusRequest_cond hgap hm hmb)]
  simp only [h']

theorem modbusRequest_answers {b : List Byte} {exc : Bool} (h : mbAnswer (poMbAddr s.im 5) s.mbReg bytes = some (b, exc)) :
    exec (.modbusRequest t ⟨gapUs, bytes⟩) s = .next (((s.tick t).modPortSt 5 fun p =>
      if exc then { p with mbExcept := inc16 p.mbExcept } else p).onWire [.serial b]) := by
  have h' : mbAnswer (poMbAddr (s.tick t).im 5) (s.tick t).mbReg bytes = some (b, exc) := h
  dsimp only [exec, execModbusRequest]
  rw [act_goes rfl (modbusRequest_cond hgap hm hmb)]
  simp only [h']

end
end

/-- Settles O28: a frame of SER0 is aborted or is a message of its port, and a Modbus request is answered or not by `mbAnswer`. -/
theorem serialPort : Obligations.SerialPort := by
  refine ⟨fun t s hm hmb => ?_, fun t gapUs bytes s => modbusRequest_idles, fun t gapUs bytes s hgap hm hmb => ?_⟩
  · have hpackets := State.serPackets_of hm hmb
    refine ⟨⟨_, serAbort_goes hpackets, s.serAborted_port t⟩, fun gapUs hgap => ⟨_, serGapTimeout_goes hpackets hgap, s.serAborted_port t⟩,
      serFrameReceived_goes hpackets, fun bytes hne hbad => ?_, fun bytes b p hne hb hlen hp hrole hsilent hback => ?_⟩
    · exact ⟨_, (serFrameReceived_goes hpackets).trans (congrArg _ (State.serIn_aborts hne hbad)), s.serAborted_port t⟩
    · exact (serFrameReceived_goes hpackets).trans (congrArg _ ((State.serIn_packet (s := s.tick t) hne hb hlen hback).trans
        (State.packetIn_stamps (s := s.tick t) hp hrole hsilent)))
  · cases h : mbAnswer (poMbAddr s.im 5) s.mbReg bytes with
    | none => exact ⟨_, modbusRequest_ignores hgap hm hmb h, fun _ => rfl, fun _ => rfl, nofun⟩
    | some r =>
      refine ⟨_, modbusRequest_answers hgap hm hmb h, nofun, fun hne => ?_, fun b exc he => ?_⟩
      · exact nomatch h.symm.trans (mbAnswer_elsewhere hne)
      · obtain rfl := Option.some.inj he
        obtain ⟨hself, -, hwire, hsame⟩ := s.port_wired t 5 (fun p => if exc then { p with mbExcept := inc16 p.mbExcept } else p) [.serial b]
        refine ⟨hwire, (congrArg PortSt.mbExcept hself).trans ?_, hsame⟩
        exact apply_ite PortSt.mbExcept ..

end Sys2Proof.Machine
end

section
/-! PROOFS. CAN reception (R383, R388 to R391, R398, R401). -/

namespace Sys2Proof.Machine

/-! ## Controllers, objects and transports -/

section
variable (s : State) (k : Nat)

@[simp] theorem State.ctlOf_modCtl (f : CanCtl → CanCtl) : (s.modCtl k f).ctlOf k = f (s.ctlOf k) := tabGet_mod_self ({} : CanCtl) ..

@[simp] theorem State.ctlOf_modCtl_ne {j : Nat} (h : j ≠ k) (f : CanCtl → CanCtl) : (s.modCtl k f).ctlOf j = s.ctlOf j :=
  tabGet_mod_ne ({} : CanCtl) _ _ h.symm

@[simp] theorem State.objOf_modObj (f : CanObj → CanObj) : (s.modObj k f).objOf k = f (s.objOf k) := tabGet_mod_self ({} : CanObj) ..

@[simp] theorem State.objOf_modObj_ne {j : Nat} (h : j ≠ k) (f : CanObj → CanObj) : (s.modObj k f).objOf j = s.objOf j :=
  tabGet_mod_ne ({} : CanObj) _ _ h.symm

@[simp] theorem State.objOf_modCtl (j : Nat) (f : CanCtl → CanCtl) : (s.modCtl k f).objOf j = s.objOf j := rfl

@[simp] theorem State.ctlOf_modObj (j : Nat) (f : CanObj → CanObj) : (s.modObj k f).ctlOf j = s.ctlOf j := rfl

theorem State.isoOf_modIso (f : IsoTp → IsoTp) : tabGet {} (s.modIso k f).can.iso k = f (tabGet {} s.can.iso k) :=
  tabGet_mod_self ({} : IsoTp) ..

/-- Events go to the recorder alone. -/
theorem State.unitEvs_modRecd (l : List EvReq) : ∃ f, s.unitEvs l = s.modRecd f := by
  unfold State.unitEvs
  dsimp only
  split
  · exact ⟨_, rfl⟩
  · exact ⟨id, rfl⟩

/-- A controller changes, and the rest goes to the recorder. -/
theorem State.setCtl_modRecd (r : CanCtl × List EvReq) : ∃ f, s.setCtl k r = (s.modCtl k fun _ => r.1).modRecd f :=
  (s.modCtl k fun _ => r.1).unitEvs_modRecd r.2

end

/-! ## The counters of a controller -/

section
variable (k : Nat) (c : CanCtl)

/-- Only what depends on the bus state changes where the state is formed anew (R398, R399). -/
theorem canSettle_eq : let d := (canSettle k c).1
    d = { c with state := d.state, recovering := d.recovering, busOff := d.busOff, tmRun := d.tmRun, refPend := d.refPend,
                 cycleAt := d.cycleAt } := by
  unfold canSettle
  dsimp only
  split <;> rfl

theorem canSettle_refPend (h : c.refPend = false) : (canSettle k c).1.refPend = false := by
  unfold canSettle
  dsimp only
  split
  · rfl
  · exact h

/-- A valid frame changes the receive counter, the acknowledgement run and the bus state. -/
theorem canValid_eq (restricted : Bool) : let d := (canValid k restricted c).1
    d = { c with ackRun := 0, noAck := false, recCnt := if restricted then c.recCnt else recDown c.recCnt, state := d.state
                 recovering := d.recovering, busOff := d.busOff, tmRun := d.tmRun, refPend := d.refPend, cycleAt := d.cycleAt } := by
  cases restricted with
  | true => exact canSettle_eq k { c with ackRun := 0, noAck := false }
  | false => exact canSettle_eq k { c with ackRun := 0, noAck := false, recCnt := recDown c.recCnt }

theorem ctlRxError_counts (err : Nat) (eight : Bool) : c.recCnt < (ctlRxError k err eight c).1.recCnt ∧ (ctlRxError k err eight c).1.lec = err := by
  have heq := canSettle_eq k { c with recCnt := c.recCnt + (if eight then 8 else 1), lec := err }
  have hrec : (ctlRxError k err eight c).1.recCnt = c.recCnt + (if eight then 8 else 1) := congrArg CanCtl.recCnt heq
  refine ⟨?_, congrArg CanCtl.lec heq⟩
  rw [hrec]
  split <;> omega

end

/-! ## A frame on the bus -/

/-- Controller `k` has seen a valid frame. -/
def State.busSeen (k : Nat) (s : State) : State := (s.setCtl k (canValid k (s.restricted k) (s.ctlOf k))).modCtl k fun c => { c with endAt := s.now }

/-- The transport of controller `k` has taken a frame. -/
def State.tpTaken (k : Nat) (r : IsoRx) (s : State) : State :=
  (s.modIso k fun _ => r.tp).modPortSt (3 + k) fun p => { p with tpDrop := satN 16 (p.tpDrop + r.drops) }

section
variable {t k : Nat} {m : CanMsg} {s : State}

theorem canFrameReceived_goes (hk : k < 4) (hon : s.canOn k = true) (hfmt : m.fmt ≤ ctlProto s.im k) :
    exec (.canFrameReceived t k m) s = .next ((s.tick t).busFrame k m) := by
  have hcond : (s.canOn k && decide (m.fmt ≤ ctlProto s.im k)) = true := by simp [hon, hfmt]
  dsimp only [exec]
  exact act_goes (decide_eq_true hk) hcond

/-- A valid frame is a matter of its controller and the recorder. -/
theorem State.busSeen_eq (s : State) (k : Nat) : ∃ f, s.busSeen k =
    ((s.modCtl k fun _ => (canValid k (s.restricted k) (s.ctlOf k)).1).modRecd f).modCtl k fun c => { c with endAt := s.now } := by
  obtain ⟨f, hf⟩ := s.setCtl_modRecd k (canValid k (s.restricted k) (s.ctlOf k))
  exact ⟨f, congrArg (State.modCtl k fun c => { c with endAt := s.now }) hf⟩

theorem State.busSeen_ctlOf_ne (s : State) {j : Nat} (h : j ≠ k) : (s.busSeen k).ctlOf j = s.ctlOf j := by
  obtain ⟨f, hf⟩ := s.busSeen_eq k
  rw [hf, State.ctlOf_modCtl_ne _ _ h]
  exact State.ctlOf_modCtl_ne _ _ h _

theorem State.busSeen_ctlOf (s : State) (k : Nat) :
    (s.busSeen k).ctlOf k = { (canValid k (s.restricted k) (s.ctlOf k)).1 with endAt := s.now } := by
  obtain ⟨f, hf⟩ := s.busSeen_eq k
  rw [hf, State.ctlOf_modCtl]
  exact congrArg (fun c : CanCtl => { c with endAt := s.now }) (State.ctlOf_modCtl ..)

/-- The counters of what becomes of a received frame. -/
def CanCtl.rxCounts (c : CanCtl) : Nat × Nat × Nat × Nat × Nat × Nat :=
  (c.rxRemote, c.rxReject, c.rxFormat, c.rxLocked, c.rxNoMatch, c.msgLost)

/-- A valid frame is not counted before it is known where it goes. -/
theorem State.busSeen_rxCounts (s : State) (k : Nat) : ((s.busSeen k).ctlOf k).rxCounts = (s.ctlOf k).rxCounts := by
  have hvalid := canValid_eq k (s.ctlOf k) (s.restricted k)
  rw [State.busSeen_ctlOf]
  exact (congrArg CanCtl.rxCounts hvalid).trans rfl

theorem State.busSeen_objs (s : State) (k : Nat) : (s.busSeen k).can.objs = s.can.objs := by
  obtain ⟨f, hf⟩ := s.busSeen_eq k
  rw [hf]
  rfl

theorem State.busFrame_remote (hr : m.remote = true) :
    s.busFrame k m = (s.busSeen k).modCtl k fun c => { c with rxRemote := inc16 c.rxRemote } := by
  unfold State.busFrame
  exact if_pos hr

theorem State.busFrame_request (hr : m.remote = false) (hq : isRequest s.im k m = true) : s.busFrame k m = (s.busSeen k).tpFrame k m := by
  unfold State.busFrame
  dsimp only
  rw [if_neg (by simp [hr]), if_pos hq]
  rfl

theorem State.busFrame_filtered (hr : m.remote = false) (hq : isRequest s.im k m = false) :
    s.busFrame k m = (s.busSeen k).filterFrame k m := by
  unfold State.busFrame
  dsimp only
  rw [if_neg (by simp [hr]), if_neg (by simp [hq])]
  rfl

/-- The transport finds its state and the instant as they were before the controller counted. -/
theorem State.busSeen_received (s : State) (k : Nat) (data : List Byte) :
    isoReceive (s.busSeen k).now data (tabGet {} (s.busSeen k).can.iso k) = isoReceive s.now data (tabGet {} s.can.iso k) := by
  obtain ⟨f, hf⟩ := s.busSeen_eq k
  rw [hf]
  rfl

theorem State.tpFrame_part (h : (isoReceive s.now m.data (tabGet {} s.can.iso k)).whole = none) :
    s.tpFrame k m = s.tpTaken k (isoReceive s.now m.data (tabGet {} s.can.iso k)) := by
  unfold State.tpFrame
  dsimp only
  rw [h]
  rfl

theorem State.tpFrame_whole {b : List Byte} (h : (isoReceive s.now m.data (tabGet {} s.can.iso k)).whole = some b) :
    s.tpFrame k m = (s.tpTaken k (isoReceive s.now m.data (tabGet {} s.can.iso k))).messageIn (3 + k) b := by
  unfold State.tpFrame
  dsimp only
  rw [h]
  rfl

/-- A frame of the transport stays with the transport and the counter of its port. -/
theorem State.tpTaken_port (s : State) (k : Nat) (r : IsoRx) :
    (s.tpTaken k r).portOf (3 + k) = { s.portOf (3 + k) with tpDrop := satN 16 ((s.portOf (3 + k)).tpDrop + r.drops) } :=
  State.portOf_modPortSt ..

theorem State.tpTaken_iso (s : State) (k : Nat) (r : IsoRx) : tabGet {} (s.tpTaken k r).can.iso k = r.tp := State.isoOf_modIso ..

/-- What a port defers is no matter of its transport. -/
theorem State.tpTaken_holdsBack (s : State) (k : Nat) (r : IsoRx) : (s.tpTaken k r).holdsBack (3 + k) = s.holdsBack (3 + k) := by
  unfold State.holdsBack
  rw [State.tpTaken_port]
  rfl

theorem State.busSeen_holdsBack (s : State) (k i : Nat) : (s.busSeen k).holdsBack i = s.holdsBack i := by
  obtain ⟨f, hf⟩ := s.busSeen_eq k
  rw [hf]
  rfl

theorem State.messageIn_waits {i : Nat} {b : List Byte} (h : s.holdsBack i = true) : s.messageIn i b = s.queueRx i (.message b) := if_pos h

theorem State.messageIn_goes {i : Nat} {b : List Byte} (h : s.holdsBack i = false) : s.messageIn i b = s.packetIn i 0 0 b :=
  if_neg (by simp [h])

/-- The filters decide for one controller and at most one object. -/
theorem State.filterFrame_ctlOf_ne {j : Nat} (h : j ≠ k) : (s.filterFrame k m).ctlOf j = s.ctlOf j := by
  unfold State.filterFrame
  split <;> exact State.ctlOf_modCtl_ne _ _ h _

theorem State.filterFrame_store {o : Nat} (h : canDecide s.im k m s.can.objs = .store o) :
    let u := s.filterFrame k m
    u.objOf o = (canStore m (s.objOf o)).1 ∧ (∀ j, j ≠ o → u.objOf j = s.objOf j) ∧
      (u.ctlOf k).msgLost = if (s.objOf o).new then inc16 (s.ctlOf k).msgLost else (s.ctlOf k).msgLost := by
  have hu : s.filterFrame k m = (s.modObj o fun _ => (canStore m (s.objOf o)).1).modCtl k fun c =>
      if (s.objOf o).new then { c with msgLost := inc16 c.msgLost } else c := by
    unfold State.filterFrame
    rw [h]
    rfl
  rw [hu]
  refine ⟨?_, fun j hj => ?_, ?_⟩
  · rw [State.objOf_modCtl, State.objOf_modObj]
  · rw [State.objOf_modCtl, State.objOf_modObj_ne _ _ hj]
  rw [State.ctlOf_modCtl]
  exact apply_ite CanCtl.msgLost ..

end

section
variable {s : State} {k : Nat} {m : CanMsg}

/-- A decision that stores nothing counts once at the controller. -/
theorem State.filterFrame_counts {f : CanCtl → CanCtl} (hu : s.filterFrame k m = s.modCtl k f) :
    (s.filterFrame k m).ctlOf k = f (s.ctlOf k) ∧ (s.filterFrame k m).can.objs = s.can.objs := by
  rw [hu]
  exact ⟨State.ctlOf_modCtl .., rfl⟩

theorem State.filterFrame_reject (h : canDecide s.im k m s.can.objs = .reject) :
    s.filterFrame k m = s.modCtl k fun c => { c with rxReject := inc16 c.rxReject } := by
  unfold State.filterFrame
  rw [h]

theorem State.filterFrame_format (h : canDecide s.im k m s.can.objs = .format) :
    s.filterFrame k m = s.modCtl k fun c => { c with rxFormat := inc16 c.rxFormat } := by
  unfold State.filterFrame
  rw [h]

theorem State.filterFrame_locked (h : canDecide s.im k m s.can.objs = .locked) :
    s.filterFrame k m = s.modCtl k fun c => { c with rxLocked := inc16 c.rxLocked } := by
  unfold State.filterFrame
  rw [h]

theorem State.filterFrame_noMatch (h : canDecide s.im k m s.can.objs = .noMatch) :
    s.filterFrame k m = s.modCtl k fun c => { c with rxNoMatch := inc16 c.rxNoMatch } := by
  unfold State.filterFrame
  rw [h]

end

/-! ## Messages that are taken, and errors -/

section
variable {t k o : Nat} {s : State}

/-- The message of object `o` is read out of its controller. -/
def State.objectRead (o : Nat) (s : State) : State := s.modObj o fun y => { y with new := false, lostMsg := false }

theorem canMessageTake_goes {poison : Bool} (ho : o < 512) (hm : s.mode = .running) (hen : coEn s.im o = true) (hrx : coTx s.im o = false)
    (hnew : (s.objOf o).new = true) : exec (.canMessageTake t o poison) s = .next (if poison
      then ((s.tick t).objectRead o).modCtl (o / 128) fun c => { c with msgLost := inc16 c.msgLost } else (s.tick t).takeMessage o) := by
  have hcond : (s.live && coEn s.im o && !coTx s.im o && (s.objOf o).new) = true := by simp [State.live, hm, hen, hrx, hnew]
  dsimp only [exec]
  exact act_goes (decide_eq_true ho) hcond

theorem State.takeMessage_standby (hrole : s.unt.pair.role = 2) :
    s.takeMessage o = (s.objectRead o).forward true 3 o (.can o (s.objOf o).msg) := if_pos hrole

theorem State.takeMessage_replay (hrole : s.unt.pair.role ≠ 2) (hreplay : s.port.replay = true) : s.takeMessage o = s.objectRead o :=
  (if_neg hrole).trans (if_pos hreplay)

theorem State.takeMessage_stamps (hrole : s.unt.pair.role ≠ 2) (hreplay : s.port.replay = false) :
    s.takeMessage o = (s.objectRead o).stampEntry 3 o (.can o (s.objOf o).msg) :=
  (if_neg hrole).trans (if_neg (by simp [hreplay]))

/-- Whatever becomes of the message, its object is read and nothing else of CAN changes. -/
theorem State.takeMessage_can (s : State) (o : Nat) : (s.takeMessage o).can = (s.objectRead o).can := by
  unfold State.takeMessage
  dsimp only
  split
  · exact (State.sameBut_of_rest (State.forward_rest _ _ _ _ _ (List.Subset.refl _))).2.2 .can (by decide)
  · split
    · rfl
    · exact (State.stampEntry_sameBut ..).2.2 .can (by decide)

/-- What a standby that may forward sends on (R57). -/
theorem State.forward_link (hp : s.paired = true) (hf : s.forwards = true) (order index : Nat) (body : EntryBody) :
    s.forward true order index body = s.modPort fun p => { p with
      wire := p.wire ++ [.link (.entry s.fr.frameNo { order := order, index := index, body := body })] } := by
  have hup : s.linkUp = true := by
    simp only [State.forwards, Bool.and_eq_true] at hf
    exact hf.1
  unfold State.forward State.linkSend
  rw [hf, hp, hup]
  rfl

theorem State.forward_inp (ok : Bool) (order index : Nat) (body : EntryBody) (s : State) : (s.forward ok order index body).inp = s.inp :=
  (State.sameBut_of_rest (State.forward_rest _ _ _ _ _ (List.Subset.refl _))).2.2 .inp (by decide)

theorem canRxError_goes {err : Nat} {eight : Bool} (hk : k < 4) (hon : s.canOn k = true) (h1 : 1 ≤ err) (h6 : err ≤ 6) :
    exec (.canRxError t k err eight) s = .next (if s.restricted k then (s.tick t).modCtl k fun c => { c with lec := err }
      else (s.tick t).setCtl k (ctlRxError k err eight (s.ctlOf k))) := by
  have hcond : (s.canOn k && decide (1 ≤ err ∧ err ≤ 6)) = true := by simp [hon, h1, h6]
  dsimp only [exec]
  exact act_goes (decide_eq_true hk) hcond

theorem State.setCtl_ctlOf (s : State) (k : Nat) (r : CanCtl × List EvReq) : (s.setCtl k r).ctlOf k = r.1 := by
  obtain ⟨f, hf⟩ := s.setCtl_modRecd k r
  rw [hf]
  exact State.ctlOf_modCtl ..

theorem State.setCtl_ctlOf_ne (s : State) {j : Nat} (h : j ≠ k) (r : CanCtl × List EvReq) : (s.setCtl k r).ctlOf j = s.ctlOf j := by
  obtain ⟨f, hf⟩ := s.setCtl_modRecd k r
  rw [hf]
  exact State.ctlOf_modCtl_ne _ _ h _

theorem canProtocolException_goes {fmt : Nat} (hk : k < 4) (hon : s.canOn k = true) (h : ctlProto s.im k < fmt) :
    exec (.canProtocolException t k fmt) s = .next ((s.tick t).modCtl k fun c => { c with protoExc := inc16 c.protoExc }) := by
  have hcond : (s.canOn k && decide (ctlProto s.im k < fmt)) = true := by simp [hon, h]
  dsimp only [exec]
  exact act_goes (decide_eq_true hk) hcond

end

/-- Settles O37: a valid frame is counted by its controller, and then goes to the transport or where the filters decide; a message that is
taken leaves its object as read. -/
theorem canReception : Obligations.CanReception := by
  refine ⟨fun t k m s hk hon hfmt => ?_,
    fun t o poison s ho hm hen hrx hnew => ?_, fun t k err eight s hk hon h1 h6 => ?_, fun t k fmt s hk hon h => ?_⟩
  have hcounts := (s.tick t).busSeen_rxCounts k
  simp only [CanCtl.rxCounts, Prod.mk.injEq] at hcounts
  obtain ⟨hremote, hreject, hformat, hlocked, hnone, hlost⟩ := hcounts
  refine ⟨_, canFrameReceived_goes hk hon hfmt, fun hr => ?_,
      fun hr hq => ⟨fun hw => ?_, fun b hw hback => ?_, fun b p hw hback hp hrole hsilent => ?_⟩, fun hr hq => ?_⟩
  · rw [State.busFrame_remote hr]
    refine ⟨?_, State.busSeen_objs ..⟩
    rw [State.ctlOf_modCtl]
    exact congrArg inc16 hremote
  · rw [State.busFrame_request (s := s.tick t) hr hq, State.tpFrame_part (by rw [State.busSeen_received]; exact hw)]
    obtain ⟨f, hf⟩ := (s.tick t).busSeen_eq k
    rw [State.busSeen_received, State.tpTaken_iso, State.tpTaken_port, hf]
    exact ⟨rfl, rfl, rfl⟩
  · rw [State.busFrame_request (s := s.tick t) hr hq, State.tpFrame_whole (by rw [State.busSeen_received]; exact hw),
      State.messageIn_waits (by rw [State.tpTaken_holdsBack, State.busSeen_holdsBack]; exact hback), State.busSeen_received]
    refine ⟨State.tpTaken_iso .., ?_, ?_⟩
    · obtain ⟨f, hf⟩ := (s.tick t).busSeen_eq k
      rw [hf]
      rfl
    · rw [State.queueRx, State.portOf_modPortSt, State.tpTaken_port]
      obtain ⟨f, hf⟩ := (s.tick t).busSeen_eq k
      rw [hf]
      rfl
  · rw [State.busFrame_request (s := s.tick t) hr hq, State.tpFrame_whole (by rw [State.busSeen_received]; exact hw),
      State.messageIn_goes (by rw [State.tpTaken_holdsBack, State.busSeen_holdsBack]; exact hback), State.busSeen_received]
    obtain ⟨f, hf⟩ := (s.tick t).busSeen_eq k
    rw [hf, State.packetIn_stamps (by exact hp) (by exact hrole) (by exact hsilent)]
    refine ⟨?_, State.stampEntry_inp_congr rfl rfl rfl⟩
    rw [(State.stampEntry_sameBut ..).2.2 .can (by decide)]
    exact State.tpTaken_iso ..
  · have hdecide : canDecide ((s.tick t).busSeen k).im k m ((s.tick t).busSeen k).can.objs = canDecide s.im k m s.can.objs := by
      obtain ⟨f, hf⟩ := (s.tick t).busSeen_eq k
      rw [hf]
      rfl
    have hobjs := (s.tick t).busSeen_objs k
    rw [State.busFrame_filtered (s := s.tick t) hr hq, ← hdecide]
    refine ⟨fun j hj => ?_, fun o ho => ?_, fun h => ?_, fun h => ?_, fun h => ?_, fun h => ?_⟩
    · rw [State.filterFrame_ctlOf_ne hj, State.busSeen_ctlOf_ne _ hj]
      rfl
    · obtain ⟨hself, hother, hloss⟩ := State.filterFrame_store ho
      have hobj (j : Nat) : ((s.tick t).busSeen k).objOf j = s.objOf j := congrArg (fun l : Tab CanObj => tabGet ({} : CanObj) l j) hobjs
      rw [hobj, hlost] at hloss
      exact ⟨hself.trans (by rw [hobj]), fun j hj => (hother j hj).trans (hobj j), hloss⟩
    · obtain ⟨hctl, hobj⟩ := State.filterFrame_counts (State.filterFrame_reject h)
      exact ⟨(congrArg CanCtl.rxReject hctl).trans (congrArg inc16 hreject), hobj.trans hobjs⟩
    · obtain ⟨hctl, hobj⟩ := State.filterFrame_counts (State.filterFrame_format h)
      exact ⟨(congrArg CanCtl.rxFormat hctl).trans (congrArg inc16 hformat), hobj.trans hobjs⟩
    · obtain ⟨hctl, hobj⟩ := State.filterFrame_counts (State.filterFrame_locked h)
      exact ⟨(congrArg CanCtl.rxLocked hctl).trans (congrArg inc16 hlocked), hobj.trans hobjs⟩
    · obtain ⟨hctl, hobj⟩ := State.filterFrame_counts (State.filterFrame_noMatch h)
      exact ⟨(congrArg CanCtl.rxNoMatch hctl).trans (congrArg inc16 hnone), hobj.trans hobjs⟩
  · have hgoes := canMessageTake_goes (t := t) (poison := poison) ho hm hen hrx hnew
    have hread : (((s.tick t).objectRead o).objOf o = { s.objOf o with new := false, lostMsg := false }) ∧
        ∀ j, j ≠ o → ((s.tick t).objectRead o).objOf j = s.objOf j :=
      ⟨State.objOf_modObj .., fun j hj => State.objOf_modObj_ne _ _ hj _⟩
    cases poison with
    | true =>
      rw [if_pos rfl] at hgoes
      refine ⟨_, hgoes, hread.1, hread.2, exec_sameBut hgoes, fun _ => ⟨rfl, rfl, ?_⟩, nofun⟩
      rw [State.ctlOf_modCtl]
      rfl
    | false =>
      rw [if_neg Bool.false_ne_true] at hgoes
      have hcan := (s.tick t).takeMessage_can o
      have hobj (j : Nat) : ((s.tick t).takeMessage o).objOf j = ((s.tick t).objectRead o).objOf j :=
        congrArg (fun c : CanPart => tabGet ({} : CanObj) c.objs j) hcan
      refine ⟨_, hgoes, (hobj o).trans hread.1, fun j hj => (hobj j).trans (hread.2 j hj), exec_sameBut hgoes, nofun,
        fun _ => ⟨(congrArg CanPart.ctls hcan).trans rfl, fun h => ?_, fun hrole hpaired hf => ?_, fun hrole hreplay => ?_⟩⟩
      · by_cases hrole : s.unt.pair.role = 2
        · exact (congrArg State.inp (State.takeMessage_standby (s := s.tick t) hrole)).trans (State.forward_inp ..)
        · exact (congrArg State.inp (State.takeMessage_replay (s := s.tick t) hrole (h.resolve_left hrole))).trans rfl
      · refine (congrArg (fun x => x.port.wire) ((State.takeMessage_standby (s := s.tick t) hrole).trans
          (State.forward_link (s := (s.tick t).objectRead o) hpaired hf ..))).trans ?_
        rfl
      · have hstamp := State.takeMessage_stamps (s := s.tick t) (o := o) hrole hreplay
        have hinp : ((s.tick t).takeMessage o).inp = ((s.tick t).stampEntry 3 o (.can o (s.objOf o).msg)).inp :=
          (congrArg State.inp hstamp).trans (State.stampEntry_inp_congr rfl rfl rfl)
        refine ⟨?_, hinp, ?_⟩
        · rw [hstamp]
          exact (State.stampEntry_sameBut 3 o _ ((s.tick t).objectRead o)).2.2 .wire (by decide)
        · exact (congrArg (fun i : InPart => i.gather.length) hinp).trans (State.stampEntry_length _ _ _ (s := s.tick t) hrole hreplay)
  · have hgoes := canRxError_goes (t := t) (eight := eight) hk hon h1 h6
    refine ⟨_, hgoes, fun j hj => ?_, exec_sameBut hgoes, fun hr => ?_, fun hr => ?_⟩
    · split
      · exact State.ctlOf_modCtl_ne _ _ hj _
      · exact State.setCtl_ctlOf_ne _ hj _
    · rw [if_pos hr]
      exact State.ctlOf_modCtl ..
    · rw [if_neg (by simp [hr]), State.setCtl_ctlOf]
      exact ⟨rfl, ctlRxError_counts ..⟩
  · have hgoes := canProtocolException_goes (t := t) hk hon h
    exact ⟨_, hgoes, State.ctlOf_modCtl .., fun j hj => State.ctlOf_modCtl_ne _ _ hj _, rfl, exec_sameBut hgoes⟩

end Sys2Proof.Machine
end

section
/-! PROOFS. CAN transmission (R395 to R399), the time master (R404, R405) and the timeouts of the transport (R318). -/

namespace Sys2Proof.Machine

/-! ## Counters of a controller that sends -/

section
variable (k inst : Nat) (c : CanCtl)

/-- A frame that was sent lowers TEC, is counted and ends the run without acknowledgement (R398, R402). -/
theorem ctlSent_eq : let d := (canSettle k { c with tec := c.tec - 1, txOk := inc16 c.txOk }).1
    (ctlSent k inst c).1 = { c with tec := c.tec - 1, txOk := inc16 c.txOk, ackRun := 0, noAck := false, state := d.state
                                    recovering := d.recovering, busOff := d.busOff, tmRun := d.tmRun, refPend := d.refPend
                                    cycleAt := d.cycleAt } :=
  congrArg (fun d : CanCtl => { d with ackRun := 0, noAck := false }) (canSettle_eq k { c with tec := c.tec - 1, txOk := inc16 c.txOk })

theorem ctlSent_refPend (h : c.refPend = false) : (ctlSent k inst c).1.refPend = false :=
  canSettle_refPend k { c with tec := c.tec - 1, txOk := inc16 c.txOk } h

/-- An attempt that failed leaves its code, and the number of requests given up as it was. -/
theorem ctlFailed_code (err : Nat) (dominant : Bool) :
    (ctlFailed k inst err dominant c).1.lec = err ∧ (ctlFailed k inst err dominant c).1.txRetry = c.txRetry := by
  have heq (d : CanCtl) : (canSettle k d).1.lec = d.lec ∧ (canSettle k d).1.txRetry = d.txRetry := by
    have h := canSettle_eq k d
    exact ⟨(congrArg CanCtl.lec h).trans rfl, (congrArg CanCtl.txRetry h).trans rfl⟩
  unfold ctlFailed
  exact heq _

end

/-! ## A frame that is sent -/

section
variable {t k : Nat} {who : CanWho} {s : State}

/-- The frame of `who` has been sent, before the controller counts it. -/
def State.sentOut (k : Nat) (who : CanWho) (s : State) : State := (s.frameSent k who).modCtl k fun c => { c with endAt := s.now }

/-- The frame of `who` has been sent and counted. -/
def State.txDone (k : Nat) (who : CanWho) (s : State) : State :=
  (s.sentOut k who).setCtl k (ctlSent k (whoInst k who) ((s.sentOut k who).ctlOf k))

theorem canTxSuccess_goes (hk : k < 4) (h : (s.tick t).attempts k who = true) :
    exec (.canTxSuccess t k who) s = .next ((s.tick t).txDone k who) := by
  dsimp only [exec]
  exact act_goes (decide_eq_true hk) h

/-- What a change of one controller with its events leaves. -/
theorem State.setCtl_keeps (s : State) (k : Nat) (r : CanCtl × List EvReq) :
    (s.setCtl k r).can.objs = s.can.objs ∧ (s.setCtl k r).can.iso = s.can.iso ∧ (s.setCtl k r).port = s.port := by
  obtain ⟨f, hf⟩ := s.setCtl_modRecd k r
  rw [hf]
  exact ⟨rfl, rfl, rfl⟩

theorem State.frameSent_transport {f : List Byte × Nat} (h : isoFrame (tpDl s.im k) (tabGet {} s.can.iso k) = some f) :
    s.frameSent k .transport = (s.modIso k fun _ => isoSent s.now (tpDl s.im k) (tabGet {} s.can.iso k)).busSent k
      { id := poRespId s.im (3 + k), xtd := poXtd s.im (3 + k), fmt := b2n (poFd s.im (3 + k)), data := f.1 } := by
  simp only [State.frameSent, h]

/-- What the controller counts of a frame that went out. -/
theorem State.txDone_counts (s : State) (k : Nat) (who : CanWho) : let c := (s.sentOut k who).ctlOf k
    let d := (s.txDone k who).ctlOf k
    d.txOk = inc16 c.txOk ∧ d.ackRun = 0 ∧ d.noAck = false ∧ d.tec = c.tec - 1 ∧ d.cycle = c.cycle ∧
      (c.refPend = false → d.refPend = false) := by
  dsimp only
  rw [State.txDone, State.setCtl_ctlOf]
  generalize (s.sentOut k who).ctlOf k = c
  have heq := ctlSent_eq k (whoInst k who) c
  exact ⟨(congrArg CanCtl.txOk heq).trans rfl, (congrArg CanCtl.ackRun heq).trans rfl, (congrArg CanCtl.noAck heq).trans rfl,
    (congrArg CanCtl.tec heq).trans rfl, (congrArg CanCtl.cycle heq).trans rfl, ctlSent_refPend k _ c⟩

/-- Beside the counters of its controller, what goes out is a matter of the frame alone. -/
theorem State.txDone_keeps (s : State) (k : Nat) (who : CanWho) : (s.txDone k who).can.objs = (s.frameSent k who).can.objs ∧
    (s.txDone k who).can.iso = (s.frameSent k who).can.iso ∧ (s.txDone k who).port = (s.frameSent k who).port ∧
      ∀ j, j ≠ k → (s.txDone k who).ctlOf j = (s.frameSent k who).ctlOf j := by
  obtain ⟨hobjs, hiso, hport⟩ := (s.sentOut k who).setCtl_keeps k (ctlSent k (whoInst k who) ((s.sentOut k who).ctlOf k))
  refine ⟨hobjs, hiso, hport, fun j hj => ?_⟩
  rw [State.txDone, State.setCtl_ctlOf_ne _ hj, State.sentOut, State.ctlOf_modCtl_ne _ _ hj]

theorem State.txDone_object (s : State) (k i : Nat) (stale : Bool) : let u := s.txDone k (.object i stale)
    u.objOf (128 * k + i) = objSent (coTt s.im (128 * k + i)) stale (s.objOf (128 * k + i)) ∧
      u.port.wire = s.port.wire ++ [.can k (if stale then (s.objOf (128 * k + i)).was else (s.objOf (128 * k + i)).msg)] ∧
      (u.ctlOf k).txOk = inc16 (s.ctlOf k).txOk ∧ (u.ctlOf k).ackRun = 0 ∧ (u.ctlOf k).noAck = false ∧
      (u.ctlOf k).tec = (s.ctlOf k).tec - 1 ∧ ∀ j, j ≠ k → u.ctlOf j = s.ctlOf j := by
  have hctl : (s.sentOut k (.object i stale)).ctlOf k = { s.ctlOf k with endAt := s.now } := State.ctlOf_modCtl ..
  obtain ⟨hok, hrun, hack, htec, -⟩ := s.txDone_counts k (.object i stale)
  obtain ⟨hobjs, -, hport, hother⟩ := s.txDone_keeps k (.object i stale)
  rw [hctl] at hok htec
  refine ⟨?_, congrArg PortPart.wire hport, hok, hrun, hack, htec, hother⟩
  exact (congrArg (fun l : Tab CanObj => tabGet ({} : CanObj) l (128 * k + i)) hobjs).trans (State.objOf_modObj s _ _)

theorem State.txDone_reference (s : State) (k : Nat) : let u := s.txDone k .reference
    (u.ctlOf k).refPend = false ∧ (u.ctlOf k).cycle = (if (s.ctlOf k).tmRun then ((s.ctlOf k).cycle + 1) % 2 ^ ctlMatrix s.im k else 0) ∧
      u.port.wire = s.port.wire ++ [.can k (refMsg s.im k (u.ctlOf k).cycle)] := by
  have hctl : (s.sentOut k .reference).ctlOf k = { ctlReference s.im k s.now (s.ctlOf k) with endAt := s.now } :=
    (State.ctlOf_modCtl ..).trans (congrArg (fun c : CanCtl => { c with endAt := s.now }) (State.ctlOf_modCtl s _ _))
  obtain ⟨-, -, -, -, hcycle, hpend⟩ := s.txDone_counts k .reference
  obtain ⟨-, -, hport, -⟩ := s.txDone_keeps k .reference
  rw [hctl] at hcycle hpend
  refine ⟨hpend rfl, hcycle, (congrArg PortPart.wire hport).trans ?_⟩
  rw [hcycle]
  rfl

theorem State.txDone_transport (s : State) {k : Nat} {f : List Byte × Nat} (h : isoFrame (tpDl s.im k) (tabGet {} s.can.iso k) = some f) :
    let u := s.txDone k .transport
    (u.ctlOf k).ackRun = 0 ∧ tabGet {} u.can.iso k = isoSent s.now (tpDl s.im k) (tabGet {} s.can.iso k) ∧ u.can.objs = s.can.objs ∧
      u.port.wire = s.port.wire ++ [.can k
        { id := poRespId s.im (3 + k), xtd := poXtd s.im (3 + k), fmt := b2n (poFd s.im (3 + k)), data := f.1 }] := by
  obtain ⟨-, hrun, -⟩ := s.txDone_counts k .transport
  obtain ⟨hobjs, hiso, hport, -⟩ := s.txDone_keeps k .transport
  rw [State.frameSent_transport h] at hobjs hiso hport
  refine ⟨hrun, ?_, hobjs, congrArg PortPart.wire hport⟩
  rw [hiso]
  exact State.isoOf_modIso s _ _

/-! ## Attempts that fail -/

/-- What an attempt that failed makes of the requests, and its events. -/
def State.attemptLost (k : Nat) (who : CanWho) (s : State) : State × List EvReq :=
  match who with
  | .object i stale => s.objError k (128 * k + i) stale
  | _ => (s, [])

/-- The attempt of `who` has failed and is counted. -/
def State.txFailed (k : Nat) (who : CanWho) (err : Nat) (dominant : Bool) (s : State) : State :=
  let r := s.attemptLost k who
  let c := ctlFailed k (whoInst k who) err dominant { r.1.ctlOf k with endAt := s.now }
  r.1.setCtl k (c.1, c.2 ++ r.2)

theorem canTxError_goes {err : Nat} {dominant : Bool} (hk : k < 4) (h : (s.tick t).attempts k who = true) (h1 : 1 ≤ err) (h6 : err ≤ 6) :
    exec (.canTxError t k who err dominant) s = .next ((s.tick t).txFailed k who err dominant) := by
  have hcond : ((s.tick t).attempts k who && decide (1 ≤ err ∧ err ≤ 6)) = true := by simp [h, h1, h6]
  dsimp only [exec]
  cases who <;> exact act_goes (decide_eq_true hk) hcond

/-- What became of the request stands, and the controller has the code of the error. -/
theorem State.txFailed_keeps (s : State) (k : Nat) (who : CanWho) (err : Nat) (dominant : Bool) :
    let u := s.txFailed k who err dominant
    let x := (s.attemptLost k who).1
    (u.ctlOf k).lec = err ∧ (u.ctlOf k).txRetry = (x.ctlOf k).txRetry ∧ u.can.objs = x.can.objs ∧ u.can.iso = x.can.iso ∧
      u.port = x.port := by
  obtain ⟨hcode, hretry⟩ := ctlFailed_code k (whoInst k who) { (s.attemptLost k who).1.ctlOf k with endAt := s.now } err dominant
  dsimp only
  rw [State.txFailed, State.setCtl_ctlOf]
  exact ⟨hcode, hretry, State.setCtl_keeps ..⟩

theorem State.objError_port (s : State) (k o : Nat) (stale : Bool) : (s.objError k o stale).1.port = s.port := by
  unfold State.objError
  dsimp only
  split <;> rfl

/-- Every attempt with the object's own frame counts (R396). -/
theorem State.objError_errors (s : State) (k o : Nat) : ((s.objError k o false).1.objOf o).errors = (s.objOf o).errors + 1 := by
  have hf : (objFailed s.im o false (s.objOf o)).1.errors = (s.objOf o).errors + 1 := by
    unfold objFailed
    simp only [Bool.false_eq_true, if_false]
    split <;> rfl
  unfold State.objError
  dsimp only
  split
  · rw [State.objOf_modCtl, State.objOf_modObj]
    exact hf
  · rw [State.objOf_modObj]
    exact hf

/-- A request of an object ends once its errors reach RETRY, unless the frame was a stale one (R396, R397). -/
theorem State.objError_request (s : State) (k o : Nat) (h : coRetry s.im o ≠ 0 ∧ coRetry s.im o ≤ (s.objOf o).errors + 1) :
    let u := (s.objError k o false).1
    (u.objOf o).txPend = false ∧ (u.objOf o).result = 0x0A01 ∧ (u.ctlOf k).txRetry = inc16 (s.ctlOf k).txRetry := by
  have hf : objFailed s.im o false (s.objOf o) =
      ({ s.objOf o with errors := (s.objOf o).errors + 1, txPend := false, result := 0x0A01, inWindow := false }, true) := by
    simp [objFailed, h]
  unfold State.objError
  rw [hf]
  dsimp only
  rw [if_pos rfl, State.objOf_modCtl, State.objOf_modObj, State.ctlOf_modCtl]
  exact ⟨rfl, rfl, rfl⟩

theorem State.objError_goesOn (s : State) (k o : Nat) (h : coRetry s.im o = 0 ∨ (s.objOf o).errors + 1 < coRetry s.im o) :
    let u := (s.objError k o false).1
    (u.objOf o).txPend = (s.objOf o).txPend ∧ (u.ctlOf k).txRetry = (s.ctlOf k).txRetry := by
  have hno : ¬(coRetry s.im o ≠ 0 ∧ coRetry s.im o ≤ (s.objOf o).errors + 1) := by omega
  have hf : objFailed s.im o false (s.objOf o) = ({ s.objOf o with errors := (s.objOf o).errors + 1, inWindow := false }, false) := by
    simp only [objFailed, hno, Bool.false_eq_true, if_false]
  unfold State.objError
  rw [hf]
  dsimp only
  rw [if_neg Bool.false_ne_true, State.objOf_modObj]
  exact ⟨rfl, rfl⟩

theorem State.objError_stale (s : State) (k o : Nat) : let u := (s.objError k o true).1
    (u.objOf o).errors = 0 ∧ (u.objOf o).txPend = (s.objOf o).txPend := by
  have hf : objFailed s.im o true (s.objOf o) = ({ s.objOf o with errors := 0, inWindow := false }, false) := rfl
  unfold State.objError
  rw [hf]
  dsimp only
  rw [if_neg Bool.false_ne_true, State.objOf_modObj]
  exact ⟨rfl, rfl⟩

/-! ## Recovery, the time master and timeouts -/

theorem canBusoffRecovery_goes {seen : Nat} (hk : k < 4) (hm : s.mode = .running) (hen : ctlEn s.im k = true) (hoff : (s.ctlOf k).state = 2)
    (hseen : 128 ≤ seen) : exec (.canBusoffRecovery t k seen) s = .next ((s.tick t).setCtl k (ctlRecover k (s.ctlOf k))) := by
  have hcond : (s.live && ctlEn s.im k && decide ((s.ctlOf k).state = 2) && decide (128 ≤ seen)) = true := by
    simp [State.live, hm, hen, hoff, hseen]
  dsimp only [exec]
  exact act_goes (decide_eq_true hk) hcond

theorem canReferenceMessage_goes (hk : k < 4) (hsends : s.canSends k = true) (htm : ctlTmEn s.im k = true)
    (hpend : (s.ctlOf k).refPend = false) (hdue : ∀ a, (s.ctlOf k).cycleAt = some a → a + usC (ctlCycleLen s.im k) ≤ max s.now t) :
    exec (.canReferenceMessage t k) s = .next ((s.tick t).modCtl k fun c => { c with refPend := true, refAt := max s.now t }) := by
  have hcond : (s.canSends k && ctlTmEn s.im k && !(s.ctlOf k).refPend && (match (s.ctlOf k).cycleAt with
      | some a => decide (a + usC (ctlCycleLen s.im k) ≤ max s.now t)
      | none => true)) = true := by
    rw [hsends, htm, hpend]
    split
    · next a ha => exact decide_eq_true (hdue a ha)
    · rfl
  dsimp only [exec]
  exact act_goes (decide_eq_true hk) hcond

/-- The window of object `o` has come in the current cycle. -/
def State.windowSeen (o : Nat) (idle : Bool) (s : State) : State :=
  s.modObj o fun x => { x with ttDone := (s.ctlOf (o / 128)).cycleAt, inWindow := idle }

/-- A window that finds the bus busy is missed. -/
def State.windowDone (o : Nat) (idle : Bool) (s : State) : State :=
  if idle then s.windowSeen o idle else (s.windowSeen o idle).modCtl (o / 128) fun c => { c with ttMiss := inc16 c.ttMiss }

theorem State.windowDone_objOf (s : State) (o j : Nat) (idle : Bool) : (s.windowDone o idle).objOf j = (s.windowSeen o idle).objOf j := by
  cases idle <;> rfl

theorem State.windowDone_ttMiss (s : State) (o : Nat) (idle : Bool) : ((s.windowDone o idle).ctlOf (o / 128)).ttMiss =
    if idle then (s.ctlOf (o / 128)).ttMiss else inc16 (s.ctlOf (o / 128)).ttMiss := by
  cases idle with
  | true => rfl
  | false => exact congrArg CanCtl.ttMiss (State.ctlOf_modCtl (s.windowSeen o false) (o / 128) fun c => { c with ttMiss := inc16 c.ttMiss })

theorem canTtWindow_goes {o : Nat} {idle : Bool} (ho : o < 512) (hsends : s.canSends (o / 128) = true)
    (hdue : ttDue s.im o (max s.now t) (s.ctlOf (o / 128)) = true) (hnew : (s.objOf o).ttDone ≠ (s.ctlOf (o / 128)).cycleAt) :
    exec (.canTtWindow t o idle) s = .next ((s.tick t).windowDone o idle) := by
  have hcond : (s.canSends (o / 128) && ttDue s.im o (max s.now t) (s.ctlOf (o / 128)) &&
      decide ((s.objOf o).ttDone ≠ (s.ctlOf (o / 128)).cycleAt)) = true := by
    rw [hsends, hdue, decide_eq_true hnew]
    rfl
  dsimp only [exec]
  exact act_goes (decide_eq_true ho) hcond

theorem isotpTimeout_goes (hk : k < 2) (hm : s.mode = .running) (h : 0 < (isoTimeout (max s.now t) (tabGet {} s.can.iso k)).2) :
    exec (.isotpTimeout t k) s = .next (((s.tick t).modIso k fun _ => (isoTimeout (max s.now t) (tabGet {} s.can.iso k)).1).modPortSt (3 + k)
      fun p => { p with tpDrop := satN 16 (p.tpDrop + (isoTimeout (max s.now t) (tabGet {} s.can.iso k)).2) }) := by
  have hcond : (s.live && decide (0 < (isoTimeout (max s.now t) (tabGet {} s.can.iso k)).2)) = true := by
    rw [decide_eq_true h, Bool.and_true, State.live, hm]
    rfl
  dsimp only [exec]
  exact act_goes (decide_eq_true hk) hcond

end

/-- Settles O38: each form by what its frame, its error or its mark makes of the object or the transport, and by what the controller
counts of it. -/
theorem canTransmission : Obligations.CanTransmission := by
  refine ⟨fun t k i stale s hk h => ?_, fun t k s hk h => ?_, fun t k f s hk h hf => ?_, fun t k err who dominant s hk h h1 h6 hwho => ?_,
    fun t k err i stale dominant s hk h h1 h6 => ?_, fun t k seen s hk hm hen hoff hseen => ?_, fun t k s hk hsends htm hpend hdue => ?_,
    fun t o idle s ho hsends hdue hnew => ?_, fun t k s hk hm h => ?_⟩
  · obtain ⟨hobj, hwire, hctl⟩ := (s.tick t).txDone_object k i stale
    refine ⟨_, canTxSuccess_goes hk h, hobj, fun htt hst => ?_, hwire, hctl⟩
    rw [hobj, hst]
    simp only [objSent, show coTt (s.tick t).im (128 * k + i) = false from htt, Bool.false_eq_true, if_false]
  · exact ⟨_, canTxSuccess_goes hk h, (s.tick t).txDone_reference k⟩
  · exact ⟨_, canTxSuccess_goes hk h, (s.tick t).txDone_transport hf⟩
  · have hlost : ((s.tick t).attemptLost k who).1 = s.tick t := by rcases hwho with rfl | rfl <;> rfl
    obtain ⟨hcode, -, hobjs, hiso, hport⟩ := (s.tick t).txFailed_keeps k who err dominant
    rw [hlost] at hobjs hiso hport
    exact ⟨_, canTxError_goes hk h h1 h6, hcode, hobjs, hiso, congrArg PortPart.wire hport⟩
  · obtain ⟨hcode, hretry, hobjs, -, hport⟩ := (s.tick t).txFailed_keeps k (.object i stale) err dominant
    have hobj (j : Nat) : ((s.tick t).txFailed k (.object i stale) err dominant).objOf j =
        ((s.tick t).objError k (128 * k + i) stale).1.objOf j := congrArg (fun l : Tab CanObj => tabGet ({} : CanObj) l j) hobjs
    refine ⟨_, canTxError_goes hk h h1 h6, hcode, ?_, fun hst => ?_, fun hst => ⟨?_, fun h0 he => ?_, fun hgo => ?_⟩⟩
    · exact congrArg PortPart.wire (hport.trans (State.objError_port ..))
    · subst hst
      rw [hobj]
      exact (s.tick t).objError_stale k (128 * k + i)
    · subst hst
      rw [hobj]
      exact (s.tick t).objError_errors k (128 * k + i)
    · subst hst
      obtain ⟨hpend, hresult, hcount⟩ := (s.tick t).objError_request k (128 * k + i) ⟨h0, he⟩
      rw [hobj, hretry]
      exact ⟨hpend, hresult, hcount⟩
    · subst hst
      obtain ⟨hpend, hcount⟩ := (s.tick t).objError_goesOn k (128 * k + i) hgo
      rw [hobj, hretry]
      exact ⟨hpend, hcount⟩
  · have hgoes := canBusoffRecovery_goes (t := t) hk hm hen hoff hseen
    refine ⟨_, hgoes, ?_, fun j hj => State.setCtl_ctlOf_ne _ hj _, (State.setCtl_keeps ..).1, exec_sameBut hgoes⟩
    rw [State.setCtl_ctlOf, ctlRecover, if_pos hoff]
  · have hgoes := canReferenceMessage_goes hk hsends htm hpend hdue
    exact ⟨_, hgoes, State.ctlOf_modCtl .., fun j hj => State.ctlOf_modCtl_ne _ _ hj _, exec_sameBut hgoes⟩
  · have hgoes := canTtWindow_goes (idle := idle) ho hsends hdue hnew
    refine ⟨_, hgoes, ?_, (s.tick t).windowDone_ttMiss o idle, fun j hj => ?_, exec_sameBut hgoes⟩
    · rw [State.windowDone_objOf]
      exact State.objOf_modObj (s.tick t) _ _
    · rw [State.windowDone_objOf]
      exact State.objOf_modObj_ne (s.tick t) _ hj _
  · have hgoes := isotpTimeout_goes hk hm h
    exact ⟨_, hgoes, State.isoOf_modIso (s.tick t) _ _, congrArg PortSt.tpDrop (State.portOf_modPortSt ..), exec_sameBut hgoes⟩

end Sys2Proof.Machine
end

section
/-! PROOFS. Packets that read (R311, R323, R328, R334 to R340, R393, R409, R518): what an accepted packet leaves of the state it is served
from, replies at once, and replies that hold the values of the open frame. -/

namespace Sys2Proof.Machine

/-! ## The state that an opcode finds -/

section
variable {h : PktHead} {opc : Nat} {s : State}

/-- A state with other sessions and another lease. -/
def State.reseat (l : Tab Session) (lease : Nat) (s : State) : State :=
  { s with port := { s.port with sess := l, owner := { s.port.owner with lease := lease } } }

/-- Acceptance writes sessions and the lease. -/
theorem State.accepted_eq (h : PktHead) (opc : Nat) (s : State) :
    s.accepted h opc = s.reseat (s.accepted h opc).port.sess (s.accepted h opc).port.owner.lease := by
  unfold State.accepted State.advance State.renewLease State.heardFrom
  dsimp only
  split <;> rfl

/-- What depends on neither sessions nor the lease is found as it was. -/
theorem State.of_accepted {α : Type} (f : State → α) (hf : ∀ (x : State) (l : Tab Session) (n : Nat), f (x.reseat l n) = f x) :
    f (s.accepted h opc) = f s := by
  rw [State.accepted_eq]
  exact hf ..

end

/-! ## Answers at once -/

section
variable {h : PktHead} {torn : Bool} {op : Op} {st : Nat} {body : State → List Byte} {s : State}

/-- An opcode that answers at once with what the state shows has no effect of its own. -/
theorem runRow_answers (hr : s.ready h (opCode op)) (hA : opAlarm op = false) (hw : op ≠ .warmRestart)
    (ho : runOp op torn (makeCaller (s.codeOf h.port) h.session (opCode op) h) (s.accepted h (opCode op)) =
      (s.accepted h (opCode op), .now st (body (s.accepted h (opCode op)))))
    (hf : ∀ (x : State) (l : Tab Session) (n : Nat), body (x.reseat l n) = body x) :
    ∃ u, runRow h true true torn op s = .next u ∧ s.onlyReplied u h (opCode op) st (body s) := by
  rw [State.of_accepted body hf] at ho
  exact runRow_onlyReplied hr (by simp [hA]) ho hw

/-- An opcode that is denied has no effect. -/
theorem runRow_denied (hr : s.ready h (opCode op)) (hA : opAlarm op = false) (hw : op ≠ .warmRestart)
    (ho : runOp op torn (makeCaller (s.codeOf h.port) h.session (opCode op) h) (s.accepted h (opCode op)) = deny st (s.accepted h (opCode op))) :
    ∃ u, runRow h true true torn op s = .next u ∧ s.onlyReplied u h (opCode op) st [] :=
  runRow_onlyReplied hr (by simp [hA]) ho hw

/-- An opcode that reads the open frame has no effect of its own. -/
theorem runRow_reads (hr : s.ready h (opCode op)) (hA : opAlarm op = false) (hw : op ≠ .warmRestart)
    (ho : runOp op torn (makeCaller (s.codeOf h.port) h.session (opCode op) h) (s.accepted h (opCode op)) = (s.accepted h (opCode op), .form))
    (hb : ∀ x : State, (x.formBody op).2 = body x)
    (hf : ∀ (x : State) (l : Tab Session) (n : Nat), body (x.reseat l n) = body x) :
    ∃ u, runRow h true true torn op s = .next u ∧ s.onlyReads u h op (body s) :=
  runRow_onlyReads hr (by simp [hA]) ho ((hb _).trans (State.of_accepted body hf)) hw

end

/-! ## Reads of the unit -/

section
variable {h : PktHead} {s : State}

theorem ping_replied (hr : s.ready h 0x0001) : ∃ u, exec (.ping h) s = .next u ∧
    s.onlyReplied u h 0x0001 stOk (packBytes 8 [(48, s.fr.frameNo), (8, s.pingRole), (1, b2n s.port.replay)]) :=
  runRow_answers (op := .ping) (torn := false) (body := fun x => packBytes 8 [(48, x.fr.frameNo), (8, x.pingRole), (1, b2n x.port.replay)])
    hr rfl (by decide) rfl fun _ _ _ => rfl

theorem readFrameStatus_replied (hr : s.ready h 0x0005) : ∃ u, exec (.readFrameStatus h) s = .next u ∧
    s.onlyReplied u h 0x0005 stOk s.frameStatus :=
  runRow_answers (op := .readFrameStatus) (torn := false) (body := State.frameStatus) hr rfl (by decide) rfl fun _ _ _ => rfl

theorem readRecorder_replied (hr : s.ready h 0x0502) : ∃ u, exec (.readRecorder h) s = .next u ∧
    s.onlyReplied u h 0x0502 stOk (recorderBlock s.recd) :=
  runRow_answers (op := .readRecorder) (torn := false) (body := fun x => recorderBlock x.recd) hr rfl (by decide) rfl fun _ _ _ => rfl

theorem readPair_replied (hr : s.ready h 0x0801) : ∃ u, exec (.readPair h) s = .next u ∧ s.onlyReplied u h 0x0801 stOk s.pairBlock :=
  runRow_answers (op := .readPair) (torn := false) (body := State.pairBlock) hr rfl (by decide) rfl fun _ _ _ => rfl

theorem readMemory_replied (hr : s.ready h 0x0902) : ∃ u, exec (.readMemory h) s = .next u ∧
    s.onlyReplied u h 0x0902 stOk (memBlock s.unt.mdiag s.unt.mem) :=
  runRow_answers (op := .readMemory) (torn := false) (body := fun x => memBlock x.unt.mdiag x.unt.mem) hr rfl (by decide) rfl fun _ _ _ => rfl

theorem readIdentity_replied (hr : s.ready h 0x0C01) : ∃ u, exec (.readIdentity h) s = .next u ∧ s.onlyReplied u h 0x0C01 stOk s.identBody :=
  runRow_answers (op := .readIdentity) (torn := false) (body := State.identBody) hr rfl (by decide) rfl fun _ _ _ => rfl

theorem readFirmware_replied (hr : s.ready h 0x0C02) : ∃ u, exec (.readFirmware h) s = .next u ∧ s.onlyReplied u h 0x0C02 stOk s.fwBody :=
  runRow_answers (op := .readFirmware) (torn := false) (body := State.fwBody) hr rfl (by decide) rfl fun _ _ _ => rfl

theorem readOwner_replied (hr : s.ready h 0x0106) : ∃ u, exec (.readOwner h) s = .next u ∧
    s.onlyReplied u h 0x0106 stOk [BitVec.ofNat 8 s.ownerCode, BitVec.ofNat 8 s.offerCode] :=
  runRow_answers (op := .readOwner) (torn := false) (body := fun x => [BitVec.ofNat 8 x.ownerCode, BitVec.ofNat 8 x.offerCode]) hr rfl
    (by decide) rfl fun _ _ _ => rfl

end

/-! ## Reads with a range -/

section
variable {h : PktHead} {s : State}

/-- Bytes of a stored slot, the image length aside (R335). -/
def State.slotBody (slot off len : Nat) (x : State) : List Byte :=
  slotBytes slot (x.cfg.slot slot) off (min len (imageLength - off)) ++
    (List.range (len - min len (imageLength - off))).map fun k => Config.slotByte slot (off + min len (imageLength - off) + k)

theorem State.slotBody_image {slot off len : Nat} (hend : off + len ≤ imageLength) :
    s.slotBody slot off len = slotBytes slot (s.cfg.slot slot) off len := by
  have hmin : min len (imageLength - off) = len := by omega
  rw [State.slotBody, hmin, Nat.sub_self]
  exact List.append_nil _

theorem exec_readImage {slot off len : Nat} (hslot : slot < 2 ^ 8) (hoff : off < 2 ^ 32) (hlen : len < 2 ^ 16) :
    exec (.readImage h slot off len) s = runRow h true true false (.readImage slot off len) s := by
  show runRow h (decide (slot < 2 ^ 8) && decide (off < 2 ^ 32) && decide (len < 2 ^ 16)) true false _ s = _
  rw [decide_eq_true hslot, decide_eq_true hoff, decide_eq_true hlen]
  rfl

theorem readImage_replied {slot off len : Nat} (hr : s.ready h 0x0206) (hslot : slot < 2 ^ 8) (hoff : off < 2 ^ 32) (hlen : len < 2 ^ 16) :
    ∃ u, exec (.readImage h slot off len) s = .next u ∧
      ((1 < slot ∨ len = 0 ∨ 4096 < len ∨ 524288 < off + len) → s.onlyReplied u h 0x0206 stBadValue []) ∧
      (slot ≤ 1 → 0 < len → len ≤ 4096 → off + len ≤ imageLength →
        s.onlyReplied u h 0x0206 stOk (slotBytes slot (s.cfg.slot slot) off len)) := by
  have himage : imageLength ≤ 524288 := by decide
  rw [exec_readImage hslot hoff hlen]
  by_cases hbad : 1 < slot ∨ len = 0 ∨ 4096 < len ∨ 524288 < off + len
  · obtain ⟨u, e, hu⟩ := runRow_denied (op := .readImage slot off len) (torn := false) (st := stBadValue) hr rfl (by simp) (if_pos hbad)
    exact ⟨u, e, fun _ => hu, by omega⟩
  · obtain ⟨u, e, hu⟩ := runRow_answers (op := .readImage slot off len) (torn := false) (st := stOk) (body := State.slotBody slot off len)
      hr rfl (by simp) (if_neg hbad) fun _ _ _ => rfl
    exact ⟨u, e, fun h => absurd h hbad, fun _ _ _ hend => State.slotBody_image hend ▸ hu⟩

theorem exec_readEvents {sealLog : Bool} {rsv maxN fromSeq : Nat} (hrsv : rsv < 2 ^ 23) (hmax : maxN < 2 ^ 8) (hfrom : fromSeq < 2 ^ 32) :
    exec (.readEvents h sealLog rsv maxN fromSeq) s = runRow h true true false (.readEvents sealLog rsv maxN fromSeq) s := by
  show runRow h (decide (rsv < 2 ^ 23) && decide (maxN < 2 ^ 8) && decide (fromSeq < 2 ^ 32)) true false _ s = _
  rw [decide_eq_true hrsv, decide_eq_true hmax, decide_eq_true hfrom]
  rfl

theorem readEvents_replied {sealLog : Bool} {rsv maxN fromSeq : Nat} (hr : s.ready h 0x0501) (hrsv : rsv < 2 ^ 23) (hmax : maxN < 2 ^ 8)
    (hfrom : fromSeq < 2 ^ 32) : ∃ u, exec (.readEvents h sealLog rsv maxN fromSeq) s = .next u ∧
      ((rsv ≠ 0 ∨ maxN = 0 ∨ 64 < maxN) → s.onlyReplied u h 0x0501 stBadValue []) ∧
      (rsv = 0 → 0 < maxN → maxN ≤ 64 → s.onlyReplied u h 0x0501
        (if (readEvents sealLog maxN fromSeq s.recd).1 then stOverwritten else stOk) (readEvents sealLog maxN fromSeq s.recd).2) := by
  rw [exec_readEvents hrsv hmax hfrom]
  by_cases hbad : rsv ≠ 0 ∨ maxN = 0 ∨ 64 < maxN
  · obtain ⟨u, e, hu⟩ := runRow_denied (op := .readEvents sealLog rsv maxN fromSeq) (torn := false) (st := stBadValue) hr rfl (by simp)
      (if_pos hbad)
    exact ⟨u, e, fun _ => hu, by omega⟩
  · have hrecd : (s.accepted h 0x0501).recd = s.recd := State.of_accepted State.recd fun _ _ _ => rfl
    have ho : opReadEvents sealLog rsv maxN fromSeq (s.accepted h 0x0501) = (s.accepted h 0x0501,
        .now (if (readEvents sealLog maxN fromSeq s.recd).1 then stOverwritten else stOk) (readEvents sealLog maxN fromSeq s.recd).2) := by
      rw [opReadEvents, if_neg hbad, hrecd]
    obtain ⟨u, e, hu⟩ := runRow_onlyReplied (op := .readEvents sealLog rsv maxN fromSeq) (torn := false) hr nofun ho (by simp)
    exact ⟨u, e, fun h => absurd h hbad, fun _ _ _ => hu⟩

theorem exec_readBackup {off len : Nat} (hoff : off < 2 ^ 7) (hlen : len < 2 ^ 8) :
    exec (.readBackup h off len) s = runRow h true true false (.readBackup off len) s := by
  show runRow h (decide (off < 2 ^ 7) && decide (len < 2 ^ 8)) true false _ s = _
  rw [decide_eq_true hoff, decide_eq_true hlen]
  rfl

theorem State.accepted_twi (h : PktHead) (opc : Nat) (s : State) : (s.accepted h opc).twi = s.twi :=
  State.of_accepted State.twi fun _ _ _ => rfl

/-- A locked Twilight interface gives no reply (R445). -/
theorem readBackup_replied {off len : Nat} (hr : s.ready h 0x0605) (hoff : off < 2 ^ 7) (hlen : len < 2 ^ 8) :
    ∃ u, exec (.readBackup h off len) s = .next u ∧
      ((len = 0 ∨ 128 < off + len) → s.onlyReplied u h 0x0605 stBadValue []) ∧
      (0 < len → off + len ≤ 128 → s.twi.locked = false → s.onlyReplied u h 0x0605 stOk (bramRead off len s.twi)) ∧
      (0 < len → off + len ≤ 128 → s.twi.locked = true → s.waits u h (.readBackup off len) none none ∧ s.served u h []) := by
  rw [exec_readBackup hoff hlen]
  by_cases hbad : len = 0 ∨ 128 < len ∨ 128 < off + len
  · obtain ⟨u, e, hu⟩ := runRow_denied (op := .readBackup off len) (torn := false) (st := stBadValue) hr rfl (by simp) (if_pos hbad)
    exact ⟨u, e, fun _ => hu, by omega, by omega⟩
  · have hrun : opReadBackup off len (s.accepted h 0x0605) =
        (s.accepted h 0x0605).twiRun ((s.accepted h 0x0605).show (bramRead off len s.twi)) := by
      rw [opReadBackup, if_neg hbad, State.accepted_twi]
    cases hl : s.twi.locked with
    | false =>
      have ho : opReadBackup off len (s.accepted h 0x0605) = (s.accepted h 0x0605, .now stOk (bramRead off len s.twi)) := by
        rw [hrun, State.twiRun, State.accepted_twi, hl]
        rfl
      obtain ⟨u, e, hu⟩ := runRow_onlyReplied (op := .readBackup off len) (torn := false) hr nofun ho (by simp)
      exact ⟨u, e, by omega, fun _ _ _ => hu, nofun⟩
    | true =>
      have ho : opReadBackup off len (s.accepted h 0x0605) = (s.accepted h 0x0605, .hold) := by
        rw [hrun, State.twiRun, State.accepted_twi, hl]
        rfl
      obtain ⟨u, e, hwaits, howner, hsame⟩ := runRow_hold (op := .readBackup off len) (torn := false) hr nofun ho (s.tame_accepted h _)
      exact ⟨u, e, by omega, nofun, fun _ _ _ => ⟨hwaits, State.served_of (op := .readBackup off len) (State.sameBut_refl [] _) howner hsame rfl⟩⟩

theorem exec_readDiag {level index : Nat} (hlevel : level < 2 ^ 2) (hindex : index < 2 ^ 9) :
    exec (.readDiag h level index) s = runRow h true true false (.readDiag level index) s := by
  show runRow h (decide (level < 2 ^ 2) && decide (index < 2 ^ 9)) true false _ s = _
  rw [decide_eq_true hlevel, decide_eq_true hindex]
  rfl

/-- READ_DIAG answers with the block that its level and index name (R518). -/
theorem readDiag_replied {level index : Nat} (hr : s.ready h 0x0901) (hlevel : level < 2 ^ 2) (hindex : index < 2 ^ 9) :
    ∃ u, exec (.readDiag h level index) s = .next u ∧ s.onlyReplied u h 0x0901 (if (s.diagBody level index).isSome then stOk else stBadValue)
      ((s.diagBody level index).getD []) := by
  rw [exec_readDiag hlevel hindex]
  have hbody : (s.accepted h 0x0901).diagBody level index = s.diagBody level index :=
    State.of_accepted (fun x => x.diagBody level index) fun _ _ _ => rfl
  refine runRow_onlyReplied (op := .readDiag level index) (torn := false) hr nofun ?_ (by simp)
  show opReadDiag level index (s.accepted h 0x0901) = _
  rw [opReadDiag, hbody]
  cases s.diagBody level index <;> rfl

theorem readCan_replied {ctl : Nat} (hr : s.ready h 0x0A01) (hctl : ctl < 4) :
    ∃ u, exec (.readCan h ctl) s = .next u ∧ s.onlyReplied u h 0x0A01 stOk (s.canBody ctl) := by
  have hexec : exec (.readCan h ctl) s = runRow h true true false (.readCan ctl) s := by
    show runRow h (decide (ctl < 4)) true false _ s = _
    rw [decide_eq_true hctl]
  rw [hexec]
  exact runRow_answers (op := .readCan ctl) (torn := false) (body := fun x => x.canBody ctl) hr rfl (by simp) rfl fun _ _ _ => rfl

theorem exec_readObject {staging : Bool} {cls ix off len : Nat} (hcls : cls < 2 ^ 8) (hix : ix < 2 ^ 16) (hoff : off < 2 ^ 16)
    (hlen : len < 2 ^ 16) : exec (.readObject h staging cls ix off len) s = runRow h true true false (.readObject staging cls ix off len) s := by
  show runRow h (decide (cls < 2 ^ 8) && decide (ix < 2 ^ 16) && decide (off < 2 ^ 16) && decide (len < 2 ^ 16)) true false _ s = _
  rw [decide_eq_true hcls, decide_eq_true hix, decide_eq_true hoff, decide_eq_true hlen]
  rfl

theorem readObject_denied {staging : Bool} {cls ix off len : Nat} (hr : s.ready h 0x0201) (hbad : objRangeOk cls ix off len = false) :
    ∃ u, runRow h true true false (.readObject staging cls ix off len) s = .next u ∧ s.onlyReplied u h 0x0201 stBadValue [] :=
  runRow_denied (op := .readObject staging cls ix off len) hr rfl (by simp) (if_pos (by rw [hbad]; rfl))

theorem readStaging_replied {cls ix off len : Nat} (hr : s.ready h 0x0201) (hok : objRangeOk cls ix off len = true) :
    ∃ u, runRow h true true false (.readObject true cls ix off len) s = .next u ∧
      s.onlyReplied u h 0x0201 stOk (s.objectBody true cls ix off len) :=
  runRow_answers (op := .readObject true cls ix off len) (body := fun x => x.objectBody true cls ix off len) hr rfl (by simp)
    ((if_neg (by rw [hok]; decide)).trans (if_pos rfl)) fun _ _ _ => rfl

theorem readRunning_reads {cls ix off len : Nat} (hr : s.ready h 0x0201) (hok : objRangeOk cls ix off len = true) :
    ∃ u, runRow h true true false (.readObject false cls ix off len) s = .next u ∧
      s.onlyReads u h (.readObject false cls ix off len) (s.objectBody false cls ix off len) :=
  runRow_reads (op := .readObject false cls ix off len) (body := fun x => x.objectBody false cls ix off len) hr rfl (by simp)
    ((if_neg (by rw [hok]; decide)).trans (if_neg (by decide))) (fun _ => rfl) fun _ _ _ => rfl

end

/-- Settles O1: each read by its own opcode; acceptance leaves what the opcode shows. -/
theorem immediateReads : Obligations.ImmediateReads := by
  refine ⟨fun h s => ⟨ping_replied, readFrameStatus_replied, readOwner_replied, readRecorder_replied, readPair_replied, readMemory_replied,
      readIdentity_replied, readFirmware_replied⟩,
    fun h s slot off len => readImage_replied, fun h s sealLog rsv maxN fromSeq => readEvents_replied, fun h s off len => readBackup_replied,
    fun h s level index hr hlevel hindex => ?_, fun h s ctl => readCan_replied, fun h s cls ix off len hr hcls hix hoff hlen => ?_⟩
  · obtain ⟨u, e, hu⟩ := readDiag_replied hr hlevel hindex
    refine ⟨u, e, ?_, ?_, ?_, ?_, fun hbad => ?_⟩
    · rintro rfl
      exact hu
    · rintro rfl hlt
      simpa [State.diagBody, hlt] using hu
    · rintro rfl hlt
      simpa [State.diagBody, hlt] using hu
    · rintro rfl rfl
      exact hu
    · rcases hbad with ⟨rfl, hout⟩ | ⟨rfl, hout⟩ | ⟨rfl, hout⟩
      · simpa [State.diagBody, Nat.not_lt.2 hout] using hu
      · simpa [State.diagBody, Nat.not_lt.2 hout] using hu
      · simpa [State.diagBody, Nat.pos_iff_ne_zero.1 hout] using hu
  · rw [exec_readObject hcls hix hoff hlen]
    cases hok : objRangeOk cls ix off len with
    | false =>
      obtain ⟨u, e, hu⟩ := readObject_denied (staging := true) hr hok
      exact ⟨u, e, fun _ => hu, nofun⟩
    | true =>
      obtain ⟨u, e, hu⟩ := readStaging_replied hr hok
      exact ⟨u, e, nofun, fun _ => hu⟩

/-! ## Reads of the open frame -/

/-- Settles O2: each read forms its body from the frame, which acceptance leaves. -/
theorem readsOfTheFrame : Obligations.ReadsOfTheFrame := by
  intro h s
  refine ⟨fun hr => ?_, fun hr => ?_, fun hr => ?_, fun hr => ?_⟩
  · exact runRow_reads (op := .readSummary) (torn := false) (body := State.summary) hr rfl (by decide) rfl (fun _ => rfl) fun _ _ _ => rfl
  · exact runRow_reads (op := .readCrc) (torn := false) (body := State.crcBody) hr rfl (by decide) rfl (fun _ => rfl) fun _ _ _ => rfl
  · exact runRow_reads (op := .readCjc) (torn := false) (body := State.cjcBody) hr rfl (by decide) rfl (fun _ => rfl) fun _ _ _ => rfl
  · exact runRow_reads (op := .readCall) (torn := false) (body := fun x => toBytes 8 (callBlock x.P x.alm.call)) hr rfl (by decide) rfl
      (fun _ => rfl) fun _ _ _ => rfl

section
variable {h : PktHead} {op : Op} {ok : Bool} {body : State → List Byte} {s : State}

/-- A read of a run of items answers for the open frame where the run is in range, and is denied elsewhere. -/
theorem runRow_readsRun (hr : s.ready h (opCode op)) (hA : opAlarm op = false) (hw : op ≠ .warmRestart)
    (ho : ∀ c x, runOp op false c x = x.readFrame ok) (hb : ∀ x : State, (x.formBody op).2 = body x)
    (hf : ∀ (x : State) (l : Tab Session) (n : Nat), body (x.reseat l n) = body x) :
    ∃ u, runRow h true true false op s = .next u ∧ (ok = true → s.onlyReads u h op (body s)) ∧
      (ok = false → s.onlyReplied u h (opCode op) stBadValue []) := by
  cases ok with
  | true =>
    obtain ⟨u, e, hu⟩ := runRow_reads hr hA hw ((ho ..).trans (if_pos rfl)) hb hf
    exact ⟨u, e, fun _ => hu, nofun⟩
  | false =>
    obtain ⟨u, e, hu⟩ := runRow_denied hr hA hw ((ho ..).trans (if_neg Bool.false_ne_true))
    exact ⟨u, e, nofun, fun _ => hu⟩

end

section
variable {first count top n : Nat}

theorem runOk_of (h : 1 ≤ count ∧ count ≤ top ∧ first + count ≤ n) : runOk first count top n = true := by
  simp [runOk, h]

theorem not_runOk_of (h : count = 0 ∨ top < count ∨ n < first + count) : runOk first count top n = false := by
  simp only [runOk, Bool.and_eq_false_iff, decide_eq_false_iff_not]
  omega

end

section
variable {h : PktHead} {s : State} {first count : Nat}

theorem readResults_served (hr : s.ready h 0x0301) (hfirst : first < 2 ^ 9) (hcount : count < 2 ^ 8) :
    ∃ u, exec (.readResults h first count) s = .next u ∧
      (1 ≤ count ∧ count ≤ 64 ∧ first + count ≤ 512 → s.onlyReads u h (.readResults first count) (s.resultsBody first count)) ∧
      (count = 0 ∨ 64 < count ∨ 512 < first + count → s.onlyReplied u h 0x0301 stBadValue []) := by
  have hexec : exec (.readResults h first count) s = runRow h true true false (.readResults first count) s := by
    show runRow h (decide (first < 2 ^ 9) && decide (count < 2 ^ 8)) true false _ s = _
    rw [decide_eq_true hfirst, decide_eq_true hcount]
    rfl
  obtain ⟨u, e, hreads, hdenied⟩ := runRow_readsRun (op := .readResults first count) (body := fun x => x.resultsBody first count) hr rfl
    (by simp) (fun _ _ => rfl) (fun _ => rfl) fun _ _ _ => rfl
  exact ⟨u, hexec.trans e, fun h => hreads (runOk_of h), fun h => hdenied (not_runOk_of h)⟩

theorem readRecords_served (hr : s.ready h 0x0302) (hfirst : first < 2 ^ 9) (hcount : count < 2 ^ 8) :
    ∃ u, exec (.readRecords h first count) s = .next u ∧
      (1 ≤ count ∧ count ≤ 64 ∧ first + count ≤ 512 → s.onlyReads u h (.readRecords first count) (s.recordsBody first count)) ∧
      (count = 0 ∨ 64 < count ∨ 512 < first + count → s.onlyReplied u h 0x0302 stBadValue []) := by
  have hexec : exec (.readRecords h first count) s = runRow h true true false (.readRecords first count) s := by
    show runRow h (decide (first < 2 ^ 9) && decide (count < 2 ^ 8)) true false _ s = _
    rw [decide_eq_true hfirst, decide_eq_true hcount]
    rfl
  obtain ⟨u, e, hreads, hdenied⟩ := runRow_readsRun (op := .readRecords first count) (body := fun x => x.recordsBody first count) hr rfl
    (by simp) (fun _ _ => rfl) (fun _ => rfl) fun _ _ _ => rfl
  exact ⟨u, hexec.trans e, fun h => hreads (runOk_of h), fun h => hdenied (not_runOk_of h)⟩

theorem readPoints_served (hr : s.ready h 0x0401) (hfirst : first < 2 ^ 11) (hcount : count < 2 ^ 8) :
    ∃ u, exec (.readPoints h first count) s = .next u ∧
      (1 ≤ count ∧ count ≤ 128 ∧ first + count ≤ 2048 → s.onlyReads u h (.readPoints first count) (s.pointsBody first count)) ∧
      (count = 0 ∨ 128 < count ∨ 2048 < first + count → s.onlyReplied u h 0x0401 stBadValue []) := by
  have hexec : exec (.readPoints h first count) s = runRow h true true false (.readPoints first count) s := by
    show runRow h (decide (first < 2 ^ 11) && decide (count < 2 ^ 8)) true false _ s = _
    rw [decide_eq_true hfirst, decide_eq_true hcount]
    rfl
  obtain ⟨u, e, hreads, hdenied⟩ := runRow_readsRun (op := .readPoints first count) (body := fun x => x.pointsBody first count) hr rfl
    (by simp) (fun _ _ => rfl) (fun _ => rfl) fun _ _ _ => rfl
  exact ⟨u, hexec.trans e, fun h => hreads (runOk_of h), fun h => hdenied (not_runOk_of h)⟩

theorem readGroups_served (hr : s.ready h 0x0402) (hfirst : first < 2 ^ 6) (hcount : count < 2 ^ 8) :
    ∃ u, exec (.readGroups h first count) s = .next u ∧
      (1 ≤ count ∧ count ≤ 64 ∧ first + count ≤ 64 → s.onlyReads u h (.readGroups first count) (s.groupsBody first count)) ∧
      (count = 0 ∨ 64 < count ∨ 64 < first + count → s.onlyReplied u h 0x0402 stBadValue []) := by
  have hexec : exec (.readGroups h first count) s = runRow h true true false (.readGroups first count) s := by
    show runRow h (decide (first < 2 ^ 6) && decide (count < 2 ^ 8)) true false _ s = _
    rw [decide_eq_true hfirst, decide_eq_true hcount]
    rfl
  obtain ⟨u, e, hreads, hdenied⟩ := runRow_readsRun (op := .readGroups first count) (body := fun x => x.groupsBody first count) hr rfl
    (by simp) (fun _ _ => rfl) (fun _ => rfl) fun _ _ _ => rfl
  exact ⟨u, hexec.trans e, fun h => hreads (runOk_of h), fun h => hdenied (not_runOk_of h)⟩

theorem readSafety_served (hr : s.ready h 0x0701) (hfirst : first < 2 ^ 5) (hcount : count < 2 ^ 6) :
    ∃ u, exec (.readSafety h first count) s = .next u ∧
      (1 ≤ count ∧ count ≤ 32 ∧ first + count ≤ 32 → s.onlyReads u h (.readSafety first count) (s.safetyBody first count)) ∧
      (count = 0 ∨ 32 < count ∨ 32 < first + count → s.onlyReplied u h 0x0701 stBadValue []) := by
  have hexec : exec (.readSafety h first count) s = runRow h true true false (.readSafety first count) s := by
    show runRow h (decide (first < 2 ^ 5) && decide (count < 2 ^ 6)) true false _ s = _
    rw [decide_eq_true hfirst, decide_eq_true hcount]
    rfl
  obtain ⟨u, e, hreads, hdenied⟩ := runRow_readsRun (op := .readSafety first count) (body := fun x => x.safetyBody first count) hr rfl
    (by simp) (fun _ _ => rfl) (fun _ => rfl) fun _ _ _ => rfl
  exact ⟨u, hexec.trans e, fun h => hreads (runOk_of h), fun h => hdenied (not_runOk_of h)⟩

theorem readDsc_served (hr : s.ready h 0x0704) (hfirst : first < 2 ^ 5) (hcount : count < 2 ^ 6) :
    ∃ u, exec (.readDsc h first count) s = .next u ∧
      (1 ≤ count ∧ count ≤ 32 ∧ first + count ≤ 32 → s.onlyReads u h (.readDsc first count) (s.dscBody first count)) ∧
      (count = 0 ∨ 32 < count ∨ 32 < first + count → s.onlyReplied u h 0x0704 stBadValue []) := by
  have hexec : exec (.readDsc h first count) s = runRow h true true false (.readDsc first count) s := by
    show runRow h (decide (first < 2 ^ 5) && decide (count < 2 ^ 6)) true false _ s = _
    rw [decide_eq_true hfirst, decide_eq_true hcount]
    rfl
  obtain ⟨u, e, hreads, hdenied⟩ := runRow_readsRun (op := .readDsc first count) (body := fun x => x.dscBody first count) hr rfl
    (by simp) (fun _ _ => rfl) (fun _ => rfl) fun _ _ _ => rfl
  exact ⟨u, hexec.trans e, fun h => hreads (runOk_of h), fun h => hdenied (not_runOk_of h)⟩

theorem readCanobj_served {obj : Nat} (hr : s.ready h 0x0A02) (hobj : obj < 512) :
    ∃ u, exec (.readCanobj h obj) s = .next u ∧ s.onlyReads u h (.readCanobj obj) (s.canobjBody obj) := by
  have hexec : exec (.readCanobj h obj) s = runRow h true true false (.readCanobj obj) s := by
    show runRow h (decide (obj < 512)) true false _ s = _
    rw [decide_eq_true hobj]
  rw [hexec]
  exact runRow_reads (op := .readCanobj obj) (torn := false) (body := fun x => x.canobjBody obj) hr rfl (by simp)
    (if_pos (decide_eq_true hobj)) (fun _ => rfl) fun _ _ _ => rfl

theorem readHart_served {ch addr : Nat} (hr : s.ready h 0x0B01) (hch : ch < 512) (haddr : addr < 2 ^ 4) (hcount : count < 2 ^ 5) :
    ∃ u, exec (.readHart h ch addr count) s = .next u ∧
      (1 ≤ count ∧ addr + count ≤ 16 ∧ chModemCell s.im ch ≠ 0 → s.onlyReads u h (.readHart ch addr count) (s.hartBody ch addr count)) ∧
      (count = 0 ∨ 16 < addr + count ∨ chModemCell s.im ch = 0 → s.onlyReplied u h 0x0B01 stBadValue []) := by
  have hexec : exec (.readHart h ch addr count) s = runRow h true true false (.readHart ch addr count) s := by
    show runRow h (decide (ch < 512) && decide (addr < 2 ^ 4) && decide (count < 2 ^ 5)) true false _ s = _
    rw [decide_eq_true hch, decide_eq_true haddr, decide_eq_true hcount]
    rfl
  have him : (s.accepted h 0x0B01).im = s.im := State.of_accepted State.im fun _ _ _ => rfl
  have hrun : opReadHart ch addr count (s.accepted h 0x0B01) = (s.accepted h 0x0B01).readFrame
      (decide (1 ≤ count) && decide (count ≤ 16) && decide (addr + count ≤ 16) && decide (chModemCell s.im ch ≠ 0)) := by
    rw [opReadHart, him]
  rw [hexec]
  by_cases hok : 1 ≤ count ∧ addr + count ≤ 16 ∧ chModemCell s.im ch ≠ 0
  · obtain ⟨h1, h16, hmodem⟩ := hok
    have hin : (decide (1 ≤ count) && decide (count ≤ 16) && decide (addr + count ≤ 16) && decide (chModemCell s.im ch ≠ 0)) = true := by
      rw [decide_eq_true h1, decide_eq_true (show count ≤ 16 by omega), decide_eq_true h16, decide_eq_true hmodem]
      rfl
    obtain ⟨u, e, hu⟩ := runRow_reads (op := .readHart ch addr count) (torn := false) (body := fun x => x.hartBody ch addr count) hr rfl
      (by simp) (hrun.trans (if_pos hin)) (fun _ => rfl) fun _ _ _ => rfl
    exact ⟨u, e, fun _ => hu, by omega⟩
  · have hout : (decide (1 ≤ count) && decide (count ≤ 16) && decide (addr + count ≤ 16) && decide (chModemCell s.im ch ≠ 0)) ≠ true := by
      simp only [Bool.and_eq_true, decide_eq_true_eq, ne_eq]
      tauto
    obtain ⟨u, e, hu⟩ := runRow_denied (op := .readHart ch addr count) (torn := false) (st := stBadValue) hr rfl (by simp)
      (hrun.trans (if_neg hout))
    exact ⟨u, e, fun h => absurd h hok, fun _ => hu⟩

end

/-- Settles O3: a run in range is a read of the open frame, and every other run is denied. -/
theorem readsOfRuns : Obligations.ReadsOfRuns := by
  refine ⟨fun h s first count hfirst hcount => ⟨fun hr => readResults_served hr hfirst hcount, fun hr => readRecords_served hr hfirst hcount⟩,
    fun h s first count => readPoints_served, fun h s first count => readGroups_served,
    fun h s first count hfirst hcount => ⟨fun hr => readSafety_served hr hfirst hcount, fun hr => readDsc_served hr hfirst hcount⟩,
    fun h s obj => readCanobj_served, fun h s ch addr count => readHart_served, fun h s cls ix off len hr hcls hix hoff hlen => ?_⟩
  rw [exec_readObject hcls hix hoff hlen]
  cases hok : objRangeOk cls ix off len with
  | false =>
    obtain ⟨u, e, hu⟩ := readObject_denied (staging := false) hr hok
    exact ⟨u, e, fun _ => hu, nofun⟩
  | true =>
    obtain ⟨u, e, hu⟩ := readRunning_reads hr hok
    exact ⟨u, e, nofun, fun _ => hu⟩

end Sys2Proof.Machine
end

section
/-! PROOFS. The configuration opcodes (R329 to R335, R545) and the calendar opcodes (R445 to R463): what an opcode makes of the accepted
state is what its packet leaves, the lease and the reply aside. -/

namespace Sys2Proof.Machine

/-! ## Opcodes that leave ownership -/

section
variable {h : PktHead} {op : Op} {torn : Bool} {s r : State} {n st : Nat} {b : List Byte} {ps : List Part}

/-- An opcode that has changed the accepted state to `r`, leaves ownership, and answers at once. -/
theorem runRow_now_served (hr : s.ready h (opCode op)) (hA : opAlarm op = false) (hw : op ≠ .warmRestart)
    (ho : runOp op torn (makeCaller (s.codeOf h.port) h.session (opCode op) h) (s.accepted h (opCode op)) = (r, .now st b))
    (hq : (s.accepted h (opCode op)).sameBut ps r)
    (hps : ∀ p ∈ [Part.sess, .outbox, .pend, .pair, .replayIn, .phase, .fr], p ∉ ps)
    (hown : r.port.owner = (s.accepted h (opCode op)).port.owner) :
    ∃ u, runRow h true true torn op s = .next u ∧ s.replied u h (opCode op) st b ∧ s.served u h ps ∧ r.sameBut (replyParts h) u := by
  obtain ⟨u, e, hreply, howner, hsame⟩ := runRow_now hr (by simp [hA]) ho (State.tame_of_sameBut hq hps) hw
  exact ⟨u, e, hreply, State.served_of hq howner hsame hown, hsame⟩

/-- An opcode that has changed the accepted state to `r`, leaves ownership, and answers when frame `n` is complete. -/
theorem runRow_sentAt_served (hr : s.ready h (opCode op)) (hA : opAlarm op = false) (hw : op ≠ .warmRestart)
    (ho : runOp op torn (makeCaller (s.codeOf h.port) h.session (opCode op) h) (s.accepted h (opCode op)) = (r, .sent n st b))
    (hq : (s.accepted h (opCode op)).sameBut ps r)
    (hps : ∀ p ∈ [Part.sess, .outbox, .pend, .pair, .replayIn, .phase, .fr], p ∉ ps)
    (hown : r.port.owner = (s.accepted h (opCode op)).port.owner) :
    ∃ u, runRow h true true torn op s = .next u ∧ s.repliedAt u h op n st b ∧ s.served u h ps ∧ r.sameBut (replyParts h) u := by
  obtain ⟨u, e, hreply, howner, hsame⟩ := runRow_sent hr (by simp [hA]) ho (State.tame_of_sameBut hq hps) hw
  exact ⟨u, e, hreply, State.served_of hq howner hsame hown, hsame⟩

/-- Serving a packet leaves the configuration that its opcode made. -/
theorem State.sameBut.cfg_of_reply {u : State} (hsame : r.sameBut (replyParts h) u) : u.cfg = r.cfg :=
  hsame.cfg fun p hp => not_mem_replyParts (by revert p; decide)

end

/-! ## The staging image (R329, R330, R335) -/

theorem State.setStaging_sameBut (f : CfgPart → Image) (s : State) : s.sameBut [.staging] (s.modCfg fun c => { c with staging := f c }) :=
  State.sameBut_of_rest (State.modCfg_rest _ _ fun c => by simp [CfgPart.rest, cleared])

section
variable {h : PktHead} {op : Op} {torn : Bool} {s : State}

/-- An opcode that writes the staging image by `f` and acknowledges it. -/
theorem runRow_stages (f : CfgPart → Image) (hr : s.ready h (opCode op)) (hA : opAlarm op = false) (hw : op ≠ .warmRestart)
    (ho : runOp op torn (makeCaller (s.codeOf h.port) h.session (opCode op) h) (s.accepted h (opCode op)) =
      ((s.accepted h (opCode op)).modCfg fun c => { c with staging := f c }).show []) :
    ∃ u, runRow h true true torn op s = .next u ∧ s.replied u h (opCode op) stOk [] ∧ u.cfg = { s.cfg with staging := f s.cfg } ∧
      s.served u h [.staging] := by
  obtain ⟨u, e, hreply, hserved, hsame⟩ := runRow_now_served hr hA hw ho (State.setStaging_sameBut f _) (by decide) rfl
  refine ⟨u, e, hreply, ?_, hserved⟩
  rw [hsame.cfg_of_reply, State.modCfg_cfg, State.accepted_cfg]

theorem exec_writeObject {cls ix off len : Nat} {data mask : List Byte} (hcls : cls < 2 ^ 8) (hix : ix < 2 ^ 16) (hoff : off < 2 ^ 16)
    (hlen : len < 2 ^ 16) (hdata : data.length = len) (hmask : mask.length = len) :
    exec (.writeObject h cls ix off len data mask) s = runRow h true true false (.writeObject cls ix off len data mask) s := by
  dsimp only [exec, execWriteObject]
  rw [decide_eq_true hcls, decide_eq_true hix, decide_eq_true hoff, decide_eq_true hlen, decide_eq_true hdata, decide_eq_true hmask]
  rfl

/-- WRITE_OBJECT (R329). -/
theorem writeObject_served {cls ix off len : Nat} {data mask : List Byte} (hr : s.ready h 0x0202) (hcls : cls < 2 ^ 8) (hix : ix < 2 ^ 16)
    (hoff : off < 2 ^ 16) (hlen : len < 2 ^ 16) (hdata : data.length = len) (hmask : mask.length = len) :
    ∃ u, exec (.writeObject h cls ix off len data mask) s = .next u ∧
      (objRangeOk cls ix off len = false → s.onlyReplied u h 0x0202 stBadValue []) ∧
      (objRangeOk cls ix off len = true → masksRo (objOffset cls ix off) mask = true → s.onlyReplied u h 0x0202 stReadOnly []) ∧
      (objRangeOk cls ix off len = true → masksRo (objOffset cls ix off) mask = false →
        s.replied u h 0x0202 stOk [] ∧ u.cfg = { s.cfg with staging := imageWrite (objOffset cls ix off) data mask s.cfg.staging } ∧
        s.served u h [.staging]) := by
  rw [exec_writeObject hcls hix hoff hlen hdata hmask]
  cases hrange : objRangeOk cls ix off len with
  | false =>
    obtain ⟨u, e, hu⟩ := runRow_denied (op := .writeObject cls ix off len data mask) (torn := false) (st := stBadValue) hr rfl (by simp)
      (if_pos (by rw [hrange]; rfl))
    exact ⟨u, e, fun _ => hu, nofun, nofun⟩
  | true =>
    have hin : ¬ (!objRangeOk cls ix off len) = true := by simp [hrange]
    cases hmasks : masksRo (objOffset cls ix off) mask with
    | true =>
      obtain ⟨u, e, hu⟩ := runRow_denied (op := .writeObject cls ix off len data mask) (torn := false) (st := stReadOnly) hr rfl (by simp)
        ((if_neg hin).trans (if_pos hmasks))
      exact ⟨u, e, nofun, fun _ _ => hu, nofun⟩
    | false =>
      obtain ⟨u, e, hu⟩ := runRow_stages (op := .writeObject cls ix off len data mask) (torn := false)
        (fun c => imageWrite (objOffset cls ix off) data mask c.staging) hr rfl (by simp) ((if_neg hin).trans (if_neg (by simp [hmasks])))
      exact ⟨u, e, nofun, nofun, fun _ _ => hu⟩

/-- LOAD_IMAGE (R335). -/
theorem loadImage_served {off : Nat} {data : List Byte} (hr : s.ready h 0x0207) (hoff : off < 2 ^ 32) (hdata : data.length ≤ 8168) :
    ∃ u, exec (.loadImage h off data) s = .next u ∧
      (imageLength < off + data.length → s.onlyReplied u h 0x0207 stBadValue []) ∧
      (off + data.length ≤ imageLength →
        s.replied u h 0x0207 stOk [] ∧
        u.cfg = { s.cfg with staging := imageWrite off data (List.replicate data.length 0xFF#8) s.cfg.staging } ∧
        s.served u h [.staging]) := by
  have hexec : exec (.loadImage h off data) s = runRow h true true false (.loadImage off data) s := by
    dsimp only [exec, execLoadImage]
    rw [decide_eq_true hoff, decide_eq_true hdata]
  rw [hexec]
  by_cases hlong : imageLength < off + data.length
  · obtain ⟨u, e, hu⟩ := runRow_denied (op := .loadImage off data) (torn := false) (st := stBadValue) hr rfl (by simp) (if_pos hlong)
    exact ⟨u, e, fun _ => hu, fun hin => absurd hin (Nat.not_le.2 hlong)⟩
  · obtain ⟨u, e, hu⟩ := runRow_stages (op := .loadImage off data) (torn := false)
      (fun c => imageWrite off data (List.replicate data.length 0xFF#8) c.staging) hr rfl (by simp) (if_neg hlong)
    exact ⟨u, e, fun h => absurd h hlong, fun _ => hu⟩

end

/-- Settles O8: each opcode writes the staging image by its own function, or is denied. -/
theorem stagingImage : Obligations.StagingImage := by
  refine ⟨fun h s cls ix off len data mask => writeObject_served, fun h s hr => ?_, fun h s off data => loadImage_served⟩
  exact runRow_stages (op := .discard) (torn := false) CfgPart.image hr rfl (by decide) rfl

/-! ## COMMIT (R331) -/

theorem State.setRestage_sameBut (s : State) : s.sameBut [.restage] (s.modCfg fun d => { d with restage := true }) :=
  State.sameBut_of_rest (State.modCfg_rest _ _ fun c => by simp [CfgPart.rest, cleared])

theorem State.setNextCfg_sameBut (x : NextCfg) (s : State) : s.sameBut [.nextCfg] (s.modCfg fun d => { d with next := some x }) :=
  State.sameBut_of_rest (State.modCfg_rest _ _ fun c => by simp [CfgPart.rest, cleared])

/-- What an accepted commit of a staging image with other settings puts in force at the next strobe. -/
def committedCfg (c : Caller) (s : State) : NextCfg :=
  { image := finishImage s.cfg.staging s.serialBcd, cfgCrc := configCrc (finishImage s.cfg.staging s.serialBcd)
    safeCrc := safetyCrc (finishImage s.cfg.staging s.serialBcd), source := c.code }

theorem opCommit_unchanged {c : Caller} {s : State} (hc : commitCheck s.cfg.staging s.facts = none)
    (hset : sameSettings s.cfg.staging s.im = true) :
    opCommit c s = (s.modCfg fun d => { d with restage := true },
      .sent (s.fr.frameNo + 1) stOk (commitBody s.cfg.hdr.cfgCrc s.cfg.hdr.safeCrc (s.fr.frameNo + 1) false)) := by
  unfold opCommit
  dsimp only
  rw [hc]
  exact if_pos hset

theorem opCommit_changed {c : Caller} {s : State} (hc : commitCheck s.cfg.staging s.facts = none)
    (hset : sameSettings s.cfg.staging s.im = false) :
    opCommit c s = (s.modCfg fun d => { d with next := some (committedCfg c s) }, .sent (s.fr.frameNo + 1) stOk
      (commitBody (committedCfg c s).cfgCrc (committedCfg c s).safeCrc (s.fr.frameNo + 1) true)) := by
  unfold opCommit
  dsimp only
  rw [hc]
  exact if_neg (by simp [hset])

section
variable {h : PktHead} {s : State}

theorem State.accepted_committedCfg (c : Caller) (h : PktHead) (opc : Nat) : committedCfg c (s.accepted h opc) = committedCfg c s :=
  State.of_accepted (committedCfg c) fun _ _ _ => rfl

theorem commit_served (hr : s.ready h 0x0203) (hc : commitCheck s.cfg.staging s.facts = none) :
    ∃ u, exec (.commit h) s = .next u ∧ u.cfg.image = s.cfg.image ∧ u.cfg.staging = s.cfg.staging ∧
    (sameSettings s.cfg.staging s.im = true →
      s.repliedAt u h .commit (s.fr.frameNo + 1) stOk (commitBody s.cfg.hdr.cfgCrc s.cfg.hdr.safeCrc (s.fr.frameNo + 1) false) ∧
      u.cfg = { s.cfg with restage := true } ∧ s.served u h [.restage]) ∧
    (sameSettings s.cfg.staging s.im = false →
      let new := finishImage s.cfg.staging s.serialBcd
      s.repliedAt u h .commit (s.fr.frameNo + 1) stOk (commitBody (configCrc new) (safetyCrc new) (s.fr.frameNo + 1) true) ∧
      u.cfg = { s.cfg with
        next := some { image := new, cfgCrc := configCrc new, safeCrc := safetyCrc new, source := s.codeOf h.port } } ∧
      s.served u h [.nextCfg]) := by
  have hcheck : commitCheck (s.accepted h 0x0203).cfg.staging (s.accepted h 0x0203).facts = none := by
    rw [State.accepted_cfg, State.accepted_facts, hc]
  have hsettings : sameSettings (s.accepted h 0x0203).cfg.staging (s.accepted h 0x0203).im = sameSettings s.cfg.staging s.im := by
    rw [State.accepted_im, State.accepted_cfg]
  cases hset : sameSettings s.cfg.staging s.im with
  | true =>
    obtain ⟨u, e, hreply, hserved, hsame⟩ := runRow_sentAt_served (op := .commit) (torn := false) hr rfl (by decide)
      (opCommit_unchanged hcheck (hsettings.trans hset)) (State.setRestage_sameBut _) (by decide) rfl
    rw [State.accepted_cfg, State.accepted_fr] at hreply
    have hcfg : u.cfg = { s.cfg with restage := true } := by
      rw [hsame.cfg_of_reply, State.modCfg_cfg, State.accepted_cfg]
    exact ⟨u, e, (congrArg CfgPart.image hcfg).trans rfl, (congrArg CfgPart.staging hcfg).trans rfl, fun _ => ⟨hreply, hcfg, hserved⟩, nofun⟩
  | false =>
    obtain ⟨u, e, hreply, hserved, hsame⟩ := runRow_sentAt_served (op := .commit) (torn := false) hr rfl (by decide)
      (opCommit_changed hcheck (hsettings.trans hset)) (State.setNextCfg_sameBut _ _) (by decide) rfl
    rw [State.accepted_committedCfg, State.accepted_fr] at hreply
    rw [State.accepted_committedCfg] at hsame
    have hcfg : u.cfg = { s.cfg with next := some (committedCfg (makeCaller (s.codeOf h.port) h.session (opCode .commit) h) s) } := by
      rw [hsame.cfg_of_reply, State.modCfg_cfg, State.accepted_cfg]
    exact ⟨u, e, (congrArg CfgPart.image hcfg).trans rfl, (congrArg CfgPart.staging hcfg).trans rfl, nofun, fun _ => ⟨hreply, hcfg, hserved⟩⟩

end

/-! ## CONFIRM (R545) -/

theorem opConfirm_refused {crc : Nat} {c : Caller} {s : State} (hne : crc ≠ s.cfg.hdr.safeCrc) :
    opConfirm crc c s = (s.cfgEv { code := 0x0304, src := c.code, p1 := crc, p2 := s.cfg.hdr.safeCrc }, .now stSafetyCrc []) :=
  if_pos hne

theorem opConfirm_again {crc : Nat} {c : Caller} {s : State} (heq : crc = s.cfg.hdr.safeCrc) (hagain : s.cfg.hdr.confirmed = crc) :
    opConfirm crc c s = s.done :=
  (if_neg (not_not.2 heq)).trans (if_pos hagain)

/-- The state with the safety CRC in force confirmed, a store begun and the confirmation recorded. -/
def State.confirmed (crc code : Nat) (s : State) : State :=
  ((s.modCfg fun d => { d with hdr := { d.hdr with confirmed := crc } }).storeStart).cfgEv
    { code := 0x0303, src := code, p1 := crc, p2 := s.cfg.hdr.confirmed }

theorem opConfirm_first {crc : Nat} {c : Caller} {s : State} (heq : crc = s.cfg.hdr.safeCrc) (hfirst : s.cfg.hdr.confirmed ≠ crc) :
    opConfirm crc c s = (s.confirmed crc c.code).done :=
  (if_neg (not_not.2 heq)).trans (if_neg hfirst)

theorem CfgPart.setSlot_hdr (k : Nat) (v : Option Slot) (c : CfgPart) : (c.setSlot k v).hdr = c.hdr := by
  unfold CfgPart.setSlot
  split <;> rfl

theorem CfgPart.setSlot_store (k : Nat) (v : Option Slot) (c : CfgPart) : (c.setSlot k v).store = c.store := by
  unfold CfgPart.setSlot
  split <;> rfl

theorem makeSlot_confirmed (im : Image) (x : Header) : (makeSlot im x).hdr.confirmed = x.confirmed := by
  cases x
  rfl

section
variable (s : State)

theorem State.storeStart_sameBut : s.sameBut [.recd, .hdr, .slotA, .slotB, .store] s.storeStart :=
  State.sameBut_of_rest (State.storeStart_rest _ (by decide))

theorem State.storeStart_confirmed : s.storeStart.cfg.hdr.confirmed = s.cfg.hdr.confirmed := by
  unfold State.storeStart
  dsimp only
  rw [State.modCfg_cfg, CfgPart.setSlot_hdr, makeSlot_confirmed]

theorem State.storeStart_running : s.storeStart.cfg.store.isSome = true := by
  unfold State.storeStart
  dsimp only
  rw [State.modCfg_cfg, CfgPart.setSlot_store, Option.isSome_some]

end

section
variable {h : PktHead} {s : State} {crc : Nat}

theorem State.setConfirmed_sameBut (crc : Nat) (s : State) :
    s.sameBut [.hdr] (s.modCfg fun d => { d with hdr := { d.hdr with confirmed := crc } }) :=
  State.sameBut_of_rest (State.modCfg_rest _ _ fun c => by simp [CfgPart.rest, cleared])

/-- The confirmed CRC and the store, before the record. -/
theorem State.confirmedStore_sameBut (crc : Nat) (s : State) : s.sameBut ([.hdr] ++ [.recd, .hdr, .slotA, .slotB, .store])
    (s.modCfg fun d => { d with hdr := { d.hdr with confirmed := crc } }).storeStart :=
  State.sameBut_trans (State.setConfirmed_sameBut crc s) (State.storeStart_sameBut _)

theorem State.confirmed_sameBut (crc code : Nat) (s : State) :
    s.sameBut [.recd, .cfgEv, .hdr, .slotA, .slotB, .store] (s.confirmed crc code) :=
  State.sameBut_mono (State.sameBut_trans (State.confirmedStore_sameBut crc s) (State.cfgEv_sameBut _ _)) (by decide)

theorem State.confirmed_cfgEv (crc code : Nat) (s : State) : (s.confirmed crc code).port.cfgEv =
    s.port.cfgEv ++ [{ code := 0x0303, src := code, p1 := crc, p2 := s.cfg.hdr.confirmed }] :=
  congrArg (· ++ [_]) ((State.confirmedStore_sameBut crc s).cfgEv (by decide))

theorem confirm_served (hr : s.ready h 0x0703) (hcrc : crc < 2 ^ 32) : ∃ u, exec (.confirm h crc) s = .next u ∧
    (crc ≠ s.cfg.hdr.safeCrc → s.replied u h 0x0703 stSafetyCrc [] ∧ u.cfg = s.cfg ∧
      u.port.cfgEv = s.port.cfgEv ++ [{ code := 0x0304, src := s.codeOf h.port, p1 := crc, p2 := s.cfg.hdr.safeCrc }] ∧
      s.served u h [.cfgEv]) ∧
    (crc = s.cfg.hdr.safeCrc → s.cfg.hdr.confirmed = crc →
      s.repliedAt u h (.confirm crc) s.fr.frameNo stOk [] ∧ s.served u h []) ∧
    (crc = s.cfg.hdr.safeCrc → s.cfg.hdr.confirmed ≠ crc →
      s.repliedAt u h (.confirm crc) s.fr.frameNo stOk [] ∧ u.cfg.hdr.confirmed = crc ∧ u.cfg.store.isSome = true ∧
      u.cfg.image = s.cfg.image ∧
      u.port.cfgEv = s.port.cfgEv ++ [{ code := 0x0303, src := s.codeOf h.port, p1 := crc, p2 := s.cfg.hdr.confirmed }] ∧
      s.served u h [.recd, .cfgEv, .hdr, .slotA, .slotB, .store]) := by
  have hexec : exec (.confirm h crc) s = runRow h true true false (.confirm crc) s := by
    dsimp only [exec, execConfirm]
    rw [decide_eq_true hcrc]
  rw [hexec]
  have hcfg : (s.accepted h (opCode (.confirm crc))).cfg = s.cfg := State.accepted_cfg ..
  have hev : (s.accepted h (opCode (.confirm crc))).port.cfgEv = s.port.cfgEv := (s.accepted_sameBut h _).cfgEv (by decide)
  by_cases hne : crc ≠ s.cfg.hdr.safeCrc
  · obtain ⟨u, e, hreply, hrecord, hserved⟩ := runRow_recorded (op := .confirm crc) (torn := false) hr rfl (by simp)
      (opConfirm_refused (hcfg.symm ▸ hne))
    rw [hcfg] at hrecord
    exact ⟨u, e, fun _ => ⟨hreply, hserved.2.cfg fun p hp => not_mem_recordedParts (by revert p; decide), hrecord, hserved⟩,
      fun h => absurd h hne, fun h => absurd h hne⟩
  · have heq : crc = s.cfg.hdr.safeCrc := not_not.1 hne
    by_cases hagain : s.cfg.hdr.confirmed = crc
    · obtain ⟨u, e, hreply, hserved, -⟩ := runRow_sentAt_served (op := .confirm crc) (torn := false) hr rfl (by simp)
        (opConfirm_again (hcfg.symm ▸ heq) (hcfg.symm ▸ hagain)) (State.sameBut_refl [] _) (by decide) rfl
      rw [State.accepted_fr] at hreply
      exact ⟨u, e, fun h => absurd h hne, fun _ _ => ⟨hreply, hserved⟩, fun _ h => absurd hagain h⟩
    · obtain ⟨u, e, hreply, hserved, hsame⟩ := runRow_sentAt_served (op := .confirm crc) (torn := false) hr rfl (by simp)
        (opConfirm_first (hcfg.symm ▸ heq) (hcfg.symm ▸ hagain)) (State.confirmed_sameBut _ _ _) (by decide)
        ((State.confirmed_sameBut _ _ _).owner (by decide))
      rw [(State.confirmed_sameBut ..).fr (by decide), State.accepted_fr] at hreply
      have hu : u.cfg = ((s.accepted h (opCode (.confirm crc))).confirmed crc (s.codeOf h.port)).cfg := hsame.cfg_of_reply
      have hrecord := (hsame.cfgEv (not_mem_replyParts (by decide))).trans (State.confirmed_cfgEv ..)
      rw [hev, hcfg] at hrecord
      refine ⟨u, e, fun h => absurd h hne, fun _ h => absurd h hagain, fun _ _ => ⟨hreply, ?_, ?_, ?_, hrecord, hserved⟩⟩
      · rw [hu]
        exact State.storeStart_confirmed _
      · rw [hu]
        exact State.storeStart_running _
      · rw [hu, ← hcfg]
        exact (State.confirmed_sameBut ..).2.2 .image (by decide)

end

/-- Settles O10: the commit by its two outcomes, the confirmation by its three. -/
theorem configurationRequests : Obligations.ConfigurationRequests :=
  ⟨fun _ _ => commit_served, fun _ _ _ => confirm_served⟩

/-! ## The calendar (R445 to R463) -/

theorem State.twiDo_unlocked {s : State} (f : Twi → Twi) (hl : s.twi.locked = false) : s.twiDo f = s.modTwi f :=
  if_neg (by simp [hl])

theorem State.twiRun_unlocked {s : State} (r : Run) (hl : s.twi.locked = false) : s.twiRun r = r :=
  if_neg (by simp [hl])

theorem State.twiRun_locked {s : State} (r : Run) (hl : s.twi.locked = true) : s.twiRun r = (s, .hold) :=
  if_pos hl

theorem State.modTwi_sameBut (f : Twi → Twi) (s : State) : s.sameBut [.twi] (s.modTwi f) :=
  State.sameBut_of_rest (State.modTwi_rest _ _ (by decide))

section
variable {h : PktHead} {op : Op} {torn : Bool} {s : State}

/-- A locked Twilight interface refuses the access of an opcode, and no reply is sent (R445). -/
theorem runRow_locked {r : Run} (hr : s.ready h (opCode op)) (hA : opAlarm op = false) (hl : s.twi.locked = true)
    (ho : runOp op torn (makeCaller (s.codeOf h.port) h.session (opCode op) h) (s.accepted h (opCode op)) =
      (s.accepted h (opCode op)).twiRun r) :
    ∃ u, runRow h true true torn op s = .next u ∧ s.waits u h op none none ∧ s.served u h [] := by
  rw [State.twiRun_locked _ (by rw [State.accepted_twi, hl])] at ho
  obtain ⟨u, e, hwaits, howner, hsame⟩ := runRow_hold hr (by simp [hA]) ho (s.tame_accepted h _)
  exact ⟨u, e, hwaits, State.served_of (State.sameBut_refl [] _) howner hsame rfl⟩

/-- An opcode that writes the Twilight domain, and acknowledges it at once. -/
theorem runRow_twiNow {f : Twi → Twi} (hr : s.ready h (opCode op)) (hA : opAlarm op = false) (hw : op ≠ .warmRestart)
    (hl : s.twi.locked = false)
    (ho : runOp op torn (makeCaller (s.codeOf h.port) h.session (opCode op) h) (s.accepted h (opCode op)) =
      (s.accepted h (opCode op)).twiRun (((s.accepted h (opCode op)).twiDo f).show [])) :
    ∃ u, runRow h true true torn op s = .next u ∧ s.replied u h (opCode op) stOk [] ∧ s.served u h [.twi] ∧ u.twi = f s.twi := by
  have hacc : (s.accepted h (opCode op)).twi.locked = false := by rw [State.accepted_twi, hl]
  rw [State.twiRun_unlocked _ hacc, State.twiDo_unlocked _ hacc] at ho
  obtain ⟨u, e, hreply, hserved, hsame⟩ := runRow_now_served hr hA hw ho (State.modTwi_sameBut _ _) (by decide) rfl
  refine ⟨u, e, hreply, hserved, ?_⟩
  rw [hsame.2.2 .twi (not_mem_replyParts (by decide)), State.modTwi_twi, State.accepted_twi]

/-- The three attempts of a torn read of the time are recorded. -/
def State.tornRead (torn : Bool) (s : State) : State := if torn then s.unitEvs [{ code := 0x0C14, p1 := 3 }] else s

theorem State.tornRead_sameBut (torn : Bool) (s : State) : s.sameBut [.recd] (s.tornRead torn) := by
  cases torn with
  | false => exact State.sameBut_refl _ _
  | true => exact State.sameBut_of_rest (State.unitEvs_rest _ _ (by decide))

theorem State.tornRead_accepted (opc : Nat) : ((s.accepted h opc).tornRead torn).recd = (s.tornRead torn).recd := by
  cases torn with
  | false => exact State.of_accepted State.recd fun _ _ _ => rfl
  | true => exact State.of_accepted (fun x => (x.unitEvs _).recd) fun _ _ _ => State.unitEvs_recd_congr _ rfl rfl rfl

theorem readTime_served (hr : s.ready h 0x0601) : ∃ u, exec (.readTime h torn) s = .next u ∧
    (s.twi.locked = false → s.replied u h 0x0601 stOk (toBytes 16 (timeBlock s.now torn s.twi)) ∧ u.twi = s.twi ∧
      u.recd = (if torn then s.unitEvs [{ code := 0x0C14, p1 := 3 }] else s).recd ∧ s.served u h [.recd]) ∧
    (s.twi.locked = true → s.waits u h .readTime none none ∧ s.served u h []) := by
  cases hl : s.twi.locked with
  | false =>
    have ho : opReadTime torn (s.accepted h 0x0601) =
        ((s.accepted h 0x0601).tornRead torn, .now stOk (toBytes 16 (timeBlock s.now torn s.twi))) := by
      rw [opReadTime, State.twiRun_unlocked _ (by rw [State.accepted_twi, hl]), State.accepted_twi, State.accepted_now]
      rfl
    have htwi : ((s.accepted h 0x0601).tornRead torn).twi = s.twi :=
      (((State.tornRead_sameBut torn _).2.2 .twi (by decide)).trans (State.accepted_twi ..))
    obtain ⟨u, e, hreply, hserved, hsame⟩ := runRow_now_served (op := .readTime) (torn := torn) hr rfl (by decide) ho
      (State.tornRead_sameBut torn _) (by decide) ((State.tornRead_sameBut torn _).owner (by decide))
    exact ⟨u, e, fun _ => ⟨hreply, (hsame.2.2 .twi (not_mem_replyParts (by decide))).trans htwi,
      (hsame.2.2 .recd (not_mem_replyParts (by decide))).trans (State.tornRead_accepted _), hserved⟩, nofun⟩
  | true =>
    obtain ⟨u, e, hu⟩ := runRow_locked (op := .readTime) (torn := torn) hr rfl hl rfl
    exact ⟨u, e, nofun, fun _ => hu⟩

theorem stageTime_served {set : List Byte} (hr : s.ready h 0x0602) (hset : set.length = 12) : ∃ u, exec (.stageTime h set) s = .next u ∧
    (stReserved (ofBytes set) = true → s.onlyReplied u h 0x0602 stBadValue []) ∧
    (stReserved (ofBytes set) = false → s.twi.locked = false → s.replied u h 0x0602 stOk [] ∧ s.served u h [.twi] ∧
      u.twi = { s.twi with stage := ofBytes set % 2 ^ 96 }) ∧
    (stReserved (ofBytes set) = false → s.twi.locked = true → s.waits u h (.stageTime set) none none ∧ s.served u h []) := by
  have hexec : exec (.stageTime h set) s = runRow h true true false (.stageTime set) s := by
    dsimp only [exec, execStageTime]
    rw [decide_eq_true hset]
  rw [hexec]
  cases hres : stReserved (ofBytes set) with
  | true =>
    obtain ⟨u, e, hu⟩ := runRow_denied (op := .stageTime set) (torn := false) (st := stBadValue) hr rfl (by simp) (if_pos hres)
    exact ⟨u, e, fun _ => hu, nofun, nofun⟩
  | false =>
    have hfree : ¬ stReserved (ofBytes set) = true := by simp [hres]
    cases hl : s.twi.locked with
    | false =>
      obtain ⟨u, e, hu⟩ := runRow_twiNow (op := .stageTime set) (torn := false) hr rfl (by simp) hl (if_neg hfree)
      exact ⟨u, e, nofun, fun _ _ => hu, nofun⟩
    | true =>
      obtain ⟨u, e, hu⟩ := runRow_locked (op := .stageTime set) (torn := false) hr rfl hl (if_neg hfree)
      exact ⟨u, e, nofun, nofun, fun _ _ => hu⟩

/-- The clock set from the staging set, with its link (R301, R456). -/
def State.timeSet (s : State) : State :=
  (s.modTwi (timeCommit s.now)).unitEvs [(s.modTwi (timeCommit s.now)).timeLink 1]

theorem State.timeSet_sameBut (s : State) : s.sameBut [.recd, .twi] s.timeSet :=
  State.sameBut_of_rest (by rw [State.timeSet, State.unitEvs_rest _ _ (by decide), State.modTwi_rest _ _ (by decide)])

theorem State.timeSet_twi (s : State) : s.timeSet.twi = timeCommit s.now s.twi :=
  (State.unitEvs_twi ..).trans rfl

theorem commitTime_served (hr : s.ready h 0x0603) : ∃ u, exec (.commitTime h) s = .next u ∧
    (stValid s.twi.stage = false → s.onlyReplied u h 0x0603 stBadDate []) ∧
    (stValid s.twi.stage = true → s.twi.locked = false → s.repliedAt u h .commitTime s.fr.frameNo stOk [] ∧
      s.served u h [.recd, .twi] ∧ u.twi = timeCommit s.now s.twi) ∧
    (stValid s.twi.stage = true → s.twi.locked = true → s.waits u h .commitTime none none ∧ s.served u h []) := by
  have hstage : stValid (s.accepted h 0x0603).twi.stage = stValid s.twi.stage := by rw [State.accepted_twi]
  cases hvalid : stValid s.twi.stage with
  | false =>
    obtain ⟨u, e, hu⟩ := runRow_denied (op := .commitTime) (torn := false) (st := stBadDate) hr rfl (by decide)
      (if_pos (by simp [opCode, hstage, hvalid]))
    exact ⟨u, e, fun _ => hu, nofun, nofun⟩
  | true =>
    have hgood : ¬ (!stValid (s.accepted h 0x0603).twi.stage) = true := by simp [hstage, hvalid]
    cases hl : s.twi.locked with
    | false =>
      have hacc : (s.accepted h 0x0603).twi.locked = false := by rw [State.accepted_twi, hl]
      have ho : opCommitTime (s.accepted h 0x0603) = (s.accepted h 0x0603).timeSet.done := by
        rw [opCommitTime, if_neg hgood]
        dsimp only
        rw [State.twiRun_unlocked _ hacc, State.twiDo_unlocked _ hacc]
        rfl
      obtain ⟨u, e, hreply, hserved, hsame⟩ := runRow_sentAt_served (op := .commitTime) (torn := false) hr rfl (by decide) ho
        (State.timeSet_sameBut _) (by decide) ((State.timeSet_sameBut _).owner (by decide))
      rw [(State.timeSet_sameBut _).fr (by decide), State.accepted_fr] at hreply
      refine ⟨u, e, nofun, fun _ _ => ⟨hreply, hserved, ?_⟩, nofun⟩
      rw [hsame.2.2 .twi (not_mem_replyParts (by decide)), State.timeSet_twi, State.accepted_twi, State.accepted_now]
    | true =>
      obtain ⟨u, e, hu⟩ := runRow_locked (op := .commitTime) (torn := false) hr rfl hl (if_neg hgood)
      exact ⟨u, e, nofun, nofun, fun _ _ => hu⟩

theorem setWeekday_served {w : Nat} (hr : s.ready h 0x0604) (hlt : w < 8) : ∃ u, exec (.setWeekday h w) s = .next u ∧
    (6 < w → s.onlyReplied u h 0x0604 stBadValue []) ∧
    (w ≤ 6 → s.twi.locked = false → s.repliedAt u h (.setWeekday w) s.fr.frameNo stOk [] ∧ s.served u h [.twi] ∧
      u.twi = { s.twi with wday := w, wdayAt := some s.now }) ∧
    (w ≤ 6 → s.twi.locked = true → s.waits u h (.setWeekday w) none none ∧ s.served u h []) := by
  have hexec : exec (.setWeekday h w) s = runRow h true true false (.setWeekday w) s := by
    dsimp only [exec, execSetWeekday]
    rw [decide_eq_true (show w < 2 ^ 3 from hlt)]
  rw [hexec]
  by_cases hbad : 6 < w
  · obtain ⟨u, e, hu⟩ := runRow_denied (op := .setWeekday w) (torn := false) (st := stBadValue) hr rfl (by simp) (if_pos hbad)
    exact ⟨u, e, fun _ => hu, by omega, by omega⟩
  · cases hl : s.twi.locked with
    | false =>
      have hacc : (s.accepted h 0x0604).twi.locked = false := by rw [State.accepted_twi, hl]
      have ho : opSetWeekday w (s.accepted h 0x0604) = ((s.accepted h 0x0604).modTwi (setWeekday s.now w)).done := by
        rw [opSetWeekday, if_neg hbad, State.twiRun_unlocked _ hacc, State.twiDo_unlocked _ hacc, State.accepted_now]
      obtain ⟨u, e, hreply, hserved, hsame⟩ := runRow_sentAt_served (op := .setWeekday w) (torn := false) hr rfl (by simp) ho
        (State.modTwi_sameBut _ _) (by decide) rfl
      rw [State.modTwi_fr, State.accepted_fr] at hreply
      refine ⟨u, e, fun h => absurd h hbad, fun _ _ => ⟨hreply, hserved, ?_⟩, nofun⟩
      rw [hsame.2.2 .twi (not_mem_replyParts (by decide)), State.modTwi_twi, State.accepted_twi]
      rfl
    | true =>
      obtain ⟨u, e, hu⟩ := runRow_locked (op := .setWeekday w) (torn := false) hr rfl hl (if_neg hbad)
      exact ⟨u, e, fun h => absurd h hbad, nofun, fun _ _ => hu⟩

theorem writeBackup_served {off len : Nat} {data : List Byte} (hr : s.ready h 0x0606) (hoff : off < 128) (hlen : len < 2 ^ 8)
    (hdata : data.length = len) : ∃ u, exec (.writeBackup h off len data) s = .next u ∧
      (128 < off + len → s.onlyReplied u h 0x0606 stBadValue []) ∧
      (off + len ≤ 128 → s.twi.locked = false → s.replied u h 0x0606 stOk [] ∧ s.served u h [.twi] ∧
        u.twi = bramCommit (fillBuffer off data s.twi)) ∧
      (off + len ≤ 128 → s.twi.locked = true → s.waits u h (.writeBackup off len data) none none ∧ s.served u h []) := by
  have hexec : exec (.writeBackup h off len data) s = runRow h true true false (.writeBackup off len data) s := by
    dsimp only [exec, execWriteBackup]
    rw [decide_eq_true (show off < 2 ^ 7 from hoff), decide_eq_true hlen, decide_eq_true hdata]
    rfl
  rw [hexec]
  by_cases hbad : 128 < off + len
  · obtain ⟨u, e, hu⟩ := runRow_denied (op := .writeBackup off len data) (torn := false) (st := stBadValue) hr rfl (by simp)
      (if_pos (.inl hbad))
    exact ⟨u, e, fun _ => hu, by omega, by omega⟩
  · have hin : ¬ (128 < off + len ∨ data.length ≠ len) := fun h => h.elim hbad fun hne => hne hdata
    cases hl : s.twi.locked with
    | false =>
      obtain ⟨u, e, hu⟩ := runRow_twiNow (op := .writeBackup off len data) (torn := false) hr rfl (by simp) hl (if_neg hin)
      exact ⟨u, e, fun h => absurd h hbad, fun _ _ => hu, nofun⟩
    | true =>
      obtain ⟨u, e, hu⟩ := runRow_locked (op := .writeBackup off len data) (torn := false) hr rfl hl (if_neg hin)
      exact ⟨u, e, fun h => absurd h hbad, nofun, fun _ _ => hu⟩

end

/-- Settles O14: each opcode by its refusals and by the lock of the interface. -/
theorem clockRequests : Obligations.ClockRequests :=
  ⟨fun _ _ _ => readTime_served, fun _ _ _ => stageTime_served, fun _ _ => commitTime_served, fun _ _ _ => setWeekday_served,
    fun _ _ _ _ _ => writeBackup_served⟩

end Sys2Proof.Machine
end

section
/-! PROOFS. Sessions and ownership (R321, R343 to R356): what ends and passes ownership, one fact per operation, and the packets of the
owner and of those who would be. -/

namespace Sys2Proof.Machine

/-! ## Replies with no trace open -/

section
variable {s : State}

theorem State.traceIdle_none (h : s.port.trace = none) : s.traceIdle := fun t ht => by simp [h] at ht

/-- With no trace open nothing follows a reply. -/
theorem State.sendAnswer_untraced (r : Reply) (hrole : s.unt.pair.role ≠ 2) (hwithin : s.port.replayIn.within = false)
    (htrace : s.port.trace = none) : s.sendAnswer r = s.emit r := by
  have hemit : (s.emit r).port.trace = none :=
    ((State.sameBut_of_rest (State.emit_rest (ps := [.can, .outbox, .portSt, .wire]) r s (by decide))).2.2 .trace (by decide)).trans htrace
  unfold State.sendAnswer
  rw [State.sendReply_eq hrole hwithin]
  dsimp only
  split
  · exact State.serialTrace_idle (State.traceIdle_none hemit)
  · rfl

/-- What carries a reply while no trace is open. -/
def untracedParts : List Part := [.can, .sess, .outbox, .portSt, .wire]

/-- The reply of an answer without a trace is the last packet sent. -/
theorem State.answer_untraced (c : Caller) (st : Nat) (b : List Byte) (hrole : s.unt.pair.role ≠ 2)
    (hwithin : s.port.replayIn.within = false) (htrace : s.port.trace = none) :
    (s.answer c st b).port.outbox = s.port.outbox ++ [c.reply st b] ∧ s.sameBut untracedParts (s.answer c st b) := by
  have heq : s.answer c st b = State.emit (c.reply st b) (s.modSess c.code fun x =>
      if x.id = c.sid ∧ x.lastSeq = c.seq ∧ c.sid ≠ 0 then { x with busy := false, reply := some (c.reply st b) } else x) :=
    State.sendAnswer_untraced _ hrole hwithin htrace
  rw [heq]
  exact ⟨State.emit_outbox _ _, State.sameBut_of_rest (by
    rw [State.emit_rest _ _ (by decide), State.modSess_rest _ _ _ (by decide)])⟩

end

section
variable {h : PktHead} {op : Op} {torn : Bool} {s r : State} {st : Nat} {b : List Byte} {ps : List Part}

/-- An opcode that answers at once and leaves no trace open: its reply is the last packet sent. -/
theorem runRow_untraced (hr : s.ready h (opCode op)) (hA : opAlarm op = false) (hw : op ≠ .warmRestart)
    (ho : runOp op torn (makeCaller (s.codeOf h.port) h.session (opCode op) h) (s.accepted h (opCode op)) = (r, .now st b))
    (hq : (s.accepted h (opCode op)).sameBut ps r) (hps : ∀ p ∈ [Part.pair, .replayIn], p ∉ ps) (htrace : r.port.trace = none) :
    ∃ u, runRow h true true torn op s = .next u ∧ u.port.outbox.getLast? = some (s.replyTo h (opCode op) st b) ∧
      r.sameBut untracedParts u := by
  have hacc := s.tame_accepted h (opCode op)
  have hrole : r.unt.pair.role ≠ 2 := by
    rw [hq.pair (hps _ (by decide)), hacc.role]
    exact State.ready_role hr
  have hwithin : r.port.replayIn.within = false := by
    rw [hq.replayIn (hps _ (by decide)), hacc.within]
    exact State.ready_within hr
  obtain ⟨hout, hsame⟩ := State.answer_untraced (makeCaller (s.codeOf h.port) h.session (opCode op) h) st b hrole hwithin htrace
  refine ⟨_, runRow_ready hr (by simp [hA]), ?_⟩
  rw [ho]
  simp only [State.settle, State.deliver, hw, false_and, if_false]
  have hsends := State.activeSends_sameBut (opMirror op (s.accepted h (opCode op)) r)
    (r.answer (makeCaller (s.codeOf h.port) h.session (opCode op) h) st b)
  refine ⟨?_, State.sameBut_mono (State.sameBut_trans hsame hsends) (by decide)⟩
  rw [hsends.2.2 .outbox (by decide), hout, List.getLast?_concat]
  rfl

end

/-! ## Operations of ownership (R354 to R356) -/

/-- What a change of owner writes beside ownership itself: the end of the trace and the new copy of the staging image. -/
def movedParts : List Part := [.can, .outbox, .portSt, .wire, .trace, .restage]

/-- What ownership operations write. -/
def ownerParts : List Part := [.can, .outbox, .owner, .portSt, .wire, .trace, .restage]

section
variable (s : State)

theorem State.ownerMoved_sameBut : s.sameBut movedParts s.ownerMoved := State.sameBut_of_rest (State.ownerMoved_rest _ (by decide))
theorem State.vacate_sameBut (why : Nat) : s.sameBut ownerParts (s.vacate why) := State.sameBut_of_rest (State.vacate_rest _ _ (by decide))
theorem State.newOwner_sameBut (code why : Nat) : s.sameBut ownerParts (s.newOwner code why) :=
  State.sameBut_of_rest (State.newOwner_rest _ _ _ (by decide))
theorem State.endOffer_sameBut (why : Nat) : s.sameBut [.owner] (s.endOffer why) := State.sameBut_of_rest (State.endOffer_rest _ _ (by decide))
theorem State.modOwner_sameBut (f : Owner → Owner) : s.sameBut [.owner] (s.modOwner f) :=
  State.sameBut_of_rest (State.modOwner_rest _ _ (by decide))

theorem State.ownerMoved_owner : s.ownerMoved.port.owner = s.port.owner := s.ownerMoved_sameBut.owner (by decide)
theorem State.ownerMoved_trace : s.ownerMoved.port.trace = none := rfl

theorem State.ownerMoved_cfg : s.ownerMoved.cfg = { s.cfg with restage := true } := by
  have hend : s.sameBut [.can, .outbox, .portSt, .wire, .trace] (s.endTrace true) :=
    State.sameBut_of_rest (State.endTrace_rest _ _ (by decide))
  rw [State.ownerMoved, State.modCfg_cfg, hend.cfg (by decide)]

/-- With no trace open a change of owner sends nothing. -/
theorem State.ownerMoved_outbox {s : State} (htrace : s.port.trace = none) : s.ownerMoved.port.outbox = s.port.outbox := by
  unfold State.ownerMoved State.endTrace
  rw [htrace]
  rfl

/-- Ownership with the standing offer ended for the reason `why`. -/
def Owner.offerEnded (why : Nat) (o : Owner) : Owner :=
  { o with offer := none
           ev := o.ev ++ o.offer.toList.map fun x => { code := 0x0D02, src := 0xFF, p1 := x.1, p2 := 0, p3 := why } }

theorem State.endOffer_owner (why : Nat) : (s.endOffer why).port.owner = s.port.owner.offerEnded why := by
  unfold State.endOffer Owner.offerEnded
  cases hoffer : s.port.owner.offer with
  | none =>
    simp only [Option.toList_none, List.map_nil, List.append_nil]
    rw [← hoffer]
  | some x => rfl

theorem State.endOffer_trace (why : Nat) : (s.endOffer why).port.trace = s.port.trace :=
  (s.endOffer_sameBut why).2.2 .trace (by decide)

section
variable {s : State} {old : Nat} (howner : s.port.owner.owner = some old) (why : Nat)
include howner

theorem State.vacate_eq :
    s.vacate why = ((s.ownerMoved.modOwner fun o => { o with owner := none }).ownerEv 0x0D01 0xFF old why).endOffer 3 := by
  rw [State.vacate, howner]

theorem State.vacate_owner : (s.vacate why).port.owner = Owner.offerEnded 3 { s.port.owner with
    owner := none, ev := s.port.owner.ev ++ [{ code := 0x0D01, src := 0xFF, p1 := 0xFF, p2 := old, p3 := why }] } := by
  rw [State.vacate_eq howner, State.endOffer_owner, ← s.ownerMoved_owner]
  rfl

theorem State.vacate_trace : (s.vacate why).port.trace = none := by
  rw [State.vacate_eq howner, State.endOffer_trace]
  rfl

theorem State.vacate_cfg : (s.vacate why).cfg = { s.cfg with restage := true } := by
  rw [State.vacate_eq howner, (State.endOffer_sameBut _ _).cfg (by decide), ← State.ownerMoved_cfg]
  rfl

theorem State.vacate_outbox (htrace : s.port.trace = none) : (s.vacate why).port.outbox = s.port.outbox := by
  rw [State.vacate_eq howner, (State.endOffer_sameBut _ _).2.2 .outbox (by decide), ← State.ownerMoved_outbox htrace]
  rfl

end

theorem State.newOwner_owner (code why : Nat) : (s.newOwner code why).port.owner = { s.port.owner with
    owner := some code, lease := s.fr.total, offer := none
    ev := s.port.owner.ev ++ [{ code := 0x0D01, src := 0xFF, p1 := code, p2 := s.ownerCode, p3 := why }] } := by
  rw [← s.ownerMoved_owner]
  rfl

theorem State.newOwner_cfg (code why : Nat) : (s.newOwner code why).cfg = { s.cfg with restage := true } :=
  s.ownerMoved_cfg

theorem State.newOwner_outbox {s : State} (code why : Nat) (htrace : s.port.trace = none) :
    (s.newOwner code why).port.outbox = s.port.outbox :=
  State.ownerMoved_outbox htrace

end

/-! ## Opcodes that pass or end ownership -/

section
variable {h : PktHead} {op : Op} {torn : Bool} {s r : State} {st : Nat} {b : List Byte}

/-- A change of owner that sends nothing leaves sessions, replies and the role to the packet that brings it. -/
theorem State.tame_of_owner {opc : Nat} (hq : (s.accepted h opc).sameBut ownerParts r)
    (hout : r.port.outbox = (s.accepted h opc).port.outbox) : s.tame r h opc := by
  have ht := s.tame_accepted h opc
  exact {
    sess := hq.2.2 .sess (by decide)
    outbox := hout.trans ht.outbox
    pend := (hq.pend (by decide)).trans ht.pend
    role := (congrArg Pair.role (hq.pair (by decide))).trans ht.role
    within := (congrArg Replay.within (hq.replayIn (by decide))).trans ht.within
    phase := (hq.phase (by decide)).trans ht.phase
    frame := (congrArg FrameClk.frameNo (hq.fr (by decide))).trans ht.frame }

/-- An opcode that changes the owner and answers at once: with a trace open, the end of that trace is sent before the reply. -/
theorem runRow_moves (hr : s.ready h (opCode op)) (hA : opAlarm op = false) (hw : op ≠ .warmRestart)
    (ho : runOp op torn (makeCaller (s.codeOf h.port) h.session (opCode op) h) (s.accepted h (opCode op)) = (r, .now st b))
    (hq : (s.accepted h (opCode op)).sameBut ownerParts r) (htrace : r.port.trace = none)
    (hout : (s.accepted h (opCode op)).port.trace = none → r.port.outbox = (s.accepted h (opCode op)).port.outbox) :
    ∃ u, runRow h true true torn op s = .next u ∧ u.port.owner = r.port.owner ∧ u.cfg = r.cfg ∧ u.port.trace = none ∧
      u.port.outbox.getLast? = some (s.replyTo h (opCode op) st b) ∧ (s.port.trace = none → s.replied u h (opCode op) st b) ∧
      s.sameBut whatPackets u := by
  obtain ⟨u, e, hlast, hsame⟩ := runRow_untraced hr hA hw ho hq (by decide) htrace
  refine ⟨u, e, hsame.owner (by decide), hsame.cfg (by decide), (hsame.2.2 .trace (by decide)).trans htrace, hlast, fun hnone => ?_,
    State.sameBut_mono (State.sameBut_trans (State.sameBut_trans (State.accepted_sameBut h _ s) hq) hsame) (by decide)⟩
  have hacc : (s.accepted h (opCode op)).port.trace = s.port.trace := (s.accepted_sameBut h _).2.2 .trace (by decide)
  obtain ⟨u', e', hreply, -⟩ := runRow_now hr (by simp [hA]) ho (State.tame_of_owner hq (hout (hacc.trans hnone))) hw
  obtain rfl : u' = u := Host.Outcome.next.inj (e'.symm.trans e)
  exact hreply

end

/-! ## CLAIM and HANDOVER (R347, R352) -/

/-- A port's own bits of its code (R343). -/
theorem State.codeOf_mod (s : State) {i : Nat} (hi : i < 6) : s.codeOf i % 8 = i := by
  unfold State.codeOf
  omega

section
variable {h : PktHead} {op : Op} {torn : Bool} {s : State}

/-- Acceptance, an effect on ownership alone, and a reply keep to what serves a packet. -/
theorem State.sameBut_servingParts {u : State} (hsame : s.sameBut (([.sess, .owner] ++ [.owner]) ++ replyParts h) u) :
    s.sameBut (servingParts h) u := by
  refine State.sameBut_mono hsame fun p hp => ?_
  rcases List.mem_append.1 hp with hp | hp
  · simp [servingParts] at hp ⊢
    tauto
  · exact servingParts_of_replyParts hp

/-- An opcode that answers at once, and beside serving its packet writes ownership by `f`. -/
theorem runRow_owns {r : State} {st : Nat} {b : List Byte} (hr : s.ready h (opCode op)) (hA : opAlarm op = false) (hw : op ≠ .warmRestart)
    (ho : runOp op torn (makeCaller (s.codeOf h.port) h.session (opCode op) h) (s.accepted h (opCode op)) = (r, .now st b))
    (hq : (s.accepted h (opCode op)).sameBut [.owner] r) :
    ∃ u, runRow h true true torn op s = .next u ∧ s.replied u h (opCode op) st b ∧ s.sameBut (servingParts h) u ∧
      u.port.owner = r.port.owner := by
  obtain ⟨u, e, hreply, howner, hsame⟩ := runRow_now hr (by simp [hA]) ho (State.tame_of_sameBut hq (by decide)) hw
  exact ⟨u, e, hreply, State.sameBut_servingParts (State.sameBut_trans (State.sameBut_trans (State.accepted_sameBut h _ s) hq) hsame), howner⟩

/-! The lease aside, ownership is found as it was. -/

theorem State.leased_owner : (s.leased h).owner = s.port.owner.owner := by
  unfold State.leased
  split <;> rfl

theorem State.leased_offer : (s.leased h).offer = s.port.owner.offer := by
  unfold State.leased
  split <;> rfl

theorem State.leased_ev : (s.leased h).ev = s.port.owner.ev := by
  unfold State.leased
  split <;> rfl

theorem State.leased_vacant (hvacant : s.port.owner.owner = none) : s.leased h = s.port.owner :=
  if_neg (by simp [hvacant])

theorem State.leased_mine (hmine : s.port.owner.owner = some (s.codeOf h.port)) : s.leased h = { s.port.owner with lease := s.fr.total } :=
  if_pos hmine

theorem State.accepted_ownerCode (h : PktHead) (opc : Nat) (s : State) : (s.accepted h opc).ownerCode = s.ownerCode := by
  rw [State.ownerCode, State.accepted_owner, State.leased_owner, State.ownerCode]

/-- A port that may use an opcode of the owner is the owner. -/
theorem State.ready_mine {opc : Nat} (hr : s.ready h opc) (hown : opOwnerOnly opc = true) : s.port.owner.owner = some (s.codeOf h.port) := by
  obtain ⟨-, -, -, -, -, -, -, -, -, -, -, -, -, hmine, -⟩ := hr
  exact hmine hown

theorem opClaim_disabled {c : Caller} (hen : poClaimEn s.im (c.code % 8) = false) :
    opClaim c s = (s, .now stBadValue [BitVec.ofNat 8 s.ownerCode]) :=
  if_pos (by rw [hen]; rfl)

theorem opClaim_held {c : Caller} {k : Nat} (hen : poClaimEn s.im (c.code % 8) = true) (howner : s.port.owner.owner = some k) :
    opClaim c s = (s, .now (if k = c.code then stOk else stOwnerHeld) [BitVec.ofNat 8 k]) := by
  rw [opClaim, if_neg (by rw [hen]; decide), howner]

theorem opClaim_collected {c : Caller} (hen : poClaimEn s.im (c.code % 8) = true) (howner : s.port.owner.owner = none) :
    opClaim c s = (s.modOwner fun o => { o with
      window := some (o.window.getD s.fr.total), claims := o.claims ++ [{ code := c.code }] }, .hold) := by
  rw [opClaim, if_neg (by rw [hen]; decide), howner]

/-- CLAIM (R347). -/
theorem claim_served (hr : s.ready h 0x0101) : ∃ u, exec (.claim h) s = .next u ∧
    (poClaimEn s.im h.port = false → s.onlyReplied u h 0x0101 stBadValue [BitVec.ofNat 8 s.ownerCode]) ∧
    (poClaimEn s.im h.port = true → ∀ k, s.port.owner.owner = some k →
      s.onlyReplied u h 0x0101 (if k = s.codeOf h.port then stOk else stOwnerHeld) [BitVec.ofNat 8 k]) ∧
    (poClaimEn s.im h.port = true → s.port.owner.owner = none →
      s.waits u h .claim none none ∧
      u.port.owner = { s.port.owner with
        window := some (s.port.owner.window.getD s.fr.total), claims := s.port.owner.claims ++ [{ code := s.codeOf h.port }] } ∧
      s.sameBut (servingParts h) u) := by
  show ∃ u, runRow h true true false .claim s = .next u ∧ _
  let c := makeCaller (s.codeOf h.port) h.session (opCode .claim) h
  have hen : poClaimEn (s.accepted h 0x0101).im (c.code % 8) = poClaimEn s.im h.port := by
    rw [State.accepted_im]
    exact congrArg _ (State.codeOf_mod s (State.ready_port (op := .claim) hr))
  have hown : (s.accepted h 0x0101).port.owner.owner = s.port.owner.owner := by rw [State.accepted_owner, State.leased_owner]
  cases hclaim : poClaimEn s.im h.port with
  | false =>
    obtain ⟨u, e, hu⟩ := runRow_onlyReplied (op := .claim) (torn := false) hr nofun (opClaim_disabled (hen.trans hclaim)) (by decide)
    rw [State.accepted_ownerCode] at hu
    exact ⟨u, e, fun _ => hu, nofun, nofun⟩
  | true =>
    cases howner : s.port.owner.owner with
    | some k =>
      obtain ⟨u, e, hu⟩ := runRow_onlyReplied (op := .claim) (torn := false) hr nofun
        (opClaim_held (hen.trans hclaim) (hown.trans howner)) (by decide)
      refine ⟨u, e, nofun, fun _ k' hk => ?_, nofun⟩
      obtain rfl : k = k' := Option.some.inj hk
      exact hu
    | none =>
      have hq := (s.accepted h 0x0101).modOwner_sameBut fun o => { o with
        window := some (o.window.getD (s.accepted h 0x0101).fr.total), claims := o.claims ++ [{ code := c.code }] }
      obtain ⟨u, e, hwaits, hu, hsame⟩ := runRow_hold (op := .claim) (torn := false) hr nofun
        (opClaim_collected (hen.trans hclaim) (hown.trans howner)) (State.tame_of_sameBut hq (by decide))
      refine ⟨u, e, nofun, nofun, fun _ _ => ⟨hwaits, ?_, ?_⟩⟩
      · rw [hu, State.modOwner_port_owner, State.accepted_owner, State.leased_vacant howner, State.accepted_fr]
        rfl
      · exact State.sameBut_servingParts (State.sameBut_trans (State.sameBut_trans (State.accepted_sameBut h _ s) hq) hsame)

theorem opHandover_denied {target : Nat} {c : Caller}
    (hbad : s.hasPort target = false ∨ target = c.code ∨ poClaimEn s.im (target % 8) = false) : opHandover target c s = deny stBadValue s :=
  if_pos (by simpa [or_assoc] using hbad)

/-- The state with an offer to port `target`, in place of one that stands. -/
def State.offered (target : Nat) (s : State) : State :=
  ((s.endOffer 2).modOwner fun o => { o with offer := some (target, s.fr.total) }).ownerEv 0x0D02 target 1 0

theorem State.offered_sameBut (target : Nat) (s : State) : s.sameBut [.owner] (s.offered target) :=
  State.sameBut_of_rest (by rw [State.offered, State.ownerEv_rest _ _ _ _ _ (by decide), State.modOwner_rest _ _ (by decide),
    State.endOffer_rest _ _ (by decide)])

theorem State.offered_owner (target : Nat) (s : State) : (s.offered target).port.owner = { s.port.owner.offerEnded 2 with
    offer := some (target, s.fr.total)
    ev := (s.port.owner.offerEnded 2).ev ++ [{ code := 0x0D02, src := 0xFF, p1 := target, p2 := 1, p3 := 0 }] } := by
  rw [← State.endOffer_owner]
  rfl

theorem opHandover_offers {target : Nat} {c : Caller} (hport : s.hasPort target = true) (hne : target ≠ c.code)
    (hen : poClaimEn s.im (target % 8) = true) : opHandover target c s = (s.offered target).show [] :=
  if_neg (by simp [hport, hne, hen])

theorem State.accepted_hasPort (h : PktHead) (opc : Nat) (s : State) (k : Nat) : (s.accepted h opc).hasPort k = s.hasPort k :=
  State.of_accepted (fun x => x.hasPort k) fun _ _ _ => rfl

/-- HANDOVER (R352). -/
theorem handover_served {target : Nat} (hr : s.ready h 0x0103) (htarget : target < 2 ^ 8) : ∃ u, exec (.handover h target) s = .next u ∧
    ((s.hasPort target = false ∨ target = s.codeOf h.port ∨ poClaimEn s.im (target % 8) = false) →
      s.onlyReplied u h 0x0103 stBadValue []) ∧
    (s.hasPort target = true → target ≠ s.codeOf h.port → poClaimEn s.im (target % 8) = true →
      s.replied u h 0x0103 stOk [] ∧ s.sameBut (servingParts h) u ∧ u.port.owner.owner = s.port.owner.owner ∧
      u.port.owner.lease = s.fr.total ∧ u.port.owner.offer = some (target, s.fr.total) ∧
      u.port.owner.ev.getLast? = some { code := 0x0D02, src := 0xFF, p1 := target, p2 := 1, p3 := 0 }) := by
  have hexec : exec (.handover h target) s = runRow h true true false (.handover target) s := by
    dsimp only [exec, execHandover]
    rw [decide_eq_true htarget]
  rw [hexec]
  have hport : (s.accepted h (opCode (.handover target))).hasPort target = s.hasPort target := State.accepted_hasPort ..
  have him : (s.accepted h (opCode (.handover target))).im = s.im := State.accepted_im ..
  by_cases hbad : s.hasPort target = false ∨ target = s.codeOf h.port ∨ poClaimEn s.im (target % 8) = false
  · obtain ⟨u, e, hu⟩ := runRow_denied (op := .handover target) (torn := false) (st := stBadValue) hr rfl (by simp)
      (opHandover_denied (by rw [hport, him]; exact hbad))
    refine ⟨u, e, fun _ => hu, fun h1 h2 h3 => ?_⟩
    simp [h1, h2, h3] at hbad
  · simp only [not_or, Bool.not_eq_false] at hbad
    obtain ⟨hhas, hne, hen⟩ := hbad
    obtain ⟨u, e, hreply, hsame, hu⟩ := runRow_owns (op := .handover target) (torn := false) hr rfl (by simp)
      (opHandover_offers (hport.trans hhas) hne (by rw [him, hen])) (State.offered_sameBut target _)
    rw [State.offered_owner, State.accepted_owner, State.leased_mine (State.ready_mine hr (by decide)), State.accepted_fr] at hu
    refine ⟨u, e, by simp [hhas, hne, hen], fun _ _ _ => ⟨hreply, hsame, ?_, ?_, ?_, ?_⟩⟩
    · rw [hu]
      rfl
    · rw [hu]
      rfl
    · rw [hu]
    · rw [hu, List.getLast?_concat]

/-! ## ACCEPT and RELEASE (R353, R355) -/

theorem opAccept_denied {c : Caller} (hbad : (∀ t, s.port.owner.offer ≠ some (c.code, t)) ∨ poClaimEn s.im (c.code % 8) = false) :
    opAccept c s = deny stNoHandover s := by
  unfold opAccept
  split
  · next x hx =>
    refine if_neg fun hboth => ?_
    obtain ⟨hcode, hen⟩ := hboth
    rcases hbad with hnone | hoff
    · exact hnone x.2 (by rw [hx, ← hcode])
    · rw [hen] at hoff
      cases hoff
  · rfl

theorem opAccept_taken {c : Caller} {t : Nat} (hoffer : s.port.owner.offer = some (c.code, t)) (hen : poClaimEn s.im (c.code % 8) = true) :
    opAccept c s = (s.newOwner c.code 2).show [] := by
  unfold opAccept
  rw [hoffer]
  exact if_pos ⟨rfl, hen⟩

/-- ACCEPT (R353). -/
theorem accept_served (hr : s.ready h 0x0104) : ∃ u, exec (.accept h) s = .next u ∧
    ((∀ t, s.port.owner.offer ≠ some (s.codeOf h.port, t)) ∨ poClaimEn s.im h.port = false → s.onlyReplied u h 0x0104 stNoHandover []) ∧
    (∀ t, s.port.owner.offer = some (s.codeOf h.port, t) → poClaimEn s.im h.port = true →
      u.port.owner.owner = some (s.codeOf h.port) ∧ u.port.owner.lease = s.fr.total ∧ u.port.owner.offer = none ∧
      u.port.owner.ev = s.port.owner.ev ++ [{ code := 0x0D01, src := 0xFF, p1 := s.codeOf h.port, p2 := s.ownerCode, p3 := 2 }] ∧
      u.cfg = { s.cfg with restage := true } ∧ u.port.trace = none ∧
      u.port.outbox.getLast? = some (s.replyTo h 0x0104 stOk []) ∧ (s.port.trace = none → s.replied u h 0x0104 stOk []) ∧
      s.sameBut whatPackets u) := by
  have hexec : exec (.accept h) s = runRow h true true false .accept s := rfl
  have him : poClaimEn (s.accepted h (opCode .accept)).im (s.codeOf h.port % 8) = poClaimEn s.im h.port := by
    rw [State.accepted_im, State.codeOf_mod s (State.ready_port (op := .accept) hr)]
  have hoff : (s.accepted h (opCode .accept)).port.owner.offer = s.port.owner.offer := by rw [State.accepted_owner, State.leased_offer]
  by_cases hbad : (∀ t, s.port.owner.offer ≠ some (s.codeOf h.port, t)) ∨ poClaimEn s.im h.port = false
  · obtain ⟨u, e, hu⟩ := runRow_denied (op := .accept) (torn := false) (st := stNoHandover) hr rfl (by decide)
      (opAccept_denied (by rw [hoff]; exact hbad.imp id him.trans))
    refine ⟨u, e, fun _ => hu, fun t ht hen => ?_⟩
    rcases hbad with hnone | hdis
    · exact absurd ht (hnone t)
    · rw [hen] at hdis
      cases hdis
  · simp only [not_or, not_forall, not_not, Bool.not_eq_false] at hbad
    obtain ⟨⟨t, ht⟩, hen⟩ := hbad
    obtain ⟨u, e, hown, hcfg, htrace, hlast, hreply, hsame⟩ := runRow_moves (op := .accept) (torn := false) hr rfl (by decide)
      (opAccept_taken (hoff.trans ht) (him.trans hen)) (State.newOwner_sameBut _ _ _) rfl (State.newOwner_outbox _ _)
    rw [State.newOwner_owner, State.accepted_owner, State.accepted_fr, State.accepted_ownerCode, State.leased_ev] at hown
    rw [State.newOwner_cfg, State.accepted_cfg] at hcfg
    refine ⟨u, hexec.trans e, fun hbad => ?_, fun _ _ _ => ⟨?_, ?_, ?_, ?_, hcfg, htrace, hlast, hreply, hsame⟩⟩
    · rcases hbad with hnone | hdis
      · exact absurd ht (hnone t)
      · rw [hen] at hdis
        cases hdis
    · rw [hown]
      rfl
    · rw [hown]
    · rw [hown]
    · rw [hown]
      rfl

/-- RELEASE (R355). -/
theorem release_served (hr : s.ready h 0x0105) : ∃ u, exec (.release h) s = .next u ∧
    u.port.owner.owner = none ∧ u.port.owner.offer = none ∧ u.cfg = { s.cfg with restage := true } ∧ u.port.trace = none ∧
    { code := 0x0D01, src := 0xFF, p1 := 0xFF, p2 := s.codeOf h.port, p3 := 3 } ∈ u.port.owner.ev ∧
    u.port.outbox.getLast? = some (s.replyTo h 0x0105 stOk []) ∧ (s.port.trace = none → s.replied u h 0x0105 stOk []) ∧
    s.sameBut whatPackets u := by
  have hmine : (s.accepted h (opCode .release)).port.owner.owner = some (s.codeOf h.port) := by
    rw [State.accepted_owner, State.leased_owner]
    exact State.ready_mine hr (by decide)
  obtain ⟨u, e, hown, hcfg, htrace, hlast, hreply, hsame⟩ := runRow_moves (op := .release) (torn := false) hr rfl (by decide) rfl
    (State.vacate_sameBut _ _) (State.vacate_trace hmine 3) (State.vacate_outbox hmine 3)
  rw [State.vacate_owner hmine] at hown
  rw [State.vacate_cfg hmine, State.accepted_cfg] at hcfg
  refine ⟨u, e, ?_, ?_, hcfg, htrace, ?_, hlast, hreply, hsame⟩
  · rw [hown]
    rfl
  · rw [hown]
    rfl
  · rw [hown]
    exact List.mem_append_left _ (List.mem_append_right _ (List.mem_singleton.2 rfl))

end

/-- Settles O5: each opcode by the ownership state it finds. -/
theorem ownershipRequests : Obligations.OwnershipRequests :=
  ⟨fun _ _ => claim_served, fun _ _ _ => handover_served, fun _ _ => accept_served, fun _ _ => release_served⟩

end Sys2Proof.Machine
end

section
/-! PROOFS. Packets through the checks of R320 (R320 to R323, R350): which check answers, what a session that opens or closes leaves, and
that a packet of the owner renews its lease. -/

namespace Sys2Proof.Machine

/-! ## A packet as a row -/

section
variable {h : PktHead} {op : Op} {torn : Bool} {s : State}

/-- A packet on a running unit that is no standby, with ownership steady, is served. -/
theorem runRow_cmd (hmode : s.mode = .running) (hrole : s.unt.pair.role ≠ 2) (hport : h.port < 6) (hsteady : s.ownerSteady = true)
    (hA : opAlarm op = true → s.alm.next = 0) :
    runRow h true true torn op s = .next (s.runCmd false torn (s.codeOf h.port) (opCode op) h (some op)) := by
  have hal : (opAlarm op && decide (s.alm.next ≠ 0)) = false := by
    cases halarm : opAlarm op with
    | false => rfl
    | true => simp [hA halarm]
  have hlive : s.live = true := decide_eq_true hmode
  simp only [runRow, Bool.not_true, Bool.false_or, decide_eq_true_eq, Nat.not_le.2 hport, hlive, hrole, hal, State.ownerStep1_steady hsteady,
    if_true, if_false, Bool.false_eq_true]

theorem headStatus_ok (hversion : h.version = 1) (hflags : h.flags = 0) (hstatus : h.status = 0) : headStatus h = stOk := by
  simp [headStatus, hversion, hflags, hstatus]

end

/-! ## What a reply leaves -/

theorem State.codeOf_ser0 (s : State) {i : Nat} (hi : i < 6) (hc : s.codeOf i % 8 = 5) : i = 5 :=
  (s.codeOf_mod hi).symm.trans hc

section
variable {h : PktHead} {s x : State} {c : Caller} {st : Nat} {b : List Byte}

/-- The session of a caller with the reply it keeps. -/
def Session.keeps (c : Caller) (r : Reply) (x : Session) : Session :=
  if x.id = c.sid ∧ x.lastSeq = c.seq ∧ c.sid ≠ 0 then { x with busy := false, reply := some r } else x

theorem Session.keeps_ids (c : Caller) (r : Reply) (x : Session) :
    (x.keeps c r).id = x.id ∧ (x.keeps c r).lastSeq = x.lastSeq ∧ (x.keeps c r).lastOp = x.lastOp := by
  unfold Session.keeps
  split <;> exact ⟨rfl, rfl, rfl⟩

/-- An answer leaves through its port, and its session keeps it. -/
theorem State.answer_sends (hc : c.code % 8 = 5 → h.port = 5) (hrole : x.unt.pair.role ≠ 2) (hwithin : x.port.replayIn.within = false) :
    (∃ l, trailing h l ∧ (x.answer c st b).port.outbox = x.port.outbox ++ c.reply st b :: l) ∧ x.sameBut (answerParts h) (x.answer c st b) ∧
      (x.answer c st b).sessOf c.code = (x.sessOf c.code).keeps c (c.reply st b) ∧
      ∀ k, k ≠ c.code → (x.answer c st b).sessOf k = x.sessOf k := by
  obtain ⟨hout, hrest⟩ := State.sendAnswer_sends (h := h) (r := c.reply st b) (s := x.modSess c.code (Session.keeps c (c.reply st b)))
    hrole hwithin hc
  have hsame := State.sameBut_of_rest hrest
  have hsess := State.sessOf_same (hsame.2.2 .sess (by split <;> decide))
  have hmod : x.sameBut [.sess] (x.modSess c.code (Session.keeps c (c.reply st b))) :=
    State.sameBut_of_rest (State.modSess_rest _ _ _ (by decide))
  refine ⟨hout, State.sameBut_mono (State.sameBut_trans hmod hsame) fun p hp => ?_, ?_, fun k hk => ?_⟩
  · simp only [answerParts, List.mem_append, List.mem_cons] at hp ⊢
    tauto
  · exact (hsess _).trans State.sessOf_modSess
  · exact (hsess _).trans (State.sessOf_modSess_ne (Ne.symm hk))

/-- A reply that is due when the open frame is complete leaves at once where it is, and is held back where it is not. -/
theorem State.settle_sent {op : Op} {n : Nat} (l : List ContrailBlock) (hn : x.fr.frameNo = n) (hw : op ≠ .warmRestart)
    (hc : c.code % 8 = 5 → h.port = 5)
    (hrole : x.unt.pair.role ≠ 2) (hwithin : x.port.replayIn.within = false) :
    let u := (State.settle c op (x, .sent n st b)).activeSends l
    (if x.phase = .complete then ∃ l', trailing h l' ∧ u.port.outbox = x.port.outbox ++ c.reply st b :: l'
      else u.port.pend.getLast? = some { code := c.code, ip := c.ip, udp := c.udp, session := c.session, sid := c.sid, seq := c.seq
                                         opcode := c.opcode, due := some n, op := op, done := some (st, b) }) ∧
    u.port.owner = x.port.owner ∧ (∀ k, k ≠ c.code → u.sessOf k = x.sessOf k) ∧
    (u.sessOf c.code = x.sessOf c.code ∨ u.sessOf c.code = (x.sessOf c.code).keeps c (c.reply st b)) := by
  by_cases hphase : x.phase = .complete
  · obtain ⟨⟨l', hl, hout⟩, hsame, hsess, hothers⟩ := State.answer_sends (h := h) (st := st) (b := b) hc hrole hwithin
    have heq : State.settle c op (x, .sent n st b) = x.answer c st b := by
      simp [State.settle, State.deliver, hphase, hn, hw]
    have hsends := State.activeSends_sameBut l (x.answer c st b)
    have hkeep := State.sessOf_same (hsends.2.2 .sess (by decide))
    dsimp only
    rw [heq, if_pos hphase]
    refine ⟨⟨l', hl, (hsends.2.2 .outbox (by decide)).trans hout⟩, ?_, fun k hk => (hkeep k).trans (hothers k hk),
      .inr ((hkeep _).trans hsess)⟩
    exact (hsends.owner (by decide)).trans (hsame.owner (by unfold answerParts; split <;> decide))
  · have heq : State.settle c op (x, .sent n st b) = x.pendReply c (some n) op (some (st, b)) := by
      simp [State.settle, hphase]
    have hsends := State.activeSends_sameBut l (x.pendReply c (some n) op (some (st, b)))
    have hkeep := State.sessOf_same (hsends.2.2 .sess (by decide))
    dsimp only
    rw [heq, if_neg hphase]
    refine ⟨?_, (hsends.owner (by decide)).trans rfl, fun k _ => (hkeep k).trans rfl, .inl ((hkeep _).trans rfl)⟩
    rw [hsends.2.2 .pend (by decide)]
    exact List.getLast?_concat

end

/-! ## A session that closes (R321) -/

section
variable (s : State) (code : Nat)

theorem State.sendTrace_outbox (st : Nat) (data : List Byte) : ∃ m, (s.sendTrace st data).port.outbox = s.port.outbox ++ m := by
  unfold State.sendTrace
  split
  · dsimp only
    unfold State.sendReply
    split
    · exact ⟨[], (List.append_nil _).symm⟩
    · exact ⟨[_], State.emit_outbox ..⟩
  · exact ⟨[], (List.append_nil _).symm⟩

theorem State.ownerMoved_sends : ∃ m, s.ownerMoved.port.outbox = s.port.outbox ++ m := by
  show ∃ m, (if true && s.port.trace.isSome then s.sendTrace stTraceOverflow [] else s).port.outbox = s.port.outbox ++ m
  split
  · exact s.sendTrace_outbox ..
  · exact ⟨[], (List.append_nil _).symm⟩

theorem State.vacate_sends (why : Nat) : ∃ m, (s.vacate why).port.outbox = s.port.outbox ++ m := by
  cases howner : s.port.owner.owner with
  | none => exact ⟨[], by rw [State.vacate, howner, List.append_nil]⟩
  | some old =>
    obtain ⟨m, hm⟩ := s.ownerMoved_sends
    refine ⟨m, ?_⟩
    rw [State.vacate_eq howner, (State.endOffer_sameBut _ _).2.2 .outbox (by decide), ← hm]
    rfl

/-- The session and the claim of a port are gone, and ownership where the port held it. -/
theorem State.closeSession_open (hid : (s.sessOf code).id ≠ 0) : s.closeSession code =
    ((if (s.dropClaim code).port.owner.owner = some code then (s.dropClaim code).vacate 5 else s.dropClaim code).modSess code fun _ => {}) :=
  if_neg hid

theorem State.dropClaim_owner : (s.dropClaim code).port.owner.owner = s.port.owner.owner := rfl
theorem State.dropClaim_outbox : (s.dropClaim code).port.outbox = s.port.outbox := rfl

theorem State.dropClaim_sess_ne {k : Nat} (hk : k ≠ code) : (s.dropClaim code).sessOf k = s.sessOf k :=
  State.sessOf_modSess_ne (Ne.symm hk)

theorem State.closeSession_sess (hid : (s.sessOf code).id ≠ 0) : (s.closeSession code).sessOf code = {} := by
  rw [State.closeSession_open s code hid]
  exact State.sessOf_modSess

theorem State.closeSession_sess_ne {k : Nat} (hk : k ≠ code) : (s.closeSession code).sessOf k = s.sessOf k := by
  by_cases hid : (s.sessOf code).id = 0
  · rw [State.closeSession, if_pos hid]
  · rw [State.closeSession_open s code hid, State.sessOf_modSess_ne (Ne.symm hk), ← s.dropClaim_sess_ne code hk]
    split
    · exact State.sessOf_same (((s.dropClaim code).vacate_sameBut 5).2.2 .sess (by decide)) k
    · rfl

theorem State.closeSession_owner : (s.closeSession code).port.owner.owner =
    if (s.sessOf code).id ≠ 0 ∧ s.port.owner.owner = some code then none else s.port.owner.owner := by
  by_cases hid : (s.sessOf code).id = 0
  · rw [State.closeSession, if_pos hid, if_neg (by simp [hid])]
  · rw [State.closeSession_open s code hid]
    by_cases howner : s.port.owner.owner = some code
    · rw [if_pos ((s.dropClaim_owner code).trans howner), if_pos ⟨hid, howner⟩, State.modSess_port_owner,
        State.vacate_owner ((s.dropClaim_owner code).trans howner)]
      rfl
    · rw [if_neg (show ¬ (s.dropClaim code).port.owner.owner = some code from howner), if_neg (fun hboth => howner hboth.2)]
      rfl

theorem State.closeSession_sends : ∃ m, (s.closeSession code).port.outbox = s.port.outbox ++ m := by
  by_cases hid : (s.sessOf code).id = 0
  · exact ⟨[], by rw [State.closeSession, if_pos hid, List.append_nil]⟩
  · rw [State.closeSession_open s code hid, State.modSess_port_outbox]
    split
    · exact (s.dropClaim code).vacate_sends 5
    · exact ⟨[], (List.append_nil _).symm⟩

theorem State.closeSession_sameBut : s.sameBut whatPackets (s.closeSession code) :=
  State.sameBut_of_rest (State.closeSession_rest _ _ (by decide))

end

/-! ## A packet of this unit's own port -/

section
variable {h : PktHead} {op : Op} {torn : Bool} {s x : State} {ps : List Part}

/-- Which unit of a pair this is depends on the running image and on the role. -/
theorem State.unitB_of_sameBut (hq : s.sameBut ps x) (himage : .image ∉ ps) (hpair : .pair ∉ ps) : x.unitB = s.unitB := by
  have hidentity := hq.2.1
  have hrunning : x.cfg.image = s.cfg.image := hq.2.2 .image himage
  simp only [State.unitB, State.paired, State.isWitness, State.im, hidentity, hrunning, hq.pair hpair]

/-- A packet of this unit's own port is not handed back (R324). -/
theorem State.runReply_local {c : Caller} (hc : c.code = s.codeOf h.port) (hport : h.port < 6) (hq : s.sameBut ps x) (himage : .image ∉ ps)
    (hpair : .pair ∉ ps) : x.runReply c op torn = (State.settle c op (runOp op torn c x)).activeSends (opMirror op x (runOp op torn c x).1) := by
  have hlocal : x.isLocal c.code = true := by
    have hown := State.isLocal_codeOf s h.port hport
    simp only [State.isLocal, State.unitB_of_sameBut hq himage hpair, hc] at hown ⊢
    exact hown
  exact if_neg (by simp [State.handsBack, hlocal])

end

/-! ## OPEN_SESSION and CLOSE_SESSION (R321) -/

section
variable {h : PktHead} {s : State}

/-- The state in which OPEN_SESSION finds its port. -/
def State.called (h : PktHead) (s : State) : State := (s.heardFrom (s.codeOf h.port) h).renewLease (s.codeOf h.port)

theorem State.called_sameBut (h : PktHead) (s : State) : s.sameBut [.sess, .owner] (s.called h) :=
  State.sameBut_of_rest (by rw [State.called, State.renewLease_rest _ _ (by decide), State.heardFrom_rest _ _ _ (by decide)])

theorem State.renewLease_port (k : Nat) (s : State) : (s.renewLease k).port.sess = s.port.sess ∧
    (s.renewLease k).port.owner.owner = s.port.owner.owner := by
  unfold State.renewLease
  split <;> exact ⟨rfl, rfl⟩

theorem State.called_owner : (s.called h).port.owner.owner = s.port.owner.owner :=
  (State.renewLease_port ..).2

theorem State.called_sess_ne {k : Nat} (hk : k ≠ s.codeOf h.port) : (s.called h).sessOf k = s.sessOf k :=
  (State.sessOf_same (State.renewLease_port ..).1 k).trans (State.sessOf_modSess_ne (Ne.symm hk))

/-- A packet that is heard leaves the numbers of its session, and what it keeps. -/
theorem State.heardFrom_sess : let x := (s.heardFrom (s.codeOf h.port) h).sessOf (s.codeOf h.port)
    let y := s.sessOf (s.codeOf h.port)
    x.id = y.id ∧ x.lastSeq = y.lastSeq ∧ x.lastOp = y.lastOp ∧ x.busy = y.busy ∧ x.reply = y.reply := by
  dsimp only
  unfold State.heardFrom
  rw [State.sessOf_modSess]
  repeat' split
  all_goals exact ⟨rfl, rfl, rfl, rfl, rfl⟩

theorem State.called_id : ((s.called h).sessOf (s.codeOf h.port)).id = (s.sessOf (s.codeOf h.port)).id :=
  (congrArg Session.id (State.sessOf_same (State.renewLease_port ..).1 _)).trans State.heardFrom_sess.1

/-- The session that OPEN_SESSION begins. -/
def State.opened (h : PktHead) (s : State) : State := (s.called h).beginSession (s.codeOf h.port) 0x0002 h

theorem State.opened_sameBut (h : PktHead) (s : State) : s.sameBut whatPackets (s.opened h) :=
  State.sameBut_mono (State.sameBut_trans (s.called_sameBut h)
    (State.sameBut_of_rest (State.beginSession_rest (ps := whatPackets) _ _ _ _ (by decide)))) (by decide)

theorem State.opened_sess : (s.opened h).sessOf (s.codeOf h.port) =
    { id := sessionId s.fr.frameNo, lastSeq := h.seq, lastOp := 0x0002, busy := true, heard := true, ip := h.ip, udp := h.udp } := by
  rw [← (s.called_sameBut h).fr (by decide)]
  exact State.sessOf_modSess

theorem State.opened_sess_ne {k : Nat} (hk : k ≠ s.codeOf h.port) : (s.opened h).sessOf k = s.sessOf k := by
  rw [← State.called_sess_ne hk, ← (s.called h).closeSession_sess_ne _ hk]
  exact State.sessOf_modSess_ne (Ne.symm hk)

theorem State.opened_owner : (s.opened h).port.owner.owner =
    if (s.sessOf (s.codeOf h.port)).id ≠ 0 ∧ s.port.owner.owner = some (s.codeOf h.port) then none else s.port.owner.owner :=
  ((s.called h).closeSession_owner (s.codeOf h.port)).trans (by rw [State.called_id, State.called_owner])

theorem State.opened_sends : ∃ m, (s.opened h).port.outbox = s.port.outbox ++ m := by
  obtain ⟨m, hm⟩ := (s.called h).closeSession_sends (s.codeOf h.port)
  exact ⟨m, hm.trans (congrArg (· ++ m) ((s.called_sameBut h).2.2 .outbox (by decide)))⟩

theorem opStatus_open (x : State) (code : Nat) (traced : Bool) : opStatus x code 0x0002 (some .openSession) traced = stOk := by
  have hmode : ∀ replay pair witness, opModeStatus 0x0002 replay pair witness = stOk := by decide
  exact hmode ..

/-- OPEN_SESSION passes its checks and runs in the session that it begins. -/
theorem runCmd_open {torn traced : Bool} (hhead : headStatus h = stOk) (hsession : h.session = 0) :
    s.runCmd traced torn (s.codeOf h.port) 0x0002 h (some .openSession) =
      (s.opened h).runReply (makeCaller (s.codeOf h.port) (sessionId s.fr.frameNo) 0x0002 h) .openSession torn := by
  unfold State.runCmd
  dsimp only
  rw [if_neg (not_not.2 hhead), if_pos ⟨rfl, hsession⟩, if_neg (not_not.2 (opStatus_open ..))]
  rfl

end

/-- The number of a session is not 0, which stands for none (R321). -/
theorem sessionId_pos (n : Nat) : sessionId n ≠ 0 := by
  unfold sessionId
  split <;> omega

theorem openSession_served {h : PktHead} {s : State} (hmode : s.mode = .running) (hrole : s.unt.pair.role ≠ 2)
    (hwithin : s.port.replayIn.within = false) (hport : h.port < 6) (hsteady : s.ownerSteady = true) (hversion : h.version = 1)
    (hflags : h.flags = 0) (hstatus : h.status = 0) (hsession : h.session = 0) : ∃ u, exec (.openSession h) s = .next u ∧
      (u.sessOf (s.codeOf h.port)).id = sessionId s.fr.frameNo ∧ (u.sessOf (s.codeOf h.port)).lastSeq = h.seq ∧
      (u.sessOf (s.codeOf h.port)).lastOp = 0x0002 ∧ (∀ k, k ≠ s.codeOf h.port → u.sessOf k = s.sessOf k) ∧
      (u.port.owner.owner = if (s.sessOf (s.codeOf h.port)).id ≠ 0 ∧ s.port.owner.owner = some (s.codeOf h.port) then none
        else s.port.owner.owner) ∧
      (if s.phase = .complete then
        s.sent u h (s.replyTo h 0x0002 stOk (packBytes 4 [(16, sessionId s.fr.frameNo), (16, 8172)]))
      else u.port.pend.getLast? = some { code := s.codeOf h.port, ip := h.ip, udp := h.udp, session := 0, sid := sessionId s.fr.frameNo
                                         seq := h.seq, opcode := 0x0002, due := some s.fr.frameNo, op := .openSession
                                         done := some (stOk, packBytes 4 [(16, sessionId s.fr.frameNo), (16, 8172)]) }) ∧
      s.sameBut whatPackets u := by
  have hexec : exec (.openSession h) s = .next (s.runCmd false false (s.codeOf h.port) (opCode .openSession) h (some .openSession)) :=
    runRow_cmd hmode hrole hport hsteady nofun
  have hq := s.opened_sameBut h
  have hphase : (s.opened h).phase = s.phase := hq.phase (by decide)
  have hfr : (s.opened h).fr = s.fr := hq.fr (by decide)
  have hrun := State.runReply_local (op := .openSession) (torn := false)
    (c := makeCaller (s.codeOf h.port) (sessionId s.fr.frameNo) 0x0002 h) rfl hport hq (by decide) (by decide)
  have hop : runOp .openSession false (makeCaller (s.codeOf h.port) (sessionId s.fr.frameNo) 0x0002 h) (s.opened h) =
      (s.opened h, .sent s.fr.frameNo stOk (packBytes 4 [(16, sessionId s.fr.frameNo), (16, 8172)])) := by
    rw [← hfr]
    rfl
  rw [hop] at hrun
  have e := hexec.trans (congrArg Host.Outcome.next
    ((runCmd_open (s := s) (traced := false) (torn := false) (headStatus_ok hversion hflags hstatus) hsession).trans hrun))
  obtain ⟨hreply, howner, hothers, hmine⟩ := State.settle_sent (h := h) (x := s.opened h) (op := .openSession) (st := stOk)
    (c := makeCaller (s.codeOf h.port) (sessionId s.fr.frameNo) 0x0002 h)
    (b := packBytes 4 [(16, sessionId s.fr.frameNo), (16, 8172)]) [] (congrArg FrameClk.frameNo hfr) (by decide)
    (State.codeOf_ser0 s hport) (by rw [hq.pair (by decide)]; exact hrole) (by rw [hq.replayIn (by decide)]; exact hwithin)
  rw [hphase] at hreply
  have hopened := State.opened_sess (h := h) (s := s)
  have hnumbers : ∀ y : Session, y = (s.opened h).sessOf (s.codeOf h.port) ∨
      y = ((s.opened h).sessOf (s.codeOf h.port)).keeps (makeCaller (s.codeOf h.port) (sessionId s.fr.frameNo) 0x0002 h)
        (Caller.reply (makeCaller (s.codeOf h.port) (sessionId s.fr.frameNo) 0x0002 h) stOk
          (packBytes 4 [(16, sessionId s.fr.frameNo), (16, 8172)])) →
      y.id = sessionId s.fr.frameNo ∧ y.lastSeq = h.seq ∧ y.lastOp = 0x0002 := by
    rintro y (rfl | rfl)
    · rw [hopened]
      exact ⟨rfl, rfl, rfl⟩
    · obtain ⟨hid, hseq, hop⟩ := Session.keeps_ids _ _ _
      rw [hid, hseq, hop, hopened]
      exact ⟨rfl, rfl, rfl⟩
  obtain ⟨hid, hseq, hlast⟩ := hnumbers _ hmine
  refine ⟨_, e, hid, hseq, hlast, fun k hk => (hothers k hk).trans (State.opened_sess_ne hk),
    (congrArg Owner.owner howner).trans State.opened_owner, ?_,
    exec_sameBut e⟩
  split
  · next hcomplete =>
    rw [if_pos hcomplete] at hreply
    obtain ⟨l, hl, hout⟩ := hreply
    obtain ⟨m, hm⟩ := State.opened_sends (h := h) (s := s)
    refine ⟨m, l, hl, hout.trans ?_⟩
    rw [hm]
    rfl
  · next hopen =>
    rw [if_neg hopen] at hreply
    rw [← hsession]
    exact hreply

/-! ### CLOSE_SESSION -/

section
variable {h : PktHead} {s : State}

/-- The state that CLOSE_SESSION leaves before its reply. -/
def State.closed (h : PktHead) (s : State) : State := (s.accepted h 0x0003).closeSession (s.codeOf h.port)

theorem State.closed_sameBut (h : PktHead) (s : State) : s.sameBut whatPackets (s.closed h) :=
  State.sameBut_mono (State.sameBut_trans (s.accepted_sameBut h _) (State.closeSession_sameBut _ _)) (by decide)

theorem State.accepted_id (hid : (s.sessOf (s.codeOf h.port)).id ≠ 0) (hs : h.session = (s.sessOf (s.codeOf h.port)).id) (opc : Nat) :
    ((s.accepted h opc).sessOf (s.codeOf h.port)).id = (s.sessOf (s.codeOf h.port)).id := by
  rw [State.accepted_sess hid hs]

theorem closeSession_served (hr : s.ready h 0x0003) :
    ∃ u, exec (.closeSession h) s = .next u ∧ u.sessOf (s.codeOf h.port) = {} ∧ (∀ k, k ≠ s.codeOf h.port → u.sessOf k = s.sessOf k) ∧
      (u.port.owner.owner = if s.port.owner.owner = some (s.codeOf h.port) then none else s.port.owner.owner) ∧
      (if s.phase = .complete then s.sent u h (s.replyTo h 0x0003 stOk [])
      else u.port.pend.getLast? = some { code := s.codeOf h.port, ip := h.ip, udp := h.udp, session := h.session, sid := h.session
                                         seq := h.seq, opcode := 0x0003, due := some s.fr.frameNo, op := .closeSession
                                         done := some (stOk, []) }) ∧
      s.sameBut whatPackets u := by
  have hid := State.ready_id (op := .closeSession) hr
  have hsess := State.ready_session (op := .closeSession) hr
  have hacc : ((s.accepted h 0x0003).sessOf (s.codeOf h.port)).id ≠ 0 := by rw [State.accepted_id hid hsess]; exact hid
  have hq := s.closed_sameBut h
  have hphase : (s.closed h).phase = s.phase := hq.phase (by decide)
  have hfr : (s.closed h).fr = s.fr := hq.fr (by decide)
  have hrun := runRow_ready (op := .closeSession) (torn := false) hr nofun
  have hop : runOp .closeSession false (makeCaller (s.codeOf h.port) h.session 0x0003 h) (s.accepted h 0x0003) =
      (s.closed h, .sent s.fr.frameNo stOk []) := by
    rw [← hfr]
    rfl
  have e : exec (.closeSession h) s = .next ((State.settle (makeCaller (s.codeOf h.port) h.session 0x0003 h) .closeSession
      (s.closed h, .sent s.fr.frameNo stOk [])).activeSends []) := by
    rw [← hop]
    exact hrun
  obtain ⟨hreply, howner, hothers, hmine⟩ := State.settle_sent (h := h) (x := s.closed h) (op := .closeSession) (st := stOk)
    (c := makeCaller (s.codeOf h.port) h.session 0x0003 h) (b := []) [] (congrArg FrameClk.frameNo hfr) (by decide)
    (State.codeOf_ser0 s (State.ready_port (op := .closeSession) hr))
    (by rw [hq.pair (by decide)]; exact State.ready_role (op := .closeSession) hr)
    (by rw [hq.replayIn (by decide)]; exact State.ready_within (op := .closeSession) hr)
  rw [hphase] at hreply
  have hnone : (s.closed h).sessOf (s.codeOf h.port) = {} := State.closeSession_sess _ _ hacc
  refine ⟨_, e, ?_, fun k hk => ?_, ?_, ?_, exec_sameBut e⟩
  · rcases hmine with hkept | hkept
    · exact hkept.trans hnone
    · refine hkept.trans ?_
      show Session.keeps _ _ ((s.closed h).sessOf (s.codeOf h.port)) = {}
      rw [hnone]
      refine if_neg fun hkeeps => ?_
      obtain ⟨hzero, -, hpos⟩ := hkeeps
      exact hpos hzero.symm
  · exact (hothers k hk).trans (((s.accepted h 0x0003).closeSession_sess_ne _ hk).trans (State.accepted_sess_ne hk))
  · refine (congrArg Owner.owner howner).trans (((s.accepted h 0x0003).closeSession_owner _).trans ?_)
    rw [State.accepted_owner, State.leased_owner]
    simp only [hacc, ne_eq, not_false_eq_true, true_and]
  · split
    · next hcomplete =>
      rw [if_pos hcomplete] at hreply
      obtain ⟨l, hl, hout⟩ := hreply
      obtain ⟨m, hm⟩ := (s.accepted h 0x0003).closeSession_sends (s.codeOf h.port)
      refine ⟨m, l, hl, hout.trans ?_⟩
      rw [State.closed, hm, State.accepted_outbox]
      rfl
    · next hopen =>
      rw [if_neg hopen] at hreply
      exact hreply

end

/-- Settles O4: the two packets of a session. -/
theorem sessionsOpenAndClose : Obligations.SessionsOpenAndClose :=
  ⟨fun _ _ => openSession_served, fun _ _ hr _ => closeSession_served hr⟩

end Sys2Proof.Machine
end

section
/-! PROOFS. The checks of R320 in order, repeated packets (R322), and the lease that a packet of the owner renews (R350). -/

namespace Sys2Proof.Machine

/-! ## The checks, one outcome each -/

section
variable {h : PktHead} {opc code : Nat} {o : Option Op} {torn traced : Bool} {s : State}

theorem runCmd_badHead (hbad : headStatus h ≠ stOk) :
    s.runCmd traced torn code opc h o = (s.heardFrom code h).refuse (makeCaller code 0 opc h) (headStatus h) [] :=
  if_pos hbad

section
variable (hhead : headStatus h = stOk) (hopen : opc ≠ 0x0002)
include hhead hopen

/-- Steps 3 and 4 decide what becomes of a packet whose head is in order. -/
theorem runCmd_refuse {st : Nat} {b : List Byte} (hc : sessionCheck ((s.heardFrom code h).sessOf code) h.session h.seq opc = .refuse st b) :
    s.runCmd traced torn code opc h o = (s.heardFrom code h).refuse (makeCaller code 0 opc h) st b := by
  unfold State.runCmd
  dsimp only
  rw [if_neg (not_not.2 hhead), if_neg (fun hboth => hopen hboth.1), if_neg hopen, hc]

theorem runCmd_ignore (hc : sessionCheck ((s.heardFrom code h).sessOf code) h.session h.seq opc = .ignore) :
    s.runCmd traced torn code opc h o = s.heardFrom code h := by
  unfold State.runCmd
  dsimp only
  rw [if_neg (not_not.2 hhead), if_neg (fun hboth => hopen hboth.1), if_neg hopen, hc]

theorem runCmd_again {r : Reply} (hc : sessionCheck ((s.heardFrom code h).sessOf code) h.session h.seq opc = .again r) :
    s.runCmd traced torn code opc h o = ((s.heardFrom code h).renewLease code).sendAnswer r := by
  unfold State.runCmd
  dsimp only
  rw [if_neg (not_not.2 hhead), if_neg (fun hboth => hopen hboth.1), if_neg hopen, hc]

/-- A packet that passes steps 1 to 4 renews the lease and becomes the last of its session; steps 5 to 8 answer it, or its opcode runs. -/
theorem runCmd_go {op : Op} (hc : sessionCheck ((s.heardFrom (s.codeOf h.port) h).sessOf (s.codeOf h.port)) h.session h.seq opc = .go) :
    s.runCmd traced torn (s.codeOf h.port) opc h (some op) =
      if opStatus (s.accepted h opc) (s.codeOf h.port) opc (some op) traced ≠ stOk then
        (s.accepted h opc).answer (makeCaller (s.codeOf h.port) h.session opc h)
          (opStatus (s.accepted h opc) (s.codeOf h.port) opc (some op) traced) []
      else (s.accepted h opc).runReply (makeCaller (s.codeOf h.port) h.session opc h) op torn := by
  unfold State.runCmd
  dsimp only
  rw [if_neg (not_not.2 hhead), if_neg (fun hboth => hopen hboth.1), if_neg hopen, hc]
  rfl

end
end

/-! ## Steps 3 and 4 (R321, R322) -/

section
variable {x : Session} {session seq opc : Nat}

theorem sessionCheck_stranger (hmine : ¬ (x.id ≠ 0 ∧ session = x.id)) : sessionCheck x session seq opc = .refuse stBadSession [] :=
  if_pos (by tauto)

section
variable (hmine : x.id ≠ 0 ∧ session = x.id)
include hmine

theorem sessionCheck_mine : ¬ (x.id = 0 ∨ session ≠ x.id) := by tauto

theorem sessionCheck_next (hseq : seq = (x.lastSeq + 1) % 2 ^ 32) :
    sessionCheck x session seq opc = if x.busy then .refuse stBusy [] else .go := by
  rw [sessionCheck, if_neg (sessionCheck_mine hmine), if_pos hseq]

/-- A repeated packet whose reply is pending. -/
theorem sessionCheck_pending (hne : seq ≠ (x.lastSeq + 1) % 2 ^ 32) (hseq : seq = x.lastSeq) (hop : opc = x.lastOp) (hbusy : x.busy = true) :
    sessionCheck x session seq opc = .ignore := by
  rw [sessionCheck, if_neg (sessionCheck_mine hmine), if_neg hne, if_pos ⟨hseq, hop⟩, if_pos hbusy]

/-- A repeated packet whose reply is stored. -/
theorem sessionCheck_stored {r : Reply} (hne : seq ≠ (x.lastSeq + 1) % 2 ^ 32) (hseq : seq = x.lastSeq) (hop : opc = x.lastOp)
    (hbusy : x.busy = false) (hreply : x.reply = some r) : sessionCheck x session seq opc = .again r := by
  rw [sessionCheck, if_neg (sessionCheck_mine hmine), if_neg hne, if_pos ⟨hseq, hop⟩, if_neg (by simp [hbusy]), hreply]

theorem sessionCheck_outOfOrder (hne : seq ≠ (x.lastSeq + 1) % 2 ^ 32) (hother : seq ≠ x.lastSeq ∨ opc ≠ x.lastOp) :
    sessionCheck x session seq opc = .refuse stSequence (toBytes 4 ((x.lastSeq + 1) % 2 ^ 32)) := by
  rw [sessionCheck, if_neg (sessionCheck_mine hmine), if_neg hne, if_neg (by tauto)]

end

/-- The checks of a packet that is heard are those of the session as it was. -/
theorem sessionCheck_heard (h : PktHead) (opc : Nat) (s : State) :
    sessionCheck ((s.heardFrom (s.codeOf h.port) h).sessOf (s.codeOf h.port)) h.session h.seq opc =
      sessionCheck (s.sessOf (s.codeOf h.port)) h.session h.seq opc := by
  obtain ⟨hid, hseq, hop, hbusy, hreply⟩ := State.heardFrom_sess (h := h) (s := s)
  simp only [sessionCheck, hid, hseq, hop, hbusy, hreply]

end

/-! ## Refused and repeated packets -/

section
variable {h : PktHead} {opc st : Nat} {b : List Byte} {s : State}

/-- A refusal of steps 1 to 4: the reply is sent, and the session of the port keeps its numbers and its stored reply. -/
def State.refusedBy (s u : State) (h : PktHead) (opc st : Nat) (body : List Byte) : Prop :=
  (∃ l, trailing h l ∧ u.port.outbox = s.port.outbox ++ s.replyTo h opc st body :: l) ∧ u.port.pend = s.port.pend ∧
    u.port.owner = s.port.owner ∧ (u.sessOf (s.codeOf h.port)).id = (s.sessOf (s.codeOf h.port)).id ∧
    (u.sessOf (s.codeOf h.port)).lastSeq = (s.sessOf (s.codeOf h.port)).lastSeq ∧
    (u.sessOf (s.codeOf h.port)).lastOp = (s.sessOf (s.codeOf h.port)).lastOp ∧
    (u.sessOf (s.codeOf h.port)).busy = (s.sessOf (s.codeOf h.port)).busy ∧
    (u.sessOf (s.codeOf h.port)).reply = (s.sessOf (s.codeOf h.port)).reply ∧ s.sameBut (servingParts h) u

theorem State.heardFrom_sameBut (code : Nat) (h : PktHead) (s : State) : s.sameBut [.sess] (s.heardFrom code h) :=
  State.sameBut_of_rest (State.heardFrom_rest _ _ _ (by decide))

/-- What carries a reply, the session aside. -/
def sendingParts (h : PktHead) : List Part := [.can, .outbox, .portSt, .wire] ++ if h.port = 5 then [.trace] else []

theorem not_mem_sendingParts {p : Part} (hp : p ∉ [.can, .outbox, .portSt, .wire, .trace]) : p ∉ sendingParts h := by
  unfold sendingParts
  split <;> simp_all

theorem servingParts_of_sendingParts {p : Part} (hp : p ∈ sendingParts h) : p ∈ servingParts h := by
  simp only [sendingParts, servingParts, List.mem_append, List.mem_cons] at hp ⊢
  tauto

/-- What a packet heard and a reply write. -/
theorem State.sameBut_serving {r u : State} (hr : s.sameBut [.sess, .owner] r) (hu : r.sameBut (sendingParts h) u) :
    s.sameBut (servingParts h) u := by
  refine State.sameBut_mono (State.sameBut_trans hr hu) fun p hp => ?_
  rcases List.mem_append.1 hp with hp | hp
  · simp only [servingParts, List.mem_append, List.mem_cons] at hp ⊢
    tauto
  · exact servingParts_of_sendingParts hp

variable (hrole : s.unt.pair.role ≠ 2) (hwithin : s.port.replayIn.within = false) (hport : h.port < 6)
include hrole hwithin hport

theorem State.refuse_refused :
    s.refusedBy ((s.heardFrom (s.codeOf h.port) h).refuse (makeCaller (s.codeOf h.port) 0 opc h) st b) h opc st b := by
  obtain ⟨hout, hrest⟩ := State.sendAnswer_sends (h := h) (r := s.replyTo h opc st b) (s := s.heardFrom (s.codeOf h.port) h) hrole hwithin
    (State.codeOf_ser0 s hport)
  have hsame : (s.heardFrom (s.codeOf h.port) h).sameBut (sendingParts h)
      ((s.heardFrom (s.codeOf h.port) h).refuse (makeCaller (s.codeOf h.port) 0 opc h) st b) := State.sameBut_of_rest hrest
  have hsess := State.sessOf_same (hsame.2.2 .sess (not_mem_sendingParts (by decide))) (s.codeOf h.port)
  obtain ⟨hid, hseq, hop, hbusy, hreply⟩ := State.heardFrom_sess (h := h) (s := s)
  refine ⟨hout, hsame.pend (not_mem_sendingParts (by decide)), hsame.owner (not_mem_sendingParts (by decide)), ?_, ?_, ?_, ?_, ?_,
    State.sameBut_serving (State.sameBut_mono (s.heardFrom_sameBut _ h) (by decide)) hsame⟩
  · rw [hsess, hid]
  · rw [hsess, hseq]
  · rw [hsess, hop]
  · rw [hsess, hbusy]
  · rw [hsess, hreply]

/-- A repeated packet gets its stored reply again (R322). -/
theorem State.again_served {r : Reply} (hcode : r.code = s.codeOf h.port) :
    (∃ l, trailing h l ∧ ((s.called h).sendAnswer r).port.outbox = s.port.outbox ++ r :: l) ∧
      ((s.called h).sendAnswer r).port.pend = s.port.pend ∧ ((s.called h).sendAnswer r).port.owner = s.leased h ∧
      s.sameBut (servingParts h) ((s.called h).sendAnswer r) := by
  have hcalled := s.called_sameBut h
  obtain ⟨⟨l, hl, hout⟩, hrest⟩ := State.sendAnswer_sends (h := h) (r := r) (s := s.called h)
    (by rw [hcalled.pair (by decide)]; exact hrole) (by rw [hcalled.replayIn (by decide)]; exact hwithin)
    (by rw [hcode]; exact State.codeOf_ser0 s hport)
  have hsame : (s.called h).sameBut (sendingParts h) ((s.called h).sendAnswer r) := State.sameBut_of_rest hrest
  refine ⟨⟨l, hl, ?_⟩, ?_, ?_, State.sameBut_serving hcalled hsame⟩
  · rw [hout, hcalled.2.2 .outbox (by decide)]
  · rw [hsame.pend (not_mem_sendingParts (by decide)), hcalled.pend (by decide)]
  · rw [hsame.owner (not_mem_sendingParts (by decide)), ← State.accepted_owner h 0]
    rfl

/-- A check of steps 5 to 8 that fails answers, and the packet has no effect of its own. -/
theorem State.denied_onlyReplied (hmine : (s.sessOf (s.codeOf h.port)).id ≠ 0 ∧ h.session = (s.sessOf (s.codeOf h.port)).id) :
    s.onlyReplied ((s.accepted h opc).answer (makeCaller (s.codeOf h.port) h.session opc h) st b) h opc st b := by
  obtain ⟨hid, hsession⟩ := hmine
  have hacc := s.tame_accepted h opc
  obtain ⟨hreply, hsame⟩ := State.answer_replied (opc := opc) (st := st) (body := b) hid hsession hport (hacc.role ▸ hrole)
    (hacc.within.trans hwithin) rfl hacc.outbox hacc.pend
  refine ⟨hreply, ?_, State.sameBut_mono (State.sameBut_trans (s.accepted_sameBut h opc) hsame) fun p hp => ?_⟩
  · rw [hsame.owner (by unfold answerParts; split <;> decide), State.accepted_owner]
  · rcases List.mem_append.1 hp with hp | hp
    · simp only [servingParts, List.mem_append, List.mem_cons] at hp ⊢
      tauto
    · exact servingParts_of_replyParts (answer_in_reply hp)

end

/-- An opcode of the owner from another port (step 7 of R320). -/
theorem opStatus_notOwner {x : State} {code : Nat} {op : Op} {traced : Bool} (honly : opOwnerOnly (opCode op) = true)
    (howner : x.port.owner.owner ≠ some code) : opStatus x code (opCode op) (some op) traced = stNotOwner := by
  rw [opStatus, if_neg (by simp [opListed_opCode]), if_neg (by simp), if_pos (by simp [honly, howner])]

/-- Settles O60: the checks in their order; the first that fails decides. -/
theorem packetChecks : Obligations.PacketChecks := by
  intro i h op torn s hpacket hwf hopen hA hmode hrole hwithin hsteady code x next refused headOk mine
  have hport : h.port < 6 := by
    obtain ⟨_, _, -, hfits⟩ := exec_packet hpacket
    exact port_of_headOk (hfits hwf).2.2
  have hexec : exec i s = .next (s.runCmd false torn code (opCode op) h (some op)) :=
    (exec_packet_wellFormed hpacket hwf s).trans (runRow_cmd hmode hrole hport hsteady hA)
  have hhead : headOk → headStatus h = stOk := fun hok => headStatus_ok hok.1 hok.2.1 hok.2.2
  have hrefuse : ∀ st b, headOk → sessionCheck x h.session h.seq (opCode op) = .refuse st b →
      refused (s.runCmd false torn code (opCode op) h (some op)) st b := by
    intro st b hok hc
    rw [runCmd_refuse (hhead hok) hopen ((sessionCheck_heard h _ s).trans hc)]
    exact State.refuse_refused hrole hwithin hport
  refine ⟨_, hexec, ?_, ?_, ?_, ?_, ?_, ?_, ?_, ?_⟩
  · intro hversion
    have hstatus : headStatus h = stBadVersion := if_pos hversion
    rw [runCmd_badHead (by rw [hstatus]; decide), hstatus]
    exact State.refuse_refused hrole hwithin hport
  · intro hversion hbad
    have hstatus : headStatus h = stBadValue := (if_neg (not_not.2 hversion)).trans (if_pos hbad)
    rw [runCmd_badHead (by rw [hstatus]; decide), hstatus]
    exact State.refuse_refused hrole hwithin hport
  · exact fun hok hother => hrefuse _ _ hok (sessionCheck_stranger hother)
  · exact fun hok hmine hseq hbusy => hrefuse _ _ hok ((sessionCheck_next hmine hseq).trans (if_pos hbusy))
  · exact fun hok hmine hne hother => hrefuse _ _ hok (sessionCheck_outOfOrder hmine hne hother)
  · intro hok hmine hne hseq hop hbusy
    rw [runCmd_ignore (hhead hok) hopen ((sessionCheck_heard h _ s).trans (sessionCheck_pending hmine hne hseq hop hbusy))]
    exact ⟨rfl, rfl, rfl, s.heardFrom_sameBut _ h⟩
  · intro r hok hmine hne hseq hop hbusy hreply hcode
    rw [runCmd_again (hhead hok) hopen ((sessionCheck_heard h _ s).trans (sessionCheck_stored hmine hne hseq hop hbusy hreply))]
    exact State.again_served hrole hwithin hport hcode
  · intro hok hmine hseq hbusy honly hother
    have hgo : sessionCheck x h.session h.seq (opCode op) = .go := (sessionCheck_next hmine hseq).trans (if_neg (by simp [hbusy]))
    have hstatus : opStatus (s.accepted h (opCode op)) code (opCode op) (some op) false = stNotOwner :=
      opStatus_notOwner honly (by rw [State.accepted_owner, State.leased_owner]; exact hother)
    rw [runCmd_go (hhead hok) hopen ((sessionCheck_heard h _ s).trans hgo), hstatus, if_pos (by decide)]
    exact State.denied_onlyReplied hrole hwithin hport hmine

end Sys2Proof.Machine
end

section
/-! PROOFS. The lease (R350): every packet of the owner that passes steps 1 to 4 renews it, and no opcode gives a standing owner another
lease than that of the open frame. -/

namespace Sys2Proof.Machine

/-! ## Ownership through an opcode -/

/-- The opcodes that write ownership. -/
def opOwns : Op → Bool
  | .closeSession | .claim | .handover _ | .accept | .release => true
  | _ => false

/-- What the other opcodes write. -/
def unownedParts : List Part :=
  [.fr, .blks, .eng, .safety, .alm, .recd, .can, .twi, .mem, .mdiag, .regs, .pair, .outbox, .portSt, .wire, .trace, .replay, .replayIn,
    .cfgEv, .hdr, .staging, .nextCfg, .restage, .slotA, .slotB, .store, .trims]

theorem runOp_unowned {op : Op} {torn : Bool} {c : Caller} {x : State} (hop : opOwns op = false) :
    x.sameBut unownedParts (runOp op torn c x).1 := by
  refine State.sameBut_of_rest ?_
  cases op with
  | closeSession | claim | handover | accept | release => cases hop
  | _ => simp (disch := decide) [runOp]

/-- Where port `code` owns the node, its lease is `lease`. -/
def Owner.leasedFor (code lease : Nat) (o : Owner) : Prop := o.owner = some code → o.lease = lease

theorem State.vacate_leasedFor {x : State} {code lease why : Nat} (hl : x.port.owner.leasedFor code lease) :
    (x.vacate why).port.owner.leasedFor code lease := by
  cases howner : x.port.owner.owner with
  | none => rwa [State.vacate, howner]
  | some old =>
    rw [State.vacate_owner howner]
    exact nofun

theorem State.closeSession_leasedFor {x : State} {code lease : Nat} (k : Nat) (hl : x.port.owner.leasedFor code lease) :
    (x.closeSession k).port.owner.leasedFor code lease := by
  by_cases hid : (x.sessOf k).id = 0
  · rwa [State.closeSession, if_pos hid]
  · have hdropped : (x.dropClaim k).port.owner.leasedFor code lease := hl
    rw [State.closeSession_open x k hid, State.modSess_port_owner]
    split
    · exact State.vacate_leasedFor hdropped
    · exact hdropped

/-- No opcode leaves an owner with a lease other than the one it found or that of the open frame. -/
theorem runOp_leasedFor {op : Op} {torn : Bool} {c : Caller} {x : State} {code : Nat} (hl : x.port.owner.leasedFor code x.fr.total) :
    (runOp op torn c x).1.port.owner.leasedFor code x.fr.total := by
  cases hop : opOwns op with
  | false =>
    rw [(runOp_unowned hop).owner (by decide)]
    exact hl
  | true =>
    cases op with
    | closeSession => exact State.closeSession_leasedFor c.code hl
    | claim =>
      show (opClaim c x).1.port.owner.leasedFor code x.fr.total
      unfold opClaim
      split
      · exact hl
      · split <;> exact hl
    | handover target =>
      show (opHandover target c x).1.port.owner.leasedFor code x.fr.total
      unfold opHandover
      split
      · exact hl
      · show (x.offered target).port.owner.leasedFor code x.fr.total
        rw [State.offered_owner]
        exact hl
    | accept =>
      show (opAccept c x).1.port.owner.leasedFor code x.fr.total
      unfold opAccept
      split
      · split
        · intro _
          exact congrArg Owner.lease (x.newOwner_owner c.code 2)
        · exact hl
      · exact hl
    | release => exact State.vacate_leasedFor hl
    | _ => cases hop

theorem State.runReply_leasedFor {c : Caller} {op : Op} {torn : Bool} {x : State} {code : Nat}
    (hl : x.port.owner.leasedFor code x.fr.total) : (x.runReply c op torn).port.owner.leasedFor code x.fr.total := by
  unfold State.runReply
  split
  · exact hl
  · have hsettle : (runOp op torn c x).1.sameBut [.can, .sess, .pend, .outbox, .portSt, .wire, .trace, .power]
        (State.settle c op (runOp op torn c x)) :=
      State.sameBut_of_rest (State.settle_rest _ _ _ (by decide) fun _ => by decide)
    rw [(State.activeSends_sameBut _ _).owner (by decide), hsettle.owner (by decide)]
    exact runOp_leasedFor hl

/-! ## Packets of the owner -/

section
variable {h : PktHead} {opc : Nat} {s : State}

theorem State.leased_leasedFor (hmine : s.port.owner.owner = some (s.codeOf h.port)) :
    (s.leased h).leasedFor (s.codeOf h.port) s.fr.total := by
  rw [State.leased_mine hmine]
  exact fun _ => rfl

/-- A packet of the owner that passes steps 1 to 4. -/
theorem runCmd_go_leasedFor {op : Op} {torn traced : Bool} (hhead : headStatus h = stOk) (hopen : opCode op ≠ 0x0002)
    (hc : sessionCheck (s.sessOf (s.codeOf h.port)) h.session h.seq (opCode op) = .go) (hmine : s.port.owner.owner = some (s.codeOf h.port)) :
    (s.runCmd traced torn (s.codeOf h.port) (opCode op) h (some op)).port.owner.leasedFor (s.codeOf h.port) s.fr.total := by
  have hacc : (s.accepted h (opCode op)).port.owner.leasedFor (s.codeOf h.port) (s.accepted h (opCode op)).fr.total := by
    rw [State.accepted_owner, State.accepted_fr]
    exact State.leased_leasedFor hmine
  rw [runCmd_go hhead hopen ((sessionCheck_heard h _ s).trans hc), ← State.accepted_fr h (opCode op) s]
  split
  · have hanswer (c : Caller) (st : Nat) : (s.accepted h (opCode op)).sameBut [.can, .sess, .outbox, .portSt, .wire, .trace]
        ((s.accepted h (opCode op)).answer c st []) := State.sameBut_of_rest (State.answer_rest _ _ _ _ (by decide))
    rw [(hanswer _ _).owner (by decide)]
    exact hacc
  · exact State.runReply_leasedFor hacc

/-- A repeated packet of the owner that gets its stored reply. -/
theorem runCmd_again_leasedFor {o : Option Op} {torn traced : Bool} {r : Reply} (hhead : headStatus h = stOk) (hopen : opc ≠ 0x0002)
    (hc : sessionCheck (s.sessOf (s.codeOf h.port)) h.session h.seq opc = .again r) (hmine : s.port.owner.owner = some (s.codeOf h.port)) :
    (s.runCmd traced torn (s.codeOf h.port) opc h o).port.owner.leasedFor (s.codeOf h.port) s.fr.total := by
  have hsend (x : State) : x.sameBut [.can, .outbox, .portSt, .wire, .trace] (x.sendAnswer r) :=
    State.sameBut_of_rest (State.sendAnswer_rest _ _ (by decide))
  rw [runCmd_again hhead hopen ((sessionCheck_heard h _ s).trans hc), (hsend _).owner (by decide)]
  show (s.accepted h opc).port.owner.leasedFor (s.codeOf h.port) s.fr.total
  rw [State.accepted_owner]
  exact State.leased_leasedFor hmine

/-- RENEW (R350). -/
theorem renew_served (hr : s.ready h 0x0102) : ∃ u, exec (.renew h) s = .next u ∧ s.replied u h 0x0102 stOk [] ∧
    u.port.owner = { s.port.owner with lease := s.fr.total } ∧ s.sameBut (servingParts h) u := by
  obtain ⟨u, e, hreply, howner, hsame⟩ := runRow_onlyReplied (op := .renew) (torn := false) (st := stOk) (b := []) hr nofun rfl (by decide)
  exact ⟨u, e, hreply, howner.trans (State.leased_mine (State.ready_mine hr (by decide))), hsame⟩

end

/-- Settles O6: steps 3 and 4 renew the lease before the opcode runs, and no opcode gives its owner another. -/
theorem packetsRenewTheLease : Obligations.PacketsRenewTheLease := by
  refine ⟨?_, fun h s => renew_served⟩
  intro i h op torn s hpacket hwf hopen hA hmode hrole hsteady hversion hflags hstatus hmine x hid hsession hbusy hseq
  have hport : h.port < 6 := by
    obtain ⟨_, _, -, hfits⟩ := exec_packet hpacket
    exact port_of_headOk (hfits hwf).2.2
  have hhead := headStatus_ok hversion hflags hstatus
  refine ⟨_, (exec_packet_wellFormed hpacket hwf s).trans (runRow_cmd hmode hrole hport hsteady hA), ?_⟩
  by_cases hnext : h.seq = (x.lastSeq + 1) % 2 ^ 32
  · exact runCmd_go_leasedFor hhead hopen ((sessionCheck_next ⟨hid, hsession⟩ hnext).trans (if_neg (by simp [hbusy]))) hmine
  · obtain ⟨hsame, hop, hstored⟩ := hseq.resolve_left hnext
    obtain ⟨r, hr⟩ := Option.isSome_iff_exists.1 hstored
    exact runCmd_again_leasedFor hhead hopen (sessionCheck_stored ⟨hid, hsession⟩ hnext hsame hop hbusy hr) hmine

end Sys2Proof.Machine
end

section
/-! PROOFS. Timers of the engineer call (R285 to R291) and of ownership (R348 to R355): sessions, leases and offers that are over, and the
claimant that a window ends with. -/

namespace Sys2Proof.Machine

/-! ## The engineer call (R267, R285 to R291) -/

/-- Step 5 of R267 leaves its mark on the frame. -/
theorem State.callNow_callDone (s : State) : s.callNow.alm.callDone = true := by
  have hload (l : List (Nat × Nat)) (im : Image) (x : State) :
      (l.foldl (fun x e => x.load (caTxObj im e.1) (toBytes 8 e.2)) x).alm.callDone = x.alm.callDone :=
    foldl_keep (fun x => x.alm.callDone) (fun x (e : Nat × Nat) => x.load (caTxObj im e.1) (toBytes 8 e.2)) (fun _ _ => rfl) l x
  unfold State.callNow
  dsimp only
  split
  · assumption
  · rw [hload]
    rfl

/-- What the statement says of the step that is done. -/
def State.callStepped (t : Nat) (s u : State) : Prop :=
  u.alm = (s.tick t).callNow.alm ∧ u.alm.callDone = true ∧ u.can = (s.tick t).callNow.can ∧ s.sameBut [.now, .alm, .can] u

/-- A row of the engineer call whose happening step 5 brings about. -/
theorem callRow_goes {ok : Bool} {t : Nat} {happens : State → State → Bool} {s : State} (hready : s.zenithReady = true)
    (hopen : s.alm.callDone = false) (hok : ok = true) (hhappens : happens (s.tick t) (s.tick t).callNow = true) :
    callRow ok t happens s = .next (s.tick t).callNow := by
  have hcond : ((s.tick t).zenithReady && !(s.tick t).alm.callDone && happens (s.tick t) (s.tick t).callNow) = true := by
    rw [hhappens, show (s.tick t).zenithReady = true from hready, show (s.tick t).alm.callDone = false from hopen]
    rfl
  exact act_goes hok hcond

theorem State.callStepped_of {i : Instr} {t : Nat} {s : State} (e : exec i s = .next (s.tick t).callNow)
    (htouches : touches i = [.now, .alm, .can]) : s.callStepped t (s.tick t).callNow :=
  ⟨rfl, State.callNow_callDone _, rfl, htouches ▸ exec_sameBut e⟩

/-- Settles O25: each row asks of the step what its clause supposes. -/
theorem engineerCallTimers : Obligations.EngineerCallTimers := by
  intro t s hready hopen y done
  refine ⟨fun hcs hall hesc => ?_, fun hrun hpre => ?_, fun hother halarm => ?_, fun k hk hlinked hlost => ?_,
    fun k hk hcycle hsent hsame htx => ?_⟩
  · have e : exec (.callEscalation t) s = .next y := by
      dsimp only [exec, execCallEscalation]
      exact callRow_goes hready hopen rfl (Bool.and_eq_true_iff.2
        ⟨Bool.and_eq_true_iff.2 ⟨decide_eq_true hcs, decide_eq_true hall⟩, decide_eq_true hesc⟩)
    exact ⟨y, e, State.callStepped_of e rfl, hall⟩
  · have e : exec (.deadManPre t) s = .next y := by
      dsimp only [exec, execDeadManPre]
      exact callRow_goes hready hopen rfl (Bool.and_eq_true_iff.2 ⟨decide_eq_true hrun, decide_eq_true hpre⟩)
    exact ⟨y, e, State.callStepped_of e rfl, hpre⟩
  · have e : exec (.deadManExpiry t) s = .next y := by
      dsimp only [exec, execDeadManExpiry]
      exact callRow_goes hready hopen rfl (Bool.and_eq_true_iff.2 ⟨decide_eq_true hother, decide_eq_true halarm⟩)
    exact ⟨y, e, State.callStepped_of e rfl, halarm⟩
  · have e : exec (.callLinkLost t k) s = .next y := by
      dsimp only [exec, execCallLinkLost]
      exact callRow_goes hready hopen (decide_eq_true hk) (Bool.and_eq_true_iff.2 ⟨congrArg Bool.not hlinked, hlost⟩)
    exact ⟨y, e, State.callStepped_of e rfl, hlost⟩
  · have e : exec (.callObjectCycle t k) s = .next y := by
      dsimp only [exec, execCallObjectCycle]
      exact callRow_goes hready hopen (decide_eq_true hk) (Bool.and_eq_true_iff.2 ⟨Bool.and_eq_true_iff.2
        ⟨Bool.and_eq_true_iff.2 ⟨decide_eq_true hcycle, decide_eq_true hsent⟩, decide_eq_true hsame⟩, decide_eq_true htx⟩)
    exact ⟨y, e, State.callStepped_of e rfl⟩

/-! ## Sessions, leases and offers that are over (R321, R351, R354) -/

/-- A port that closes its session keeps no offer where it owned the node, and leaves the offer of another owner. -/
theorem State.closeSession_offer {s : State} {code : Nat} (hid : (s.sessOf code).id ≠ 0) : (s.closeSession code).port.owner.offer =
    if s.port.owner.owner = some code then none else s.port.owner.offer := by
  rw [State.closeSession_open s code hid]
  by_cases howner : s.port.owner.owner = some code
  · have hdropped := (s.dropClaim_owner code).trans howner
    rw [if_pos hdropped, if_pos howner, State.modSess_port_owner, State.vacate_owner hdropped]
    rfl
  · rw [if_neg (show ¬ (s.dropClaim code).port.owner.owner = some code from howner), if_neg howner]
    rfl

theorem sessionTimeout_closes {t code : Nat} {s : State} (hcode : isCode code = true) (hmode : s.mode = .running)
    (hphase : s.phase = .evaluate) (hid : (s.sessOf code).id ≠ 0) (hheard : (s.sessOf code).heard = false)
    (hquiet : framesOf s.P (msC 30000) ≤ (s.sessOf code).quiet + 1) :
    exec (.sessionTimeout t code) s = .next ((s.tick t).closeSession code) := by
  have hcond : (s.live && decide (s.phase = .evaluate) && decide ((s.sessOf code).id ≠ 0) && !(s.sessOf code).heard &&
      decide (framesOf s.P (msC 30000) ≤ (s.sessOf code).quiet + 1)) = true := by
    rw [show s.live = true from decide_eq_true hmode, decide_eq_true hphase, decide_eq_true hid, hheard, decide_eq_true hquiet]
    rfl
  dsimp only [exec, execSessionTimeout]
  exact act_goes hcode hcond

theorem leaseLapse_vacates {t : Nat} {s : State} (hmode : s.mode = .running) (hphase : s.phase ≠ .complete) (hover : s.leaseOver = true) :
    exec (.leaseLapse t) s = .next ((s.tick t).vacate 4) := by
  have hcond : (s.live && decide (s.phase ≠ .complete) && s.leaseOver) = true := by
    rw [show s.live = true from decide_eq_true hmode, decide_eq_true hphase, hover]
    rfl
  dsimp only [exec, execLeaseLapse]
  exact (act_goes rfl hcond).trans (congrArg Host.Outcome.next (if_pos hover))

theorem offerLapse_ends {t : Nat} {s : State} (hmode : s.mode = .running) (hphase : s.phase ≠ .complete) (hover : s.offerOver = true) :
    exec (.offerLapse t) s = .next ((s.tick t).endOffer 1) := by
  have hcond : (s.live && decide (s.phase ≠ .complete) && s.offerOver) = true := by
    rw [show s.live = true from decide_eq_true hmode, decide_eq_true hphase, hover]
    rfl
  dsimp only [exec, execOfferLapse]
  exact (act_goes rfl hcond).trans (congrArg Host.Outcome.next (if_pos hover))

/-! ## The winner of a claim window (R348) -/

/-- Claim `y` is at least as good as claim `x`. -/
def claimHolds (im : Image) (y x : Nat) : Prop :=
  poClaimPrio im (x % 8) < poClaimPrio im (y % 8) ∨ (poClaimPrio im (x % 8) = poClaimPrio im (y % 8) ∧ claimRank y ≤ claimRank x)

theorem claimHolds_refl (im : Image) (x : Nat) : claimHolds im x x := .inr ⟨rfl, le_refl _⟩

theorem claimWins_iff {im : Image} {a b : Nat} : claimWins im a b = true ↔
    poClaimPrio im (b % 8) < poClaimPrio im (a % 8) ∨ (poClaimPrio im (a % 8) = poClaimPrio im (b % 8) ∧ claimRank a < claimRank b) := by
  simp [claimWins]

/-- A claim that wins holds against all that the one before held against. -/
theorem claimHolds_of_wins {im : Image} {a b x : Nat} (hw : claimWins im a b = true) (hb : claimHolds im b x) : claimHolds im a x := by
  rw [claimWins_iff] at hw
  unfold claimHolds at hb ⊢
  omega

theorem claimHolds_of_loses {im : Image} {a b : Nat} (hl : claimWins im a b = false) : claimHolds im b a := by
  have hno := mt claimWins_iff.2 (show ¬ claimWins im a b = true by simp [hl])
  unfold claimHolds
  omega

/-- The better of the claim so far and the next. -/
def betterClaim (im : Image) (b : Option Nat) (x : Claim) : Option Nat :=
  match b with
  | some y => if claimWins im x.code y then some x.code else some y
  | none => some x.code

theorem claimWinner_eq (im : Image) (l : List Claim) : claimWinner im l = l.foldl (betterClaim im) none := rfl

/-- Going through claims, the one kept holds against all of them and against the one before. -/
theorem foldl_betterClaim (im : Image) (l : List Claim) (y : Nat) : ∃ w, l.foldl (betterClaim im) (some y) = some w ∧
    (w = y ∨ ∃ x ∈ l, x.code = w) ∧ claimHolds im w y ∧ ∀ x ∈ l, claimHolds im w x.code := by
  induction l generalizing y with
  | nil => exact ⟨y, rfl, .inl rfl, claimHolds_refl im y, nofun⟩
  | cons z l ih =>
    cases hwins : claimWins im z.code y with
    | true =>
      obtain ⟨w, hfold, hfrom, hkept, hrest⟩ := ih z.code
      refine ⟨w, ?_, .inr ?_, ?_, List.forall_mem_cons.2 ⟨hkept, hrest⟩⟩
      · rw [List.foldl_cons, betterClaim, if_pos hwins, hfold]
      · rcases hfrom with rfl | ⟨x, hx, hcode⟩
        · exact ⟨z, List.mem_cons_self, rfl⟩
        · exact ⟨x, List.mem_cons_of_mem _ hx, hcode⟩
      · have := claimWins_iff.1 hwins
        unfold claimHolds at hkept ⊢
        omega
    | false =>
      obtain ⟨w, hfold, hfrom, hkept, hrest⟩ := ih y
      refine ⟨w, ?_, ?_, hkept, List.forall_mem_cons.2 ⟨?_, hrest⟩⟩
      · rw [List.foldl_cons, betterClaim, if_neg (by simp [hwins]), hfold]
      · rcases hfrom with rfl | ⟨x, hx, hcode⟩
        · exact .inl rfl
        · exact .inr ⟨x, List.mem_cons_of_mem _ hx, hcode⟩
      · have hloses := claimHolds_of_loses hwins
        unfold claimHolds at hkept hloses ⊢
        omega

/-- A window with claims ends with one that holds against all of them. -/
theorem claimWinner_some {im : Image} {l : List Claim} (hl : l ≠ []) : ∃ w ∈ l, claimWinner im l = some w.code ∧
    ∀ x ∈ l, claimHolds im w.code x.code := by
  obtain ⟨z, r, rfl⟩ := List.exists_cons_of_ne_nil hl
  obtain ⟨w, hfold, hfrom, hkept, hrest⟩ := foldl_betterClaim im r z.code
  have hall : ∀ x ∈ z :: r, claimHolds im w x.code := List.forall_mem_cons.2 ⟨hkept, hrest⟩
  rcases hfrom with rfl | ⟨x, hx, rfl⟩
  · exact ⟨z, List.mem_cons_self, hfold, hall⟩
  · exact ⟨x, List.mem_cons_of_mem _ hx, hfold, hall⟩

section
variable {t c : Nat} {s : State}

/-- The state with its claim window closed. -/
def State.windowClosed (s : State) : State := s.modOwner fun o => { o with window := none, claims := [] }

theorem State.closeWindow_empty (hwindow : s.port.owner.window = some c) (hover : c + windowCycles ≤ s.fr.total)
    (hclaims : s.port.owner.claims = []) : s.closeWindow = s.windowClosed := by
  unfold State.closeWindow
  rw [hwindow]
  dsimp only
  rw [if_neg (Nat.not_lt.2 hover), hclaims]
  rfl

theorem State.closeWindow_owner {w : Nat} (hwindow : s.port.owner.window = some c) (hover : c + windowCycles ≤ s.fr.total)
    (hwinner : claimWinner s.im s.port.owner.claims = some w) : s.closeWindow.port.owner = (s.windowClosed.newOwner w 1).port.owner := by
  unfold State.closeWindow
  rw [hwindow]
  dsimp only
  rw [if_neg (Nat.not_lt.2 hover), hwinner]
  rfl

theorem claimWindowClose_closes (hready : s.zenithReady = true) (hwindow : s.port.owner.window = some c)
    (hover : c + windowCycles ≤ s.fr.total) : exec (.claimWindowClose t) s = .next (s.tick t).closeWindow := by
  dsimp only [exec, execClaimWindowClose]
  refine act_goes rfl (Bool.and_eq_true_iff.2 ⟨hready, ?_⟩)
  rw [show (s.tick t).port.owner.window = some c from hwindow]
  exact decide_eq_true hover

theorem claimWindowClose_served (hready : s.zenithReady = true) (hwindow : s.port.owner.window = some c)
    (hover : c + windowCycles ≤ s.fr.total) :
    ∃ u, exec (.claimWindowClose t) s = .next u ∧ u.port.owner.window = none ∧ u.port.owner.claims = [] ∧
      (s.port.owner.claims = [] → u.port.owner.owner = s.port.owner.owner) ∧
      (s.port.owner.claims ≠ [] → ∃ w ∈ s.port.owner.claims, u.port.owner.owner = some w.code ∧ u.port.owner.lease = s.fr.total ∧
        u.port.owner.offer = none ∧ ∀ x ∈ s.port.owner.claims,
          poClaimPrio s.im (x.code % 8) < poClaimPrio s.im (w.code % 8) ∨
            (poClaimPrio s.im (x.code % 8) = poClaimPrio s.im (w.code % 8) ∧ claimRank w.code ≤ claimRank x.code)) := by
  refine ⟨_, claimWindowClose_closes hready hwindow hover, ?_⟩
  by_cases hclaims : s.port.owner.claims = []
  · rw [State.closeWindow_empty (s := s.tick t) hwindow hover hclaims]
    exact ⟨rfl, rfl, fun _ => rfl, fun hne => absurd hclaims hne⟩
  · obtain ⟨w, hw, hwinner, hall⟩ := claimWinner_some (im := s.im) hclaims
    have howner := (State.closeWindow_owner (s := s.tick t) hwindow hover hwinner).trans (State.newOwner_owner _ _ _)
    refine ⟨?_, ?_, fun hnone => absurd hnone hclaims, fun _ => ⟨w, hw, ?_, ?_, ?_, hall⟩⟩
    · rw [howner]
      rfl
    · rw [howner]
      rfl
    · rw [howner]
    · rw [howner]
      rfl
    · rw [howner]

end

/-- Settles O26: the timers by what they end, the window by the fold over its claims. -/
theorem ownershipTimers : Obligations.OwnershipTimers := by
  refine ⟨?_, ?_, ?_, fun t c s => claimWindowClose_served⟩
  · intro t code s hcode hmode hphase hid hheard hquiet
    have hopen : ((s.tick t).sessOf code).id ≠ 0 := hid
    refine ⟨_, sessionTimeout_closes hcode hmode hphase hid hheard hquiet, State.closeSession_sess _ _ hopen,
      fun k hk => State.closeSession_sess_ne _ _ hk, fun howner => ?_, fun hother => ?_⟩
    · rw [State.closeSession_owner, State.closeSession_offer hopen]
      exact ⟨if_pos ⟨hopen, howner⟩, if_pos howner⟩
    · rw [State.closeSession_owner, State.closeSession_offer hopen]
      exact ⟨if_neg fun hboth => hother hboth.2, if_neg hother⟩
  · intro t old s hmode hphase hover howner
    have hheld : (s.tick t).port.owner.owner = some old := howner
    refine ⟨_, leaseLapse_vacates hmode hphase hover, ?_, ?_, ?_, State.vacate_trace hheld 4, ?_, ?_⟩
    · rw [State.vacate_owner hheld]
      rfl
    · rw [State.vacate_owner hheld]
      rfl
    · rw [State.vacate_cfg hheld]
    · exact ((s.tick t).vacate_sameBut 4).2.2 .sess (by decide)
    · rw [State.vacate_owner hheld]
      exact List.mem_append_left _ (List.mem_append_right _ (List.mem_singleton.2 rfl))
  · intro t x s hmode hphase hover hoffer
    refine (offerLapse_ends hmode hphase hover).trans (congrArg Host.Outcome.next ?_)
    unfold State.endOffer
    rw [show (s.tick t).port.owner.offer = some x from hoffer]
    rfl

end Sys2Proof.Machine
end

section
/-! PROOFS. Roles and holds of a pair unit, and the ways to stop (R418, R419, R491, R493, R504). -/

namespace Sys2Proof.Machine

/-! ## Holds and roles (R418) -/

section
variable (s : State) (level role cause : Nat)

/-- A unit drives its own hold: at no level with bad identity data (R523). -/
theorem State.driveHold_ownHold : (s.driveHold level).ownHold = if s.unt.power.identBad then 0 else level := by
  unfold State.driveHold
  cases hunit : s.unt.pair.unitB <;> simp [State.ownHold, State.modPair, State.modUnt, hunit]

theorem State.driveHold_partnerHold : (s.driveHold level).partnerHold = s.partnerHold := by
  unfold State.driveHold
  cases hunit : s.unt.pair.unitB <;> simp [State.partnerHold, State.modPair, State.modUnt, hunit]

/-- Beside the holds the state of the pair stands. -/
theorem State.driveHold_pair {α : Type} (f : Pair → α) (hf : ∀ p a b, f { p with holdA := a, holdB := b } = f p) :
    f (s.driveHold level).unt.pair = f s.unt.pair := by
  show f (if s.unt.pair.unitB then _ else _) = _
  split
  · exact hf s.unt.pair s.unt.pair.holdA _
  · exact hf s.unt.pair _ s.unt.pair.holdB

theorem State.driveHold_role : (s.driveHold level).unt.pair.role = s.unt.pair.role := s.driveHold_pair level Pair.role fun _ _ _ => rfl

theorem State.setRole_role : (s.setRole role cause).unt.pair.role = role := by
  unfold State.setRole
  dsimp only
  rw [State.unitEvs_pair, State.driveHold_role]
  rfl

theorem State.setRole_ownHold : (s.setRole role cause).ownHold = if s.unt.power.identBad then 0 else roleHold role := by
  have hhold (x : State) (l : List EvReq) : (x.unitEvs l).ownHold = x.ownHold := by
    unfold State.ownHold
    rw [State.unitEvs_pair]
  unfold State.setRole
  dsimp only
  rw [hhold, State.driveHold_ownHold]
  rfl

theorem State.setRole_sameBut : s.sameBut [.recd, .pair] (s.setRole role cause) := State.sameBut_of_rest (State.setRole_rest _ _ _ (by decide))
theorem State.driveHold_sameBut : s.sameBut [.pair] (s.driveHold level) := State.sameBut_of_rest (State.driveHold_rest _ _ (by decide))

theorem State.setRole_opS : (s.setRole role cause).recd.opS = s.recd.opS :=
  (State.unitEvs_opS _ _).trans (congrArg Recorder.opS ((State.driveHold_sameBut _ _).2.2 .recd (by decide)))

end

/-! ## The orderly stop (R493) -/

section
variable (s : State) (reason : Nat)

/-- The marks of an orderly stop: no store goes on, and operating seconds and the end reason are written. -/
def State.stopMarks : State :=
  ((s.modRecd fun q => { q with opS := if s.zenithRuns then max q.opS s.wholeSeconds else q.opS }).modCfg fun c =>
    { c with store := none }).modPower fun p => { p with endNext := reason, restartDue := false }

/-- A unit of a pair that stops has failed (R417). -/
def State.stopRole : State := if s.paired && decide (s.unt.pair.role ≠ 4) then s.setRole 4 3 else s

/-- A unit that stops withdraws its hold; a witness drives none. -/
def State.stopHold : State := if s.isWitness then s else s.driveHold 0

theorem State.orderlyStop_eq : s.orderlyStop reason = ((s.stopMarks reason).stopRole.stopHold).setMode .stopped := by
  have hwitness : (s.stopMarks reason).stopRole.isWitness = s.isWitness := by
    unfold State.stopRole
    split
    · exact congrArg Ident.witness (State.setRole_sameBut _ _ _).2.1
    · rfl
  unfold State.stopHold
  rw [hwitness]
  rfl

theorem State.stopRole_sameBut : s.sameBut [.recd, .pair] s.stopRole := by
  unfold State.stopRole
  split
  · exact s.setRole_sameBut 4 3
  · exact State.sameBut_refl _ s

theorem State.stopHold_sameBut : s.sameBut [.pair] s.stopHold := by
  unfold State.stopHold
  split
  · exact State.sameBut_refl _ s
  · exact s.driveHold_sameBut 0

/-- After its marks a stop writes the recorder, the pair and the mode. -/
theorem State.orderlyStop_sameBut : (s.stopMarks reason).sameBut [.recd, .pair, .mode] (s.orderlyStop reason) := by
  rw [State.orderlyStop_eq]
  have hmode (x : State) : x.sameBut [.mode] (x.setMode .stopped) := State.sameBut_of_rest (State.setMode_rest _ _ (by decide))
  exact State.sameBut_mono (State.sameBut_trans (State.sameBut_trans (State.stopRole_sameBut _) (State.stopHold_sameBut _)) (hmode _))
    (by decide)

theorem State.orderlyStop_power : (s.orderlyStop reason).unt.power = { s.unt.power with endNext := reason, restartDue := false } :=
  (s.orderlyStop_sameBut reason).2.2 .power (by decide)

theorem State.orderlyStop_store : (s.orderlyStop reason).cfg.store = none :=
  ((s.orderlyStop_sameBut reason).2.2 .store (by decide)).trans rfl

theorem State.orderlyStop_opS : (s.orderlyStop reason).recd.opS =
    if s.zenithRuns then max s.recd.opS s.wholeSeconds else s.recd.opS := by
  have hrole (x : State) : x.stopRole.recd.opS = x.recd.opS := by
    unfold State.stopRole
    split
    · exact x.setRole_opS 4 3
    · rfl
  rw [State.orderlyStop_eq]
  show (s.stopMarks reason).stopRole.stopHold.recd.opS = _
  rw [(State.stopHold_sameBut _).2.2 .recd (by decide), hrole]
  rfl

/-- A single node, and a unit that has failed, stop without a record. -/
theorem State.orderlyStop_recd (hrole : s.paired = false ∨ s.unt.pair.role = 4) :
    (s.orderlyStop reason).recd = { s.recd with opS := (s.orderlyStop reason).recd.opS } := by
  have hstays : (s.stopMarks reason).stopRole = s.stopMarks reason :=
    if_neg (show ¬ (s.paired && decide (s.unt.pair.role ≠ 4)) = true by rcases hrole with h | h <;> simp [h])
  rw [State.orderlyStop_eq, hstays]
  show (s.stopMarks reason).stopHold.recd = { s.recd with opS := (s.stopMarks reason).stopHold.recd.opS }
  rw [(State.stopHold_sameBut _).2.2 .recd (by decide)]
  rfl

theorem State.orderlyStop_ownHold (hunit : s.isWitness = false) : (s.orderlyStop reason).ownHold = 0 := by
  have hwitness : (s.stopMarks reason).stopRole.isWitness = false :=
    (congrArg Ident.witness (State.stopRole_sameBut _).2.1).trans hunit
  rw [State.orderlyStop_eq, State.stopHold, if_neg (by rw [hwitness]; decide)]
  exact (State.driveHold_ownHold ..).trans (ite_self 0)

theorem State.orderlyStop_role (hpaired : s.paired = true) : (s.orderlyStop reason).unt.pair.role = 4 := by
  have hrole : (s.stopMarks reason).stopRole.unt.pair.role = 4 := by
    unfold State.stopRole
    split
    · exact State.setRole_role ..
    · next hstays =>
      have hp : (s.stopMarks reason).paired = true := hpaired
      simpa [hp] using hstays
  have hhold (x : State) : x.stopHold.unt.pair.role = x.unt.pair.role := by
    unfold State.stopHold
    split
    · rfl
    · exact x.driveHold_role 0
  rw [State.orderlyStop_eq]
  exact (hhold _).trans hrole

theorem State.orderlyStop_blks : (s.orderlyStop reason).blks = s.blks :=
  (s.orderlyStop_sameBut reason).blks (by decide)

end

/-! ## FEED_STATE, SUPPLY_DECLINE and OFF_ENTRY (R491, R493, R504) -/

/-- A stopped unit enters the OFF state. -/
def State.switchedOff (s : State) : State :=
  (s.blocksOff.modPower fun p => { p with enable := false, enableSeen := false }).setMode .off

/-! The entry to OFF writes the blocks, ENABLE and the mode. -/

section
variable (s : State)

theorem State.switchedOff_mode : s.switchedOff.mode = .off := rfl
theorem State.switchedOff_power : s.switchedOff.unt.power = { s.unt.power with enable := false, enableSeen := false } := rfl
theorem State.switchedOff_blkRuns (b : Nat) : s.switchedOff.blkRuns b = false := rfl
theorem State.switchedOff_cfg : s.switchedOff.cfg = s.cfg := rfl
theorem State.switchedOff_recd : s.switchedOff.recd = s.recd := rfl

end

section
variable {t feed mv heldUs openMs : Nat} {s : State}

/-- A logic feed. -/
def State.logicFeed (feed : Nat) (s : State) : Feed := if feed = 0 then s.unt.power.feedA else s.unt.power.feedB

/-- What a reading of a logic feed makes of it (R491). -/
def State.feedNew (feed mv heldUs : Nat) (s : State) : Feed × List EvReq :=
  feedRead 0x0101 feed (feedJudge (s.logicFeed feed).state mv heldUs) mv (s.logicFeed feed)

/-- The state with the reading of a logic feed taken. -/
def State.feedTaken (feed mv heldUs : Nat) (s : State) : State :=
  s.modPower fun p => if feed = 0 then { p with feedA := (s.feedNew feed mv heldUs).1 } else { p with feedB := (s.feedNew feed mv heldUs).1 }

theorem feedState_goes (hfeed : feed < 2) (hawake : s.awake = true) : exec (.feedState t feed mv heldUs) s =
    .next (((s.tick t).feedTaken feed mv heldUs).unitEvs ((s.tick t).feedNew feed mv heldUs).2) := by
  dsimp only [exec, execFeedState]
  exact act_goes (decide_eq_true hfeed) hawake

theorem supplyDecline_goes (hawake : s.awake = true) (hmv : mv < 16000) (hheld : 50 ≤ heldUs) :
    exec (.supplyDecline t mv heldUs) s = .next ((s.tick t).orderlyStop 1) := by
  have hcond : (s.awake && decide (mv < 16000) && decide (50 ≤ heldUs)) = true := by
    rw [hawake, decide_eq_true hmv, decide_eq_true hheld]
    rfl
  dsimp only [exec, execSupplyDecline]
  exact act_goes rfl hcond

theorem offEntry_goes (hup : s.awake = true ∨ s.mode = .dead) (hseen : s.unt.power.enableSeen = true) (hopen : 100 ≤ openMs) :
    exec (.offEntry t openMs) s = .next ((s.tick t).orderlyStop 2).switchedOff := by
  have hcond : ((s.awake || decide (s.mode = .dead)) && s.unt.power.enableSeen && decide (100 ≤ openMs)) = true := by
    rw [hseen, decide_eq_true hopen]
    simpa using hup
  dsimp only [exec, execOffEntry]
  exact act_goes rfl hcond

end

/-- Settles O45: the reading of a feed, and the orderly stop on which the entry to OFF rests. -/
theorem feedsAndStops : Obligations.FeedsAndStops := by
  refine ⟨?_, ?_, ?_⟩
  · intro t feed mv heldUs s hfeed hawake
    have e := feedState_goes (t := t) (mv := mv) (heldUs := heldUs) hfeed hawake
    have hpower := congrArg UnitPart.power (State.unitEvs_unt ((s.tick t).feedNew feed mv heldUs).2 ((s.tick t).feedTaken feed mv heldUs))
    refine ⟨_, e, exec_sameBut e, ?_, ?_, ?_⟩
    · rintro rfl
      exact hpower
    · rintro rfl
      exact hpower
    · intro hlow hheld
      have hjudge : ∀ old, feedJudge old mv heldUs = 1 := fun old => if_pos ⟨hlow, hheld⟩
      rw [hpower]
      split
      · next h0 =>
        subst h0
        exact hjudge _
      · next h1 =>
        obtain rfl : feed = 1 := by omega
        exact hjudge _
  · intro t mv heldUs s hawake hmv hheld
    have hpower := (s.tick t).orderlyStop_power 1
    refine ⟨_, supplyDecline_goes hawake hmv hheld, rfl, ?_, ?_, ?_, ?_, fun hrole => ?_, fun hunit => ?_, fun hpaired => ?_, ?_⟩
    · rw [hpower]
    · rw [hpower]
    · exact State.orderlyStop_store _ _
    · rw [State.orderlyStop_opS]
      rfl
    · exact State.orderlyStop_recd _ _ hrole
    · exact State.orderlyStop_ownHold _ _ hunit
    · exact State.orderlyStop_role _ _ hpaired
    · rw [State.orderlyStop_blks]
      rfl
  · intro t openMs s hup hseen hopen
    refine ⟨_, offEntry_goes hup hseen hopen, State.switchedOff_mode _, ?_, ?_, ?_, ?_, State.switchedOff_blkRuns _, ?_, ?_⟩
    · rw [State.switchedOff_power, State.orderlyStop_power]
    · rw [State.switchedOff_power]
    · rw [State.switchedOff_power]
    · rw [State.switchedOff_cfg, State.orderlyStop_store]
    · rw [State.switchedOff_recd, State.orderlyStop_opS]
      rfl
    · rw [State.switchedOff_recd]
      exact (s.tick t).orderlyStop_recd 2

end Sys2Proof.Machine
end

section
/-! PROOFS. The roles of a pair unit (R25, R417, R422, R436): what a change of synchronisation, of role or of the active writes of the
pair, and the role table. -/

namespace Sys2Proof.Machine

/-! ## What operations of the pair leave of it

Each fact speaks of any reading `f` of the pair that does not see the fields the operation writes. -/

section
variable {α : Type} (f : Pair → α) (s : State)

theorem State.noteReady_reads (hf : ∀ p r, f { p with readyFrom := r } = f p) : f s.noteReady.unt.pair = f s.unt.pair := by
  unfold State.noteReady
  split
  · split
    · rfl
    · exact hf s.unt.pair _
  · exact hf s.unt.pair _

theorem State.setSync_reads (v cause : Nat) (hf : ∀ p a b c, f { p with sync := a, cause := b, syncFrame := c } = f p) :
    f (s.setSync v cause).unt.pair = f s.unt.pair := by
  unfold State.setSync
  dsimp only
  split
  · rfl
  · rw [State.unitEvs_pair]
    exact hf s.unt.pair _ _ _

theorem State.unsync_reads (cause : Nat)
    (hf : ∀ p a b c d r n, f { p with sync := a, cause := b, syncFrame := c, agreed := d, readyFrom := r, tries := n } = f p) :
    f (s.unsync cause).unt.pair = f s.unt.pair := by
  have hready : ∀ p r, f { p with readyFrom := r } = f p := fun p r => hf p p.sync p.cause p.syncFrame p.agreed r p.tries
  have hsync (v c : Nat) : f (s.setSync v c).unt.pair = f s.unt.pair :=
    s.setSync_reads f v c fun p a b c => hf p a b c p.agreed p.readyFrom p.tries
  unfold State.unsync
  dsimp only
  split
  · rfl
  · split
    · rw [State.noteReady_reads f _ hready, ← hsync 0 cause]
      exact hf (s.setSync 0 cause).unt.pair _ _ _ 0 none _
    · rw [State.noteReady_reads f _ hready, State.unitEvs_pair, ← hsync 0 (if 3 ≤ s.unt.pair.tries + 1 then 8 else cause)]
      exact hf (s.setSync 0 _).unt.pair _ _ _ 0 none _

theorem State.setRole_reads (role cause : Nat)
    (hf : ∀ p r n a b, f { p with role := r, takeovers := n, holdA := a, holdB := b } = f p) :
    f (s.setRole role cause).unt.pair = f s.unt.pair := by
  unfold State.setRole
  dsimp only
  rw [State.unitEvs_pair, State.driveHold_pair _ _ f fun p a b => hf p p.role p.takeovers a b]
  exact hf s.unt.pair _ _ s.unt.pair.holdA s.unt.pair.holdB

end

section
variable (s : State) (cause : Nat)

theorem State.noteReady_sameBut : s.sameBut [.pair] s.noteReady := State.sameBut_of_rest (State.noteReady_rest _ (by decide))
theorem State.unsync_sameBut : s.sameBut [.recd, .pair] (s.unsync cause) := State.sameBut_of_rest (State.unsync_rest _ _ (by decide))
theorem State.setSync_sameBut (v : Nat) : s.sameBut [.recd, .pair] (s.setSync v cause) :=
  State.sameBut_of_rest (State.setSync_rest _ _ _ (by decide))

theorem State.noteReady_sync : s.noteReady.unt.pair.sync = s.unt.pair.sync := s.noteReady_reads Pair.sync fun _ _ => rfl
theorem State.noteReady_role : s.noteReady.unt.pair.role = s.unt.pair.role := s.noteReady_reads Pair.role fun _ _ => rfl

theorem State.setSync_sync (v : Nat) : (s.setSync v cause).unt.pair.sync = v := by
  unfold State.setSync
  dsimp only
  split
  · assumption
  · rw [State.unitEvs_pair]
    rfl

/-- Whatever the cause, a standby that loses synchronisation is UNSYNCHRONISED. -/
theorem State.unsync_sync : (s.unsync cause).unt.pair.sync = 0 := by
  unfold State.unsync
  dsimp only
  split
  · assumption
  · split
    · rw [State.noteReady_sync]
      exact s.setSync_sync cause 0
    · rw [State.noteReady_sync, State.unitEvs_pair]
      exact s.setSync_sync _ 0

theorem State.unsync_role : (s.unsync cause).unt.pair.role = s.unt.pair.role := s.unsync_reads Pair.role cause fun _ _ _ _ _ _ _ => rfl

end

/-! ## Taking and giving up the active role (R422, R431, R435) -/

/-- The role of a unit, and the token as it saw it change last. -/
def Pair.place (p : Pair) : Nat × Nat × Nat := (p.role, p.token, p.tokenAt)

/-- The token as a unit saw it change last. -/
def Pair.seen (p : Pair) : Nat × Nat := (p.token, p.tokenAt)

section
variable (s : State) (cause : Nat)

theorem State.hotTakeover_place : s.hotTakeover.unt.pair.place = s.unt.pair.place := by
  have hfill (x : State) (l : List Nat) : (l.foldl State.fillRecord x).unt.pair = x.unt.pair :=
    foldl_keep (fun x => x.unt.pair) State.fillRecord (fun u c =>
      (State.sameBut_of_rest (State.fillRecord_rest (ps := [.inp]) u c (by decide))).pair (by decide)) l x
  have hload (x : State) (l : List Nat) : (l.foldl State.hotLoad x).unt.pair = x.unt.pair :=
    foldl_keep (fun x => x.unt.pair) State.hotLoad (fun u c =>
      (State.sameBut_of_rest (State.hotLoad_rest (ps := [.blks]) u c (by decide))).pair (by decide)) l x
  unfold State.hotTakeover
  dsimp only
  rw [State.modPair_unt_pair, hload]
  show Pair.place _ = _
  split
  · rw [State.modInp_unt, hfill]
    rfl
  · rfl

/-- The frame clock at a cold takeover (R435). -/
def State.coldClock : State := s.freshRun.modFr fun x =>
  { x with frameNo := s.coldFrame, strobeAt := s.now, lag := 0, prevLen := 0, prevLen2 := 0, doneAt := 0 }

theorem State.coldTakeover_eq : s.coldTakeover =
    (s.coldClock.assignEntries.freshFrame.modPair fun p => { p with cold := some (s.coldFrame + 1) }).setPhase .gather := rfl

theorem State.coldTakeover_place : s.coldTakeover.unt.pair.place = s.unt.pair.place := by
  have hfresh : s.freshRun.unt.pair = s.unt.pair :=
    (State.sameBut_of_rest (State.freshRun_rest (ps := [.inp, .blks, .eng, .safety, .alm, .owner]) s (by decide))).pair (by decide)
  have hassign (x : State) : x.assignEntries.unt.pair = x.unt.pair :=
    (State.sameBut_of_rest (State.assignEntries_rest (ps := [.fr, .inp, .recd, .can]) x (by decide))).pair (by decide)
  have hframe (x : State) : x.freshFrame.unt.pair = { x.unt.pair with noticed := false, inputs := false } := rfl
  have hopen (x : State) (n : Nat) :
      ((x.assignEntries.freshFrame.modPair fun p => { p with cold := some n }).setPhase .gather).unt.pair.place = x.unt.pair.place := by
    rw [State.setPhase_unt, State.modPair_unt_pair, hframe, hassign]
    rfl
  rw [State.coldTakeover_eq, hopen, State.coldClock, State.modFr_unt, hfresh]

theorem State.announce_pair : s.announce.unt.pair = s.unt.pair :=
  (State.sameBut_of_rest (State.announce_rest (ps := [.portSt]) s (by decide))).pair (by decide)

theorem State.takeActive_place : (s.takeActive cause).unt.pair.place = (1, s.unt.pair.seen) := by
  have hrole : (s.setRole 1 cause).announce.unt.pair.place = (1, s.unt.pair.seen) := by
    rw [State.announce_pair]
    exact Prod.ext (State.setRole_role ..) (s.setRole_reads Pair.seen 1 cause fun _ _ _ _ _ => rfl)
  have htaken (b : Bool) : (if b then (s.setRole 1 cause).announce.hotTakeover
      else (s.setRole 1 cause).announce.coldTakeover).unt.pair.place = (1, s.unt.pair.seen) := by
    cases b with
    | true => exact (State.hotTakeover_place _).trans hrole
    | false => exact (State.coldTakeover_place _).trans hrole
  unfold State.takeActive
  dsimp only
  split
  · exact htaken _
  · exact (State.setSync_reads Pair.place _ _ _ fun _ _ _ _ => rfl).trans (htaken _)

/-- The new standby before its synchronisation is judged. -/
def State.standingBy (cause : Nat) (s : State) : State :=
  (s.setRole 2 cause).haltMasters.modInp fun i => { i with gather := [], held := [] }

theorem State.standingBy_place : (s.standingBy cause).unt.pair.place = (2, s.unt.pair.seen) :=
  Prod.ext (State.setRole_role ..) (s.setRole_reads Pair.seen 2 cause fun _ _ _ _ _ => rfl)

theorem State.takeStandby_place : (s.takeStandby cause).unt.pair.place = (2, s.unt.pair.seen) := by
  unfold State.takeStandby
  dsimp only
  split
  · exact s.standingBy_place cause
  · exact (State.unsync_reads Pair.place (s.standingBy cause) 1 fun _ _ _ _ _ _ _ => rfl).trans (s.standingBy_place cause)

theorem State.takeStandby_sync (hc : cause ≠ 4) : (s.takeStandby cause).unt.pair.sync = 0 := by
  unfold State.takeStandby
  dsimp only
  rw [if_neg hc]
  exact State.unsync_sync (s.standingBy cause) 1

end

/-! ## The role table (R422) -/

section
variable {s : State}

theorem State.roleByToken_active (hrole : s.unt.pair.role = 2) (htoken : s.unt.pair.token = s.ownToken) :
    s.roleByToken = (s.takeActive (s.tokenCause 1)).modPair fun q => { q with switchAt := none, lowered := false } :=
  if_pos ⟨hrole, htoken⟩

theorem State.roleByToken_standby (hrole : s.unt.pair.role = 1) (htoken : s.unt.pair.token = s.partnerToken) :
    s.roleByToken = (s.takeStandby (s.tokenCause 2)).modPair fun q => { q with switchAt := none, lowered := false } :=
  (if_neg (by simp [hrole])).trans (if_pos ⟨hrole, htoken⟩)

theorem State.roleByToken_stays (hactive : ¬ (s.unt.pair.role = 2 ∧ s.unt.pair.token = s.ownToken))
    (hstandby : ¬ (s.unt.pair.role = 1 ∧ s.unt.pair.token = s.partnerToken)) : s.roleByToken = s :=
  (if_neg hactive).trans (if_neg hstandby)

end

/-! ## TOKEN_CHANGE -/

section
variable {t token us : Nat} {s : State}

/-- The state with a new token seen and recorded. -/
def State.tokenSeen (token : Nat) (s : State) : State :=
  (s.modPair fun p => { p with token := token, tokenAt := s.now }).unitEvs [{ code := 0x0F05, p1 := token, p2 := s.unt.pair.token }]

theorem State.tokenSeen_pair (token : Nat) (s : State) : (s.tokenSeen token).unt.pair = { s.unt.pair with token := token, tokenAt := s.now } :=
  State.unitEvs_pair ..

theorem State.tokenSeen_sameBut (token : Nat) (s : State) : s.sameBut [.recd, .pair] (s.tokenSeen token) :=
  State.sameBut_of_rest (by rw [State.tokenSeen, State.unitEvs_rest _ _ (by decide), State.modPair_rest _ _ (by decide)])

theorem tokenChange_goes (htoken : token < 3) (hmode : s.mode = .running) (hpaired : s.paired = true) (hne : s.unt.pair.token ≠ token) :
    exec (.tokenChange t token) s = .next ((s.tick t).tokenSeen token).roleByToken.noteReady := by
  have hawake : s.awake = true := by simp [State.awake, hmode]
  have hcond : (s.unitUp && decide (s.unt.pair.token ≠ token)) = true := by
    rw [State.unitUp, hawake, hpaired, decide_eq_true hne]
    rfl
  have hlive : (s.tick t).live = true := decide_eq_true hmode
  dsimp only [exec, execTokenChange]
  exact (act_goes (decide_eq_true htoken) hcond).trans (congrArg Host.Outcome.next (if_pos hlive))

/-- Which unit of a pair this is does not depend on the token. -/
theorem State.tokenSeen_ownToken (token : Nat) (s : State) : (s.tokenSeen token).ownToken = s.ownToken := by
  unfold State.ownToken
  rw [State.tokenSeen_pair]

theorem State.tokenSeen_partnerToken (token : Nat) (s : State) : (s.tokenSeen token).partnerToken = s.partnerToken := by
  unfold State.partnerToken
  rw [State.tokenSeen_pair]

theorem tokenChange_served (hmode : s.mode = .running) (hpaired : s.paired = true) (htoken : token < 3) (hne : s.unt.pair.token ≠ token) :
    ∃ u, exec (.tokenChange t token) s = .next u ∧ u.unt.pair.token = token ∧ u.unt.pair.tokenAt = max s.now t ∧
      (s.unt.pair.role = 2 → token = s.ownToken → u.unt.pair.role = 1 ∧ u.unt.pair.switchAt = none) ∧
      (s.unt.pair.role = 1 → token = s.partnerToken → u.unt.pair.role = 2 ∧ u.unt.pair.switchAt = none) ∧
      (¬(s.unt.pair.role = 2 ∧ token = s.ownToken) → ¬(s.unt.pair.role = 1 ∧ token = s.partnerToken) →
        u.unt.pair.role = s.unt.pair.role ∧ u.unt.pair.sync = s.unt.pair.sync ∧ s.sameBut [.now, .recd, .pair] u) := by
  have hpair := (s.tick t).tokenSeen_pair token
  have hready (x : State) : x.noteReady.unt.pair.place = x.unt.pair.place := x.noteReady_reads Pair.place fun _ _ => rfl
  have hswitch (x : State) : x.noteReady.unt.pair.switchAt = x.unt.pair.switchAt := x.noteReady_reads Pair.switchAt fun _ _ => rfl
  have hown := (s.tick t).tokenSeen_ownToken token
  have hpartner := (s.tick t).tokenSeen_partnerToken token
  refine ⟨_, tokenChange_goes htoken hmode hpaired hne, ?_⟩
  generalize hx : (s.tick t).tokenSeen token = x at hpair hown hpartner ⊢
  have hrole : x.unt.pair.role = s.unt.pair.role := by rw [hpair]; rfl
  have hseen : x.unt.pair.token = token := by rw [hpair]
  have hplaced : ∀ r, x.roleByToken.unt.pair.place = (r, x.unt.pair.seen) → x.roleByToken.noteReady.unt.pair.role = r ∧
      x.roleByToken.noteReady.unt.pair.token = token ∧ x.roleByToken.noteReady.unt.pair.tokenAt = max s.now t := by
    intro r hplace
    rw [← hready, hpair] at hplace
    simp only [Pair.place, Pair.seen, Prod.mk.injEq] at hplace
    exact hplace
  by_cases hactive : x.unt.pair.role = 2 ∧ x.unt.pair.token = x.ownToken
  · have heq := State.roleByToken_active hactive.1 hactive.2
    obtain ⟨hr, ht, hat⟩ := hplaced 1 (by rw [heq]; exact x.takeActive_place _)
    refine ⟨ht, hat, fun _ _ => ⟨hr, by rw [hswitch, heq]; rfl⟩, fun h1 => ?_, fun hno => ?_⟩
    · rw [hactive.1] at hrole
      omega
    · rw [hrole, hseen, hown] at hactive
      exact absurd hactive hno
  · by_cases hstandby : x.unt.pair.role = 1 ∧ x.unt.pair.token = x.partnerToken
    · have heq := State.roleByToken_standby hstandby.1 hstandby.2
      obtain ⟨hr, ht, hat⟩ := hplaced 2 (by rw [heq]; exact x.takeStandby_place _)
      refine ⟨ht, hat, fun h2 => ?_, fun _ _ => ⟨hr, by rw [hswitch, heq]; rfl⟩, fun _ hno => ?_⟩
      · rw [hstandby.1] at hrole
        omega
      · rw [hrole, hseen, hpartner] at hstandby
        exact absurd hstandby hno
    · have heq := State.roleByToken_stays hactive hstandby
      obtain ⟨hr, ht, hat⟩ := hplaced s.unt.pair.role (by rw [heq, ← hrole]; rfl)
      rw [hrole, hseen, hown] at hactive
      rw [hrole, hseen, hpartner] at hstandby
      refine ⟨ht, hat, fun h2 h3 => absurd ⟨h2, h3⟩ hactive, fun h1 h3 => absurd ⟨h1, h3⟩ hstandby, fun _ _ => ⟨hr, ?_, ?_⟩⟩
      · rw [State.noteReady_sync, heq, hpair]
        rfl
      · rw [heq, ← hx]
        exact State.sameBut_mono (State.sameBut_trans (State.sameBut_trans (s.tick_sameBut t) (State.tokenSeen_sameBut _ _))
          (State.noteReady_sameBut _)) (by decide)

end

/-! ## The other changes of role -/

section
variable {t us : Nat} {s : State}

theorem activeYieldB_goes (hmode : s.mode = .running) (hpaired : s.paired = true) (hunit : s.unt.pair.unitB = true)
    (hrole : s.unt.pair.role = 1) (htoken : s.unt.pair.token = 0) (hpartner : s.partnerHold = 2) (hus : 10 ≤ us) :
    exec (.activeYieldB t us) s = .next ((s.tick t).takeStandby 6).noteReady := by
  have hcond : (s.live && s.paired && s.unt.pair.unitB && decide (s.unt.pair.role = 1) && decide (s.unt.pair.token = 0) &&
      decide (s.partnerHold = 2) && decide (10 ≤ us)) = true := by
    rw [show s.live = true from decide_eq_true hmode, hpaired, hunit, decide_eq_true hrole, decide_eq_true htoken, decide_eq_true hpartner,
      decide_eq_true hus]
    rfl
  dsimp only [exec, execActiveYieldB]
  exact act_goes rfl hcond

theorem State.failRole_fails (hpaired : s.paired = true) (hrole : s.unt.pair.role = 1 ∨ s.unt.pair.role = 2) :
    s.failRole = (s.setRole 4 3).haltMasters :=
  if_pos ⟨hpaired, hrole⟩

theorem State.failRole_role (hpaired : s.paired = true) :
    s.failRole.unt.pair.role = if s.unt.pair.role = 1 ∨ s.unt.pair.role = 2 then 4 else s.unt.pair.role := by
  split
  · next hrole =>
    rw [State.failRole_fails hpaired hrole]
    exact State.setRole_role ..
  · next hrole =>
    rw [State.failRole, if_neg fun hboth => hrole hboth.2]

theorem State.setRole_partnerHold (role cause : Nat) : (s.setRole role cause).partnerHold = s.partnerHold := by
  have hhold (x : State) (l : List EvReq) : (x.unitEvs l).partnerHold = x.partnerHold := by
    unfold State.partnerHold
    rw [State.unitEvs_pair]
  unfold State.setRole
  dsimp only
  rw [hhold, State.driveHold_partnerHold]
  rfl

theorem selfCheckFail_goes (hmode : s.mode = .running) (hpaired : s.paired = true) (hidle : s.idleStandby = false)
    (hrole : s.unt.pair.role = 1 ∨ s.unt.pair.role = 2) (hlate : s.fr.strobeAt + 16 * s.P ≤ t) :
    exec (.selfCheckFail t) s = .next (s.tick t).failRole := by
  have hcond : (s.live && s.paired && !s.idleStandby && (decide (s.unt.pair.role = 1) || decide (s.unt.pair.role = 2)) &&
      decide (s.fr.strobeAt + 16 * s.P ≤ t)) = true := by
    rw [show s.live = true from decide_eq_true hmode, hpaired, hidle, decide_eq_true hlate]
    simpa using hrole
  dsimp only [exec, execSelfCheckFail]
  exact act_goes rfl hcond

/-- The state with the mismatch of the cores marked and recorded. -/
def State.lockstepSeen (s : State) : State :=
  (s.unitEvs [{ code := 0x1110, src := 0xFF, p1 := s.fr.frameNo % 2 ^ 32 }]).modMdiag fun d => { d with lockstep := true }

theorem zenLockstep_goes (hmode : s.mode = .running) :
    exec (.zenLockstep t) s = .next ((s.tick t).lockstepSeen.poisonNow 16 2).failRole := by
  dsimp only [exec, execZenLockstep]
  exact act_goes rfl (decide_eq_true hmode)

/-- Whether a module is a unit of a pair depends on the running image and the identity data. -/
theorem State.paired_of_sameBut {ps : List Part} {x u : State} (hq : x.sameBut ps u) (himage : .image ∉ ps) : u.paired = x.paired := by
  have hrunning : u.cfg.image = x.cfg.image := hq.2.2 .image himage
  simp only [State.paired, State.isWitness, State.im, hq.2.1, hrunning]

theorem State.poisonReport_lockstep (x : State) : x.poisonReport.unt.mdiag.lockstep = x.unt.mdiag.lockstep := by
  unfold State.poisonReport
  split
  · rfl
  · rw [State.unitEvs_unt]
    rfl

theorem State.poisonReport_pair (x : State) : x.poisonReport.unt.pair = x.unt.pair :=
  (State.sameBut_of_rest (State.poisonReport_rest (ps := [.recd, .mdiag]) x (by decide))).pair (by decide)

/-- A poisoned source changes neither the role nor the lockstep mark. -/
theorem State.poisonNow_role (k cause : Nat) (x : State) : (x.poisonNow k cause).unt.pair.role = x.unt.pair.role ∧
    (x.poisonNow k cause).unt.mdiag.lockstep = x.unt.mdiag.lockstep := by
  have hreport := State.poisonReport_pair (x.poison k cause)
  have hlock := State.poisonReport_lockstep (x.poison k cause)
  have hunsync (y : State) : (y.unsync 3).unt.mdiag = y.unt.mdiag := (y.unsync_sameBut 3).2.2 .mdiag (by decide)
  unfold State.poisonNow
  dsimp only
  split
  · split
    · rw [State.unsync_role, hunsync, hreport, hlock]
      exact ⟨rfl, rfl⟩
    · rw [hreport, hlock]
      exact ⟨rfl, rfl⟩
  · exact ⟨rfl, rfl⟩

theorem State.failRole_sameBut (x : State) : x.sameBut [.recd, .can, .pair] x.failRole := State.sameBut_of_rest (State.failRole_rest _ (by decide))

theorem State.poisonNow_sameBut (k cause : Nat) (x : State) : x.sameBut [.eng, .recd, .mdiag, .pair] (x.poisonNow k cause) :=
  State.sameBut_of_rest (State.poisonNow_rest _ _ _ (by decide))

theorem State.lockstepSeen_sameBut (x : State) : x.sameBut [.recd, .mdiag] x.lockstepSeen :=
  State.sameBut_of_rest (by rw [State.lockstepSeen, State.modMdiag_rest _ _ (by decide), State.unitEvs_rest _ _ (by decide)])

theorem zenLockstep_served (hmode : s.mode = .running) (hpaired : s.paired = true) :
    ∃ u, exec (.zenLockstep t) s = .next u ∧ u.eng.poison.testBit 16 = true ∧ u.unt.mdiag.lockstep = true ∧
      u.unt.pair.role = if s.unt.pair.role = 1 ∨ s.unt.pair.role = 2 then 4 else s.unt.pair.role := by
  have hseen := (s.tick t).lockstepSeen_sameBut
  obtain ⟨hrole, hlock⟩ := (s.tick t).lockstepSeen.poisonNow_role 16 2
  obtain ⟨heng, -⟩ := State.poisonNow_keeps 16 2 (s.tick t).lockstepSeen
  have hp : ((s.tick t).lockstepSeen.poisonNow 16 2).paired = true :=
    (State.paired_of_sameBut (State.poisonNow_sameBut _ _ _) (by decide)).trans ((State.paired_of_sameBut hseen (by decide)).trans hpaired)
  refine ⟨_, zenLockstep_goes hmode, ?_, ?_, ?_⟩
  · rw [(State.failRole_sameBut _).eng (by decide), heng]
    exact (testBit_setBit ..).trans (if_pos rfl)
  · rw [(State.failRole_sameBut _).2.2 .mdiag (by decide), hlock]
    rfl
  · rw [State.failRole_role hp, hrole, hseen.pair (by decide)]
    rfl

theorem switchoverHandoff_goes {n k : Nat} (hmode : s.mode = .running) (hrole : s.unt.pair.role = 1) (hlowered : s.unt.pair.lowered = false)
    (hswitch : s.unt.pair.switchAt = some n) (hacked : s.unt.pair.acked = some k) (hle : n + 1 ≤ k) :
    exec (.switchoverHandoff t) s = .next (((s.tick t).driveHold 1).modPair fun p => { p with lowered := true }) := by
  dsimp only [exec, execSwitchoverHandoff]
  refine act_goes rfl ?_
  rw [show (s.tick t).live = true from decide_eq_true hmode, show (s.tick t).unt.pair.role = 1 from hrole,
    show (s.tick t).unt.pair.lowered = false from hlowered, show (s.tick t).unt.pair.switchAt = some n from hswitch,
    show (s.tick t).unt.pair.acked = some k from hacked]
  simpa using hle

end

/-- Settles O51: the role table by its rows, and each other change by the operation it stands for. -/
theorem roleChanges : Obligations.RoleChanges := by
  intro t s hmode hpaired p
  refine ⟨fun token htoken hne => tokenChange_served hmode hpaired htoken hne, fun us hunit hrole htoken hpartner hus => ?_,
    fun hidle hrole hlate => ?_, zenLockstep_served hmode hpaired, fun n k hrole hlowered hswitch hacked hle => ?_⟩
  · refine ⟨_, activeYieldB_goes hmode hpaired hunit hrole htoken hpartner hus, ?_, ?_⟩
    · rw [State.noteReady_role]
      exact congrArg Prod.fst ((s.tick t).takeStandby_place 6)
    · rw [State.noteReady_sync, State.takeStandby_sync _ _ (by decide)]
  · have hfails := State.failRole_fails (s := s.tick t) hpaired hrole
    refine ⟨_, selfCheckFail_goes hmode hpaired hidle hrole hlate, ?_, ?_, ?_⟩
    · rw [hfails]
      exact State.setRole_role ..
    · rw [hfails]
      exact (State.setRole_ownHold ..).trans (ite_self 0)
    · rw [hfails]
      exact State.setRole_partnerHold ..
  · have e := switchoverHandoff_goes (t := t) hmode hrole hlowered hswitch hacked hle
    refine ⟨_, e, rfl, ?_, ?_, exec_sameBut e⟩
    · exact ((s.tick t).driveHold_role 1).trans hrole
    · exact (s.tick t).driveHold_ownHold 1

end Sys2Proof.Machine
end

section
/-! PROOFS. Contrail lanes, Halo holds and digests of a pair (R420, R424, R427, R430, R440). -/

namespace Sys2Proof.Machine

/-! ## Lanes (R424) -/

/-- A lane of the pair. -/
def Pair.lane (i : Nat) (p : Pair) : Lane := if i = 0 then p.lane0 else p.lane1

section
variable (s : State) (i : Nat) (l : Lane)

theorem State.laneOf_eq : s.laneOf i = s.unt.pair.lane i := rfl

theorem State.laneOf_putLane : (s.putLane i l).laneOf i = l := by
  by_cases h0 : i = 0 <;> simp [State.laneOf, State.putLane, State.modPair, State.modUnt, h0]

theorem State.laneOf_putLane_other {i : Nat} (hi : i < 2) : (s.putLane i l).laneOf (1 - i) = s.laneOf (1 - i) := by
  obtain rfl | rfl : i = 0 ∨ i = 1 := by omega
  · rfl
  · rfl

theorem State.laneOf_laneEvent (k : Nat) (up : Bool) (errs : Nat) : (s.laneEvent k up errs).laneOf i = s.laneOf i :=
  congrArg (Pair.lane i) (State.unitEvs_pair ..)

theorem State.laneOf_noteReady : s.noteReady.laneOf i = s.laneOf i := s.noteReady_reads (Pair.lane i) fun _ _ => rfl
theorem State.laneOf_unsync (cause : Nat) : (s.unsync cause).laneOf i = s.laneOf i :=
  s.unsync_reads (Pair.lane i) cause fun _ _ _ _ _ _ _ => rfl

/-- The link is up while either lane is (R424). -/
theorem State.linkUp_eq {i : Nat} (hi : i < 2) : s.linkUp = ((s.laneOf i).up || (s.laneOf (1 - i)).up) := by
  obtain rfl | rfl : i = 0 ∨ i = 1 := by omega
  · rfl
  · exact Bool.or_comm ..

theorem State.putLane_sameBut : s.sameBut [.pair] (s.putLane i l) := State.sameBut_of_rest (State.modPair_rest _ _ (by decide))

theorem State.laneEvent_sameBut (up : Bool) (errs : Nat) : s.sameBut [.recd] (s.laneEvent i up errs) :=
  State.sameBut_of_rest (State.unitEvs_rest _ _ (by decide))

end

section
variable {i : Nat} {s : State}

/-- Lane `i` down and recorded, before the standby is judged. -/
def State.laneLost (i : Nat) (s : State) : State :=
  (s.putLane i { s.laneOf i with up := false, recent := [], cleanAt := s.now }).laneEvent i false (s.laneOf i).errs

theorem State.laneLost_lane (i : Nat) (s : State) :
    (s.laneLost i).laneOf i = { s.laneOf i with up := false, recent := [], cleanAt := s.now } := by
  rw [State.laneLost, State.laneOf_laneEvent, State.laneOf_putLane]

theorem State.laneLost_other (hi : i < 2) : (s.laneLost i).laneOf (1 - i) = s.laneOf (1 - i) := by
  rw [State.laneLost, State.laneOf_laneEvent, State.laneOf_putLane_other _ _ hi]

theorem State.laneLost_sync : (s.laneLost i).unt.pair.sync = s.unt.pair.sync := by
  rw [State.laneLost, State.laneEvent, State.unitEvs_pair]
  unfold State.putLane
  by_cases h0 : i = 0 <;> simp [State.modPair, State.modUnt, h0]

/-- Without the other lane the standby is UNSYNCHRONISED (R430). -/
theorem State.laneDown_eq (hi : i < 2) :
    s.laneDown i = (if (s.laneOf (1 - i)).up then s.laneLost i else (s.laneLost i).unsync 2).noteReady := by
  have hlink : (s.laneLost i).linkUp = (s.laneOf (1 - i)).up := by
    rw [State.linkUp_eq _ hi, State.laneLost_lane, State.laneLost_other hi]
    rfl
  rw [← hlink]
  rfl

theorem State.laneDown_lane (hi : i < 2) : (s.laneDown i).laneOf i = { s.laneOf i with up := false, recent := [], cleanAt := s.now } := by
  rw [State.laneDown_eq hi, State.laneOf_noteReady]
  split
  · exact s.laneLost_lane i
  · rw [State.laneOf_unsync, State.laneLost_lane]

theorem State.laneDown_other (hi : i < 2) : (s.laneDown i).laneOf (1 - i) = s.laneOf (1 - i) := by
  rw [State.laneDown_eq hi, State.laneOf_noteReady]
  split
  · exact State.laneLost_other hi
  · rw [State.laneOf_unsync, State.laneLost_other hi]

theorem State.laneDown_sync (hi : i < 2) : (s.laneDown i).unt.pair.sync = if (s.laneOf (1 - i)).up then s.unt.pair.sync else 0 := by
  rw [State.laneDown_eq hi, State.noteReady_sync]
  split
  · exact State.laneLost_sync
  · exact State.unsync_sync ..

end

/-! ### LANE_ERROR, LANE_SILENCE and LANE_UP -/

section
variable {t i : Nat} {s : State}

/-- The errors of lane `i` in the last millisecond, with one now. -/
def State.laneNear (i : Nat) (s : State) : List Nat := ((s.laneOf i).recent.filter fun a => decide (s.now < a + msC 1)) ++ [s.now]

/-- The state with an error of lane `i` counted. -/
def State.laneCounted (i : Nat) (s : State) : State :=
  s.putLane i { s.laneOf i with errs := satN 16 ((s.laneOf i).errs + 1), recent := s.laneNear i, cleanAt := s.now }

theorem laneError_goes (hi : i < 2) (hup : s.unitUp = true) : exec (.laneError t i) s =
    .next (if ((s.tick t).laneOf i).up ∧ 8 ≤ ((s.tick t).laneNear i).length then ((s.tick t).laneCounted i).laneDown i
      else (s.tick t).laneCounted i) := by
  dsimp only [exec, execLaneError]
  exact act_goes (decide_eq_true hi) hup

theorem State.laneCounted_sync : (s.laneCounted i).unt.pair.sync = s.unt.pair.sync := by
  unfold State.laneCounted State.putLane
  by_cases h0 : i = 0 <;> simp [State.modPair, State.modUnt, h0]

theorem laneError_served (hi : i < 2) (hup : s.unitUp = true) :
    let l := s.laneOf i
    let near := (l.recent.filter fun a => decide (max s.now t < a + msC 1)).length + 1
    ∃ u, exec (.laneError t i) s = .next u ∧ (u.laneOf i).errs = satN 16 (l.errs + 1) ∧ u.laneOf (1 - i) = s.laneOf (1 - i) ∧
      s.sameBut [.now, .recd, .pair] u ∧
      (near < 8 → (u.laneOf i).up = l.up ∧ u.unt.pair.sync = s.unt.pair.sync ∧ u.recd = s.recd) ∧
      (8 ≤ near → (u.laneOf i).up = false) ∧
      (8 ≤ near → l.up = true → (s.laneOf (1 - i)).up = false → u.unt.pair.sync = 0) := by
  intro l near
  have hnear : ((s.tick t).laneNear i).length = near := List.length_append
  have hcounted := State.laneOf_putLane (s.tick t) i { l with
    errs := satN 16 (l.errs + 1), recent := (s.tick t).laneNear i, cleanAt := (s.tick t).now }
  have hother : ((s.tick t).laneCounted i).laneOf (1 - i) = s.laneOf (1 - i) := State.laneOf_putLane_other _ _ hi
  have e := laneError_goes (t := t) hi hup
  by_cases hdown : l.up ∧ 8 ≤ near
  · rw [if_pos (by rw [hnear]; exact hdown)] at e
    have hlane := State.laneDown_lane (s := (s.tick t).laneCounted i) hi
    refine ⟨_, e, ?_, ?_, exec_sameBut e, fun hlt => absurd hdown.2 (Nat.not_le.2 hlt), fun _ => ?_, fun _ _ halone => ?_⟩
    · rw [hlane]
      exact congrArg Lane.errs hcounted
    · rw [State.laneDown_other hi, hother]
    · rw [hlane]
    · rw [State.laneDown_sync hi, hother, if_neg (by simp [halone])]
  · rw [if_neg (by rw [hnear]; exact hdown)] at e
    have hsame : (((s.tick t).laneCounted i).laneOf i).up = l.up :=
      (congrArg Lane.up hcounted).trans rfl
    refine ⟨_, e, congrArg Lane.errs hcounted, hother, exec_sameBut e, fun _ => ⟨hsame, State.laneCounted_sync, rfl⟩, fun hmany => ?_,
      fun hmany hup => absurd ⟨hup, hmany⟩ hdown⟩
    rw [hsame]
    exact Bool.eq_false_iff.2 fun hup => hdown ⟨hup, hmany⟩

theorem laneSilence_served (hi : i < 2) (hup : s.unitUp = true) (hlane : (s.laneOf i).up = true) :
    ∃ u, exec (.laneSilence t i) s = .next u ∧ (u.laneOf i).up = false ∧ u.laneOf (1 - i) = s.laneOf (1 - i) ∧
      ((s.laneOf (1 - i)).up = false → u.unt.pair.sync = 0) ∧
      ((s.laneOf (1 - i)).up = true → u.unt.pair.sync = s.unt.pair.sync) ∧ s.sameBut [.now, .recd, .pair] u := by
  have e : exec (.laneSilence t i) s = .next ((s.tick t).laneDown i) := by
    dsimp only [exec, execLaneSilence]
    exact act_goes (decide_eq_true hi) (Bool.and_eq_true_iff.2 ⟨hup, hlane⟩)
  have hsync := State.laneDown_sync (s := s.tick t) hi
  refine ⟨_, e, congrArg Lane.up (State.laneDown_lane hi), State.laneDown_other hi, fun halone => ?_, fun hother => ?_, exec_sameBut e⟩
  · rw [hsync]
    exact if_neg (fun h => Bool.false_ne_true (halone.symm.trans h))
  · rw [hsync]
    exact if_pos hother

theorem laneUp_served (hi : i < 2) (hup : s.unitUp = true) (hdown : (s.laneOf i).up = false) (hwhole : (s.laneOf i).broken = false)
    (hclean : (s.laneOf i).cleanAt + msC 100 ≤ max s.now t) :
    ∃ u, exec (.laneUp t i) s = .next u ∧ u.laneOf i = { s.laneOf i with up := true, recent := [] } ∧
      u.laneOf (1 - i) = s.laneOf (1 - i) ∧ u.unt.pair.sync = s.unt.pair.sync ∧ s.sameBut [.now, .recd, .pair] u := by
  have e : exec (.laneUp t i) s = .next (((s.tick t).putLane i { s.laneOf i with up := true, recent := [] }).laneEvent i true
      (s.laneOf i).errs).noteReady := by
    have hcond : (s.unitUp && !(s.laneOf i).up && !(s.laneOf i).broken && decide ((s.laneOf i).cleanAt + msC 100 ≤ max s.now t)) = true := by
      rw [hup, hdown, hwhole, decide_eq_true hclean]
      rfl
    dsimp only [exec, execLaneUp]
    exact act_goes (decide_eq_true hi) hcond
  refine ⟨_, e, ?_, ?_, ?_, exec_sameBut e⟩
  · rw [State.laneOf_noteReady, State.laneOf_laneEvent, State.laneOf_putLane]
  · rw [State.laneOf_noteReady, State.laneOf_laneEvent, State.laneOf_putLane_other _ _ hi]
    rfl
  · rw [State.noteReady_sync, State.laneEvent, State.unitEvs_pair]
    unfold State.putLane
    by_cases h0 : i = 0 <;> simp [State.modPair, State.modUnt, h0, State.tick]

end

/-! ## Holds (R420) -/

section
variable {level : Nat} {own : Bool} {s : State}

/-- The state with a hold at a new level: the own one, or the partner's. -/
def State.holdSet (level : Nat) (own : Bool) (s : State) : State :=
  s.modPair fun p => if own != s.unt.pair.unitB then { p with holdA := level } else { p with holdB := level }

theorem State.holdSet_pair (level : Nat) (own : Bool) (s : State) {α : Type} (f : Pair → α)
    (hf : ∀ p a b, f { p with holdA := a, holdB := b } = f p) : f (s.holdSet level own).unt.pair = f s.unt.pair := by
  show f (if own != s.unt.pair.unitB then _ else _) = _
  split
  · exact hf s.unt.pair _ s.unt.pair.holdB
  · exact hf s.unt.pair s.unt.pair.holdA _

theorem State.holdSet_own (level : Nat) (s : State) :
    (s.holdSet level true).ownHold = level ∧ (s.holdSet level true).partnerHold = s.partnerHold := by
  cases hunit : s.unt.pair.unitB <;> simp [State.ownHold, State.partnerHold, State.holdSet, State.modPair, State.modUnt, hunit]

theorem State.holdSet_partner (level : Nat) (s : State) :
    (s.holdSet level false).partnerHold = level ∧ (s.holdSet level false).ownHold = s.ownHold := by
  cases hunit : s.unt.pair.unitB <;> simp [State.ownHold, State.partnerHold, State.holdSet, State.modPair, State.modUnt, hunit]

theorem State.holdChange_own (level : Nat) (s : State) : s.holdChange level true = (s.holdSet level true).noteReady :=
  if_neg fun h => Bool.false_ne_true h.2.1

/-- A hold of the witness's units: no synchronisation is judged there. -/
theorem State.holdChange_single (hsingle : s.paired = false) : s.holdChange level own = (s.holdSet level own).noteReady :=
  if_neg fun h => Bool.false_ne_true (hsingle.symm.trans h.1)

theorem State.holdChange_same (hsame : s.partnerHold = level) : s.holdChange level false = (s.holdSet level false).noteReady :=
  if_neg fun h => h.2.2 hsame

/-- A new hold level of the partner, recorded. -/
def State.partnerSeen (level : Nat) (s : State) : State :=
  (s.holdSet level false).unitEvs [{ code := 0x0F04, p1 := level, p2 := s.partnerHold }]

theorem State.holdChange_partner (hpaired : s.paired = true) (hne : s.partnerHold ≠ level) : s.holdChange level false =
    (if s.unt.pair.role = 2 ∧ s.partnerHold = 2 ∧ (s.unt.pair.sync = 1 ∨ s.unt.pair.sync = 2) then (s.partnerSeen level).unsync 8
      else s.partnerSeen level).noteReady :=
  if_pos ⟨hpaired, rfl, hne⟩

/-- Both holds of the pair, as unit `unitB` has them. -/
def Pair.holds (p : Pair) : Bool × Nat × Nat := (p.unitB, p.holdA, p.holdB)

theorem State.holds_congr {x y : State} (h : x.unt.pair.holds = y.unt.pair.holds) : x.ownHold = y.ownHold ∧ x.partnerHold = y.partnerHold := by
  simp only [Pair.holds, Prod.mk.injEq] at h
  obtain ⟨hunit, ha, hb⟩ := h
  simp only [State.ownHold, State.partnerHold, hunit, ha, hb, and_self]

theorem State.noteReady_holds (s : State) : s.noteReady.ownHold = s.ownHold ∧ s.noteReady.partnerHold = s.partnerHold :=
  State.holds_congr (s.noteReady_reads Pair.holds fun _ _ => rfl)

theorem State.unsync_holds (cause : Nat) (s : State) :
    (s.unsync cause).ownHold = s.ownHold ∧ (s.unsync cause).partnerHold = s.partnerHold :=
  State.holds_congr (s.unsync_reads Pair.holds cause fun _ _ _ _ _ _ _ => rfl)

theorem State.partnerSeen_holds (level : Nat) (s : State) :
    (s.partnerSeen level).ownHold = s.ownHold ∧ (s.partnerSeen level).partnerHold = level := by
  have hevs := State.holds_congr (congrArg Pair.holds (State.unitEvs_pair [{ code := 0x0F04, p1 := level, p2 := s.partnerHold }]
    (s.holdSet level false)))
  exact ⟨hevs.1.trans (s.holdSet_partner level).2, hevs.2.trans (s.holdSet_partner level).1⟩

theorem State.partnerSeen_sync (level : Nat) (s : State) : (s.partnerSeen level).unt.pair.sync = s.unt.pair.sync :=
  (congrArg Pair.sync (State.unitEvs_pair ..)).trans (s.holdSet_pair level false Pair.sync fun _ _ _ => rfl)

theorem State.holdSet_role (level : Nat) (own : Bool) (s : State) : (s.holdSet level own).unt.pair.role = s.unt.pair.role :=
  s.holdSet_pair level own Pair.role fun _ _ _ => rfl

/-- A record does not show the holds. -/
theorem State.partnerSeen_recd (level : Nat) (s : State) :
    (s.partnerSeen level).recd = (s.unitEvs [{ code := 0x0F04, p1 := level, p2 := s.partnerHold }]).recd := by
  refine State.unitEvs_recd_congr _ ?_ rfl rfl
  show { s.stamp s.now with standby := decide ((s.holdSet level false).unt.pair.role = 2) } = s.stamp s.now
  rw [State.holdSet_role]
  rfl

theorem haloHoldChange_goes {t : Nat} (hlevel : level < 4) (hawake : s.awake = true) (hpair : s.paired = true ∨ s.isWitness = true) :
    exec (.haloHoldChange t level own) s = .next ((s.tick t).holdChange level own) := by
  have hcond : (s.awake && (s.paired || s.isWitness)) = true := by
    rw [hawake]
    simpa using hpair
  dsimp only [exec, execHaloHoldChange]
  exact act_goes (decide_eq_true hlevel) hcond

theorem haloHoldChange_served {t : Nat} (hlevel : level < 4) (hawake : s.awake = true) (hpaired : s.paired = true) :
    ∃ u, exec (.haloHoldChange t level own) s = .next u ∧ s.sameBut [.now, .recd, .pair] u ∧
      (own = true → u.ownHold = level ∧ u.partnerHold = s.partnerHold ∧ u.recd = s.recd) ∧
      (own = false → u.partnerHold = level ∧ u.ownHold = s.ownHold) ∧
      (own = false → s.partnerHold = level → u.recd = s.recd) ∧
      (own = false → s.partnerHold ≠ level → ¬(s.unt.pair.role = 2 ∧ (s.unt.pair.sync = 1 ∨ s.unt.pair.sync = 2)) →
        u.unt.pair.sync = s.unt.pair.sync ∧ u.recd = ((s.tick t).unitEvs [{ code := 0x0F04, p1 := level, p2 := s.partnerHold }]).recd) ∧
      (own = false → s.partnerHold = 2 → level ≠ 2 → s.unt.pair.role = 2 → s.unt.pair.sync = 1 ∨ s.unt.pair.sync = 2 →
        u.unt.pair.sync = 0) := by
  have e := haloHoldChange_goes (own := own) (t := t) hlevel hawake (.inl hpaired)
  have hframe := exec_sameBut e
  have hready (x : State) : x.noteReady.recd = x.recd := x.noteReady_sameBut.2.2 .recd (by decide)
  cases own with
  | true =>
    rw [State.holdChange_own] at e hframe
    obtain ⟨hown, hpartner⟩ := (s.tick t).holdSet_own level
    obtain ⟨hown', hpartner'⟩ := ((s.tick t).holdSet level true).noteReady_holds
    exact ⟨_, e, hframe, fun _ => ⟨hown'.trans hown, hpartner'.trans hpartner, hready _⟩, nofun, nofun, nofun, nofun⟩
  | false =>
    by_cases hsame : s.partnerHold = level
    · rw [State.holdChange_same (s := s.tick t) hsame] at e hframe
      obtain ⟨hpartner, hown⟩ := (s.tick t).holdSet_partner level
      obtain ⟨hown', hpartner'⟩ := ((s.tick t).holdSet level false).noteReady_holds
      exact ⟨_, e, hframe, nofun, fun _ => ⟨hpartner'.trans hpartner, hown'.trans hown⟩, fun _ _ => hready _, fun _ hne => absurd hsame hne,
        fun _ h2 hne => absurd (hsame.symm.trans h2) hne⟩
    · rw [State.holdChange_partner (s := s.tick t) hpaired hsame] at e hframe
      obtain ⟨hown, hpartner⟩ := (s.tick t).partnerSeen_holds level
      refine ⟨_, e, hframe, nofun, fun _ => ?_, fun _ hlevel => absurd hlevel hsame, fun _ _ hother => ?_, fun _ h2 _ hrole hsync => ?_⟩
      · rw [(State.noteReady_holds _).1, (State.noteReady_holds _).2]
        split
        · rw [(State.unsync_holds _ _).1, (State.unsync_holds _ _).2]
          exact ⟨hpartner, hown⟩
        · exact ⟨hpartner, hown⟩
      · rw [if_neg fun h => hother ⟨h.1, h.2.2⟩, hready, State.noteReady_sync]
        exact ⟨State.partnerSeen_sync .., State.partnerSeen_recd ..⟩
      · rw [if_pos ⟨hrole, h2, hsync⟩, State.noteReady_sync]
        exact State.unsync_sync ..

/-- On the witness a level is the new level of the hold that is named. -/
theorem haloHoldChange_witness {t : Nat} (hlevel : level < 4) (hawake : s.awake = true) (hwitness : s.isWitness = true)
    (hunit : s.unt.pair.unitB = false) :
    ∃ u, exec (.haloHoldChange t level own) s = .next u ∧ u.holdOf (if own then 0 else 1) = level ∧
      u.holdOf (if own then 1 else 0) = s.holdOf (if own then 1 else 0) ∧ s.sameBut [.now, .pair] u := by
  have e := haloHoldChange_goes (own := own) (t := t) hlevel hawake (.inr hwitness)
  have hsingle : (s.tick t).paired = false := by
    show (paEn s.im && !s.isWitness) = false
    rw [hwitness, Bool.not_true, Bool.and_false]
  rw [State.holdChange_single hsingle] at e
  have hholds : ((s.tick t).holdSet level own).noteReady.unt.pair.holds = ((s.tick t).holdSet level own).unt.pair.holds :=
    State.noteReady_reads Pair.holds _ fun _ _ => rfl
  simp only [Pair.holds, Prod.mk.injEq] at hholds
  obtain ⟨-, ha, hb⟩ := hholds
  have hset : (s.tick t).sameBut [.pair] ((s.tick t).holdSet level own) := State.sameBut_of_rest (State.modPair_rest _ _ (by decide))
  refine ⟨_, e, ?_, ?_, State.sameBut_mono (State.sameBut_trans (State.sameBut_trans (s.tick_sameBut t) hset) (State.noteReady_sameBut _))
    (by decide)⟩
  · unfold State.holdOf
    rw [ha, hb]
    cases own <;> simp [State.holdSet, State.modPair, State.modUnt, State.tick, hunit]
  · unfold State.holdOf
    rw [ha, hb]
    cases own <;> simp [State.holdSet, State.modPair, State.modUnt, State.tick, hunit]

end

/-! ## Digests (R427, R440) -/

section
variable {n own partner : Nat} {s : State}

theorem State.partnerDigest_judged (hd : s.unt.pair.digest = some (n, own)) : s.partnerDigest n partner = s.judgeDigest n own partner := by
  unfold State.partnerDigest
  rw [hd]
  exact if_pos rfl

theorem State.partnerDigest_kept (hd : ∀ own, s.unt.pair.digest ≠ some (n, own)) :
    s.partnerDigest n partner = s.modPair fun p => { p with heard := some (n, partner) } := by
  unfold State.partnerDigest
  split
  · next d hsome => exact if_neg fun hn => hd d.2 (by rw [hsome, ← hn])
  · rfl

theorem State.judgeDigest_equal (s : State) (n own : Nat) : (s.judgeDigest n own own).unt.pair.sync = s.unt.pair.sync ∧
    (s.judgeDigest n own own).recd = s.recd ∧ (s.judgeDigest n own own).unt.pair.agreed =
      if s.unt.pair.sync = 2 then min 16 (s.unt.pair.agreed + 1) else s.unt.pair.agreed := by
  unfold State.judgeDigest
  split
  · next hlow => exact ⟨rfl, rfl, (if_neg (by omega)).symm⟩
  · rw [if_pos rfl]
    split <;> exact ⟨rfl, rfl, rfl⟩

/-- A failed comparison, recorded and counted. -/
def State.digestFailed (n own partner : Nat) (s : State) : State :=
  (s.unitEvs [{ code := 0x0F06, p1 := n % 2 ^ 32, p2 := own, p3 := partner }]).modPair fun p =>
    { p with digestFail := satN 16 (p.digestFail + 1) }

theorem State.digestFailed_pair (n own partner : Nat) (s : State) : (s.digestFailed n own partner).unt.pair =
    { s.unt.pair with digestFail := satN 16 (s.unt.pair.digestFail + 1) } := by
  rw [State.digestFailed, State.modPair_unt_pair, State.unitEvs_pair]

theorem State.judgeDigest_different (hne : own ≠ partner) (hsync : 2 ≤ s.unt.pair.sync) :
    s.judgeDigest n own partner = (s.digestFailed n own partner).unsync 5 := by
  unfold State.judgeDigest
  rw [if_neg (by omega), if_neg hne]
  rfl

/-- A standby that loses synchronisation counts its agreeing digests anew. -/
theorem State.unsync_agreed {cause : Nat} (hsync : s.unt.pair.sync ≠ 0) : (s.unsync cause).unt.pair.agreed = 0 := by
  have hready (x : State) : x.noteReady.unt.pair.agreed = x.unt.pair.agreed := x.noteReady_reads Pair.agreed fun _ _ => rfl
  unfold State.unsync
  dsimp only
  rw [if_neg hsync]
  split
  · rw [hready]
    rfl
  · rw [hready, State.unitEvs_pair]
    rfl

theorem digestCompare_served {t lane : Nat} (hlane : lane < 2) (hup : (s.laneOf lane).up = true) (hmode : s.mode = .running)
    (hpaired : s.paired = true) : ∃ u, exec (.digestCompare t lane n partner) s = .next u ∧ s.sameBut [.now, .recd, .pair] u ∧
      (∀ own, s.unt.pair.digest = some (n, own) →
        (own = partner → u.unt.pair.sync = s.unt.pair.sync ∧ u.recd = s.recd ∧
          u.unt.pair.agreed = if s.unt.pair.sync = 2 then min 16 (s.unt.pair.agreed + 1) else s.unt.pair.agreed) ∧
        (own ≠ partner → 2 ≤ s.unt.pair.sync → u.unt.pair.sync = 0 ∧ u.unt.pair.agreed = 0 ∧
          u.unt.pair.digestFail = satN 16 (s.unt.pair.digestFail + 1))) ∧
      ((∀ own, s.unt.pair.digest ≠ some (n, own)) → u.unt.pair = { s.unt.pair with heard := some (n, partner) } ∧ u.recd = s.recd) := by
  have e : exec (.digestCompare t lane n partner) s = .next ((s.tick t).partnerDigest n partner) := by
    have hcond : (s.live && s.paired && (s.laneOf lane).up) = true := by
      rw [show s.live = true from decide_eq_true hmode, hpaired, hup]
      rfl
    dsimp only [exec, execDigestCompare]
    exact act_goes (decide_eq_true hlane) hcond
  refine ⟨_, e, exec_sameBut e, fun own hd => ⟨?_, fun hne hsync => ?_⟩, fun hd => ?_⟩
  · rintro rfl
    rw [State.partnerDigest_judged (s := s.tick t) hd]
    exact (s.tick t).judgeDigest_equal n own
  · have hfailed := (s.tick t).digestFailed_pair n own partner
    rw [State.partnerDigest_judged (s := s.tick t) hd, State.judgeDigest_different (s := s.tick t) hne hsync]
    refine ⟨State.unsync_sync .., State.unsync_agreed ?_, ?_⟩
    · rw [hfailed]
      have : 2 ≤ (s.tick t).unt.pair.sync := hsync
      show (s.tick t).unt.pair.sync ≠ 0
      omega
    · rw [State.unsync_reads Pair.digestFail _ 5 fun _ _ _ _ _ _ _ => rfl, hfailed]
      rfl
  · rw [State.partnerDigest_kept (s := s.tick t) hd]
    exact ⟨rfl, rfl⟩

end

/-- Settles O49: lanes, holds and digests by the operations that they stand for. -/
theorem lanesHoldsAndDigests : Obligations.LanesHoldsAndDigests :=
  ⟨fun _ _ _ hi hup => ⟨laneError_served hi hup, laneSilence_served hi hup, laneUp_served hi hup⟩,
    fun _ _ _ _ => haloHoldChange_served, fun _ _ _ _ => haloHoldChange_witness, fun _ _ _ _ _ => digestCompare_served⟩

end Sys2Proof.Machine
end

section
/-! PROOFS. The standby and its resynchronisation (R426, R438 to R440): the standby's strobe on the marker, the notice that does not
come, and the phases of a resynchronisation. -/

namespace Sys2Proof.Machine

/-! ## The standby's strobe (R426) -/

section
variable {s : State} {t : Nat}

/-- The standby's strobe on the latest marker, before the frame record that came with the marker is taken. -/
def State.markerOpened (t : Nat) (s : State) : State :=
  (s.modFr fun f => { f with frameNo := s.unt.pair.marker - 1, strobeAt := t - s.unt.pair.markerLen }).openFrame t

/-- The frame record of the marker that the unit holds. -/
def State.markerRecord (s : State) (f : FrameClk) : FrameClk :=
  { f with prevLen := s.unt.pair.markerLen, lag := s.unt.pair.markerLag, deferCount := s.unt.pair.markerDefer }

theorem State.markerRecord_frameNo (s : State) (f : FrameClk) : (s.markerRecord f).frameNo = f.frameNo := rfl
theorem State.markerRecord_strobeAt (s : State) (f : FrameClk) : (s.markerRecord f).strobeAt = f.strobeAt := rfl

/-- The frame of the marker, opened with the frame record of the active. -/
def State.markerTaken (t : Nat) (s : State) : State :=
  (s.markerOpened t).modFr s.markerRecord

theorem State.standbyOpen_eq (t : Nat) (s : State) : s.standbyOpen t =
    if s.unt.pair.markerAt + usC 5 < t then (s.markerTaken t).unsync 6 else s.markerTaken t := rfl

theorem State.openFrame_phase (s : State) (t : Nat) : (s.openFrame t).phase = .gather :=
  (congrArg State.phase (State.openFrame_eq t s)).trans (State.setPhase_phase ..)

theorem FrameClk.schedule_frameNo (f : FrameClk) : f.schedule.frameNo = f.frameNo := rfl

theorem State.openFrame_frameNo (s : State) (t : Nat) (hs : s.port.replay = false ∨ s.port.replayIn.begun = true) :
    (s.openFrame t).fr.frameNo = s.fr.frameNo + 1 := by
  have hclock : (s.openFrame t).fr.schedule = (clkStrobe s.P t s.fr).schedule := by
    rw [State.openFrame_goesOn s t hs, (State.joined_to_open _).fr (by decide), (State.joined_sameBut _).fr (by decide),
      State.assigned_clock]
  rw [← FrameClk.schedule_frameNo, hclock, FrameClk.schedule_frameNo, (clkStrobe_follows s.P t s.fr).1]

theorem State.markerTaken_fr (t : Nat) (s : State) : (s.markerTaken t).fr = s.markerRecord (s.markerOpened t).fr := State.modFr_fr ..

theorem State.markerOpened_frameNo (hreplay : s.port.replay = false) (hmarker : 0 < s.unt.pair.marker) :
    (s.markerOpened t).fr.frameNo = s.unt.pair.marker :=
  (State.openFrame_frameNo (s.modFr _) t (.inl hreplay)).trans (Nat.sub_add_cancel hmarker)

theorem State.markerOpened_strobeAt (t : Nat) (s : State) : (s.markerOpened t).fr.strobeAt = t := State.openFrame_strobeAt _ t

theorem State.standbyOpen_fr (t : Nat) (s : State) : (s.standbyOpen t).fr = (s.markerTaken t).fr := by
  rw [State.standbyOpen_eq]
  split
  · exact State.unsync_fr 6 _
  · rfl

theorem State.standbyOpen_phase (t : Nat) (s : State) : (s.standbyOpen t).phase = .gather := by
  have htaken : (s.markerTaken t).phase = .gather := (State.modFr_phase ..).trans (State.openFrame_phase ..)
  rw [State.standbyOpen_eq]
  split
  · rw [(State.unsync_sameBut _ 6).phase (by decide), htaken]
  · exact htaken

theorem standbyStrobe_goes (hmode : s.mode = .running) (hfollows : s.follows = true) (hphase : s.phase = .complete)
    (hmarker : s.fr.frameNo < s.unt.pair.marker) : exec (.standbyStrobe t) s = .next ((s.tick t).standbyOpen t) := by
  have hcond : (s.live && s.follows && decide (s.phase = .complete) && decide (s.fr.frameNo < s.unt.pair.marker)) = true := by
    rw [show s.live = true from decide_eq_true hmode, hfollows, decide_eq_true hphase, decide_eq_true hmarker]
    rfl
  dsimp only [exec, execStandbyStrobe]
  exact act_goes rfl hcond

theorem standbyStrobe_served (hmode : s.mode = .running) (hfollows : s.follows = true) (hreplay : s.port.replay = false)
    (hphase : s.phase = .complete) (hmarker : s.fr.frameNo < s.unt.pair.marker) :
    ∃ u, exec (.standbyStrobe t) s = .next u ∧ u.phase = .gather ∧ u.fr.frameNo = s.unt.pair.marker ∧ u.fr.strobeAt = t ∧
      u.fr.prevLen = s.unt.pair.markerLen ∧ u.fr.lag = s.unt.pair.markerLag ∧ u.fr.deferCount = s.unt.pair.markerDefer ∧
      (s.unt.pair.markerAt + usC 5 < t → u.unt.pair.sync = 0) := by
  have hfr : ((s.tick t).standbyOpen t).fr = s.markerRecord ((s.tick t).markerOpened t).fr :=
    (State.standbyOpen_fr ..).trans (State.markerTaken_fr ..)
  have hno := State.markerOpened_frameNo (s := s.tick t) (t := t) hreplay (Nat.zero_lt_of_lt hmarker)
  refine ⟨_, standbyStrobe_goes hmode hfollows hphase hmarker, State.standbyOpen_phase _ _, ?_, ?_, ?_, ?_, ?_, fun hlate => ?_⟩
  · rw [hfr, State.markerRecord_frameNo, hno]
    rfl
  · rw [hfr, State.markerRecord_strobeAt, State.markerOpened_strobeAt]
  · rw [hfr, State.markerRecord]
  · rw [hfr, State.markerRecord]
  · rw [hfr, State.markerRecord]
  · exact (congrArg (fun x : State => x.unt.pair.sync) (if_pos hlate)).trans (State.unsync_sync ..)

/-! ## The notice that does not come (R426) -/

theorem State.noticeAt_complete (done : Nat) (hphase : s.phase = .complete) : s.noticeAt done =
    (s.modPair fun p => { p with noticed := true }).modFr fun f => { f with doneAt := max f.doneAt done } := if_pos hphase

theorem standbyNoticeTimeout_served (hmode : s.mode = .running) (hrole : s.unt.pair.role = 1) (hsync : s.unt.pair.sync = 3)
    (hphase : s.phase = .complete) (hnotice : s.unt.pair.noticed = false) (hover : s.fr.doneAt + usC 100 ≤ t) :
    ∃ u, exec (.standbyNoticeTimeout t) s = .next u ∧ u.unt.pair.noticed = true ∧ u.fr.doneAt = s.fr.doneAt + usC 100 ∧
      s.sameBut [.now, .fr, .pair] u := by
  have e : exec (.standbyNoticeTimeout t) s = .next ((s.tick t).noticeAt (s.fr.doneAt + usC 100)) := by
    have hcond : (s.live && decide (s.unt.pair.role = 1) && decide (s.unt.pair.sync = 3) && decide (s.phase = .complete) &&
        !s.unt.pair.noticed && decide (s.fr.doneAt + usC 100 ≤ t)) = true := by
      rw [show s.live = true from decide_eq_true hmode, decide_eq_true hrole, decide_eq_true hsync, decide_eq_true hphase, hnotice,
        decide_eq_true hover]
      rfl
    dsimp only [exec, execStandbyNoticeTimeout]
    exact act_goes (f := fun s => s.noticeAt (s.fr.doneAt + usC 100)) rfl hcond
  refine ⟨_, e, ?_, ?_, exec_sameBut e⟩
  · rw [State.noticeAt_complete (s := s.tick t) _ hphase]
    rfl
  · rw [State.noticeAt_complete (s := s.tick t) _ hphase]
    exact Nat.max_eq_right (Nat.le_add_right _ _)

end

/-! ## Resynchronisation (R438 to R440) -/

section
variable {s : State} {t : Nat}

theorem State.tick_resyncReady (t : Nat) (s : State) : (s.tick t).resyncReady = s.resyncReady := rfl

theorem State.tick_im (t : Nat) (s : State) : (s.tick t).im = s.im := rfl

theorem resyncAutoStart_served {a : Nat} (hmode : s.mode = .running) (hauto : paAuto s.im = true) (hready : s.resyncReady = true)
    (htries : s.unt.pair.tries < 3) (hfrom : s.unt.pair.readyFrom = some a) (hheld : a + msC (1000 * paHold s.im) ≤ t) :
    ∃ u, exec (.resyncAutoStart t) s = .next u ∧ u.unt.pair.sync = 1 ∧ u.unt.pair.attempt = s.unt.pair.attempt + 1 ∧
      u.unt.pair.agreed = 0 ∧ u.unt.pair.role = s.unt.pair.role ∧ s.sameBut [.now, .recd, .pair, .wire] u := by
  have e : exec (.resyncAutoStart t) s = .next (s.tick t).resyncStart := by
    have hcond : ((s.tick t).live && paAuto (s.tick t).im && (s.tick t).resyncReady && decide ((s.tick t).unt.pair.tries < 3) &&
        (match (s.tick t).unt.pair.readyFrom with
          | some a => decide (a + msC (1000 * paHold (s.tick t).im) ≤ t)
          | none => false)) = true := by
      rw [State.tick_im, show (s.tick t).live = true from decide_eq_true hmode, hauto, State.tick_resyncReady, hready,
        show (s.tick t).unt.pair = s.unt.pair from rfl, decide_eq_true htries, hfrom]
      dsimp only
      rw [decide_eq_true hheld]
      rfl
    dsimp only [exec, execResyncAutoStart]
    exact act_goes rfl hcond
  obtain ⟨hsync, hattempt, hagreed, hrole⟩ := (s.tick t).resyncStart_pair
  exact ⟨_, e, hsync, hattempt, hagreed, hrole, exec_sameBut e⟩

/-- The unit that goes on to compare, with its event. -/
def State.copied (s : State) : State :=
  (s.setSync 2 s.unt.pair.cause).unitEvs [{ code := 0x0F08, p1 := 2, p2 := s.unt.pair.attempt }]

theorem State.copied_pair (s : State) : s.copied.unt.pair.sync = 2 ∧ s.copied.unt.pair.attempt = s.unt.pair.attempt ∧
    s.copied.unt.pair.role = s.unt.pair.role := by
  unfold State.copied
  rw [State.unitEvs_pair]
  exact State.setSync_pair 2 s.unt.pair.cause s

theorem State.copied_sameBut (s : State) : s.sameBut [.recd, .pair] s.copied :=
  State.sameBut_mono (State.sameBut_trans (State.setSync_sameBut _ _ _)
    (State.sameBut_of_rest (State.unitEvs_rest _ _ (List.Subset.refl _)))) (by decide)

/-- The standby holds the state of the active after the frame of the copy (R439). -/
def State.takeCopy (copy : Snap) (s : State) : State :=
  (((s.modFr fun f => { f with total := 0 }).takeSnap copy).takeHosts copy.hosts).setPhase .complete

theorem State.takeCopy_pair (copy : Snap) (s : State) : (s.takeCopy copy).unt.pair = s.unt.pair := rfl

/-- What the standby holds of the copy. -/
theorem State.takeCopy_holds (copy : Snap) (s : State) : let u := s.takeCopy copy
    u.phase = .complete ∧ u.fr.frameNo = copy.fr.frameNo ∧ u.eng = copy.eng ∧ u.safe = copy.safe ∧ u.alm = copy.alm ∧
      u.shown = copy.shown ∧ u.can.objs = copy.objs ∧ u.cfg.staging = copy.staging ∧ u.port.sess = copy.hosts.sess ∧
      u.port.owner = copy.hosts.owner :=
  ⟨rfl, rfl, rfl, rfl, rfl, rfl, rfl, rfl, rfl, rfl⟩

theorem resyncCopyDone_goes {copy : Snap} (hmode : s.mode = .running) (hcopy : copy.hosts.sessioned = true) (hpaired : s.paired = true)
    (hsync : s.unt.pair.sync = 1) : exec (.resyncCopyDone ⟨t, copy⟩) s =
      .next (if s.unt.pair.role = 2 then (s.tick t).copied.takeCopy copy else (s.tick t).copied) := by
  have hcond : (s.live && s.paired && decide (s.unt.pair.sync = 1)) = true := by
    rw [show s.live = true from decide_eq_true hmode, hpaired, decide_eq_true hsync]
    rfl
  dsimp only [exec, execResyncCopyDone]
  exact act_goes (f := fun s => if s.unt.pair.role = 2 then s.copied.takeCopy copy else s.copied) hcopy hcond

theorem resyncCopyDone_served {copy : Snap} (hmode : s.mode = .running) (hcopy : copy.hosts.sessioned = true) (hpaired : s.paired = true)
    (hsync : s.unt.pair.sync = 1) : ∃ u, exec (.resyncCopyDone ⟨t, copy⟩) s = .next u ∧ u.unt.pair.sync = 2 ∧
      u.unt.pair.attempt = s.unt.pair.attempt ∧ u.unt.pair.role = s.unt.pair.role ∧
      (s.unt.pair.role = 2 → u.phase = .complete ∧ u.fr.frameNo = copy.fr.frameNo ∧ u.eng = copy.eng ∧ u.safe = copy.safe ∧
        u.alm = copy.alm ∧ u.shown = copy.shown ∧ u.can.objs = copy.objs ∧ u.cfg.staging = copy.staging ∧
        u.port.sess = copy.hosts.sess ∧ u.port.owner = copy.hosts.owner) ∧
      (s.unt.pair.role ≠ 2 → s.sameBut [.now, .recd, .pair] u) := by
  have e := resyncCopyDone_goes (t := t) hmode hcopy hpaired hsync
  obtain ⟨hnow, hattempt, hrole⟩ := (s.tick t).copied_pair
  by_cases hstandby : s.unt.pair.role = 2
  · rw [if_pos hstandby] at e
    refine ⟨_, e, ?_, ?_, ?_, fun _ => State.takeCopy_holds _ _, fun hne => absurd hstandby hne⟩
    · rw [State.takeCopy_pair, hnow]
    · rw [State.takeCopy_pair, hattempt]
      rfl
    · rw [State.takeCopy_pair, hrole]
      rfl
  · rw [if_neg hstandby] at e
    exact ⟨_, e, hnow, hattempt, hrole, fun h => absurd h hstandby, fun _ =>
      State.sameBut_mono (State.sameBut_trans (s.tick_sameBut t) (State.copied_sameBut _)) (by decide)⟩

theorem resyncCompareDone_goes {ok : Bool} (hmode : s.mode = .running) (hpaired : s.paired = true) (hsync : s.unt.pair.sync = 2)
    (hok : (!ok || decide (16 ≤ s.unt.pair.agreed)) = true) : exec (.resyncCompareDone t ok) s =
      .next (if ok then (((s.tick t).setSync 3 0).modPair fun p => { p with tries := 0, agreed := 0 }).unitEvs
        [{ code := 0x0F08, p1 := 3, p2 := s.unt.pair.attempt }] else (s.tick t).unsync 8) := by
  have hcond : (s.live && s.paired && decide (s.unt.pair.sync = 2) && (!ok || decide (16 ≤ s.unt.pair.agreed))) = true := by
    rw [show s.live = true from decide_eq_true hmode, hpaired, decide_eq_true hsync, hok]
    rfl
  dsimp only [exec, execResyncCompareDone]
  exact act_goes rfl hcond

/-- The third phase ends with no cause for a loss of synchronisation. -/
theorem State.setSync_cause (v cause : Nat) (hne : s.unt.pair.sync ≠ v) :
    (s.setSync v cause).unt.pair.cause = if v = 3 then 0 else cause := by
  unfold State.setSync
  dsimp only
  rw [if_neg hne, State.unitEvs_pair]
  rfl

/-- A resynchronisation in progress that fails counts as a try. -/
theorem State.unsync_resync (hsync : s.unt.pair.sync = 2) :
    (s.unsync 8).unt.pair.cause = 8 ∧ (s.unsync 8).unt.pair.tries = min 15 (s.unt.pair.tries + 1) := by
  have hcause := State.setSync_cause (s := s) 0 8 (by omega)
  unfold State.unsync
  dsimp only
  rw [if_neg (by omega), if_neg (by omega), ite_self, State.noteReady_reads Pair.cause _ fun _ _ => rfl,
    State.noteReady_reads Pair.tries _ fun _ _ => rfl, State.unitEvs_pair]
  exact ⟨hcause, rfl⟩

theorem resyncCompareDone_agrees (hmode : s.mode = .running) (hpaired : s.paired = true) (hsync : s.unt.pair.sync = 2)
    (hagreed : 16 ≤ s.unt.pair.agreed) : ∃ u, exec (.resyncCompareDone t true) s = .next u ∧ u.unt.pair.sync = 3 ∧
      u.unt.pair.cause = 0 ∧ u.unt.pair.tries = 0 ∧ u.unt.pair.agreed = 0 ∧ s.sameBut [.now, .recd, .pair] u := by
  have e := resyncCompareDone_goes (t := t) hmode hpaired hsync (ok := true) (decide_eq_true hagreed)
  have hcause : ((s.tick t).setSync 3 0).unt.pair.cause = 0 :=
    State.setSync_cause (s := s.tick t) 3 0 (fun h => absurd (hsync.symm.trans h) (by decide))
  rw [if_pos rfl] at e
  refine ⟨_, e, ?_, ?_, ?_, ?_, exec_sameBut e⟩ <;> rw [State.unitEvs_pair]
  · exact State.setSync_sync ..
  · exact hcause
  · rfl
  · rfl

theorem resyncCompareDone_fails (hmode : s.mode = .running) (hpaired : s.paired = true) (hsync : s.unt.pair.sync = 2) :
    ∃ u, exec (.resyncCompareDone t false) s = .next u ∧ u.unt.pair.sync = 0 ∧ u.unt.pair.cause = 8 ∧
      u.unt.pair.tries = min 15 (s.unt.pair.tries + 1) ∧ s.sameBut [.now, .recd, .pair] u := by
  have e : exec (.resyncCompareDone t false) s = .next ((s.tick t).unsync 8) := resyncCompareDone_goes hmode hpaired hsync rfl
  obtain ⟨hcause, htries⟩ := State.unsync_resync (s := s.tick t) hsync
  exact ⟨_, e, State.unsync_sync .., hcause, htries, exec_sameBut e⟩

end

/-- Settles O53: the standby's strobe by the frame that opens, and each phase of a resynchronisation by the operation that ends it. -/
theorem standbyAndResync : Obligations.StandbyAndResync :=
  fun _ _ hmode =>
    ⟨standbyStrobe_served hmode, fun _ => standbyNoticeTimeout_served hmode, fun _ => resyncAutoStart_served hmode,
      fun _ => resyncCopyDone_served hmode, resyncCompareDone_agrees hmode, resyncCompareDone_fails hmode⟩

end Sys2Proof.Machine
end

section
/-! PROOFS. Start-ups (R423, R478, R493 to R505): what the clear, the firmware, the configuration and strobe 0 each leave, and that no
ownership outlives a start-up (R344). -/

namespace Sys2Proof.Machine

/-! ## The recorder counts start-ups (R309) -/

section
variable (base r : EvRec) (q : Recorder)

theorem admitLost_pwr : (admitLost base q).pwr = q.pwr := by
  unfold admitLost
  split <;> rfl

theorem admitRec_pwr : (admitRec r q).pwr = q.pwr := by
  unfold admitRec
  split
  · rfl
  · split
    · split
      · dsimp only
        split <;> rfl
      · rfl
    · rfl

theorem admitAll_pwr (rs : List EvRec) : (admitAll base rs q).pwr = q.pwr :=
  List.foldlRecOn (motive := fun x : Recorder => x.pwr = q.pwr) _ _ rfl fun x hx r _ => by rw [admitRec_pwr, admitLost_pwr, hx]

theorem recoverNext_pwr : (recoverNext q).pwr = q.pwr := by
  unfold recoverNext
  split
  · split <;> rfl
  · rfl

end

section
variable (s : State)

theorem State.unitEvs_pwr (l : List EvReq) : (s.unitEvs l).recd.pwr = s.recd.pwr := by
  unfold State.unitEvs
  dsimp only
  split
  · exact admitAll_pwr ..
  · rfl

theorem State.preEvs_pwr (l : List EvReq) : (s.preEvs l).recd.pwr = s.recd.pwr := admitAll_pwr ..

theorem State.setRole_pwr (role cause : Nat) : (s.setRole role cause).recd.pwr = s.recd.pwr :=
  (State.unitEvs_pwr _ _).trans (congrArg Recorder.pwr ((State.driveHold_sameBut _ _).2.2 .recd (by decide)))

theorem applyCan_pwr (old new : Image) : (applyCan old new s).recd.pwr = s.recd.pwr := by
  unfold applyCan
  dsimp only
  exact (foldl_keep (fun x : State => x.recd.pwr) _ (by intro x k; exact State.unitEvs_pwr ..) _ _).trans rfl

/-! ## The ports as a whole -/

/-- The parts of the ports. -/
def portParts : List Part := [.sess, .pend, .outbox, .owner, .portSt, .wire, .trace, .replay, .replayIn, .cfgEv, .rtcEv]

theorem PortPart.eq_of_fields {x y : PortPart} (hsess : x.sess = y.sess) (hpend : x.pend = y.pend) (houtbox : x.outbox = y.outbox)
    (howner : x.owner = y.owner) (hst : x.st = y.st) (hwire : x.wire = y.wire) (htrace : x.trace = y.trace)
    (hreplay : x.replay = y.replay) (hin : x.replayIn = y.replayIn) (hcfg : x.cfgEv = y.cfgEv) (hrtc : x.rtcEv = y.rtcEv) : x = y := by
  cases x
  cases y
  simp_all

variable {s} in
/-- An operation that writes no part of the ports leaves them as they are. -/
theorem State.sameBut.ports {u : State} {ps : List Part} (h : s.sameBut ps u) (hps : ∀ p ∈ portParts, p ∉ ps) : u.port = s.port :=
  have hkeep (p : Part) (hp : p ∈ portParts) : p.same s u := h.2.2 p (hps p hp)
  PortPart.eq_of_fields (hkeep .sess (by decide)) (hkeep .pend (by decide)) (hkeep .outbox (by decide)) (hkeep .owner (by decide))
    (hkeep .portSt (by decide)) (hkeep .wire (by decide)) (hkeep .trace (by decide)) (hkeep .replay (by decide))
    (hkeep .replayIn (by decide)) (hkeep .cfgEv (by decide)) (hkeep .rtcEv (by decide))

end

/-! ## Strobe 0 and the role (R423, R500) -/

section
variable (s : State)

theorem State.modFails_reads {α : Type} (k : Nat) (g : Nat → Nat) (f : State → α)
    (hf : ∀ x : State, ∀ a b, f (x.modUnt fun u => { u with fw1 := a, fw2 := b }) = f x) : f (s.modFails k g) = f s := by
  unfold State.modFails
  by_cases hk : k = 2
  · simp only [if_pos hk]
    exact hf s s.unt.fw1 _
  · simp only [if_neg hk]
    exact hf s _ s.unt.fw2

/-- The frame and the boot failure count of strobe 0. -/
def State.zeroFrame (s : State) : State :=
  (((s.setMode .running).modFr fun f => { f with strobeAt := s.now }).modTwi twiNewFrame).modFails s.unt.runSlot fun _ => 0

/-- The marks of the power part at strobe 0. -/
def State.zeroPower (s : State) (p : Power) : Power :=
  { p with ended := p.endNext, endNext := 0, late := b2n s.twi.a0.fired + 2 * b2n s.twi.a1.fired }

theorem State.strobeZero_eq : s.strobeZero = (s.zeroFrame.modPower s.zeroPower).unitEvs
    [{ code := 0x0110, p1 := s.unt.power.cause, p2 := s.unt.runSlot + 256 * s.unt.power.cfgSlot + 65536 * s.unt.power.endNext,
       p3 := s.cfg.hdr.cfgCrc }] := rfl

theorem State.zeroFrame_marks : s.zeroFrame.mode = .running ∧ s.zeroFrame.fr = { s.fr with strobeAt := s.now } ∧
    s.zeroFrame.unt.power = s.unt.power ∧ s.zeroFrame.recd = s.recd :=
  ⟨State.modFails_reads _ _ _ State.mode fun _ _ _ => rfl, State.modFails_reads _ _ _ State.fr fun _ _ _ => rfl,
    State.modFails_reads _ _ _ (fun x => x.unt.power) fun _ _ _ => rfl, State.modFails_reads _ _ _ State.recd fun _ _ _ => rfl⟩

theorem State.strobeZero_mode : s.strobeZero.mode = .running := by
  rw [State.strobeZero_eq, (State.sameBut_of_rest (State.unitEvs_rest _ _ (List.Subset.refl _))).mode (by decide)]
  exact s.zeroFrame_marks.1

theorem State.strobeZero_fr : s.strobeZero.fr = { s.fr with strobeAt := s.now } := by
  rw [State.strobeZero_eq, State.unitEvs_fr]
  exact s.zeroFrame_marks.2.1

theorem State.strobeZero_power : s.strobeZero.unt.power = s.zeroPower s.unt.power := by
  rw [State.strobeZero_eq, State.unitEvs_unt]
  exact congrArg s.zeroPower s.zeroFrame_marks.2.2.1

theorem State.strobeZero_pwr : s.strobeZero.recd.pwr = s.recd.pwr := by
  rw [State.strobeZero_eq, State.unitEvs_pwr]
  exact congrArg Recorder.pwr s.zeroFrame_marks.2.2.2

theorem State.strobeZero_sameBut : s.sameBut [.mode, .fr, .recd, .twi, .power, .fw1, .fw2] s.strobeZero :=
  State.sameBut_of_rest (State.strobeZero_rest s (List.Subset.refl _))

/-- A unit of a pair that has still to decide its role. -/
def State.decides (s : State) : State :=
  ((s.modPair fun p => { p with role := 5 }).setMode .deciding).driveHold (if s.unt.power.haloFault then 0 else 1)

/-- Step 5 ends with strobe 0, or with the wait for a role. -/
theorem State.beginRole_cases : s.beginRole = s.strobeZero ∨ s.beginRole = s.decides := by
  unfold State.beginRole
  split
  · exact .inl rfl
  · split
    · exact .inr rfl
    · exact .inl rfl

theorem State.decides_sameBut : s.sameBut [.mode, .pair] s.decides :=
  State.sameBut_of_rest (by simp [State.decides])

theorem State.decides_mode : s.decides.mode = .deciding := rfl

/-- What the unit holds once it runs, or waits for its role. -/
theorem State.beginRole_marks : (s.beginRole.mode = .running ∨ s.beginRole.mode = .deciding) ∧
    s.beginRole.fr.frameNo = s.fr.frameNo ∧ s.beginRole.recd.pwr = s.recd.pwr := by
  rcases s.beginRole_cases with h | h <;> rw [h]
  · exact ⟨.inl s.strobeZero_mode, (congrArg FrameClk.frameNo s.strobeZero_fr).trans rfl, s.strobeZero_pwr⟩
  · exact ⟨.inr s.decides_mode, congrArg FrameClk.frameNo (s.decides_sameBut.fr (by decide)),
      congrArg Recorder.pwr (s.decides_sameBut.2.2 .recd (by decide))⟩

theorem State.beginRole_power {α : Type} (f : Power → α) (hf : ∀ p e n l, f { p with ended := e, endNext := n, late := l } = f p) :
    f s.beginRole.unt.power = f s.unt.power := by
  rcases s.beginRole_cases with h | h <;> rw [h]
  · rw [State.strobeZero_power]
    exact hf ..
  · exact congrArg f (s.decides_sameBut.2.2 .power (by decide))

theorem State.beginRole_ended (hrun : s.beginRole.mode = .running) : s.beginRole.unt.power.ended = s.unt.power.endNext := by
  rcases s.beginRole_cases with h | h <;> rw [h] at hrun ⊢
  · rw [State.strobeZero_power]
    rfl
  · cases s.decides_mode.symm.trans hrun

theorem State.beginRole_sameBut : s.sameBut [.mode, .fr, .recd, .twi, .power, .fw1, .fw2, .pair] s.beginRole :=
  State.sameBut_of_rest (State.beginRole_rest s (List.Subset.refl _))

end

/-! ## Steps 2 to 4: self-test, configuration and blocks (R497 to R499) -/

section
variable (s : State) (b : Bist) (cause : Nat) (stuck : Bool)

/-- After the self-test: its marks, the cause, and what RST_BTN and the identity data tell. -/
def State.tested (s : State) : State :=
  (s.bistMarks b).modPower fun p => { p with
    cause := cause, rstStuck := stuck, rstIgnored := stuck, identBad := decide (identCrc s.unt.ident ≠ s.unt.ident.crc) }

/-- The state that has its configuration and its blocks, given the events of steps 1 and 2. -/
def State.equipped (mask : Nat) (was : BlkPart) (es : List EvReq) (s : State) : State :=
  (((s.preEvs es).loadConfig.1.preEvs (s.preEvs es).loadConfig.2).configure mask was)

/-- A start-up behind its firmware: self-test, clear, configuration, role. -/
theorem State.bootRest_eq (was : BlkPart) (skip : Option (Nat × Nat)) : ∃ es, s.bootRest b cause stuck was skip =
    ((((s.tested b cause stuck).clearMarks b.clear).1.equipped b.blocks was es).beginRole) := by
  unfold State.bootRest State.equipped State.tested
  exact ⟨_, rfl⟩

theorem State.bistMarks_power : ∃ h, (s.bistMarks b).unt.power = { s.unt.power with haloFault := h } := by
  have hengines (x : State) (l : List Nat) : (l.foldl (fun x e => if b.engines.testBit e then
      x.modReg (e / 4) fun r => { r with bist := setBit r.bist (e % 4) true } else x) x).unt.power = x.unt.power :=
    foldl_keep (fun x : State => x.unt.power) _ (fun x e => by split <;> rfl) l x
  have hcells (x : State) (l : List Nat) : (l.foldl (fun x c => x.modCell c fun d =>
      { d with couplers := 1, standing := true, cause := 1 }) x).unt.power = x.unt.power :=
    foldl_keep (fun x : State => x.unt.power) _ (by intros; rfl) l x
  have hlanes (x : State) (l : List Nat) : (l.foldl (fun x l => x.modPair fun p => if l = 0 then
      { p with lane0 := { p.lane0 with broken := true } } else { p with lane1 := { p.lane1 with broken := true } }) x).unt.power =
      x.unt.power := foldl_keep (fun x : State => x.unt.power) _ (by intros; rfl) l x
  refine ⟨b.halo, ?_⟩
  unfold State.bistMarks
  extract_lets s1 s2 s3 s4
  have h4 : s4.unt.power = s3.unt.power := by
    show (match b.mram with
      | some off => _
      | none => s3).unt.power = _
    split <;> rfl
  have h : s4.unt.power = s.unt.power := h4.trans ((hlanes _ _).trans ((hcells _ _).trans (hengines _ _)))
  show { s4.unt.power with haloFault := b.halo } = _
  rw [h]

theorem State.tested_power {α : Type} (f : Power → α) (hf : ∀ p h i, f { p with haloFault := h, identBad := i } = f p) :
    f (s.tested b cause stuck).unt.power = f { s.unt.power with cause := cause, rstStuck := stuck, rstIgnored := stuck } := by
  obtain ⟨h, hp⟩ := s.bistMarks_power b
  show f { (s.bistMarks b).unt.power with
    cause := cause, rstStuck := stuck, rstIgnored := stuck, identBad := decide (identCrc s.unt.ident ≠ s.unt.ident.crc) } = _
  rw [hp]
  exact hf { s.unt.power with cause := cause, rstStuck := stuck, rstIgnored := stuck } h _

theorem State.tested_sameBut : s.sameBut [.blks, .power, .mem, .mdiag, .regs, .pair] (s.tested b cause stuck) :=
  State.sameBut_of_rest (by simp [State.tested])

theorem State.clearMarks_sameBut (l : List (Nat × Nat × Nat × Nat)) : s.sameBut [.mem, .mdiag] (s.clearMarks l).1 :=
  State.sameBut_of_rest (State.clearMarks_rest l s (List.Subset.refl _))

theorem State.loadConfig_power {α : Type} (f : Power → α) (hf : ∀ p k e, f { p with cfgSlot := k, cfgEmpty := e } = f p) :
    f s.loadConfig.1.unt.power = f s.unt.power := by
  unfold State.loadConfig
  dsimp only
  split
  · exact hf s.unt.power _ _
  · exact hf s.unt.power _ _

theorem State.loadConfig_sameBut : s.sameBut [.power, .image, .hdr, .staging, .slotA, .slotB] s.loadConfig.1 :=
  State.sameBut_of_rest (State.loadConfig_rest s (List.Subset.refl _))

theorem State.configure_sameBut (mask : Nat) (was : BlkPart) : s.sameBut [.blks, .eng, .alm, .recd, .can, .twi] (s.configure mask was) :=
  State.sameBut_of_rest (State.configure_rest mask was s (List.Subset.refl _))

theorem State.configure_pwr (mask : Nat) (was : BlkPart) : (s.configure mask was).recd.pwr = s.recd.pwr := by
  have htwi (x : State) (g : Twi → Twi) : (x.twiDo g).recd = x.recd := by
    unfold State.twiDo
    split <;> rfl
  have halarms (x : State) : (startAlarms x).recd = x.recd :=
    (State.sameBut_of_rest (startAlarms_rest (ps := [.alm]) x (by decide))).2.2 .recd (by decide)
  have hblocks (old new : Image) (x : State) (l : List Nat) : (l.foldl (applyBlock old new) x).recd = x.recd :=
    foldl_keep State.recd _ (fun x b =>
      (State.sameBut_of_rest (applyBlock_rest (ps := [.blks]) old new x b (by decide))).2.2 .recd (by decide)) l x
  have hchannels (old new : Image) (x : State) (l : List Nat) : (l.foldl (applyChannel old new) x).recd = x.recd :=
    foldl_keep State.recd _ (fun x c =>
      (State.sameBut_of_rest (applyChannel_rest (ps := [.blks, .eng]) old new x c (by decide))).2.2 .recd (by decide)) l x
  unfold State.configure
  dsimp only
  rw [htwi, applyCan_pwr, halarms, hblocks, hchannels]

theorem State.equipped_power {α : Type} (f : Power → α) (hf : ∀ p k e, f { p with cfgSlot := k, cfgEmpty := e } = f p) (mask : Nat)
    (was : BlkPart) (es : List EvReq) : f (s.equipped mask was es).unt.power = f s.unt.power := by
  rw [State.equipped, (State.configure_sameBut _ _ _).2.2 .power (by decide)]
  exact (s.preEvs es).loadConfig_power f hf

theorem State.equipped_pwr (mask : Nat) (was : BlkPart) (es : List EvReq) : (s.equipped mask was es).recd.pwr = s.recd.pwr := by
  rw [State.equipped, State.configure_pwr, State.preEvs_pwr, (State.loadConfig_sameBut _).2.2 .recd (by decide), State.preEvs_pwr]

theorem State.equipped_sameBut (mask : Nat) (was : BlkPart) (es : List EvReq) : s.sameBut [.blks, .eng, .alm, .recd, .can, .twi, .power,
    .image, .hdr, .staging, .slotA, .slotB] (s.equipped mask was es) := by
  have hpre (x : State) (l : List EvReq) : x.sameBut [.recd] (x.preEvs l) := State.sameBut_of_rest (State.preEvs_rest l x (by decide))
  exact State.sameBut_mono (State.sameBut_trans (State.sameBut_trans (State.sameBut_trans (hpre s es) (State.loadConfig_sameBut _))
    (hpre _ _)) (State.configure_sameBut _ _ _)) (by decide)

variable (was : BlkPart) (skip : Option (Nat × Nat))

/-- What a start-up behind its firmware leaves: the frame, the start-up count and the marks of its power part. -/
theorem State.bootRest_marks : let u := s.bootRest b cause stuck was skip
    (u.mode = .running ∨ u.mode = .deciding) ∧ u.fr.frameNo = s.fr.frameNo ∧ u.recd.pwr = s.recd.pwr ∧ u.unt.power.cause = cause ∧
      u.unt.power.rstStuck = stuck ∧ u.unt.power.enable = s.unt.power.enable ∧
      (u.mode = .running → u.unt.power.ended = s.unt.power.endNext) := by
  obtain ⟨es, h⟩ := s.bootRest_eq b cause stuck was skip
  have htested := s.tested_sameBut b cause stuck
  have hcleared := (s.tested b cause stuck).clearMarks_sameBut b.clear
  have hequipped := ((s.tested b cause stuck).clearMarks b.clear).1.equipped_sameBut b.blocks was es
  have hpower {α : Type} (f : Power → α)
      (hf : ∀ p h i k e, f { p with haloFault := h, identBad := i, cfgSlot := k, cfgEmpty := e } = f p) :
      f (((s.tested b cause stuck).clearMarks b.clear).1.equipped b.blocks was es).unt.power =
        f { s.unt.power with cause := cause, rstStuck := stuck, rstIgnored := stuck } := by
    rw [State.equipped_power _ f fun p k e => hf p p.haloFault p.identBad k e, hcleared.2.2 .power (by decide)]
    exact s.tested_power b cause stuck f fun p h i => hf p h i p.cfgSlot p.cfgEmpty
  obtain ⟨hmode, hframe, hpwr⟩ := (((s.tested b cause stuck).clearMarks b.clear).1.equipped b.blocks was es).beginRole_marks
  dsimp only
  rw [h]
  refine ⟨hmode, ?_, ?_, ?_, ?_, ?_, fun hrun => ?_⟩
  · rw [hframe, hequipped.fr (by decide), hcleared.fr (by decide), htested.fr (by decide)]
  · rw [hpwr, State.equipped_pwr, hcleared.2.2 .recd (by decide), htested.2.2 .recd (by decide)]
  · exact (State.beginRole_power _ Power.cause fun _ _ _ _ => rfl).trans (hpower Power.cause fun _ _ _ _ _ => rfl)
  · exact (State.beginRole_power _ Power.rstStuck fun _ _ _ _ => rfl).trans (hpower Power.rstStuck fun _ _ _ _ _ => rfl)
  · exact (State.beginRole_power _ Power.enable fun _ _ _ _ => rfl).trans (hpower Power.enable fun _ _ _ _ _ => rfl)
  · exact (State.beginRole_ended _ hrun).trans (hpower Power.endNext fun _ _ _ _ _ => rfl)

theorem State.bootRest_sameBut : s.sameBut [.mode, .fr, .blks, .eng, .alm, .recd, .can, .twi, .power, .fw1, .fw2, .mem, .mdiag, .regs,
    .pair, .image, .hdr, .staging, .slotA, .slotB] (s.bootRest b cause stuck was skip) :=
  State.sameBut_of_rest (State.bootRest_rest _ _ _ _ _ _ (List.Subset.refl _))

end

/-! ## The start-up as a whole (R495) -/

section
variable (s : State) (b : Bist) (cause : Nat) (stuck : Bool)

theorem State.sramClear_port : s.sramClear.port = { outbox := s.port.outbox, wire := s.port.wire } := rfl

/-- The firmware of slot `k` is loaded into cleared memories, and the Zenith controller starts. -/
def State.loaded (k : Nat) (skipped : Bool) (s : State) : State :=
  ((((s.sramClear.modUnt fun u => { u with runSlot := k }).modFails k fun n => min 3 (n + 1)).modPower fun p =>
    { p with fwFallback := skipped }).zenithStarts)

theorem State.loadOnce_eq : s.loadOnce = (fwTake s.unt.fw1 s.unt.fw2).map fun x => (s.loaded x.1 x.2.isSome, x.2) := by
  unfold State.loadOnce
  dsimp only
  show (match fwTake s.unt.fw1 s.unt.fw2 with
    | none => _
    | some x => _) = _
  split <;> next h => rw [h]; rfl

theorem State.modFails_sameBut (k : Nat) (f : Nat → Nat) : s.sameBut [.fw1, .fw2] (s.modFails k f) :=
  State.sameBut_of_rest (State.modFails_rest k f s (List.Subset.refl _))

theorem State.zenithStarts_sameBut : s.sameBut [.recd, .clock] s.zenithStarts :=
  State.sameBut_of_rest (State.zenithStarts_rest s (List.Subset.refl _))

theorem State.zenithStarts_pwr : s.zenithStarts.recd.pwr = wrapN 32 (s.recd.pwr + 1) := recoverNext_pwr _

theorem State.loaded_sameBut (k : Nat) (skipped : Bool) :
    s.sramClear.sameBut [.recd, .clock, .power, .fw1, .fw2, .runSlot] (s.loaded k skipped) := by
  refine State.sameBut_of_rest ?_
  simp [State.loaded, UnitPart.rest, cleared]

theorem State.loaded_pwr (k : Nat) (skipped : Bool) : (s.loaded k skipped).recd.pwr = wrapN 32 (s.recd.pwr + 1) := by
  rw [State.loaded, State.zenithStarts_pwr, State.modPower_recd, (State.modFails_sameBut _ k _).2.2 .recd (by decide)]
  rfl

/-- The loader leaves ENABLE and the end reason that waits. -/
theorem State.loaded_power (k : Nat) (skipped : Bool) : (s.loaded k skipped).unt.power.enable = s.unt.power.enable ∧
    (s.loaded k skipped).unt.power.endNext = s.unt.power.endNext := by
  rw [State.loaded, (State.zenithStarts_sameBut _).2.2 .power (by decide), State.modPower_unt_power,
    (State.modFails_sameBut _ k _).2.2 .power (by decide)]
  exact ⟨rfl, rfl⟩

theorem State.witnessStart_sameBut : s.sameBut [.pair, .wit] (s.witnessStart cause) :=
  State.sameBut_of_rest (State.witnessStart_rest cause s (List.Subset.refl _))

/-- With firmware to run and no lockstep failure a start-up runs once through its steps. -/
theorem State.boot_loads (hfw : (fwTake s.unt.fw1 s.unt.fw2).isSome = true) (hlock : b.lockstep = 0) : ∃ k skip,
    s.boot b cause stuck =
      ((s.witnessStart cause).loaded k skip.isSome).bootRest b cause stuck (s.witnessStart cause).blks skip := by
  have hw := s.witnessStart_sameBut cause
  obtain ⟨x, hx⟩ := Option.isSome_iff_exists.1 hfw
  have hload : (s.witnessStart cause).loadOnce = some ((s.witnessStart cause).loaded x.1 x.2.isSome, x.2) := by
    rw [State.loadOnce_eq, hw.2.2 .fw1 (by decide), hw.2.2 .fw2 (by decide), hx]
    rfl
  refine ⟨x.1, x.2, ?_⟩
  unfold State.boot
  dsimp only
  rw [hload]
  exact if_pos hlock

/-- What a start-up of cause `cause` leaves: frame 0, its count, and cleared sessions, ownership and inputs (R478, R495). -/
def State.startedFrom (s : State) (cause : Nat) (u : State) : Prop :=
  (u.mode = .running ∨ u.mode = .deciding) ∧ u.phase = .gather ∧ u.fr.frameNo = 0 ∧ u.unt.power.cause = cause ∧
    u.recd.pwr = wrapN 32 (s.recd.pwr + 1) ∧ u.port = { outbox := s.port.outbox, wire := s.port.wire } ∧ u.inp = {} ∧
    u.unt.ident = s.unt.ident ∧ u.pending = s.pending

theorem State.boot_started (hfw : (fwTake s.unt.fw1 s.unt.fw2).isSome = true) (hlock : b.lockstep = 0) :
    let u := s.boot b cause stuck
    s.startedFrom cause u ∧ u.unt.power.rstStuck = stuck ∧ u.unt.power.enable = s.unt.power.enable ∧
      (u.mode = .running → u.unt.power.ended = s.unt.power.endNext) := by
  obtain ⟨k, skip, h⟩ := s.boot_loads b cause stuck hfw hlock
  have hw := s.witnessStart_sameBut cause
  have hl := (s.witnessStart cause).loaded_sameBut k skip.isSome
  have hb := ((s.witnessStart cause).loaded k skip.isSome).bootRest_sameBut b cause stuck (s.witnessStart cause).blks skip
  obtain ⟨hmode, hframe, hpwr, hcause, hstuck, henable, hended⟩ :=
    ((s.witnessStart cause).loaded k skip.isSome).bootRest_marks b cause stuck (s.witnessStart cause).blks skip
  obtain ⟨hswitch, hreason⟩ := (s.witnessStart cause).loaded_power k skip.isSome
  have hwpower : (s.witnessStart cause).unt.power = s.unt.power := hw.2.2 .power (by decide)
  have hport : (s.boot b cause stuck).port = { outbox := s.port.outbox, wire := s.port.wire } := by
    rw [h, hb.ports (by decide), hl.ports (by decide), State.sramClear_port, hw.ports (by decide)]
  dsimp only
  refine ⟨⟨?_, ?_, ?_, ?_, ?_, hport, ?_, ?_, ?_⟩, ?_, ?_, ?_⟩ <;> rw [h]
  · exact hmode
  · rw [hb.phase (by decide), hl.phase (by decide)]
    rfl
  · rw [hframe, hl.fr (by decide)]
    rfl
  · exact hcause
  · rw [hpwr, State.loaded_pwr, hw.2.2 .recd (by decide)]
  · rw [hb.inp (by decide), hl.inp (by decide)]
    rfl
  · exact hb.2.1.trans (hl.2.1.trans hw.2.1)
  · exact hb.1.trans (hl.1.trans hw.1)
  · exact hstuck
  · exact henable.trans (hswitch.trans (congrArg Power.enable hwpower))
  · exact fun hrun => (hended hrun).trans (hreason.trans (congrArg Power.endNext hwpower))

/-- Whatever its outcome, a start-up leaves no owner, no offer and no claim (R344). -/
theorem State.boot_owner : (s.boot b cause stuck).port.owner = {} := by
  have hdead (x : State) : x.sramClear.bootDead.port.owner = {} :=
    ((State.sameBut_of_rest (State.bootDead_rest (ps := [.mode, .pair]) _ (by decide))).owner (by decide)).trans rfl
  have hload {x : State} {y : State × Option (Nat × Nat)} (hy : x.loadOnce = some y) : y.1.port.owner = {} := by
    rw [State.loadOnce_eq, Option.map_eq_some_iff] at hy
    obtain ⟨k, -, rfl⟩ := hy
    exact ((x.loaded_sameBut _ _).owner (by decide)).trans rfl
  have hrest {x : State} (hx : x.port.owner = {}) (was : BlkPart) (skip : Option (Nat × Nat)) :
      (x.bootRest b cause stuck was skip).port.owner = {} := ((x.bootRest_sameBut _ _ _ _ _).owner (by decide)).trans hx
  unfold State.boot
  dsimp only
  split
  · exact hdead _
  · next x hx =>
    split
    · exact hrest (hload hx) ..
    · split
      · exact hdead _
      · next y hy =>
        split
        · exact hrest (hload hy) ..
        · have hz : ((y.1.modPower fun p => { p with endNext := 5 }).bootDead).port.owner = {} :=
            ((State.sameBut_of_rest (State.bootDead_rest (ps := [.mode, .pair]) _ (by decide))).owner (by decide)).trans (hload hy)
          split
          · exact hz
          · exact hz

end

end Sys2Proof.Machine
end

section
/-! PROOFS. The commands that start the unit, and the role decision (R423, R493 to R505, R344). -/

namespace Sys2Proof.Machine

/-! ## What each command begins -/

section
variable {t : Nat} {b : Bist} {s : State}

/-- POWER_ON with ENABLE open, with RST_BTN closed, and otherwise (R495, R503). -/
def State.poweredOn (held : Bool) (b : Bist) (s : State) : State :=
  if !s.unt.power.enable then s.sramClear.setMode .off else if held then s.bootHeld b else s.boot b 1 false

theorem powerOn_goes (held : Bool) : exec (.powerOn t held b) s = .next ((s.tick t).poweredOn held b) := by
  dsimp only [exec, execPowerOn]
  exact act_goes (f := State.poweredOn held b) rfl rfl

theorem supplyRecovery_goes {mv heldUs : Nat} (hmode : s.mode = .stopped) (henable : s.unt.power.enable = true) (hmv : 18500 ≤ mv)
    (hheld : 100000 ≤ heldUs) : exec (.supplyRecovery t mv heldUs b) s = .next ((s.tick t).boot b 2 false) := by
  have hcond : (decide (s.mode = .stopped) && s.unt.power.enable && decide (18500 ≤ mv) && decide (100000 ≤ heldUs)) = true := by
    rw [decide_eq_true hmode, henable, decide_eq_true hmv, decide_eq_true hheld]
    rfl
  dsimp only [exec, execSupplyRecovery]
  exact act_goes rfl hcond

theorem warmRestartBegin_goes (hawake : s.awake = true) (hdue : s.unt.power.restartDue = true) :
    exec (.warmRestartBegin t b) s = .next (((s.tick t).orderlyStop 3).boot b 5 false) := by
  have hcond : (s.awake && s.unt.power.restartDue) = true := by
    rw [hawake, hdue]
    rfl
  dsimp only [exec, execWarmRestartBegin]
  exact act_goes rfl hcond

theorem resetButtonRelease_goes {closedMs openMs : Nat} (hmode : s.mode = .running ∨ s.mode = .deciding ∨ s.mode = .dead)
    (hheed : s.unt.power.rstIgnored = false) (hclosed : 50 ≤ closedMs) (hopen : 20 ≤ openMs) :
    exec (.resetButtonRelease t closedMs openMs b) s = .next (((s.tick t).orderlyStop 4).boot b 6 false) := by
  have hmodes : (s.live || decide (s.mode = .deciding) || decide (s.mode = .dead)) = true := by
    rcases hmode with h | h | h <;> simp [State.live, h]
  have hcond : ((s.live || decide (s.mode = .deciding) || decide (s.mode = .dead)) && !s.unt.power.rstIgnored && decide (50 ≤ closedMs) &&
      decide (20 ≤ openMs)) = true := by
    rw [hmodes, hheed, decide_eq_true hclosed, decide_eq_true hopen]
    rfl
  dsimp only [exec, execResetButtonRelease]
  exact act_goes rfl hcond

theorem resetInputStuck_goes (hmode : s.mode = .held) (hover : s.unt.power.heldAt + msC 10000 ≤ max s.now t) :
    exec (.resetInputStuck t b) s = .next ((s.tick t).bootOn b true) := by
  have hcond : (decide (s.mode = .held) && decide (s.unt.power.heldAt + msC 10000 ≤ max s.now t)) = true := by
    rw [decide_eq_true hmode, decide_eq_true hover]
    rfl
  dsimp only [exec, execResetInputStuck]
  exact act_goes rfl hcond

/-- RESET_INPUT_FREED on a held start-up and on one that went on (R503). -/
def State.resetFreed (b : Bist) (s : State) : State :=
  if s.mode = .held then s.bootOn b false else s.modPower fun p => { p with rstStuck := false, rstIgnored := false }

theorem resetInputFreed_goes {openMs : Nat} (h : s.mode = .held ∨ 50 ≤ openMs) :
    exec (.resetInputFreed t openMs b) s = .next ((s.tick t).resetFreed b) := by
  have hcond : (decide (s.mode = .held) || decide (50 ≤ openMs)) = true := by simpa using h
  dsimp only [exec, execResetInputFreed]
  exact act_goes (f := State.resetFreed b) rfl hcond

/-- ENABLE as a wake finds it (R505). -/
def State.wakeEnable (closedMs : Nat) (s : State) : State :=
  if decide (100 ≤ closedMs) then s.modPower fun p => { p with enable := true, enableSeen := true } else s

/-- The alarm that a wake names has fired in OFF. -/
def State.wokenBy (alarm : Option Nat) (s : State) : Bool :=
  match alarm with
  | some k => decide (s.mode = .off) && s.alarmWakes k
  | none => false

/-- A wake from OFF, by ENABLE or by an alarm (R505). -/
def State.woken (closedMs : Nat) (b : Bist) (s : State) : State :=
  if s.mode = .off then (s.wakeEnable closedMs).boot b (if decide (100 ≤ closedMs) then 3 else 4) false else s.wakeEnable closedMs

theorem wake_goes {closedMs : Nat} {alarm : Option Nat} (halarm : alarm.all (· < 2) = true) (hmode : s.mode = .off)
    (hwakes : 100 ≤ closedMs ∨ ∃ k, alarm = some k ∧ s.alarmWakes k = true) :
    exec (.wake t closedMs alarm b) s = .next (((s.tick t).wakeEnable closedMs).boot b (if decide (100 ≤ closedMs) then 3 else 4) false) := by
  have hcond : (decide (100 ≤ closedMs) || s.wokenBy alarm) = true := by
    rcases hwakes with h | ⟨k, rfl, h⟩
    · simp [h]
    · simp [State.wokenBy, h, hmode]
  dsimp only [exec, execWake]
  exact (act_goes (f := State.woken closedMs b) halarm hcond).trans (congrArg Host.Outcome.next (if_pos hmode))

theorem State.bootHeld_owner (b : Bist) (s : State) : (s.bootHeld b).port.owner = {} := by
  unfold State.bootHeld
  rw [(State.driveHold_sameBut _ _).owner (by decide)]
  rfl

theorem State.poweredOn_owner (held : Bool) (b : Bist) (s : State) : (s.poweredOn held b).port.owner = {} := by
  unfold State.poweredOn
  split
  · rfl
  · split
    · exact s.bootHeld_owner b
    · exact s.boot_owner b 1 false

end

/-- Settles O47: each command that starts the unit runs the sequence whose clear takes ownership away. -/
theorem startUpVacatesOwnership : Obligations.StartUpVacatesOwnership := by
  refine ⟨fun t b s u => ?_, fun t s u e => (exec_sameBut e).owner (by simp [touches]), rfl⟩
  have hvacant {v : State} (hv : v.port.owner = {}) (e : Host.Outcome.next v = (.next u : Out)) :
      u.port.owner.owner = none ∧ u.port.owner.offer = none ∧ u.port.owner.claims = [] ∧ u.port.owner.window = none := by
    cases e
    rw [hv]
    exact ⟨rfl, rfl, rfl, rfl⟩
  refine ⟨fun held e => ?_, fun mv us hmode henable hmv hus e => ?_, fun hawake hdue e => ?_, fun c o hmode hheed hc ho e => ?_,
    fun hmode hover e => ?_, fun o hmode e => ?_, fun c a hmode hwakes e => ?_⟩
  · exact hvacant (State.poweredOn_owner ..) ((powerOn_goes held).symm.trans e)
  · exact hvacant (State.boot_owner ..) ((supplyRecovery_goes hmode henable hmv hus).symm.trans e)
  · exact hvacant (State.boot_owner ..) ((warmRestartBegin_goes hawake hdue).symm.trans e)
  · exact hvacant (State.boot_owner ..) ((resetButtonRelease_goes hmode hheed hc ho).symm.trans e)
  · exact hvacant (State.boot_owner ..) ((resetInputStuck_goes hmode hover).symm.trans e)
  · have hfreed : (s.tick t).resetFreed b = (s.tick t).bootOn b false := if_pos hmode
    exact hvacant (hfreed ▸ State.boot_owner ..) ((resetInputFreed_goes (.inl hmode)).symm.trans e)
  · cases halarm : a.all (· < 2) with
    | true => exact hvacant (State.boot_owner ..) ((wake_goes halarm hmode hwakes).symm.trans e)
    | false =>
      dsimp only [exec, execWake] at e
      rw [halarm] at e
      cases e

/-! ## What a start-up leaves -/

section
variable {t : Nat} {b : Bist} {s : State}

theorem State.orderlyStop_pwr (reason : Nat) (s : State) : (s.orderlyStop reason).recd.pwr = s.recd.pwr := by
  have hrole (x : State) : x.stopRole.recd.pwr = x.recd.pwr := by
    unfold State.stopRole
    split
    · exact x.setRole_pwr 4 3
    · rfl
  rw [State.orderlyStop_eq, State.setMode_recd, (State.stopHold_sameBut _).2.2 .recd (by decide), hrole]
  rfl

/-- A stop changes nothing that a start-up counts from. -/
theorem State.startedFrom_of_stop {reason cause : Nat} {u : State} (h : (s.orderlyStop reason).startedFrom cause u) :
    s.startedFrom cause u := by
  obtain ⟨hmode, hphase, hframe, hcause, hpwr, hport, hinp, hident, hpending⟩ := h
  have hstop := s.orderlyStop_sameBut reason
  have hports : (s.orderlyStop reason).port = s.port := hstop.ports (by decide)
  rw [State.orderlyStop_pwr] at hpwr
  rw [hports] at hport
  exact ⟨hmode, hphase, hframe, hcause, hpwr, hport, hinp, hident.trans hstop.2.1, hpending.trans hstop.1⟩

theorem State.restart_started (hfw : (fwTake s.unt.fw1 s.unt.fw2).isSome = true) (hlock : b.lockstep = 0) (reason cause : Nat) :
    s.startedFrom cause ((s.orderlyStop reason).boot b cause false) ∧
      (((s.orderlyStop reason).boot b cause false).mode = .running →
        ((s.orderlyStop reason).boot b cause false).unt.power.ended = reason) := by
  have hstop := s.orderlyStop_sameBut reason
  have hfw' : (fwTake (s.orderlyStop reason).unt.fw1 (s.orderlyStop reason).unt.fw2).isSome = true := by
    rw [hstop.2.2 .fw1 (by decide), hstop.2.2 .fw2 (by decide)]
    exact hfw
  obtain ⟨hstarted, -, -, hended⟩ := (s.orderlyStop reason).boot_started b cause false hfw' hlock
  exact ⟨State.startedFrom_of_stop hstarted, fun hrun =>
    (hended hrun).trans ((congrArg Power.endNext (s.orderlyStop_power reason)).trans rfl)⟩

theorem powerOn_started (hfw : (fwTake s.unt.fw1 s.unt.fw2).isSome = true) (hlock : b.lockstep = 0)
    (henable : s.unt.power.enable = true) : ∃ u, exec (.powerOn t false b) s = .next u ∧ s.startedFrom 1 u := by
  have hon : (s.tick t).poweredOn false b = (s.tick t).boot b 1 false := by
    have hon' : (s.tick t).unt.power.enable = true := henable
    rw [State.poweredOn, hon']
    rfl
  exact ⟨_, (powerOn_goes false).trans (congrArg Host.Outcome.next hon), ((s.tick t).boot_started b 1 false hfw hlock).1⟩

theorem powerOn_held (henable : s.unt.power.enable = true) : ∃ u, exec (.powerOn t true b) s = .next u ∧ u.mode = .held ∧
    u.unt.power.heldAt = max s.now t ∧ u.port.owner = {} := by
  have hon : (s.tick t).poweredOn true b = (s.tick t).bootHeld b := by
    have hon' : (s.tick t).unt.power.enable = true := henable
    rw [State.poweredOn, hon']
    rfl
  refine ⟨_, (powerOn_goes true).trans (congrArg Host.Outcome.next hon), rfl, ?_, State.bootHeld_owner ..⟩
  unfold State.bootHeld
  rw [(State.driveHold_sameBut _ _).2.2 .power (by decide), State.modPower_unt_power]
  rfl

theorem powerOn_open (held : Bool) (henable : s.unt.power.enable = false) : ∃ u, exec (.powerOn t held b) s = .next u ∧ u.mode = .off := by
  have hon : (s.tick t).poweredOn held b = (s.tick t).sramClear.setMode .off := by
    have hon' : (s.tick t).unt.power.enable = false := henable
    rw [State.poweredOn, hon']
    rfl
  exact ⟨_, (powerOn_goes held).trans (congrArg Host.Outcome.next hon), rfl⟩

theorem State.bootOn_started (hfw : (fwTake s.unt.fw1 s.unt.fw2).isSome = true) (hlock : b.lockstep = 0) (stuck : Bool) :
    s.startedFrom 1 (s.bootOn b stuck) ∧ (s.bootOn b stuck).unt.power.rstStuck = stuck := by
  obtain ⟨hstarted, hstuck, -⟩ :=
    s.boot_started { b with clear := s.unt.power.heldClear ++ b.clear } 1 stuck hfw hlock
  exact ⟨hstarted, hstuck⟩

theorem resetInputFreed_held {openMs : Nat} (hfw : (fwTake s.unt.fw1 s.unt.fw2).isSome = true) (hlock : b.lockstep = 0)
    (hmode : s.mode = .held) : ∃ u, exec (.resetInputFreed t openMs b) s = .next u ∧ s.startedFrom 1 u ∧ u.unt.power.rstStuck = false := by
  have hfreed : (s.tick t).resetFreed b = (s.tick t).bootOn b false := if_pos hmode
  exact ⟨_, (resetInputFreed_goes (.inl hmode)).trans (congrArg Host.Outcome.next hfreed),
    State.bootOn_started (s := s.tick t) hfw hlock false⟩

theorem resetInputFreed_open {openMs : Nat} (hmode : s.mode ≠ .held) (hopen : 50 ≤ openMs) :
    ∃ u, exec (.resetInputFreed t openMs b) s = .next u ∧ u.mode = s.mode ∧ u.unt.power.rstStuck = false ∧
      u.unt.power.rstIgnored = false := by
  have hfreed : (s.tick t).resetFreed b = (s.tick t).modPower fun p => { p with rstStuck := false, rstIgnored := false } := if_neg hmode
  exact ⟨_, (resetInputFreed_goes (.inr hopen)).trans (congrArg Host.Outcome.next hfreed), rfl, rfl, rfl⟩

theorem wake_enable {closedMs : Nat} {alarm : Option Nat} (hfw : (fwTake s.unt.fw1 s.unt.fw2).isSome = true) (hlock : b.lockstep = 0)
    (halarm : alarm.all (· < 2) = true) (hmode : s.mode = .off) (hclosed : 100 ≤ closedMs) :
    ∃ u, exec (.wake t closedMs alarm b) s = .next u ∧ s.startedFrom 3 u ∧ u.unt.power.enable = true := by
  have hwake := wake_goes (t := t) (b := b) halarm hmode (.inl hclosed)
  have hshut : (s.tick t).wakeEnable closedMs = (s.tick t).modPower fun p => { p with enable := true, enableSeen := true } :=
    if_pos (decide_eq_true hclosed)
  rw [hshut, if_pos (decide_eq_true hclosed)] at hwake
  obtain ⟨hstarted, -, henable, -⟩ :=
    ((s.tick t).modPower fun p => { p with enable := true, enableSeen := true }).boot_started b 3 false hfw hlock
  exact ⟨_, hwake, hstarted, henable⟩

theorem wake_alarm {closedMs k : Nat} (hfw : (fwTake s.unt.fw1 s.unt.fw2).isSome = true) (hlock : b.lockstep = 0) (hk : k < 2)
    (hmode : s.mode = .off) (hclosed : closedMs < 100) (hwakes : s.alarmWakes k = true) :
    ∃ u, exec (.wake t closedMs (some k) b) s = .next u ∧ s.startedFrom 4 u := by
  have hwake := wake_goes (t := t) (b := b) (alarm := some k) (closedMs := closedMs) (decide_eq_true hk) hmode (.inr ⟨k, rfl, hwakes⟩)
  have hopen : decide (100 ≤ closedMs) = false := decide_eq_false (by omega)
  have hshut : (s.tick t).wakeEnable closedMs = s.tick t := by
    rw [State.wakeEnable, hopen]
    rfl
  rw [hshut, hopen] at hwake
  exact ⟨_, hwake, ((s.tick t).boot_started b 4 false hfw hlock).1⟩

/-! ## ROLE_DECISION (R423) -/

/-- The token, or its absence, makes the unit the active one. -/
def State.decidesActive (s : State) : Bool :=
  if s.unt.pair.token = 0 then !s.unt.pair.unitB else decide (s.unt.pair.token = s.ownToken)

/-- The unit with its role, before strobe 0. -/
def State.roleTaken (s : State) : State := if s.decidesActive then (s.setRole 1 5).announce else s.setRole 2 5

theorem roleDecision_goes (hmode : s.mode = .deciding) (hhalo : s.unt.power.haloFault = false)
    (htoken : s.unt.pair.token ≠ 0 ∨ (s.tick t).tokenAway = true) :
    exec (.roleDecision t) s = .next (s.tick t).roleTaken.strobeZero := by
  have hcond : (decide (s.mode = .deciding) && !s.unt.power.haloFault && (decide (s.unt.pair.token ≠ 0) || (s.tick t).tokenAway)) = true := by
    have hgo : (decide (s.unt.pair.token ≠ 0) || (s.tick t).tokenAway) = true := by
      rcases htoken with h | h <;> simp [h]
    rw [decide_eq_true hmode, hhalo, hgo]
    rfl
  have hroles (x : State) : (if x.decidesActive then (x.setRole 1 5).announce.strobeZero else (x.setRole 2 5).strobeZero) =
      x.roleTaken.strobeZero := by
    unfold State.roleTaken
    split <;> rfl
  dsimp only [exec, execRoleDecision]
  exact (act_goes rfl hcond).trans (congrArg Host.Outcome.next (hroles _))

theorem State.roleTaken_role (s : State) : s.roleTaken.unt.pair.role = if s.decidesActive then 1 else 2 := by
  unfold State.roleTaken
  split
  · rw [State.announce_pair]
    exact State.setRole_role ..
  · exact State.setRole_role ..

theorem State.roleTaken_sameBut (s : State) : s.sameBut [.recd, .pair, .portSt] s.roleTaken := by
  have hannounce (x : State) : x.sameBut [.portSt] x.announce := State.sameBut_of_rest (State.announce_rest x (List.Subset.refl _))
  unfold State.roleTaken
  split
  · exact State.sameBut_mono (State.sameBut_trans (State.setRole_sameBut _ _ _) (hannounce _)) (by decide)
  · exact State.sameBut_mono (State.setRole_sameBut _ _ _) (by decide)

theorem roleDecision_served (hmode : s.mode = .deciding) (hhalo : s.unt.power.haloFault = false)
    (htoken : s.unt.pair.token ≠ 0 ∨ (s.tick t).tokenAway = true) : ∃ u, exec (.roleDecision t) s = .next u ∧ u.mode = .running ∧
      u.fr.strobeAt = max s.now t ∧ u.unt.pair.role = (if s.decidesActive then 1 else 2) ∧ u.port.owner = s.port.owner := by
  have e := roleDecision_goes hmode hhalo htoken
  refine ⟨_, e, State.strobeZero_mode _, ?_, ?_, (exec_sameBut e).owner (by simp [touches])⟩
  · exact (congrArg FrameClk.strobeAt (State.strobeZero_fr _)).trans ((State.roleTaken_sameBut _).now (by decide))
  · rw [(State.strobeZero_sameBut _).pair (by decide)]
    exact (s.tick t).roleTaken_role

end

/-- Settles O46: each command by the start-up that it begins, and the role decision by the role that it takes. -/
theorem startUps : Obligations.StartUps := by
  intro t b s hfw hlock
  refine ⟨powerOn_started hfw hlock, powerOn_held, powerOn_open, fun mv us hmode henable hmv hus => ?_, fun hawake hdue => ?_,
    fun c o hmode hheed hc ho => ?_, fun hmode hover => ?_, fun o => resetInputFreed_held hfw hlock,
    fun o => resetInputFreed_open, fun c a => wake_enable hfw hlock, fun c k => wake_alarm hfw hlock, roleDecision_served⟩
  · exact ⟨_, supplyRecovery_goes hmode henable hmv hus, ((s.tick t).boot_started b 2 false hfw hlock).1⟩
  · exact ⟨_, warmRestartBegin_goes hawake hdue, State.restart_started (s := s.tick t) hfw hlock 3 5⟩
  · exact ⟨_, resetButtonRelease_goes hmode hheed hc ho, State.restart_started (s := s.tick t) hfw hlock 4 6⟩
  · exact ⟨_, resetInputStuck_goes hmode hover, State.bootOn_started (s := s.tick t) hfw hlock true⟩

end Sys2Proof.Machine
end

section
/-! PROOFS. Memories (R467 to R486): what an access leaves in its codeword, what its decode counts and brings about, and the steps and
passes of Haze. -/

namespace Sys2Proof.Machine

/-! ## The words of a memory -/

theorem memWord_memPut_self (bank cw raw : Nat) (m : MemSt) : memWord bank cw (memPut bank cw raw m) = raw := tabGet_set_self ..

theorem memWord_memPut_ne {bank cw cw' : Nat} (raw : Nat) (m : MemSt) (h : cw ≠ cw') :
    memWord bank cw' (memPut bank cw raw m) = memWord bank cw' m :=
  tabGet_set_ne _ _ _ (by unfold wordKey; omega)

theorem memWord_congr {m n : MemSt} (h : m.words = n.words) (bank cw : Nat) : memWord bank cw m = memWord bank cw n :=
  congrArg (fun l => tabGet 0 l (wordKey bank cw)) h

section
variable (s : State) (k : Nat)

theorem State.unitEvs_none : s.unitEvs [] = s := by
  unfold State.unitEvs
  dsimp only
  split <;> rfl

theorem State.memOf_of_sameBut {s u : State} {ps : List Part} (h : s.sameBut ps u) (hps : .mem ∉ ps) (k : Nat) : u.memOf k = s.memOf k :=
  congrArg (fun l => tabGet ({} : MemSt) l k) (h.2.2 .mem hps)

theorem State.memOf_unitEvs (l : List EvReq) : (s.unitEvs l).memOf k = s.memOf k :=
  State.memOf_of_sameBut (State.sameBut_of_rest (State.unitEvs_rest l s (List.Subset.refl _))) (by decide) k

theorem State.memOf_putMem (x : MemSt × List EvReq) : (s.putMem k x).memOf k = x.1 := by
  unfold State.putMem
  rw [State.memOf_unitEvs]
  exact tabGet_set_self ..

theorem State.memOf_putMem_ne {j : Nat} (x : MemSt × List EvReq) (h : j ≠ k) : (s.putMem k x).memOf j = s.memOf j := by
  unfold State.putMem
  rw [State.memOf_unitEvs]
  exact tabGet_set_ne _ _ _ h.symm

theorem State.memOf_modMem (f : MemSt → MemSt) : (s.modMem k f).memOf k = f (s.memOf k) := s.memOf_putMem k _

theorem State.memOf_modMem_ne {j : Nat} (f : MemSt → MemSt) (h : j ≠ k) : (s.modMem k f).memOf j = s.memOf j := s.memOf_putMem_ne k _ h

theorem State.putMem_sameBut (x : MemSt × List EvReq) : s.sameBut [.recd, .mem] (s.putMem k x) :=
  State.sameBut_of_rest (State.putMem_rest k x s (List.Subset.refl _))

/-- A change of a memory without an event records nothing. -/
theorem State.putMem_quiet (m : MemSt) : s.sameBut [.mem] (s.putMem k (m, [])) := by
  unfold State.putMem
  rw [State.unitEvs_none]
  exact State.sameBut_of_rest (State.modUnt_rest s _ fun u => by simp [UnitPart.rest, cleared])

theorem State.modMem_sameBut (f : MemSt → MemSt) : s.sameBut [.mem] (s.modMem k f) := s.putMem_quiet k _

end

/-! ## A codeword after an access (R467, R470, R471, R476) -/

theorem mailboxMerge_alone (old : List Byte) (p : List (Option Byte)) :
    mailboxMerge old p [] = (old.zipIdx.map fun x => (p.getD x.2 none).getD x.1, 0) := by
  refine Prod.ext rfl ?_
  show List.foldl _ 0 (List.filter _ _) = 0
  rw [List.filter_eq_nil_iff.2]
  · rfl
  · intro i _
    cases p.getD i none <;> simp

/-- The patch of a write puts its bytes over those of the codeword. -/
theorem patch_write {old bytes : List Byte} {off : Nat} (h : off + bytes.length ≤ old.length) :
    (old.zipIdx.map fun x => ((accPatch (.write off bytes)).getD x.2 none).getD x.1) =
      old.take off ++ bytes ++ old.drop (off + bytes.length) := by
  refine List.ext_getElem (by simp; omega) fun i hi _ => ?_
  have hi' : i < old.length := by simpa using hi
  simp only [accPatch, List.getElem_map, List.getElem_zipIdx, List.getD_eq_getElem?_getD, Nat.zero_add]
  by_cases hbefore : i < off
  · rw [List.getElem?_append_left (by simpa using hbefore), List.getElem_append_left (by simp; omega),
      List.getElem_append_left (by simp; omega)]
    simp [hbefore]
  · by_cases hwithin : i < off + bytes.length
    · rw [List.getElem?_append_right (by simpa using hbefore), List.getElem_append_left (by simp; omega),
        List.getElem_append_right (by simp; omega)]
      have hlt : i - off < bytes.length := by omega
      have hmin : min off old.length = off := by omega
      simp [hlt, hmin]
    · rw [List.getElem?_append_right (by simpa using hbefore), List.getElem_append_right (by simp; omega)]
      have hge : bytes.length ≤ i - off := by omega
      have hmin : min off old.length = off := by omega
      have hsum : off + bytes.length + (i - (off + bytes.length)) = i := by omega
      simp [hge, hmin, hsum]

section
variable {raw : Nat} {d : RsOut} {a : MemAccess}

theorem accDone_performed (h : accWhole a = true ∨ d ≠ .uncorrectable) : accDone d a = a := by
  unfold accDone
  rw [if_pos (by rcases h with h | h <;> simp [h])]

/-- An access that writes nothing, or that is refused, leaves what the decode keeps. -/
theorem wordAfter_unwritten (h : accDone d a = .read) : wordAfter raw d a .read = (d.kept raw, 0) := by
  have hread : accDone d .read = .read := by
    unfold accDone
    split <;> rfl
  unfold wordAfter
  dsimp only
  rw [h, hread]
  rfl

theorem wordAfter_read : wordAfter raw d .read .read = (d.kept raw, 0) := by
  refine wordAfter_unwritten ?_
  unfold accDone
  split <;> rfl

theorem accPatch_write_nonempty {off : Nat} {bytes : List Byte} (h : accFits (.write off bytes) = true) :
    (accPatch (.write off bytes)).isEmpty = false := by
  have hlen : 0 < bytes.length := by
    simp only [accFits, Bool.and_eq_true, decide_eq_true_eq] at h
    exact h.1
  cases bytes with
  | nil => exact absurd hlen (by decide)
  | cons b r => simp [accPatch]

/-- A write that is performed makes the codeword whole again. -/
theorem wordAfter_write {off : Nat} {bytes : List Byte} (hfits : accFits (.write off bytes) = true)
    (h : accWhole (.write off bytes) = true ∨ d ≠ .uncorrectable) : wordAfter raw d (.write off bytes) .read =
      (rawNumber (rsEncode (((toBytes 32 (d.kept raw)).take off ++ bytes ++
        (toBytes 32 (d.kept raw)).drop (off + bytes.length)).map (·.toNat))), 0) := by
  have hread : accPatch (accDone d .read) = [] := by
    unfold accDone
    split <;> rfl
  have hlen : off + bytes.length ≤ (toBytes 32 (d.kept raw)).length := by
    rw [toBytes_length]
    simp only [accFits, Bool.and_eq_true, decide_eq_true_eq] at hfits
    exact hfits.2
  unfold wordAfter
  dsimp only
  rw [accDone_performed h, hread, accPatch_write_nonempty hfits, mailboxMerge_alone, patch_write hlen]
  rfl

/-- A refused write leaves the codeword beyond correction as it is (R476). -/
theorem wordAfter_refused (hwhole : accWhole a = false) (hd : d = .uncorrectable) : wordAfter raw d a .read = (raw, 0) := by
  rw [wordAfter_unwritten, hd, RsOut.kept]
  · intro fix h
    cases h
  · rw [accDone, if_neg (by simp [hwhole, hd])]

/-- An access alone discards no bytes. -/
theorem wordAfter_alone (hfits : accFits a = true) : (wordAfter raw d a .read).2 = 0 := by
  cases a with
  | read => rw [wordAfter_read]
  | write off bytes =>
    by_cases h : accWhole (.write off bytes) = true ∨ d ≠ .uncorrectable
    · rw [wordAfter_write hfits h]
    · simp only [not_or, not_not, Bool.not_eq_true] at h
      rw [wordAfter_refused h.1 h.2]

end

/-! ## What a decode counts and brings about (R474, R475) -/

section
variable {s : State} {mem bank cw req : Nat} {cells : List Nat} {d : RsOut} {a : MemAccess}

theorem State.poison_testBit (k cause : Nat) (s : State) : (s.poison k cause).eng.poison.testBit k = true :=
  (testBit_setBit ..).trans (if_pos rfl)

theorem State.poisonNow_memUncorr (k cause : Nat) (s : State) :
    (s.poisonNow k cause).unt.mdiag.memUncorr = s.unt.mdiag.memUncorr := by
  have hreport (x : State) : x.poisonReport.unt.mdiag.memUncorr = x.unt.mdiag.memUncorr := by
    unfold State.poisonReport
    split
    · rfl
    · rw [State.unitEvs_unt]
      rfl
  unfold State.poisonNow
  dsimp only
  split
  · split
    · rw [(State.unsync_sameBut _ 3).2.2 .mdiag (by decide), hreport]
      rfl
    · exact (hreport _).trans rfl
  · rfl

theorem State.readFails_poisons {x : Nat × Nat} (hx : readPoisons mem bank cw req = some x) (hlive : s.live = true) :
    (s.readFails mem bank cw req cells).eng.poison.testBit x.1 = true := by
  have hnow (y : State) : (y.poisonNow x.1 x.2).eng.poison.testBit x.1 = true := by
    rw [(State.poisonNow_keeps x.1 x.2 y).1]
    exact y.poison_testBit x.1 x.2
  unfold State.readFails
  rw [hx]
  dsimp only
  rw [hlive, if_neg (by decide)]
  split
  · exact hnow _
  · exact hnow _

theorem State.readFails_memUncorr : (s.readFails mem bank cw req cells).unt.mdiag.memUncorr = s.unt.mdiag.memUncorr := by
  have hpayloads : (s.blockPayloads bank cw).unt.mdiag = s.unt.mdiag :=
    (State.sameBut_of_rest (State.blockPayloads_rest (ps := [.can]) bank cw s (by decide))).2.2 .mdiag (by decide)
  unfold State.readFails
  cases readPoisons mem bank cw req with
  | some x =>
    dsimp only
    split
    · rfl
    · split
      · exact (State.poisonNow_memUncorr ..).trans rfl
      · exact State.poisonNow_memUncorr ..
  | none =>
    dsimp only
    split
    · split <;> rfl
    · split
      · rfl
      · split
        · rw [hpayloads]
        · split
          · split <;> rfl
          · split <;> rfl

theorem State.readFails_eng (hx : readPoisons mem bank cw req = none) : (s.readFails mem bank cw req cells).eng = s.eng := by
  have hpayloads : (s.blockPayloads bank cw).eng = s.eng :=
    (State.sameBut_of_rest (State.blockPayloads_rest (ps := [.can]) bank cw s (by decide))).eng (by decide)
  unfold State.readFails
  rw [hx]
  dsimp only
  split
  · split <;> rfl
  · split
    · rfl
    · split
      · exact hpayloads
      · split
        · split <;> rfl
        · split <;> rfl

theorem State.readFails_discards {p : Nat} (hp : commandBuffer mem bank cw = some p) (hreq : req = 0x0B) :
    s.readFails mem bank cw req cells = s.modPortSt p fun x => { x with pktDiscard := satN 16 (x.pktDiscard + 1) } := by
  have hx : readPoisons mem bank cw req = none := if_pos ⟨by rw [hp]; rfl, hreq⟩
  unfold State.readFails
  rw [hx]
  dsimp only
  rw [if_pos hreq, hp]

theorem State.readFails_sameBut : s.sameBut [.eng, .recd, .can, .mdiag, .regs, .pair, .portSt] (s.readFails mem bank cw req cells) :=
  State.sameBut_of_rest (State.readFails_rest _ _ _ _ _ _ (List.Subset.refl _))

/-- The memory with an uncorrectable read counted, before the reaction of the requester. -/
def State.uncorrCounted (mem bank cw req : Nat) (s : State) : State :=
  (s.putMem mem (memUncorrectable mem bank cw req (s.poisonedFrame mem bank cw req) (s.memOf mem))).modMdiag fun d =>
    { d with memUncorr := true }

theorem State.accessBy_uncorrectable : s.accessBy mem bank cw req cells .uncorrectable =
    (s.uncorrCounted mem bank cw req).readFails mem bank cw req cells := rfl

theorem State.uncorrCounted_sameBut : s.sameBut [.recd, .mem, .mdiag] (s.uncorrCounted mem bank cw req) :=
  State.sameBut_mono (State.sameBut_trans (s.putMem_sameBut mem _)
    (State.sameBut_of_rest (State.modMdiag_rest (ps := [.mdiag]) _ _ (by decide)))) (by decide)

theorem State.uncorrCounted_memOf : (s.uncorrCounted mem bank cw req).memOf mem =
    { memMark bank 2 cw req (s.memOf mem) with uncorr := satN 16 ((s.memOf mem).uncorr + 1) } :=
  (show (s.uncorrCounted mem bank cw req).memOf mem = (s.putMem mem _).memOf mem from rfl).trans (s.memOf_putMem mem _)

theorem State.uncorrCounted_memOf_ne {k : Nat} (hk : k ≠ mem) : (s.uncorrCounted mem bank cw req).memOf k = s.memOf k :=
  (show (s.uncorrCounted mem bank cw req).memOf k = (s.putMem mem _).memOf k from rfl).trans (s.memOf_putMem_ne mem _ hk)

/-- A decode touches its own memory alone, and no codeword of it. -/
theorem State.accessBy_memOf : (∀ k, k ≠ mem → (s.accessBy mem bank cw req cells d).memOf k = s.memOf k) ∧
    ((s.accessBy mem bank cw req cells d).memOf mem).words = (s.memOf mem).words := by
  cases d with
  | clean => exact ⟨fun _ _ => rfl, rfl⟩
  | corrected x => exact ⟨fun k hk => s.memOf_putMem_ne mem _ hk, (congrArg MemSt.words (s.memOf_putMem mem _)).trans rfl⟩
  | uncorrectable =>
    rw [State.accessBy_uncorrectable]
    refine ⟨fun k hk => ?_, ?_⟩
    · rw [State.memOf_of_sameBut State.readFails_sameBut (by decide), State.uncorrCounted_memOf_ne hk]
    · rw [State.memOf_of_sameBut State.readFails_sameBut (by decide), State.uncorrCounted_memOf]
      rfl

theorem State.portAccess_memOf : (∀ k, k ≠ mem → (s.portAccess mem bank cw req cells d a).memOf k = s.memOf k) ∧
    ((s.portAccess mem bank cw req cells d a).memOf mem).words = (s.memOf mem).words := by
  unfold State.portAccess
  split
  · exact ⟨fun _ _ => rfl, rfl⟩
  · exact State.accessBy_memOf

theorem State.portAccess_reads (ha : accWhole a = false) :
    s.portAccess mem bank cw req cells d a = s.accessBy mem bank cw req cells d := by
  rw [State.portAccess, ha]
  rfl

/-- An access that decodes nothing, or a clean codeword, leaves its counts. -/
theorem State.portAccess_idle (h : accWhole a = true ∨ d = .clean) : s.portAccess mem bank cw req cells d a = s := by
  unfold State.portAccess
  split
  · rfl
  · next ha =>
    rw [h.resolve_left ha]
    rfl

end

/-! ## One access (R467 to R476) -/

section
variable (mem bank cw flip : Nat) (s : State)

/-- The codeword as the access finds it, with the bits that have flipped. -/
def State.rawAt : Nat := memWord bank cw (s.memOf mem) ^^^ flip

/-- The memory with the codeword as the access leaves it. -/
def State.stored (a : MemAccess) (s : State) : State :=
  s.modMem mem (memPut bank cw (wordAfter (s.rawAt mem bank cw flip) (rawDecode (s.rawAt mem bank cw flip)) a .read).1)

theorem State.stored_sameBut (a : MemAccess) : s.sameBut [.mem] (s.stored mem bank cw flip a) := s.modMem_sameBut mem _

theorem State.stored_memOf (a : MemAccess) : (s.stored mem bank cw flip a).memOf mem =
    memPut bank cw (wordAfter (s.rawAt mem bank cw flip) (rawDecode (s.rawAt mem bank cw flip)) a .read).1 (s.memOf mem) :=
  s.memOf_modMem mem _

variable (req : Nat) (cells : List Nat) {a : MemAccess} (hfits : accFits a = true)
include hfits

theorem State.access_alone : s.access mem bank cw req flip a none cells =
    (s.stored mem bank cw flip a).portAccess mem bank cw req cells (rawDecode (s.rawAt mem bank cw flip)) a := by
  show State.collide cw (wordAfter (s.rawAt mem bank cw flip) (rawDecode (s.rawAt mem bank cw flip)) a .read).2 _ = _
  rw [wordAfter_alone hfits]
  rfl

theorem State.access_memOf_ne {k : Nat} (hk : k ≠ mem) : (s.access mem bank cw req flip a none cells).memOf k = s.memOf k := by
  rw [State.access_alone mem bank cw flip s req cells hfits, State.portAccess_memOf.1 k hk]
  exact s.memOf_modMem_ne mem _ hk

/-- What the codeword holds after an access. -/
theorem State.access_word : memWord bank cw ((s.access mem bank cw req flip a none cells).memOf mem) =
    (wordAfter (s.rawAt mem bank cw flip) (rawDecode (s.rawAt mem bank cw flip)) a .read).1 := by
  rw [State.access_alone mem bank cw flip s req cells hfits, memWord_congr State.portAccess_memOf.2, State.stored_memOf,
    memWord_memPut_self]

/-- An access without a decode that counts writes its codeword alone. -/
theorem State.access_idle (h : accWhole a = true ∨ rawDecode (s.rawAt mem bank cw flip) = .clean) :
    s.access mem bank cw req flip a none cells = s.stored mem bank cw flip a := by
  rw [State.access_alone mem bank cw flip s req cells hfits, State.portAccess_idle h]

/-- A corrected codeword (R474). -/
theorem State.access_corrected (hwhole : accWhole a = false) {x : List Nat} (hd : rawDecode (s.rawAt mem bank cw flip) = .corrected x) :
    let u := s.access mem bank cw req flip a none cells
    (u.memOf mem).corr = satN 16 ((s.memOf mem).corr + 1) ∧ (u.memOf mem).uncorr = (s.memOf mem).uncorr ∧ (u.memOf mem).lastKind = 1 ∧
      (u.memOf mem).lastCw = cw ∧ s.sameBut [.mem, .recd] u := by
  have he : s.access mem bank cw req flip a none cells = (s.stored mem bank cw flip a).putMem mem
      (memCorrected mem bank cw req ((s.stored mem bank cw flip a).opMs (s.stored mem bank cw flip a).now)
        ((s.stored mem bank cw flip a).memOf mem)) := by
    rw [State.access_alone mem bank cw flip s req cells hfits, State.portAccess_reads hwhole, hd]
    rfl
  dsimp only
  rw [he, State.memOf_putMem, State.stored_memOf]
  exact ⟨rfl, rfl, rfl, rfl, State.sameBut_mono (State.sameBut_trans (s.stored_sameBut mem bank cw flip a)
    (State.putMem_sameBut _ mem _)) (by decide)⟩

/-- A codeword beyond correction, with the reaction of its requester (R475). -/
theorem State.access_uncorrectable (hwhole : accWhole a = false) (hd : rawDecode (s.rawAt mem bank cw flip) = .uncorrectable) :
    let u := s.access mem bank cw req flip a none cells
    (u.memOf mem).uncorr = satN 16 ((s.memOf mem).uncorr + 1) ∧ (u.memOf mem).lastKind = 2 ∧ (u.memOf mem).lastReq = req ∧
      u.unt.mdiag.memUncorr = true ∧
      (∀ x, readPoisons mem bank cw req = some x → s.mode = .running → u.eng.poison.testBit x.1 = true) ∧
      (readPoisons mem bank cw req = none → u.eng = s.eng) ∧
      (∀ p, commandBuffer mem bank cw = some p → req = 0x0B → (u.portOf p).pktDiscard = satN 16 ((s.portOf p).pktDiscard + 1)) := by
  have he : s.access mem bank cw req flip a none cells =
      ((s.stored mem bank cw flip a).uncorrCounted mem bank cw req).readFails mem bank cw req cells := by
    rw [State.access_alone mem bank cw flip s req cells hfits, State.portAccess_reads hwhole, hd, State.accessBy_uncorrectable]
  have hcount : s.sameBut [.mem, .recd, .mdiag] ((s.stored mem bank cw flip a).uncorrCounted mem bank cw req) :=
    State.sameBut_mono (State.sameBut_trans (s.stored_sameBut mem bank cw flip a) State.uncorrCounted_sameBut) (by decide)
  dsimp only
  rw [he, State.memOf_of_sameBut State.readFails_sameBut (by decide), State.uncorrCounted_memOf, State.stored_memOf]
  refine ⟨rfl, rfl, rfl, State.readFails_memUncorr.trans rfl, fun x hx hmode => ?_, fun hx => ?_, fun p hp hreq => ?_⟩
  · exact State.readFails_poisons hx (decide_eq_true ((hcount.mode (by decide)).trans hmode))
  · rw [State.readFails_eng hx, hcount.eng (by decide)]
  · rw [State.readFails_discards hp hreq]
    rw [State.portOf_modPortSt]
    exact congrArg (fun l => satN 16 ((tabGet ({} : PortSt) l p).pktDiscard + 1)) (hcount.2.2 .portSt (by decide))

end

end Sys2Proof.Machine
end

section
/-! PROOFS. CORRECTION_WRITEBACK, the mailbox and MRAM (R470 to R476, R485), Haze (R479 to R483), and the readback of a store
(R549). -/

namespace Sys2Proof.Machine

/-! ## CORRECTION_WRITEBACK (R474) -/

section
variable {t mem bank cw req flip : Nat} {a : MemAccess} {cells : List Nat} {s : State}

theorem correctionWriteback_goes {port1 : Option MemAccess} (hhas : memHas mem bank cw = true) (hfits : accFits a = true)
    (hport : ((port1.map accFits).getD true && (port1.isNone || (decide (mem = 0x14) && decide (bank = 8)))) = true)
    (hawake : s.awake = true) (hreach : memReach s.live mem req = true) :
    exec (.correctionWriteback t mem bank cw req ⟨flip, a, port1, cells⟩) s = .next (if mem = 0x16 then
      (s.tick t).mramAccess bank cw req flip else (s.tick t).access mem bank cw req flip a port1 cells) := by
  have hok : (memHas mem bank cw && accFits a && (port1.map accFits).getD true &&
      (port1.isNone || (decide (mem = 0x14) && decide (bank = 8)))) = true := by
    rw [hhas, hfits, Bool.true_and, Bool.true_and]
    exact hport
  have hcond : (s.awake && memReach s.live mem req) = true := by
    rw [hawake, hreach]
    rfl
  dsimp only [exec, execCorrectionWriteback]
  exact act_goes hok hcond

/-- One access through port 0 to a memory other than MRAM. -/
theorem access_goes (hmem : mem < 0x16) (hhas : memHas mem bank cw = true) (hfits : accFits a = true) (hawake : s.awake = true)
    (hreach : memReach s.live mem req = true) : exec (.correctionWriteback t mem bank cw req ⟨flip, a, none, cells⟩) s =
      .next ((s.tick t).access mem bank cw req flip a none cells) :=
  (correctionWriteback_goes hhas hfits rfl hawake hreach).trans (congrArg Host.Outcome.next (if_neg (by omega)))

theorem access_served (hmem : mem < 0x16) (hhas : memHas mem bank cw = true) (hfits : accFits a = true) (hawake : s.awake = true)
    (hreach : memReach s.live mem req = true) :
    let raw := memWord bank cw (s.memOf mem) ^^^ flip
    let d := rawDecode raw
    ∃ u, exec (.correctionWriteback t mem bank cw req ⟨flip, a, none, cells⟩) s = .next u ∧
      (∀ k, k ≠ mem → u.memOf k = s.memOf k) ∧ (a = .read → memWord bank cw (u.memOf mem) = d.kept raw) ∧
      (∀ off bytes, a = .write off bytes → (accWhole a = true ∨ d ≠ .uncorrectable) → memWord bank cw (u.memOf mem) =
        rawNumber (rsEncode (((toBytes 32 (d.kept raw)).take off ++ bytes ++ (toBytes 32 (d.kept raw)).drop (off + bytes.length)).map
          (·.toNat)))) ∧
      (a ≠ .read → accWhole a = false → d = .uncorrectable → memWord bank cw (u.memOf mem) = raw) ∧
      ((accWhole a = true ∨ d = .clean) → (u.memOf mem).corr = (s.memOf mem).corr ∧ (u.memOf mem).uncorr = (s.memOf mem).uncorr ∧
        s.sameBut [.now, .mem] u) ∧
      (accWhole a = false → (∃ x, d = .corrected x) → (u.memOf mem).corr = satN 16 ((s.memOf mem).corr + 1) ∧
        (u.memOf mem).uncorr = (s.memOf mem).uncorr ∧ (u.memOf mem).lastKind = 1 ∧ (u.memOf mem).lastCw = cw ∧
        s.sameBut [.now, .mem, .recd] u) ∧
      (accWhole a = false → d = .uncorrectable → (u.memOf mem).uncorr = satN 16 ((s.memOf mem).uncorr + 1) ∧
        (u.memOf mem).lastKind = 2 ∧ (u.memOf mem).lastReq = req ∧ u.unt.mdiag.memUncorr = true ∧
        (∀ x, readPoisons mem bank cw req = some x → s.mode = .running → u.eng.poison.testBit x.1 = true) ∧
        (readPoisons mem bank cw req = none → u.eng = s.eng) ∧
        (∀ p, commandBuffer mem bank cw = some p → req = 0x0B →
          (u.portOf p).pktDiscard = satN 16 ((s.portOf p).pktDiscard + 1))) := by
  intro raw d
  have hword := (s.tick t).access_word mem bank cw flip req cells hfits
  refine ⟨_, access_goes hmem hhas hfits hawake hreach, fun k hk => ?_, ?_, ?_, fun _ hwhole hd => ?_, fun hidle => ?_,
    fun hwhole hd => ?_, fun hwhole hd => ?_⟩
  · exact (s.tick t).access_memOf_ne mem bank cw flip req cells hfits hk
  · rintro rfl
    rw [hword, wordAfter_read]
    rfl
  · rintro off bytes rfl hdone
    exact hword.trans (congrArg Prod.fst (wordAfter_write hfits hdone))
  · exact hword.trans (congrArg Prod.fst (wordAfter_refused hwhole hd))
  · rw [(s.tick t).access_idle mem bank cw flip req cells hfits hidle, State.stored_memOf]
    exact ⟨rfl, rfl, State.sameBut_mono (State.sameBut_trans (s.tick_sameBut t) (State.stored_sameBut ..)) (by decide)⟩
  · obtain ⟨x, hd⟩ := hd
    obtain ⟨hcorr, huncorr, hkind, hcw, hsame⟩ := (s.tick t).access_corrected mem bank cw flip req cells hfits hwhole hd
    exact ⟨hcorr, huncorr, hkind, hcw, State.sameBut_mono (State.sameBut_trans (s.tick_sameBut t) hsame) (by decide)⟩
  · exact (s.tick t).access_uncorrectable mem bank cw flip req cells hfits hwhole hd

end

/-! ## Both ports of the mailbox (R470, R471) -/

/-- Places at which two writes of all 32 bytes differ. -/
def differing (x y : List Byte) : List Nat := (List.range 32).filter fun i => decide (x.getD i 0 ≠ y.getD i 0)

/-- The mask of those places. -/
def differMask (x y : List Byte) : Nat := (differing x y).foldl (fun m i => m + 2 ^ i) 0

theorem foldl_pow_ge (l : List Nat) (m : Nat) : m ≤ l.foldl (fun m i => m + 2 ^ i) m := by
  induction l generalizing m with
  | nil => exact Nat.le_refl m
  | cons i l ih => exact Nat.le_trans (Nat.le_add_right m _) (ih _)

theorem differMask_self (x : List Byte) : differMask x x = 0 := by
  have hnone : differing x x = [] := List.filter_eq_nil_iff.2 fun i _ => by simp
  rw [differMask, hnone]
  rfl

theorem differMask_ne {x y : List Byte} (hx : x.length = 32) (hy : y.length = 32) (h : x ≠ y) : differMask x y ≠ 0 := by
  unfold differMask
  cases hl : differing x y with
  | nil =>
    refine absurd (List.ext_getElem (hx.trans hy.symm) fun i hi hi' => ?_) h
    have hsame := List.filter_eq_nil_iff.1 hl i (List.mem_range.2 (hx ▸ hi))
    simpa [List.getD_eq_getElem?_getD, hi, hi'] using hsame
  | cons i l =>
    have hpos : 0 < 2 ^ i := Nat.two_pow_pos i
    have hge := foldl_pow_ge l (0 + 2 ^ i)
    rw [List.foldl_cons]
    omega

/-- Of two writes of all 32 bytes the one through port 0 stands (R471). -/
theorem mailboxMerge_whole {old x y : List Byte} (hold : old.length = 32) (hx : x.length = 32) (hy : y.length = 32) :
    mailboxMerge old (x.map some) (y.map some) = (x, differMask x y) := by
  refine Prod.ext ?_ ?_
  · refine List.ext_getElem (by simp [mailboxMerge, hold, hx]) fun i hi hi' => ?_
    simp [mailboxMerge, hi']
  · show List.foldl _ 0 (List.filter _ _) = List.foldl _ 0 (List.filter _ _)
    refine congrArg (List.foldl _ 0) ?_
    rw [hold]
    refine List.filter_congr fun i hi => ?_
    have hi' := List.mem_range.1 hi
    have hix : i < x.length := by omega
    have hiy : i < y.length := by omega
    simp [List.getD_eq_getElem?_getD, hix, hiy]

section
variable {raw : Nat} {d : RsOut} {x y : List Byte} (hx : x.length = 32) (hy : y.length = 32)

theorem accWhole_write {l : List Byte} (hl : l.length = 32) : accWhole (.write 0 l) = true := by
  rw [accWhole, hl]
  rfl

theorem accFits_write {l : List Byte} (hl : l.length = 32) : accFits (.write 0 l) = true := by
  rw [accFits, hl]
  rfl

include hx hy

theorem wordAfter_whole : wordAfter raw d (.write 0 x) (.write 0 y) = (rawNumber (rsEncode (x.map (·.toNat))), differMask x y) := by
  have hpatch (l : List Byte) (hl : l.length = 32) : accPatch (accDone d (.write 0 l)) = l.map some := by
    rw [accDone_performed (.inl (accWhole_write hl))]
    rfl
  have hsome : (x.map some).isEmpty = false := by
    cases x with
    | nil => cases hx
    | cons b r => rfl
  unfold wordAfter
  dsimp only
  rw [hpatch x hx, hpatch y hy, hsome, mailboxMerge_whole (toBytes_length ..) hx hy]
  rfl

variable (cw req flip : Nat) (cells : List Nat) (s : State)

/-- The mailbox with the codeword that both ports have written. -/
def State.mailStored (cw : Nat) (x : List Byte) (s : State) : State :=
  s.modMem 0x14 (memPut 8 cw (rawNumber (rsEncode (x.map (·.toNat)))))

theorem State.access_whole : s.access 0x14 8 cw req flip (.write 0 x) (some (.write 0 y)) cells =
    (s.mailStored cw x).collide cw (differMask x y) := by
  unfold State.access
  dsimp only [Option.getD_some]
  rw [wordAfter_whole hx hy, State.portAccess_idle (.inl (accWhole_write hx)), State.portAccess_idle (.inl (accWhole_write hy))]
  rfl

end

theorem State.mailStored_sameBut (cw : Nat) (x : List Byte) (s : State) : s.sameBut [.mem] (s.mailStored cw x) := s.modMem_sameBut _ _

theorem State.mailStored_word (cw : Nat) (x : List Byte) (s : State) :
    memWord 8 cw ((s.mailStored cw x).memOf 0x14) = rawNumber (rsEncode (x.map (·.toNat))) := by
  rw [State.mailStored, State.memOf_modMem, memWord_memPut_self]

/-- Bytes of port 1 that were discarded are counted and reported (R471). -/
theorem State.collide_some {cw mask : Nat} {s : State} (h : mask ≠ 0) : let u := s.collide cw mask
    u.unt.mdiag.collide = satN 16 (s.unt.mdiag.collide + 1) ∧ u.unt.mdiag.memCollide = true ∧ s.sameBut [.mdiag, .recd] u := by
  have hq : s.sameBut [.mdiag, .recd] (s.collide cw mask) := State.sameBut_of_rest (State.collide_rest _ _ _ (by decide))
  dsimp only
  refine ⟨?_, ?_, hq⟩
  all_goals
    unfold State.collide
    rw [if_neg h, State.unitEvs_unt]
    rfl

theorem mailbox_served {t cw req flip : Nat} {x y : List Byte} {cells : List Nat} {s : State} (hcw : cw < 2048) (hx : x.length = 32)
    (hy : y.length = 32) (hawake : s.awake = true) (hreach : memReach s.live 0x14 req = true) :
    ∃ u, exec (.correctionWriteback t 0x14 8 cw req ⟨flip, .write 0 x, some (.write 0 y), cells⟩) s = .next u ∧
      memWord 8 cw (u.memOf 0x14) = rawNumber (rsEncode (x.map (·.toNat))) ∧
      (x = y → s.sameBut [.now, .mem] u) ∧
      (x ≠ y → u.unt.mdiag.collide = satN 16 (s.unt.mdiag.collide + 1) ∧ u.unt.mdiag.memCollide = true ∧
        s.sameBut [.now, .mem, .mdiag, .recd] u) := by
  have hhas : memHas 0x14 8 cw = true := by simp [memHas, hcw]
  have hport : (((some (MemAccess.write 0 y)).map accFits).getD true && ((some (MemAccess.write 0 y)).isNone ||
      (decide (0x14 = 0x14) && decide (8 = 8)))) = true := by
    rw [Option.map_some, accFits_write hy]
    rfl
  have e : exec (.correctionWriteback t 0x14 8 cw req ⟨flip, .write 0 x, some (.write 0 y), cells⟩) s =
      .next (((s.tick t).mailStored cw x).collide cw (differMask x y)) :=
    (correctionWriteback_goes hhas (accFits_write hx) hport hawake hreach).trans
      (congrArg Host.Outcome.next ((if_neg (by decide)).trans (State.access_whole hx hy cw req flip cells _)))
  have hstored := State.sameBut_trans (s.tick_sameBut t) ((s.tick t).mailStored_sameBut cw x)
  have hmem : (((s.tick t).mailStored cw x).collide cw (differMask x y)).memOf 0x14 = ((s.tick t).mailStored cw x).memOf 0x14 :=
    State.memOf_of_sameBut (State.sameBut_of_rest (State.collide_rest (ps := [.recd, .mdiag]) _ _ _ (by decide))) (by decide) _
  refine ⟨_, e, ?_, fun h => ?_, fun h => ?_⟩
  · rw [hmem, State.mailStored_word]
  · rw [h, differMask_self]
    exact State.sameBut_mono (State.sameBut_trans (s.tick_sameBut t) ((s.tick t).mailStored_sameBut cw y)) (by decide)
  · obtain ⟨hcollide, hheld, hsame⟩ := State.collide_some (cw := cw) (s := (s.tick t).mailStored cw x) (differMask_ne hx hy h)
    have hmdiag : ((s.tick t).mailStored cw x).unt.mdiag = s.unt.mdiag := hstored.2.2 .mdiag (by decide)
    rw [hmdiag] at hcollide
    exact ⟨hcollide, hheld, State.sameBut_mono (State.sameBut_trans hstored hsame) (by decide)⟩

/-! ## MRAM (R485) -/

section
variable (bank cw req flip : Nat) (s : State)

/-- The word of MRAM as a read finds it. -/
def State.mramRaw : Nat := memWord bank cw (s.memOf 0x16) ^^^ flip

/-- Bits of a word of MRAM that have flipped. -/
def mramFlips (raw : Nat) : Nat := ((List.range 72).filter raw.testBit).length

/-- MRAM with its word `v`. -/
def State.mramStored (v : Nat) (s : State) : State := s.modMem 0x16 (memPut bank cw v)

theorem State.mramStored_sameBut (v : Nat) : s.sameBut [.mem] (s.mramStored bank cw v) := s.modMem_sameBut _ _
theorem State.mramStored_memOf (v : Nat) : (s.mramStored bank cw v).memOf 0x16 = memPut bank cw v (s.memOf 0x16) := s.memOf_modMem _ _
theorem State.mramStored_memOf_ne {k : Nat} (v : Nat) (hk : k ≠ 0x16) : (s.mramStored bank cw v).memOf k = s.memOf k :=
  s.memOf_modMem_ne _ _ hk

/-- A read of MRAM touches no other memory. -/
theorem State.mramAccess_memOf_ne {k : Nat} (hk : k ≠ 0x16) : (s.mramAccess bank cw req flip).memOf k = s.memOf k := by
  unfold State.mramAccess
  extract_lets raw n kind fixed s1
  have hs1 : s1.memOf k = s.memOf k := s.memOf_modMem_ne _ _ hk
  split
  · rw [State.memOf_putMem_ne _ _ _ hk, hs1]
  · split
    · rw [State.memOf_unitEvs]
      exact (State.memOf_modMem_ne _ _ _ hk).trans hs1
    · exact hs1

variable {bank cw flip s}

theorem State.mramAccess_clean (hn : mramFlips (s.mramRaw bank cw flip) = 0) :
    s.mramAccess bank cw req flip = s.mramStored bank cw (s.mramRaw bank cw flip) := by
  unfold mramFlips State.mramRaw at hn
  unfold State.mramAccess
  dsimp only
  rw [hn]
  rfl

theorem State.mramAccess_one (hn : mramFlips (s.mramRaw bank cw flip) = 1) : s.mramAccess bank cw req flip =
    (s.mramStored bank cw 0).putMem 0x16 (memCorrected 0x16 bank cw req (s.opMs s.now) ((s.mramStored bank cw 0).memOf 0x16)) := by
  unfold mramFlips State.mramRaw at hn
  unfold State.mramAccess
  dsimp only
  rw [hn]
  rfl

/-- MRAM with a word beyond correction marked. -/
def State.mramMarked (bank cw req v : Nat) (s : State) : State :=
  ((s.mramStored bank cw v).modMem 0x16 (memMark bank 2 cw req)).modMdiag fun d => { d with memUncorr := true }

theorem State.mramAccess_two (hn : mramFlips (s.mramRaw bank cw flip) = 2) : s.mramAccess bank cw req flip =
    (s.mramMarked bank cw req (s.mramRaw bank cw flip)).unitEvs [{ code := 0x1008, src := 0x16, p1 := 8 * (65536 * bank + cw) }] := by
  unfold mramFlips State.mramRaw at hn
  unfold State.mramAccess
  dsimp only
  rw [hn]
  rfl

theorem State.mramMarked_sameBut (v : Nat) : s.sameBut [.mem, .mdiag] (s.mramMarked bank cw req v) :=
  State.sameBut_mono (State.sameBut_trans (State.sameBut_trans (s.mramStored_sameBut bank cw v) (State.modMem_sameBut _ _ _))
    (State.sameBut_of_rest (State.modMdiag_rest (ps := [.mdiag]) _ _ (by decide)))) (by decide)

theorem State.mramMarked_memOf (v : Nat) : (s.mramMarked bank cw req v).memOf 0x16 =
    memMark bank 2 cw req (memPut bank cw v (s.memOf 0x16)) :=
  (State.memOf_modMem _ _ _).trans (congrArg (memMark bank 2 cw req) (s.mramStored_memOf bank cw v))

end

/-- Events of a unit are the same records on two states that agree in what a stamp and the recorder read. -/
theorem State.unitEvs_recd_of_sameBut {x y : State} {ps : List Part} (l : List EvReq) (h : x.sameBut ps y)
    (hps : ∀ p ∈ ([.now, .mode, .clock, .pair, .replay, .recd, .fr] : List Part), p ∉ ps) : (y.unitEvs l).recd = (x.unitEvs l).recd := by
  have hmode : y.mode = x.mode := h.2.2 .mode (hps _ (by decide))
  have hrecd : y.recd = x.recd := h.2.2 .recd (hps _ (by decide))
  have hnow : y.now = x.now := h.2.2 .now (hps _ (by decide))
  have hpair : y.unt.pair = x.unt.pair := h.2.2 .pair (hps _ (by decide))
  have hreplay : y.port.replay = x.port.replay := h.2.2 .replay (hps _ (by decide))
  have hfr : y.fr = x.fr := h.2.2 .fr (hps _ (by decide))
  obtain ⟨hbase, hfrom⟩ : y.opBase = x.opBase ∧ y.opFrom = x.opFrom := h.2.2 .clock (hps _ (by decide))
  refine State.unitEvs_recd_congr l ?_ ?_ hrecd
  · simp only [State.stamp, State.opMs, State.live, hmode, hrecd, hnow, hpair, hreplay, hfr, hbase, hfrom]
    rfl
  · simp only [State.zenithRuns, hmode]

theorem mram_served {t bank cw req flip : Nat} {a : MemAccess} {cells : List Nat} {s : State} (hhas : memHas 0x16 bank cw = true)
    (hfits : accFits a = true) (hawake : s.awake = true) (hreach : memReach s.live 0x16 req = true) :
    let raw := memWord bank cw (s.memOf 0x16) ^^^ flip
    let n := ((List.range 72).filter raw.testBit).length
    ∃ u, exec (.correctionWriteback t 0x16 bank cw req ⟨flip, a, none, cells⟩) s = .next u ∧
      (∀ k, k ≠ 0x16 → u.memOf k = s.memOf k) ∧
      (n = 0 → (u.memOf 0x16).corr = (s.memOf 0x16).corr ∧ s.sameBut [.now, .mem] u) ∧
      (n = 1 → (u.memOf 0x16).corr = satN 16 ((s.memOf 0x16).corr + 1) ∧ memWord bank cw (u.memOf 0x16) = 0 ∧
        s.sameBut [.now, .mem, .recd] u) ∧
      (n = 2 → (u.memOf 0x16).lastKind = 2 ∧ (u.memOf 0x16).lastCw = cw ∧ u.unt.mdiag.memUncorr = true ∧
        u.recd = ((s.tick t).unitEvs [{ code := 0x1008, src := 0x16, p1 := 8 * (65536 * bank + cw) }]).recd) := by
  intro raw n
  have e : exec (.correctionWriteback t 0x16 bank cw req ⟨flip, a, none, cells⟩) s = .next ((s.tick t).mramAccess bank cw req flip) :=
    (correctionWriteback_goes hhas hfits rfl hawake hreach).trans (congrArg Host.Outcome.next (if_pos rfl))
  refine ⟨_, e, fun k hk => State.mramAccess_memOf_ne bank cw req flip (s.tick t) hk, fun hn => ?_, fun hn => ?_, fun hn => ?_⟩
  · rw [State.mramAccess_clean (s := s.tick t) req hn, State.mramStored_memOf]
    exact ⟨rfl, State.sameBut_mono (State.sameBut_trans (s.tick_sameBut t) (State.mramStored_sameBut ..)) (by decide)⟩
  · rw [State.mramAccess_one (s := s.tick t) req hn, State.memOf_putMem, State.mramStored_memOf]
    exact ⟨rfl, memWord_memPut_self bank cw 0 ((s.tick t).memOf 0x16), State.sameBut_mono (State.sameBut_trans (State.sameBut_trans
      (s.tick_sameBut t) (State.mramStored_sameBut ..)) (State.putMem_sameBut ..)) (by decide)⟩
  · rw [State.mramAccess_two (s := s.tick t) req hn, State.memOf_unitEvs, State.mramMarked_memOf, State.unitEvs_unt]
    exact ⟨rfl, rfl, rfl, State.unitEvs_recd_of_sameBut _ (State.mramMarked_sameBut req _) (by decide)⟩

/-! ## Haze (R479 to R483) -/

section
variable {mem bank cw : Nat} {march : Bool}

theorem hazeAgain_marchFail (m : MemSt) : (hazeAgain bank cw march m).marchFail = m.marchFail := by
  unfold hazeAgain
  split <;> rfl

theorem hazeAgain_counts (m : MemSt) : (hazeAgain bank cw march m).corr = m.corr ∧ (hazeAgain bank cw march m).uncorr = m.uncorr ∧
    (hazeAgain bank cw march m).words = m.words := by
  unfold hazeAgain
  split <;> exact ⟨rfl, rfl, rfl⟩

/-- A repeated step is no longer marked (R480). -/
theorem hazeAgain_clears {m : MemSt} (h : m.again = some (bank, cw, march)) : (hazeAgain bank cw march m).again = none := by
  rw [hazeAgain, if_pos h]

theorem hazeMarch_again (down : Bool) (words : List Nat) (cw : Nat) (m : MemSt) :
    (hazeMarch mem bank down cw words m).1.again = m.again := by
  induction words generalizing cw m with
  | nil => rfl
  | cons v r ih =>
    simp only [hazeMarch]
    rw [ih]
    split <;> rfl

theorem hazeScrub_again (slot opMs : Nat) (words : List Nat) (cw : Nat) (m : MemSt) :
    (hazeScrub mem bank slot opMs cw words m).1.again = m.again := by
  induction words generalizing cw m with
  | nil => rfl
  | cons v r ih =>
    simp only [hazeScrub]
    rw [ih]
    split
    · rfl
    · rfl
    · split <;> rfl

/-- A march step without a failing codeword counts and reports nothing (R482). -/
theorem hazeMarch_passes {down : Bool} {words : List Nat} (h : ∀ w ∈ words, w = 0) (cw : Nat) (m : MemSt) :
    hazeMarch mem bank down cw words m = (m, []) := by
  induction words generalizing cw with
  | nil => rfl
  | cons v r ih =>
    obtain ⟨rfl, hr⟩ := List.forall_mem_cons.1 h
    simp only [hazeMarch, if_pos, ih hr, List.append_nil]

theorem memMarch_marchFail (req lanes : Nat) (m : MemSt) : (memMarch mem bank cw req lanes m).1.marchFail = satN 16 (m.marchFail + 1) := rfl

/-- A march step lowers no count up to its limit. -/
theorem hazeMarch_le (down : Bool) (words : List Nat) (cw : Nat) (m : MemSt) (hm : m.marchFail ≤ 0xFFFF) :
    m.marchFail ≤ (hazeMarch mem bank down cw words m).1.marchFail := by
  induction words generalizing cw m with
  | nil => exact Nat.le_refl _
  | cons v r ih =>
    simp only [hazeMarch]
    by_cases hv : v = 0
    · rw [if_pos hv]
      exact ih _ m hm
    · rw [if_neg hv]
      have hnext := memMarch_marchFail (mem := mem) (bank := bank) (cw := if down then cw + r.length else cw) 1 v m
      simp only [satN] at hnext
      refine Nat.le_trans ?_ (ih _ _ ?_)
      · omega
      · omega

/-- A march step counts its failing codewords (R482). -/
theorem hazeMarch_fails {down : Bool} {words : List Nat} (h : ∃ w ∈ words, w ≠ 0) (cw : Nat) (m : MemSt) (hm : m.marchFail < 0xFFFF) :
    m.marchFail < (hazeMarch mem bank down cw words m).1.marchFail := by
  induction words generalizing cw with
  | nil =>
    obtain ⟨w, hw, -⟩ := h
    cases hw
  | cons v r ih =>
    simp only [hazeMarch]
    by_cases hv : v = 0
    · rw [if_pos hv]
      obtain ⟨w, hw, hne⟩ := h
      rcases List.mem_cons.1 hw with rfl | hr
      · exact absurd hv hne
      · exact ih ⟨w, hr, hne⟩ _
    · rw [if_neg hv]
      have hnext := memMarch_marchFail (mem := mem) (bank := bank) (cw := if down then cw + r.length else cw) 1 v m
      simp only [satN] at hnext
      refine Nat.lt_of_lt_of_le ?_ (hazeMarch_le down r _ _ ?_)
      · omega
      · omega

/-- A scrub step over clean codewords counts and reports nothing (R481). -/
theorem hazeScrub_clean (slot opMs : Nat) (words : List Nat) (cw : Nat) (m : MemSt)
    (h : ∀ k < words.length, rawDecode (memWord bank (cw + k) m ^^^ words.getD k 0) = .clean) :
    let r := hazeScrub mem bank slot opMs cw words m
    r.1.corr = m.corr ∧ r.1.uncorr = m.uncorr ∧ r.2 = [] := by
  induction words generalizing cw m with
  | nil => exact ⟨rfl, rfl, rfl⟩
  | cons v r ih =>
    have hfirst : rawDecode (memWord bank cw m ^^^ v) = .clean := h 0 (by simp)
    obtain ⟨hcorr, huncorr, hev⟩ := ih (cw + 1) (memPut bank cw (memWord bank cw m ^^^ v) m) fun k hk => by
      rw [memWord_memPut_ne _ _ (by omega), Nat.add_right_comm, Nat.add_assoc]
      exact h (k + 1) (by simpa using hk)
    simp only [hazeScrub, hfirst, RsOut.kept]
    exact ⟨hcorr, huncorr, by rw [hev]; rfl⟩

end

section
variable {t mem bank cw : Nat} {march : Bool} {words : List Nat} {s : State}

/-- What a step of Haze makes of its memory. -/
def State.hazeResult (mem bank cw : Nat) (march : Bool) (words : List Nat) (s : State) : MemSt × List EvReq :=
  let m := hazeAgain bank cw march (s.memOf mem)
  if march then hazeMarch mem bank m.marchDown cw words m else hazeScrub mem bank s.unt.runSlot (s.opMs s.now) cw words m

theorem hazeStep_goes (hmem : mem < 0x16) (hhas : memHas mem bank cw = true) (hlen : words.length ≤ 16)
    (hlast : memHas mem bank (cw + words.length - 1) = true) (hawake : s.awake = true) :
    exec (.hazeStep t mem bank cw march words) s =
      .next (((s.tick t).putMem mem ((s.tick t).hazeResult mem bank cw march words)).modMdiag
        (hazeHeld (s.memOf mem) ((s.tick t).hazeResult mem bank cw march words).1)) := by
  have hok : (decide (mem < 0x16) && memHas mem bank cw && decide (words.length ≤ 16) &&
      memHas mem bank (cw + words.length - 1)) = true := by
    rw [decide_eq_true hmem, hhas, decide_eq_true hlen, hlast]
    rfl
  dsimp only [exec, execHazeStep]
  exact act_goes (c := State.awake) hok hawake

theorem hazeStep_served (hmem : mem < 0x16) (hhas : memHas mem bank cw = true) (hlen : words.length ≤ 16)
    (hlast : memHas mem bank (cw + words.length - 1) = true) (hawake : s.awake = true) :
    ∃ u, exec (.hazeStep t mem bank cw march words) s = .next u ∧ (∀ k, k ≠ mem → u.memOf k = s.memOf k) ∧
      (march = true → (∀ w ∈ words, w = 0) → (u.memOf mem).marchFail = (s.memOf mem).marchFail ∧ u.recd = s.recd) ∧
      (march = true → (∃ w ∈ words, w ≠ 0) → (s.memOf mem).marchFail < 0xFFFF → (s.memOf mem).marchFail < (u.memOf mem).marchFail ∧
        u.unt.mdiag.memMarch = true) ∧
      (march = false → (∀ k < words.length, rawDecode (memWord bank (cw + k) (s.memOf mem) ^^^ words.getD k 0) = .clean) →
        (u.memOf mem).corr = (s.memOf mem).corr ∧ (u.memOf mem).uncorr = (s.memOf mem).uncorr ∧ u.recd = s.recd) ∧
      ((s.memOf mem).again = some (bank, cw, march) → (u.memOf mem).again = none) := by
  have e := hazeStep_goes (t := t) (march := march) hmem hhas hlen hlast hawake
  generalize hr : (s.tick t).hazeResult mem bank cw march words = r at e
  have hmemOf : (((s.tick t).putMem mem r).modMdiag (hazeHeld (s.memOf mem) r.1)).memOf mem = r.1 := (s.tick t).memOf_putMem mem r
  have hquiet (h : r.2 = []) : (((s.tick t).putMem mem r).modMdiag (hazeHeld (s.memOf mem) r.1)).recd = s.recd := by
    obtain ⟨m, l⟩ := r
    rw [State.modMdiag_recd, show l = [] from h]
    exact ((s.tick t).putMem_quiet mem m).2.2 .recd (by decide)
  refine ⟨_, e, fun k hk => (s.tick t).memOf_putMem_ne mem r hk, ?_, ?_, ?_, fun hagain => ?_⟩
  · rintro rfl hw
    have hres : r = (hazeAgain bank cw true (s.memOf mem), []) := hr.symm.trans (hazeMarch_passes hw ..)
    rw [hmemOf, hquiet (congrArg Prod.snd hres), hres]
    exact ⟨hazeAgain_marchFail _, rfl⟩
  · rintro rfl hw hm
    have hlt : (s.memOf mem).marchFail < r.1.marchFail := by
      have hgrows := hazeMarch_fails (mem := mem) (bank := bank) (down := (hazeAgain bank cw true (s.memOf mem)).marchDown) hw cw
        (hazeAgain bank cw true (s.memOf mem)) ((hazeAgain_marchFail _).symm ▸ hm)
      rw [hazeAgain_marchFail] at hgrows
      exact hr ▸ hgrows
    rw [hmemOf]
    refine ⟨hlt, ?_⟩
    show (_ || decide ((s.memOf mem).marchFail ≠ r.1.marchFail)) = true
    rw [decide_eq_true (Nat.ne_of_lt hlt), Bool.or_true]
  · rintro rfl hw
    obtain ⟨hcorr, huncorr, hwords⟩ := hazeAgain_counts (bank := bank) (cw := cw) (march := false) (s.memOf mem)
    obtain ⟨hc, hu, hev⟩ := hazeScrub_clean (mem := mem) s.unt.runSlot ((s.tick t).opMs (s.tick t).now) words cw
      (hazeAgain bank cw false (s.memOf mem)) fun k hk => by
        rw [memWord_congr hwords]
        exact hw k hk
    have hres : r = hazeScrub mem bank s.unt.runSlot ((s.tick t).opMs (s.tick t).now) cw words
      (hazeAgain bank cw false (s.memOf mem)) := hr.symm
    rw [← hres] at hc hu hev
    rw [hmemOf, hquiet hev]
    exact ⟨hc.trans hcorr, hu.trans huncorr, rfl⟩
  · rw [hmemOf, ← hr]
    unfold State.hazeResult
    dsimp only
    split
    · exact (hazeMarch_again ..).trans (hazeAgain_clears hagain)
    · exact (hazeScrub_again ..).trans (hazeAgain_clears hagain)

theorem hazeYield_served (hmem : mem < 0x16) (hhas : memHas mem bank cw = true) (hawake : s.awake = true) :
    ∃ u, exec (.hazeYield t mem bank cw march) s = .next u ∧ u.memOf mem = { s.memOf mem with again := some (bank, cw, march) } ∧
      (∀ k, k ≠ mem → u.memOf k = s.memOf k) ∧ u.recd = s.recd := by
  have e : exec (.hazeYield t mem bank cw march) s =
      .next ((s.tick t).putMem mem ({ s.memOf mem with again := some (bank, cw, march) }, [])) := by
    have hok : (decide (mem < 0x16) && memHas mem bank cw) = true := by
      rw [decide_eq_true hmem, hhas]
      rfl
    dsimp only [exec, execHazeYield]
    exact act_goes (c := State.awake) hok hawake
  exact ⟨_, e, State.memOf_putMem .., fun k hk => State.memOf_putMem_ne _ _ _ hk, (State.putMem_quiet _ mem _).2.2 .recd (by decide)⟩

theorem hazePassEnd_served (hmem : mem < 0x16) (hawake : s.awake = true) :
    ∃ u, exec (.hazePassEnd t mem march) s = .next u ∧ (∀ k, k ≠ mem → u.memOf k = s.memOf k) ∧
      (march = false → (u.memOf mem).scrubs = wrapN 8 ((s.memOf mem).scrubs + 1) ∧ (u.memOf mem).scrubFrom = max s.now t ∧
        (max s.now t - (s.memOf mem).scrubFrom ≤ 8 * msC 1000 → (u.memOf mem).slow = false) ∧
        (32 * msC 1000 < max s.now t - (s.memOf mem).scrubFrom → (u.memOf mem).slow = true)) ∧
      (march = true → (u.memOf mem).marches = wrapN 8 ((s.memOf mem).marches + 1) ∧ (u.memOf mem).marchDown = !(s.memOf mem).marchDown ∧
        (max s.now t - (s.memOf mem).marchFrom ≤ 24 * 3600 * msC 1000 → (u.memOf mem).slow = false) ∧
        (96 * 3600 * msC 1000 < max s.now t - (s.memOf mem).marchFrom → (u.memOf mem).slow = true)) := by
  have e : exec (.hazePassEnd t mem march) s = .next ((s.tick t).putMem mem (hazePass mem (max s.now t) march (s.memOf mem))) := by
    dsimp only [exec, execHazePassEnd]
    exact act_goes (c := State.awake) (decide_eq_true hmem) hawake
  refine ⟨_, e, fun k hk => State.memOf_putMem_ne _ _ _ hk, ?_, ?_⟩
  · rintro rfl
    rw [State.memOf_putMem]
    refine ⟨rfl, rfl, fun hmet => ?_, fun hlate => ?_⟩
    · have hin : ¬ 32 * msC 1000 < max s.now t - (s.memOf mem).scrubFrom := by omega
      simp [hazePass, hmet, hin]
    · simp [hazePass, hlate]
  · rintro rfl
    rw [State.memOf_putMem]
    refine ⟨rfl, rfl, fun hmet => ?_, fun hlate => ?_⟩
    · have hin : ¬ 96 * 3600 * msC 1000 < max s.now t - (s.memOf mem).marchFrom := by omega
      simp only [hazePass, if_pos, hmet, hin, decide_false, decide_true]
      rfl
    · simp only [hazePass, if_pos, hlate, decide_true]

end

/-! ## CONFIG_STORE_COMPLETE (R549) -/

section
variable {t : Nat} {x : Store} {s : State}

theorem CfgPart.slot_setSlot (k : Nat) (v : Option Slot) (c : CfgPart) : (c.setSlot k v).slot k = v := by
  unfold CfgPart.setSlot CfgPart.slot
  by_cases hk : k = 0 <;> simp [hk]

theorem CfgPart.setSlot_image (k : Nat) (v : Option Slot) (c : CfgPart) : (c.setSlot k v).image = c.image := by
  unfold CfgPart.setSlot
  split <;> rfl

theorem configStoreComplete_goes (differs : Option Nat) (hawake : s.awake = true) (hstore : s.cfg.store = some x) :
    exec (.configStoreComplete t differs) s = .next ((s.tick t).storeEnd x differs) := by
  have hcond : (s.awake && s.cfg.store.isSome) = true := by
    rw [hawake, hstore]
    rfl
  have hend : (match (s.tick t).cfg.store with
      | some x => (s.tick t).storeEnd x differs
      | none => s.tick t) = (s.tick t).storeEnd x differs := by
    rw [show (s.tick t).cfg.store = some x from hstore]
  dsimp only [exec, execConfigStoreComplete]
  exact (act_goes rfl hcond).trans (congrArg Host.Outcome.next hend)

/-- The slot of a complete store is whole. -/
def State.storeDone (x : Store) (s : State) : State :=
  s.modCfg fun d => ({ d with store := none }).setSlot x.slot (some { x.content with torn := false })

theorem State.storeDone_sameBut : s.sameBut [.slotA, .slotB, .store] (s.storeDone x) := by
  refine State.sameBut_of_rest (State.modCfg_rest s _ fun c => ?_)
  unfold CfgPart.setSlot
  split <;> simp [CfgPart.rest, cleared]

theorem configStoreComplete_whole (hawake : s.awake = true) (hstore : s.cfg.store = some x) :
    ∃ u, exec (.configStoreComplete t none) s = .next u ∧ u.cfg.store = none ∧
      u.cfg.slot x.slot = some { x.content with torn := false } ∧ u.cfg.image = s.cfg.image ∧
      u.recd = ((s.tick t).unitEvs
        [{ code := 0x0310, src := x.slot, p1 := x.content.hdr.generation, p2 := x.content.hdr.storeCrc, p3 := x.content.hdr.cfgCrc }]).recd ∧
      s.sameBut [.now, .recd, .slotA, .slotB, .store] u := by
  have e := configStoreComplete_goes (t := t) none hawake hstore
  have hcfg : ((s.tick t).storeEnd x none).cfg = ((s.tick t).storeDone x).cfg := by
    have hev (y : State) (l : List EvReq) : (y.unitEvs l).cfg = y.cfg := by
      unfold State.unitEvs
      dsimp only
      split <;> rfl
    exact hev _ _
  refine ⟨_, e, ?_, ?_, ?_, State.unitEvs_recd_of_sameBut _ State.storeDone_sameBut (by decide), exec_sameBut e⟩ <;> rw [hcfg]
  · exact CfgPart.setSlot_store ..
  · exact CfgPart.slot_setSlot ..
  · exact CfgPart.setSlot_image ..

theorem configStoreComplete_again (off : Nat) (hawake : s.awake = true) (hstore : s.cfg.store = some x) (hfirst : x.retried = false) :
    exec (.configStoreComplete t (some off)) s =
      .next { s.tick t with cfg := { s.cfg with store := some { x with retried := true } } } := by
  refine (configStoreComplete_goes (some off) hawake hstore).trans (congrArg Host.Outcome.next ?_)
  unfold State.storeEnd
  dsimp only
  rw [hfirst]
  rfl

theorem configStoreComplete_givesUp (off : Nat) (hawake : s.awake = true) (hstore : s.cfg.store = some x) (hagain : x.retried = true) :
    ∃ u, exec (.configStoreComplete t (some off)) s = .next u ∧ u.cfg.store = none ∧
      u.recd = ((s.tick t).unitEvs [{ code := 0x0312, src := x.slot, p1 := x.content.hdr.generation, p2 := off }]).recd ∧
      s.sameBut [.now, .recd, .store] u := by
  have hdropped (y : State) : y.sameBut [.store] (y.modCfg fun d => { d with store := none }) :=
    State.sameBut_of_rest (State.modCfg_rest y _ fun c => by simp [CfgPart.rest, cleared])
  have hend : (s.tick t).storeEnd x (some off) = ((s.tick t).modCfg fun d => { d with store := none }).unitEvs
      [{ code := 0x0312, src := x.slot, p1 := x.content.hdr.generation, p2 := off }] := if_pos hagain
  have hev (y : State) (l : List EvReq) : y.sameBut [.recd] (y.unitEvs l) :=
    State.sameBut_of_rest (State.unitEvs_rest l y (List.Subset.refl _))
  refine ⟨_, (configStoreComplete_goes (some off) hawake hstore).trans (congrArg Host.Outcome.next hend), ?_,
    State.unitEvs_recd_of_sameBut _ (hdropped _) (by decide), ?_⟩
  · exact ((hev _ _).2.2 .store (by decide)).trans rfl
  · exact State.sameBut_mono (State.sameBut_trans (State.sameBut_trans (s.tick_sameBut t) (hdropped _)) (hev _ _)) (by decide)

end

/-- Settles O48: accesses by what the codeword holds and the decode counts, Haze by its steps, and a store by its readback. -/
theorem memoriesAndStores : Obligations.MemoriesAndStores :=
  ⟨⟨fun _ _ _ _ _ _ _ _ _ => access_served, fun _ _ _ _ _ _ _ _ => mailbox_served, fun _ _ _ _ _ _ _ _ => mram_served,
      fun _ _ _ _ _ _ _ => hazeStep_served, fun _ _ _ _ _ _ => hazeYield_served, fun _ _ _ _ => hazePassEnd_served⟩,
    fun _ _ _ hawake hstore => ⟨configStoreComplete_whole hawake hstore, fun off => configStoreComplete_again off hawake hstore,
      fun off => configStoreComplete_givesUp off hawake hstore⟩⟩

end Sys2Proof.Machine
end

section
/-! PROOFS. CONTRAIL_BLOCK_RECEIVE (R424 to R430, R469, R476): the mirror engine's writes into the mailbox, and what each block does at
the standby and at the active. -/

namespace Sys2Proof.Machine

/-! ## The mailbox (R469) -/

section
variable (s : State)

/-- The mirror engine has no reaction of its own to a codeword beyond correction in the receive half. -/
theorem State.readFails_mirror (cw : Nat) (cells : List Nat) : s.readFails 0x14 8 cw 8 cells = s := by
  have hpoisons : readPoisons 0x14 8 cw 8 = none := by simp [readPoisons, commandBuffer, messageRam, memPoison]
  unfold State.readFails
  rw [hpoisons]
  rfl

theorem State.portAccess_mirror (cw : Nat) (d : RsOut) (a : MemAccess) :
    s.sameBut [.mem, .mdiag, .recd] (s.portAccess 0x14 8 cw 8 [] d a) := by
  unfold State.portAccess
  split
  · exact State.sameBut_refl _ s
  · cases d with
    | clean => exact State.sameBut_refl _ s
    | corrected x => exact State.sameBut_mono (s.putMem_sameBut 0x14 _) (by decide)
    | uncorrectable =>
      rw [State.accessBy_uncorrectable, State.readFails_mirror]
      exact State.sameBut_mono State.uncorrCounted_sameBut (by decide)

theorem State.mailWrite_sameBut (x : Nat × Nat × List Byte) : s.sameBut [.mem, .mdiag, .recd] (s.mailWrite x) := by
  have hcollide (y : State) (mask : Nat) : y.sameBut [.recd, .mdiag] (y.collide x.1 mask) :=
    State.sameBut_of_rest (State.collide_rest _ _ _ (List.Subset.refl _))
  exact State.sameBut_mono (State.sameBut_trans (State.sameBut_trans (s.modMem_sameBut 0x14 _) (State.portAccess_mirror _ x.1 _ _))
    (hcollide _ _)) (by decide)

/-- The state with the bytes of a block in the mailbox. -/
def State.mailed (at0 : Nat) (raw : List Byte) (s : State) : State := (mailPieces raw.length at0 raw).foldl State.mailWrite s

theorem State.mailed_sameBut (at0 : Nat) (raw : List Byte) : s.sameBut [.mem, .mdiag, .recd] (s.mailed at0 raw) := by
  have hfold (l : List (Nat × Nat × List Byte)) (y : State) : y.sameBut [.mem, .mdiag, .recd] (l.foldl State.mailWrite y) := by
    induction l generalizing y with
    | nil => exact State.sameBut_refl _ y
    | cons x l ih => exact State.sameBut_mono (State.sameBut_trans (y.mailWrite_sameBut x) (ih _)) (by decide)
  exact hfold _ s

/-- 32 bytes at a codeword's first byte are one piece. -/
theorem mailPieces_whole {raw : List Byte} (hraw : raw.length = 32) (k : Nat) : mailPieces 32 (32 * k) raw = [(k, 0, raw)] := by
  have hempty : raw.isEmpty = false := by
    cases raw with
    | nil => cases hraw
    | cons b r => rfl
  have hlast (n at0 : Nat) : mailPieces n at0 [] = [] := by cases n <;> rfl
  have hdiv : 32 * k / 32 = k := by omega
  have hmod : 32 * k % 32 = 0 := by omega
  rw [mailPieces, hempty, hdiv, hmod, List.drop_of_length_le (by omega), hlast, List.take_of_length_le (by omega)]
  rfl

theorem State.mailed_word {raw : List Byte} (hraw : raw.length = 32) (k : Nat) :
    memWord 8 k ((s.mailed (32 * k) raw).memOf 0x14) = rawNumber (rsEncode (raw.map (·.toNat))) := by
  have hone : s.mailed (32 * k) raw = s.access 0x14 8 k 8 0 (.write 0 raw) none [] := by
    rw [State.mailed, hraw, mailPieces_whole hraw]
    rfl
  rw [hone, State.access_word 0x14 8 k 0 s 8 [] (accFits_write hraw), wordAfter_write (accFits_write hraw) (.inl (accWhole_write hraw)),
    hraw, List.drop_of_length_le (by rw [toBytes_length]), List.append_nil]
  rfl

end

/-! ## What a block does -/

section
variable {s : State}

/-- The marker of a strobe of the active, with its frame record (R425). -/
def State.markerSeen (n len lag deferred : Nat) (s : State) : State :=
  s.modPair fun p => { p with marker := n, markerAt := s.now, markerLen := len, markerLag := lag, markerDefer := deferred }

theorem State.linkBlock_marker {n len lag deferred : Nat} {poisoned overrun : Bool} (hrole : s.unt.pair.role = 2) :
    s.linkBlock (.marker n len lag deferred poisoned overrun) =
      if poisoned then (s.markerSeen n len lag deferred).unsync 3
      else if overrun then (s.markerSeen n len lag deferred).unsync 4 else s.markerSeen n len lag deferred := by
  unfold State.linkBlock
  dsimp only
  rw [decide_eq_true hrole]
  rfl

/-- A block of the open frame at a standby that computes frames and waits for its inputs. -/
theorem State.opens_frame (hfollows : s.follows = true) (hphase : s.phase = .gather) :
    (s.follows && decide (s.fr.frameNo = s.fr.frameNo) && decide (s.phase = .gather)) = true := by
  rw [hfollows, decide_eq_true rfl, decide_eq_true hphase]
  rfl

theorem State.linkBlock_cells {recs : List (Nat × Rec × Bool)} (hfollows : s.follows = true) (hphase : s.phase = .gather) :
    s.linkBlock (.cells s.fr.frameNo recs) = recs.foldl State.mirrorRecord s := if_pos (State.opens_frame hfollows hphase)

/-- Records of another frame are not taken. -/
theorem State.linkBlock_cells_other {n : Nat} {recs : List (Nat × Rec × Bool)} (hn : n ≠ s.fr.frameNo) :
    s.linkBlock (.cells n recs) = s := by
  refine if_neg ?_
  simp [hn]

theorem State.follows_role (hfollows : s.follows = true) : s.unt.pair.role = 2 := by
  unfold State.follows at hfollows
  rw [Bool.and_eq_true] at hfollows
  exact of_decide_eq_true hfollows.1

theorem State.linkBlock_entry {e : Entry} (hfollows : s.follows = true) (hphase : s.phase = .gather) :
    s.linkBlock (.entry s.fr.frameNo e) = s.mirrorEntry e := by
  have hrole := State.follows_role hfollows
  exact (if_neg (by omega)).trans (if_pos (State.opens_frame hfollows hphase))

/-- The inputs of the open frame are all there. -/
def State.inputsMarked (s : State) : State := s.modPair fun p => { p with inputs := true }

theorem State.linkBlock_inputsDone (hfollows : s.follows = true) (hphase : s.phase = .gather) :
    s.linkBlock (.inputsDone s.fr.frameNo) = s.inputsMarked.linkSend [.ack s.fr.frameNo] := if_pos (State.opens_frame hfollows hphase)

theorem State.linkBlock_ack {n : Nat} (hrole : s.unt.pair.role = 1) :
    s.linkBlock (.ack n) = s.modPair fun p => { p with acked := some n } := if_pos hrole

theorem State.linkBlock_staging {cls ix : Nat} {v : Inst} (hfollows : s.follows = true) :
    s.linkBlock (.staging cls ix v) = s.modCfg fun c => { c with staging := setInst c.staging cls ix v } := if_pos hfollows

theorem State.linkBlock_missing : s.linkBlock .missing = s.unsync 7 := rfl

/-- A record that is not STALE takes its place, and no other changes (R59). -/
theorem State.mirrorRecord_fresh {c : Nat} (hc : c < 512) (r : Rec) : let u := s.mirrorRecord (c, r, false)
    u.recOf c = r ∧ u.staleOf c = false ∧ u.inp.mirrored.testBit c = true ∧
      ∀ k, k ≠ c → u.recOf k = s.recOf k ∧ u.staleOf k = s.staleOf k := by
  have he : s.mirrorRecord (c, r, false) = s.modInp fun i => { i with
      recs := tabSet 0#128 i.recs c r, stale := setBit i.stale c false, mirrored := setBit i.mirrored c true } :=
    if_neg (Nat.not_le.2 hc)
  dsimp only
  rw [he]
  refine ⟨tabGet_set_self .., ?_, ?_, fun k hk => ⟨tabGet_set_ne _ _ _ hk.symm, ?_⟩⟩
  · exact (testBit_setBit ..).trans (if_pos rfl)
  · exact (testBit_setBit ..).trans (if_pos rfl)
  · exact (testBit_setBit ..).trans (if_neg hk.symm)

end

/-! ## CONTRAIL_BLOCK_RECEIVE -/

theorem State.mailed_tick (t at0 : Nat) (raw : List Byte) (s : State) :
    s.sameBut [.now, .mem, .mdiag, .recd] ((s.tick t).mailed at0 raw) :=
  State.sameBut_mono (State.sameBut_trans (s.tick_sameBut t) (State.mailed_sameBut _ at0 raw)) (by decide)

/-- A standby that computes frames still does once the bytes are in the mailbox. -/
theorem State.mailed_follows {s : State} (t at0 : Nat) (raw : List Byte) (hfollows : s.follows = true) :
    ((s.tick t).mailed at0 raw).follows = true := by
  unfold State.follows at hfollows ⊢
  rw [(State.mailed_tick t at0 raw s).pair (by decide)]
  exact hfollows

section
variable {t at0 : Nat} {raw : List Byte} {s : State} (hmode : s.mode = .running) (hpaired : s.paired = true) (hlink : s.linkUp = true)
  (hfits : at0 + raw.length ≤ 0x8000)
include hmode hpaired hlink hfits

theorem contrailBlockReceive_goes (b : ContrailBlock) : exec (.contrailBlockReceive t ⟨at0, raw, b⟩) s =
    .next ((((s.tick t).mailed at0 raw).linkBlock
      (if (mailPieces raw.length at0 raw).any s.mailRefused then .missing else b)).noteReady) := by
  have hcond : (s.live && s.paired && s.linkUp) = true := by
    rw [show s.live = true from decide_eq_true hmode, hpaired, hlink]
    rfl
  dsimp only [exec, execContrailBlockReceive]
  exact act_goes (f := fun s => ((s.mailed at0 raw).linkBlock
    (if (mailPieces raw.length at0 raw).any s.mailRefused then .missing else b)).noteReady) (decide_eq_true hfits) hcond

/-- Whatever the block, one that could not be written counts as missing (R475, R476). -/
theorem block_refused (hrefused : (mailPieces raw.length at0 raw).any s.mailRefused = true) (b : ContrailBlock) :
    ∃ u, exec (.contrailBlockReceive t ⟨at0, raw, b⟩) s = .next u ∧ u.unt.pair.sync = 0 := by
  have e := contrailBlockReceive_goes (t := t) hmode hpaired hlink hfits b
  rw [if_pos hrefused] at e
  refine ⟨_, e, ?_⟩
  rw [State.noteReady_sync, State.linkBlock_missing, State.unsync_sync]

variable (hwritten : (mailPieces raw.length at0 raw).any s.mailRefused = false)
include hwritten

theorem block_taken (b : ContrailBlock) : exec (.contrailBlockReceive t ⟨at0, raw, b⟩) s =
    .next ((((s.tick t).mailed at0 raw).linkBlock b).noteReady) := by
  have e := contrailBlockReceive_goes (t := t) hmode hpaired hlink hfits b
  rw [if_neg (by rw [hwritten]; decide)] at e
  exact e

theorem marker_taken (n len lag deferred : Nat) (hrole : s.unt.pair.role = 2) :
    ∃ u, exec (.contrailBlockReceive t ⟨at0, raw, .marker n len lag deferred false false⟩) s = .next u ∧
      u.unt.pair.marker = n ∧ u.unt.pair.markerAt = max s.now t ∧ u.unt.pair.markerLen = len ∧ u.unt.pair.markerLag = lag ∧
      u.unt.pair.markerDefer = deferred ∧ u.unt.pair.sync = s.unt.pair.sync ∧ u.unt.pair.role = 2 ∧
      s.sameBut [.now, .pair, .mem, .mdiag, .recd] u ∧
      ∀ k < 1024, at0 = 32 * k → raw.length = 32 → memWord 8 k (u.memOf 0x14) = rawNumber (rsEncode (raw.map (·.toNat))) := by
  have e := block_taken (t := t) hmode hpaired hlink hfits hwritten (.marker n len lag deferred false false)
  have hm := State.mailed_tick t at0 raw s
  have hpair : ((s.tick t).mailed at0 raw).unt.pair = s.unt.pair := hm.pair (by decide)
  have hnow : ((s.tick t).mailed at0 raw).now = max s.now t := (State.mailed_sameBut (s.tick t) at0 raw).now (by decide)
  rw [State.linkBlock_marker ((congrArg Pair.role hpair).trans hrole), if_neg (by decide), if_neg (by decide)] at e
  have hreads {α : Type} (f : Pair → α) (hf : ∀ p r, f { p with readyFrom := r } = f p) := State.noteReady_reads f
    (((s.tick t).mailed at0 raw).markerSeen n len lag deferred) hf
  have hseen : ((s.tick t).mailed at0 raw).sameBut [.pair] (((s.tick t).mailed at0 raw).markerSeen n len lag deferred).noteReady :=
    State.sameBut_mono (State.sameBut_trans (State.sameBut_of_rest (State.modPair_rest (ps := [.pair]) _ _ (by decide)))
      (State.noteReady_sameBut _)) (by decide)
  refine ⟨_, e, hreads Pair.marker fun _ _ => rfl, (hreads Pair.markerAt fun _ _ => rfl).trans hnow, hreads Pair.markerLen fun _ _ => rfl,
    hreads Pair.markerLag fun _ _ => rfl, hreads Pair.markerDefer fun _ _ => rfl, ?_, ?_, ?_, ?_⟩
  · rw [hreads Pair.sync fun _ _ => rfl, ← hpair]
    rfl
  · rw [hreads Pair.role fun _ _ => rfl, ← hrole, ← hpair]
    rfl
  · exact State.sameBut_mono (State.sameBut_trans hm hseen) (by decide)
  · rintro k - rfl hraw
    exact (congrArg (memWord 8 k) (State.memOf_of_sameBut hseen (by decide) 0x14)).trans ((s.tick t).mailed_word hraw k)

/-- A marker of a poisoned or overrun frame unsynchronises the standby (R430). -/
theorem marker_bad (n len lag deferred : Nat) (poisoned overrun : Bool) (hrole : s.unt.pair.role = 2)
    (hbad : poisoned = true ∨ overrun = true) :
    ∃ u, exec (.contrailBlockReceive t ⟨at0, raw, .marker n len lag deferred poisoned overrun⟩) s = .next u ∧
      u.unt.pair.marker = n ∧ u.unt.pair.sync = 0 := by
  have e := block_taken (t := t) hmode hpaired hlink hfits hwritten (.marker n len lag deferred poisoned overrun)
  have hpair : ((s.tick t).mailed at0 raw).unt.pair = s.unt.pair := (State.mailed_tick t at0 raw s).pair (by decide)
  have hunsync (cause : Nat) (x : State) : (x.unsync cause).noteReady.unt.pair.marker = x.unt.pair.marker ∧
      (x.unsync cause).noteReady.unt.pair.sync = 0 :=
    ⟨(State.noteReady_reads Pair.marker _ fun _ _ => rfl).trans (State.unsync_reads Pair.marker _ cause fun _ _ _ _ _ _ _ => rfl),
      (State.noteReady_sync _).trans (State.unsync_sync _ cause)⟩
  rw [State.linkBlock_marker ((congrArg Pair.role hpair).trans hrole)] at e
  refine ⟨_, e, ?_⟩
  cases poisoned with
  | true => exact hunsync 3 _
  | false =>
    rw [hbad.resolve_left (by decide)]
    exact hunsync 4 _

theorem cells_taken (c : Nat) (r : Rec) (hc : c < 512) (hfollows : s.follows = true) (hphase : s.phase = .gather) :
    ∃ u, exec (.contrailBlockReceive t ⟨at0, raw, .cells s.fr.frameNo [(c, r, false)]⟩) s = .next u ∧
      u.recOf c = r ∧ u.staleOf c = false ∧ u.inp.mirrored.testBit c = true ∧
      ∀ k, k ≠ c → u.recOf k = s.recOf k ∧ u.staleOf k = s.staleOf k := by
  have e := block_taken (t := t) hmode hpaired hlink hfits hwritten (.cells s.fr.frameNo [(c, r, false)])
  have hm := State.mailed_tick t at0 raw s
  rw [← hm.fr (by decide), State.linkBlock_cells (State.mailed_follows t at0 raw hfollows) ((hm.phase (by decide)).trans hphase),
    hm.fr (by decide)] at e
  obtain ⟨hrec, hstale, hmirrored, hothers⟩ := State.mirrorRecord_fresh (s := (s.tick t).mailed at0 raw) hc r
  have hready : (([(c, r, false)].foldl State.mirrorRecord ((s.tick t).mailed at0 raw)).noteReady).inp =
      (((s.tick t).mailed at0 raw).mirrorRecord (c, r, false)).inp := (State.noteReady_sameBut _).inp (by decide)
  have hinp : ((s.tick t).mailed at0 raw).inp = s.inp := hm.inp (by decide)
  unfold State.recOf State.staleOf at *
  rw [hinp] at hothers
  refine ⟨_, e, ?_, ?_, ?_, ?_⟩ <;> rw [hready]
  · exact hrec
  · exact hstale
  · exact hmirrored
  · exact hothers

theorem cells_other (n : Nat) (recs : List (Nat × Rec × Bool)) (hn : n ≠ s.fr.frameNo) :
    ∃ u, exec (.contrailBlockReceive t ⟨at0, raw, .cells n recs⟩) s = .next u ∧ u.inp = s.inp := by
  have e := block_taken (t := t) hmode hpaired hlink hfits hwritten (.cells n recs)
  have hm := State.mailed_tick t at0 raw s
  rw [State.linkBlock_cells_other (by rw [hm.fr (by decide)]; exact hn)] at e
  exact ⟨_, e, ((State.noteReady_sameBut _).inp (by decide)).trans (hm.inp (by decide))⟩

theorem entry_taken (x : Entry) (hfollows : s.follows = true) (hphase : s.phase = .gather) :
    ∃ u, exec (.contrailBlockReceive t ⟨at0, raw, .entry s.fr.frameNo x⟩) s = .next u ∧
      u.inp = { s.inp with entries := s.inp.entries ++ [x] } ∧ u.fr = { s.fr with asyncCount := s.fr.asyncCount + 1 } := by
  have e := block_taken (t := t) hmode hpaired hlink hfits hwritten (.entry s.fr.frameNo x)
  have hm := State.mailed_tick t at0 raw s
  have hf := State.mailed_follows t at0 raw hfollows
  have hp : ((s.tick t).mailed at0 raw).phase = .gather := (hm.phase (by decide)).trans hphase
  have hfr : ((s.tick t).mailed at0 raw).fr = s.fr := hm.fr (by decide)
  have hinp : ((s.tick t).mailed at0 raw).inp = s.inp := hm.inp (by decide)
  rw [← hfr, State.linkBlock_entry hf hp] at e
  rw [← hfr, ← hinp]
  have hready := State.noteReady_sameBut (((s.tick t).mailed at0 raw).mirrorEntry x)
  exact ⟨_, e, (hready.inp (by decide)).trans rfl, (hready.fr (by decide)).trans rfl⟩

theorem inputsDone_taken (hfollows : s.follows = true) (hphase : s.phase = .gather) :
    ∃ u, exec (.contrailBlockReceive t ⟨at0, raw, .inputsDone s.fr.frameNo⟩) s = .next u ∧ u.unt.pair.inputs = true ∧
      u.inp = s.inp := by
  have e := block_taken (t := t) hmode hpaired hlink hfits hwritten (.inputsDone s.fr.frameNo)
  have hm := State.mailed_tick t at0 raw s
  have hf := State.mailed_follows t at0 raw hfollows
  have hp : ((s.tick t).mailed at0 raw).phase = .gather := (hm.phase (by decide)).trans hphase
  have hfr : ((s.tick t).mailed at0 raw).fr = s.fr := hm.fr (by decide)
  have hinp : ((s.tick t).mailed at0 raw).inp = s.inp := hm.inp (by decide)
  rw [← hfr, State.linkBlock_inputsDone hf hp, hfr] at e
  have hsent (y : State) (l : List ContrailBlock) : y.sameBut [.wire] (y.linkSend l) :=
    State.sameBut_of_rest (State.linkSend_rest _ _ (by decide))
  refine ⟨_, e, ?_, ?_⟩
  · rw [State.noteReady_reads Pair.inputs _ fun _ _ => rfl, (hsent _ _).pair (by decide)]
    rfl
  · rw [(State.noteReady_sameBut _).inp (by decide), (hsent _ _).inp (by decide)]
    exact hinp

theorem ack_taken (n : Nat) (hrole : s.unt.pair.role = 1) :
    ∃ u, exec (.contrailBlockReceive t ⟨at0, raw, .ack n⟩) s = .next u ∧ u.unt.pair.acked = some n := by
  have e := block_taken (t := t) hmode hpaired hlink hfits hwritten (.ack n)
  have hpair : ((s.tick t).mailed at0 raw).unt.pair = s.unt.pair := (State.mailed_tick t at0 raw s).pair (by decide)
  rw [State.linkBlock_ack ((congrArg Pair.role hpair).trans hrole)] at e
  exact ⟨_, e, (State.noteReady_reads Pair.acked _ fun _ _ => rfl).trans rfl⟩

theorem staging_taken (cls ix : Nat) (v : Inst) (hfollows : s.follows = true) :
    ∃ u, exec (.contrailBlockReceive t ⟨at0, raw, .staging cls ix v⟩) s = .next u ∧
      u.cfg.staging = setInst s.cfg.staging cls ix v ∧ u.cfg.image = s.cfg.image := by
  have e := block_taken (t := t) hmode hpaired hlink hfits hwritten (.staging cls ix v)
  have hm := State.mailed_tick t at0 raw s
  rw [State.linkBlock_staging (State.mailed_follows t at0 raw hfollows)] at e
  have hready (y : State) := State.noteReady_sameBut y
  refine ⟨_, e, ?_, ?_⟩
  · refine ((hready _).2.2 .staging (by decide)).trans ?_
    exact congrArg (setInst · cls ix v) (hm.2.2 .staging (by decide))
  · exact ((hready _).2.2 .image (by decide)).trans (hm.2.2 .image (by decide))

theorem missing_taken : ∃ u, exec (.contrailBlockReceive t ⟨at0, raw, .missing⟩) s = .next u ∧ u.unt.pair.sync = 0 ∧
    u.unt.pair.role = s.unt.pair.role := by
  have e := block_taken (t := t) hmode hpaired hlink hfits hwritten .missing
  have hpair : ((s.tick t).mailed at0 raw).unt.pair = s.unt.pair := (State.mailed_tick t at0 raw s).pair (by decide)
  refine ⟨_, e, ?_, ?_⟩
  · rw [State.noteReady_sync, State.linkBlock_missing, State.unsync_sync]
  · rw [State.noteReady_role, State.linkBlock_missing, State.unsync_role, hpair]

end

/-- Settles O50: the bytes by the mailbox writes, and each block by what it does at a standby or at the active. -/
theorem contrailBlocks : Obligations.ContrailBlocks := by
  intro t at0 raw s hmode hpaired hlink hfits
  refine ⟨fun hrefused b => block_refused hmode hpaired hlink hfits hrefused b, fun hwritten => ⟨?_, ?_, ?_, ?_, ?_, ?_, ?_, ?_, ?_⟩⟩
  · exact marker_taken hmode hpaired hlink hfits hwritten
  · exact marker_bad hmode hpaired hlink hfits hwritten
  · exact cells_taken hmode hpaired hlink hfits hwritten
  · exact cells_other hmode hpaired hlink hfits hwritten
  · exact entry_taken hmode hpaired hlink hfits hwritten
  · exact inputsDone_taken hmode hpaired hlink hfits hwritten
  · exact ack_taken hmode hpaired hlink hfits hwritten
  · exact staging_taken hmode hpaired hlink hfits hwritten
  · exact missing_taken hmode hpaired hlink hfits hwritten

end Sys2Proof.Machine
end
